-- ==== Sys2Proof/Word.lean ====
section
/-! DEFINITION. The plainest types of the model: words, bytes, and `Tab`, a table of a fixed number of like things. -/

namespace Sys2Proof

/-- A register of the host window, 32 bits wide (R447). -/
abbrev Word := BitVec 32

/-- A byte of a packet, a record or Ledger RAM. -/
abbrev Byte := BitVec 8

/-- The 144 clusters (R3, R457). -/
abbrev ClusterId := Fin 144

/-- The 1,728 regulator cells; cell `c` belongs to cluster `c / 12` (R134). -/
abbrev CellId := Fin 1728

/-- The 128 phase channels (R18). -/
abbrev PhaseId := Fin 128

/-- The fifteen phase groups: twelve segments, then SA, FB and AX (R107). -/
abbrev GroupId := Fin 15

/-- The 320 converter channels (R177). -/
abbrev ChanId := Fin 320

/-- The sixteen converters (R176). -/
abbrev ConvId := Fin 16

/-- The 320 loop slots of the control engine (R153). -/
abbrev SlotId := Fin 320

/-- Write `f` over the element at place `i` of a list; nothing happens past its end. -/
def listModify {α : Type} (f : α → α) : List α → Nat → List α
  | [], _ => []
  | a :: as, 0 => f a :: as
  | a :: as, i + 1 => a :: listModify f as i

/-- Map with the place of each element, counted from `k`. -/
def listMapFrom {α β : Type} (f : Nat → α → β) : Nat → List α → List β
  | _, [] => []
  | k, a :: as => f k a :: listMapFrom f (k + 1) as

theorem listModify_length {α : Type} (f : α → α) :
    ∀ (l : List α) (i : Nat), (listModify f l i).length = l.length
  | [], _ => rfl
  | _ :: _, 0 => rfl
  | _ :: as, i + 1 => congrArg Nat.succ (listModify_length f as i)

theorem listMapFrom_length {α β : Type} (f : Nat → α → β) :
    ∀ (k : Nat) (l : List α), (listMapFrom f k l).length = l.length
  | _, [] => rfl
  | k, _ :: as => congrArg Nat.succ (listMapFrom_length f (k + 1) as)

theorem replicate_length {α : Type} (a : α) : ∀ n : Nat, (List.replicate n a).length = n
  | 0 => rfl
  | n + 1 => congrArg Nat.succ (replicate_length a n)

/-- A table of exactly `n` entries, indexed from 0. -/
structure Tab (n : Nat) (α : Type) where
  val : List α
  len : val.length = n
  deriving DecidableEq, Repr

/-- A table whose entries are all `a`. -/
def Tab.replicate {α : Type} (n : Nat) (a : α) : Tab n α :=
  ⟨List.replicate n a, replicate_length a n⟩

/-- The entry at place `i`, or the default past the end. -/
def Tab.get {n : Nat} {α : Type} [Inhabited α] (t : Tab n α) (i : Nat) : α :=
  t.val.getD i default

/-- Change the entry at place `i`; nothing happens past the end. -/
def Tab.modify {n : Nat} {α : Type} (t : Tab n α) (i : Nat) (f : α → α) : Tab n α :=
  ⟨listModify f t.val i, (listModify_length f t.val i).trans t.len⟩

/-- Write the entry at place `i`; nothing happens past the end. -/
def Tab.set {n : Nat} {α : Type} (t : Tab n α) (i : Nat) (a : α) : Tab n α :=
  t.modify i (fun _ => a)

/-- Change every entry, each with its place. -/
def Tab.mapI {n : Nat} {α β : Type} (t : Tab n α) (f : Nat → α → β) : Tab n β :=
  ⟨listMapFrom f 0 t.val, (listMapFrom_length f 0 t.val).trans t.len⟩

/-- Change every entry alike. -/
def Tab.map {n : Nat} {α β : Type} (t : Tab n α) (f : α → β) : Tab n β :=
  t.mapI (fun _ a => f a)

/-- The table whose entry at place `i` is `f i`. -/
def Tab.ofFn {α : Type} (n : Nat) (f : Nat → α) : Tab n α :=
  (Tab.replicate n ()).mapI (fun i _ => f i)

/-- The sum of `f` over the table, with places. -/
def Tab.sumI {n : Nat} {α : Type} (t : Tab n α) (f : Nat → α → Int) : Int :=
  (listMapFrom f 0 t.val).foldl (· + ·) 0

/-- The places whose entry satisfies `p`, in ascending order. -/
def Tab.places {n : Nat} {α : Type} (t : Tab n α) (p : Nat → α → Bool) : List Nat :=
  (listMapFrom (fun i a => (i, p i a)) 0 t.val).filterMap (fun x => if x.2 then some x.1 else none)

/-- Some entry satisfies `p`. -/
def Tab.any {n : Nat} {α : Type} (t : Tab n α) (p : α → Bool) : Bool := t.val.any p

/-- Every entry satisfies `p`. -/
def Tab.all {n : Nat} {α : Type} (t : Tab n α) (p : α → Bool) : Bool := t.val.all p

/-- The number of entries that satisfy `p`. -/
def Tab.count {n : Nat} {α : Type} (t : Tab n α) (p : α → Bool) : Nat := (t.val.filter p).length

end Sys2Proof
end

