-- ==== Sys2Proof/Machine/Types.lean ====
section
/-! DEFINITION. The names and records that commands and state share: packets, replies, events, modes and causes. -/

namespace Sys2Proof.Machine

/-- Where a command came from: a slot of the command ring, or the mailbox (R369, R376). -/
inductive Origin where
  | ring (slot : Nat)
  | mailbox
  deriving DecidableEq, Repr, Inhabited

/-- A taken command as its opcode sees it: SEQ, the URGENT and INDIRECT flags and the payload bytes (R378). -/
structure Packet where
  org : Origin
  seq : Nat
  urgent : Bool := false
  indirect : Bool := false
  payload : List Byte
  deriving DecidableEq, Repr, Inhabited

/-- Reply statuses (R380). -/
inductive Status where
  | ok | badOpcode | badLength | badParam | badState | notArmed | admissionDenied | caravanAborted
  | checksumFail | deadlineMissed | busyRetry | locked | acceptedUnreachable
  deriving DecidableEq, Repr, Inhabited

/-- The status code of the reply (R380). -/
def Status.code : Status → Nat
  | .ok => 0x00 | .badOpcode => 0x01 | .badLength => 0x02 | .badParam => 0x03 | .badState => 0x04
  | .notArmed => 0x05 | .admissionDenied => 0x06 | .caravanAborted => 0x07 | .checksumFail => 0x08
  | .deadlineMissed => 0x09 | .busyRetry => 0x0A | .locked => 0x0B | .acceptedUnreachable => 0x0C

/-- A finished reply (R379). Its STAGE is that of the writing, except where R257 fixes it. -/
structure Reply where
  org : Origin
  seq : Nat
  status : Status
  data : List Byte
  opcode : Nat
  stage : Option Nat := none
  deriving DecidableEq, Repr, Inhabited

/-- An event record (R383 to R388); `moment` is the cycle in which it is raised, by which R50 orders the events of one
cycle. -/
structure Event where
  code : Nat
  source : Nat
  stage : Nat
  data : List Byte
  repeats : Nat := 0
  seq : Nat := 0
  moment : Nat := 0
  deriving DecidableEq, Repr, Inhabited

/-- A code and source that have raised their event in a period, with the misses counted since (R45). -/
structure OnceEnt where
  code : Nat
  source : Nat
  misses : Nat := 0
  deriving DecidableEq, Repr, Inhabited

/-- A trace record (R399): stage, cycle, pace, KIND, byte 7 and bytes 8 to 15. -/
structure TraceRec where
  stage : Nat
  cycle : Nat
  pace : Nat
  kind : Nat
  flags : Nat
  body : List Byte
  deriving DecidableEq, Repr, Inhabited

/-- A DIAG_READ_TRACE copy in progress (R399): what its reply will report. -/
structure TraceCopy where
  pkt : Packet
  first : Nat
  count : Nat
  next : Nat
  deriving DecidableEq, Repr, Inhabited

/-- DMA operations (R70). -/
inductive DmaOp where
  | read | write | add
  deriving DecidableEq, Repr, Inhabited

/-- A DMA request (R70); the deadline is a stage and a pace where the spec states one. -/
structure DmaReq where
  op : DmaOp
  addr : Nat
  beats : Nat
  laneMask : Nat := 0
  /-- DEADLINE: the low 16 bits of a stage and a pace. -/
  deadline : BitVec 20
  data : List Byte := []
  deriving DecidableEq, Repr, Inhabited

/-- DMA completion statuses (R71). -/
inductive DmaStatus where
  | ok | late | error
  deriving DecidableEq, Repr, Inhabited

/-- What Bruxon has put on its ports: ring and mailbox writes, interrupt vectors, DMA requests, convoy messages and
strobes. -/
inductive Output where
  /-- an entry of the reply ring: its index, its bytes and the request that writes it -/
  | reply (index : Nat) (bytes : List Byte) (r : DmaReq)
  | mailbox (bytes : List Byte)
  /-- an entry of the event ring: its index, its bytes and the request that writes it -/
  | event (index : Nat) (bytes : List Byte) (r : DmaReq)
  | vector (v : Nat)
  | dma (r : DmaReq)
  | chiene (port : Nat) (prio : Bool) (msg : List Byte)
  | stageTick (stage : Nat)
  | freqApply (code : Nat)
  deriving DecidableEq, Repr, Inhabited

/-- The trim of a stage (R36, R40). -/
inductive Trim where
  | none | longer | shorter
  deriving DecidableEq, Repr, Inhabited

/-- The code of BRX_STAGE_POS.TRIM (R40). -/
def Trim.code : Trim → Nat
  | .none => 0 | .longer => 1 | .shorter => 2

/-- The control island on its way up (R283, R418). -/
inductive Island where
  | off | switched | started | copying | up
  deriving DecidableEq, Repr, Inhabited

/-- A descent to Cold (R284). -/
inductive Descent where
  | none | clusters | coreRails | axRail
  deriving DecidableEq, Repr, Inhabited

/-- Chip states (R282). -/
inductive Chip where
  | cold | powering | standbyReady | run
  deriving DecidableEq, Repr, Inhabited

/-- How far a command in flight has come (R453). -/
inductive Effect where
  | taken | hardware | firmware | answered
  deriving DecidableEq, Repr, Inhabited

/-- Phase states (R108). -/
inductive PhState where
  | off | switching | parked | disabled
  deriving DecidableEq, Repr, Inhabited

/-- The code of BRX_PH_STATUS_i.STATE (R133). -/
def PhState.code : PhState → Nat
  | .off => 0 | .switching => 1 | .parked => 2 | .disabled => 3

/-- Why a phase is Disabled (R131, R133). -/
inductive PhCause where
  | none | faultFlag | currentSense | openPath | host
  deriving DecidableEq, Repr, Inhabited

/-- The code of BRX_PH_STATUS_i.CAUSE (R133). -/
def PhCause.code : PhCause → Nat
  | .none => 0 | .faultFlag => 1 | .currentSense => 2 | .openPath => 3 | .host => 4

/-- Cluster states (R65, R276). -/
inductive CState where
  | active | rest | retain | dormant
  deriving DecidableEq, Repr, Inhabited

/-- The two-bit code of a cluster state (R65). -/
def CState.code : CState → Nat
  | .active => 0 | .rest => 1 | .retain => 2 | .dormant => 3

/-- The cluster state of a two-bit code (R65). -/
def CState.ofCode : Nat → CState
  | 0 => .active | 1 => .rest | 2 => .retain | _ => .dormant

/-- The step a cluster transition stands at (R278). -/
inductive TPhase where
  /-- the code of the first step waits for a cycle 0 and for the echo of the code before (R61, R65) -/
  | ackWait
  /-- the code of Retain or Dormant is driven and its echo awaited -/
  | echo
  /-- the code of the new state is driven and its echo completes the transition -/
  | finalEcho
  /-- the echo has come: the ramp to retention starts, or the cells go off, at the next cycle 0 -/
  | settle
  /-- the set-point ramps to code 120 -/
  | downRamp
  /-- the self-tests of a Dormant exit run for 200 ns -/
  | selfTest
  /-- the wake is pending and not admitted (R150) -/
  | unadmitted
  /-- the wake has been admitted and ramps (R148) -/
  | wakeRamp
  /-- the ramp is complete: reset or code follows at the next cycle 0 -/
  | rampDone
  /-- reset is released: the code follows at a later cycle 0 (R279) -/
  | resetDone
  deriving DecidableEq, Repr, Inhabited

/-- A cluster transition in progress from its settled state (R278); `due` is the end of a self-test, and `lost` says that the
cluster has fallen below 8 live cells on its way (R101). -/
structure Trans where
  target : CState
  phase : TPhase
  due : Nat := 0
  lost : Bool := false
  deriving DecidableEq, Repr, Inhabited

/-- Drone mode of a cluster (R103, R104, R398). -/
inductive DroneSt where
  /-- not in drone mode -/
  | none
  /-- steps 2 and 3 of the entry: the set-point ramps to F -/
  | entering
  /-- step 3 done: the cells latch at the next cycle 0 -/
  | latchWait
  /-- in drone mode, cells as switches -/
  | on
  /-- steps 1 and 2 of the exit: the set-point ramps to T_n -/
  | exiting
  deriving DecidableEq, Repr, Inhabited

/-- Cell modes (R136). -/
inductive CellMode where
  | off | regulate | switch | isolated
  deriving DecidableEq, Repr, Inhabited

/-- The code of BRX_CELL_STATUS_c.MODE (R136). -/
def CellMode.code : CellMode → Nat
  | .off => 0 | .regulate => 1 | .switch => 2 | .isolated => 3

/-- Why a cell is isolated (R144). -/
inductive CellCause where
  | none | currentSense | short | openPath | share | selfTest
  deriving DecidableEq, Repr, Inhabited

/-- The code of BRX_CELL_STATUS_c.CAUSE (R144). -/
def CellCause.code : CellCause → Nat
  | .none => 0 | .currentSense => 1 | .short => 2 | .openPath => 3 | .share => 4 | .selfTest => 5

/-- An isolation complete since the last cycle 0 and not yet reported (R145 step 4): the cell and its current in the
pace before the loss. -/
structure IsoRec where
  cell : Nat
  cause : CellCause
  curr : Nat
  deriving DecidableEq, Repr, Inhabited

/-- Bellows states (R202). -/
inductive BlwState where
  | off | waiting | charging | ready | firing | fault
  deriving DecidableEq, Repr, Inhabited

/-- The status word a cell returns at the end of a pace, when it differs from its last one (R136), with the domain voltage
of the pace's last local sample in µV, when it is reported (R134). -/
structure CellWord where
  cell : Nat
  curr : Nat
  flags : Nat := 0
  vloc : Option Int := none
  deriving DecidableEq, Repr, Inhabited

/-- A sample whose result is written at `due`: its channel, and whether an urgent request asked for it (R176, R185). -/
structure AdcSample where
  chan : Nat
  urgent : Bool := false
  due : Nat
  deriving DecidableEq, Repr, Inhabited

/-- What the sense pre-check of a rail measures at 10 µs into a tracking start, in µV (R119, R125, R126). -/
structure PreCheck where
  rail : Nat
  pMinusPlane : Int
  n : Int
  preBias : Nat
  deriving DecidableEq, Repr, Inhabited

/-- How a tracking start stands (R119). -/
inductive StartPhase where
  /-- accepted: step 1 falls at cycle 0 of the next pace -/
  | wait
  /-- sense bias applied, pre-check to come -/
  | bias
  /-- the common ramp rises -/
  | ramp
  /-- every rail at its target, window snapshots counted -/
  | settle
  deriving DecidableEq, Repr, Inhabited

/-- A tracking start in progress (R119, R348). `pkt` is none for the restart of R348. -/
structure TrackStart where
  mask : Nat
  coincident : Bool
  pkt : Option Packet
  goal : List Nat
  phase : StartPhase := .wait
  t0 : Nat := 0
  r : Nat := 0
  top : Nat := 0
  due : Nat := 0
  bias : List Nat := [0, 0, 0, 0]
  good : Nat := 0
  winFail : Nat := 0
  restart : Bool := false
  deriving DecidableEq, Repr, Inhabited

/-- A tracking stop in progress (R121). `pkt` is none for the stop of a descent (R284). -/
structure TrackStop where
  mask : Nat
  coincident : Bool
  pkt : Option Packet
  begun : Bool := false
  v0 : List Nat := [0, 0, 0, 0]
  r0 : Nat := 0
  r : Nat := 0
  due : Nat := 0
  low : List (Nat × Nat) := []
  deriving DecidableEq, Repr, Inhabited

/-- A phase check of PHASE_CONFIG (R133): the phase checked, what it replaces, and the command to answer. -/
structure PhCheck where
  pkt : Packet
  phase : Nat
  replaces : Option Nat := none
  start : Nat
  restore : Option Nat := none
  failed : Nat := 0
  deriving DecidableEq, Repr, Inhabited

/-- The object whose set-point a SETPOINT_STEP moves (R123): a rail, a cluster, or the common ramp of the tracking start
or stop that names the rail; with AX in the start, `axUv` is its board sense in µV, for the start comparators (R126). -/
inductive SpObj where
  | rail (r : Nat)
  | cluster (n : Nat)
  | trackUp (r : Nat) (axUv : Int := 0)
  | trackDown (r : Nat)
  deriving DecidableEq, Repr, Inhabited

/-- What falls in a Bruxon cycle after the one that brings it about. -/
inductive Soon where
  /-- the on-times of a rail follow a step of its set-point (R109) -/
  | refresh (r : Nat)
  /-- brx_stage_tick_o falls, a reference cycle after the edge (R35) -/
  | tickLow
  /-- a group unparks every parked phase (R116) -/
  | unpark (g : Nat)
  /-- the unparked phases of a group have their enable raised (R117) -/
  | raiseEn (g : Nat)
  /-- a waiting pulse starts on the first phase that is ready (R113) -/
  | pulse (g : Nat)
  /-- the fault flag inhibits the PWM of a phase (R59) -/
  | inhibit (i : Nat)
  /-- a phase becomes Disabled (R131) -/
  | disable (i : Nat) (cause : PhCause)
  /-- the drive of a fire falls (R207) -/
  | fireEnd (n : Nat)
  /-- a charge ends and its slot frees (R208) -/
  | chargeEnd (n : Nat)
  /-- the charge path opens and the bellows enters Fault (R214) -/
  | blwFault (n cause : Nat)
  /-- EV_STRETCH_HIGH follows the fall of a stretch: the cluster, the stage of the crossing and the data (R53) -/
  | stretchHigh (n stage : Nat) (data : List Byte)
  /-- what follows the disabling of a phase (R132) -/
  | loss (i : Nat) (cause : PhCause)
  /-- the cells of bad tiles of a cluster whose set-point has reached T_n change (R140) -/
  | calSettle (n : Nat)
  /-- the event masks change (R388) -/
  | masks (op catMask : Nat) (codes : List Nat)
  deriving DecidableEq, Repr, Inhabited

/-- An effect and the moment at which it falls. -/
structure SoonEnt where
  due : Nat
  what : Soon
  deriving DecidableEq, Repr, Inhabited

/-- Manifest states (R239). -/
inductive ManState where
  | empty | loading | loaded | running
  deriving DecidableEq, Repr, Inhabited

/-- The code of a manifest state (R239, R240). -/
def ManState.code : ManState → Nat
  | .empty => 0 | .loading => 1 | .loaded => 2 | .running => 3

/-- Caravan record states (R241). -/
inductive CvnState where
  | free | open_ | committed | aborted
  deriving DecidableEq, Repr, Inhabited

/-- The code of a caravan record state (R241). -/
def CvnState.code : CvnState → Nat
  | .free => 0 | .open_ => 1 | .committed => 2 | .aborted => 3

/-- The state changes that commands make: the items a caravan may hold (R246), and the changes that a command leaves to
the next cycle 0 of a pace or the next stage edge (R382). -/
inductive Act where
  /-- RAIL_SET_TARGET of one rail (R394) -/
  | railTarget (rail code : Nat)
  /-- PHASE_CONFIG OP 0x00: SHED_EN, MIN_SW, SHED_A, ADD_A, RIP_AMP, RIP_TAU (R133) -/
  | group (g shedEn minSw shedA addA ripAmp ripTau : Nat)
  /-- PHASE_CONFIG OP 0x01 (R133) -/
  | phaseDisable (i : Nat)
  /-- CLUSTER_SET_STATE of one cluster (R277) -/
  | setState (n : Nat) (st : CState) (deadline : Nat)
  /-- CLUSTER_SET_OFFSET of one cluster: SEL, OFFSET, THRESH (R396) -/
  | offset (n sel : Nat) (ofs : Int) (thresh : Nat)
  /-- DRONE_ENTER of one cluster, alone or as part of chip drone mode (R398) -/
  | droneEnter (n : Nat) (chip : Bool)
  /-- DRONE_EXIT of one cluster, alone or as part of chip drone mode (R398) -/
  | droneExit (n : Nat) (chip : Bool)
  /-- MANIFEST_ENGAGE of one cluster: SET_START, LIFT_MAX, START (R237) -/
  | engage (n : Nat) (setStart : Bool) (liftMax start : Nat)
  /-- MANIFEST_RELEASE of one cluster (R238) -/
  | release (n : Nat) (unload : Bool)
  /-- SET_LEVEL OP 0x00 of one entry (R265) -/
  | level (k code : Nat) (boost : Bool)
  /-- SET_LEVEL OP 0x01 of one label: the level, none clears it (R304) -/
  | pref (label : Nat) (lvl : Option Nat)
  /-- SET_LIMITS entry: ID, WINDOW, VALUE (R296) -/
  | limit (id window value : Nat)
  /-- SET_FIXED_FREQUENCY: KIND, LEVEL, CODE (R275) -/
  | fixed (kind lvl code : Nat)
  /-- SET_SWELL of one cluster (R308) -/
  | swell (n code : Nat)
  /-- ARM of one action for the masked clusters (R393) -/
  | arm (action fireWin fireI : Nat) (mask : Nat)
  /-- ARM with OP disarm (R393) -/
  | disarm (action : Nat) (mask : Nat)
  /-- ADC_SET_CAL_MODE (R193) -/
  | calMode (mask mode power : Nat)
  /-- ADMIT_GUARANTEE (R311): the slot taken in the table -/
  | takeGuarantee (slot : Nat)
  /-- REVOKE_GUARANTEE (R314) -/
  | revoke (gid : Nat)
  deriving DecidableEq, Repr, Inhabited

/-- An item of a caravan, or one change of a command: its opcode and its act (R246, R253). -/
structure Item where
  opcode : Nat
  act : Act
  deriving DecidableEq, Repr, Inhabited

/-- A command that has taken effect and applies later (R382): its packet, opcode and changes, and S_e,
the stage in which it took effect. -/
structure Deferred where
  pkt : Packet
  opcode : Nat
  acts : List Act
  se : Nat
  deriving DecidableEq, Repr, Inhabited

/-- Fixed-frequency mode (R275). -/
inductive Fixed where
  | off
  | level (lvl : Nat)
  | code (code : Nat)
  deriving DecidableEq, Repr, Inhabited

/-- Who posted a frequency change (R266). -/
inductive PendSource where
  | governor | convoy | fixed | tableEdit | boostEnd
  deriving DecidableEq, Repr, Inhabited

/-- The code of BRX_SEQ_PEND.SOURCE (R291). -/
def PendSource.code : PendSource → Nat
  | .governor => 1 | .convoy => 2 | .fixed => 3 | .tableEdit => 4 | .boostEnd => 5

/-- A pending frequency change (R266): target code, target level (16 for a fixed code), effect stage, source,
the pace from whose cycle 0 the targets of a rise follow it (R268), and the moment of its posting. -/
structure Pend where
  code : Nat
  level : Nat
  stage : Nat
  source : PendSource
  late : Bool := false
  rises : Nat := 0
  moment : Nat := 0
  deriving DecidableEq, Repr, Inhabited

/-- An entry of the level table (R263). -/
structure LvlEnt where
  code : Nat
  boost : Bool
  deriving DecidableEq, Repr, Inhabited

/-- The step of a firmware load (R422). -/
inductive LoadStep where
  /-- accepted: step 1 at the next stage edge -/
  | accepted
  /-- the header is being fetched -/
  | header
  /-- the body is being fetched -/
  | body
  /-- the digest and signature are being verified -/
  | auth
  /-- passed: the image starts at the next stage edge -/
  | passed
  deriving DecidableEq, Repr, Inhabited

/-- A LOAD_FIRMWARE in progress (R392, R422): its command, ADDR, IMAGE_LEN, step, the stage opened by the edge of its
deadline, the header once fetched, whether the hash of the body, once it has arrived, is one that R421 accepts, and whether
an image ran and was valid before step 1. -/
structure FwLoad where
  pkt : Packet
  addr : Nat
  len : Nat
  step : LoadStep := .accepted
  due : Nat
  header : List Byte := []
  authentic : Bool := false
  wasLoaded : Bool := false
  wasValid : Bool := false
  deriving DecidableEq, Repr, Inhabited

/-- The thermal model of R341: decay, coupling and sensitivity codes. -/
structure ThermModel where
  tau : Nat
  kappa : Nat
  theta : List Nat
  deriving DecidableEq, Repr, Inhabited

/-- The voltage of a cluster's domain at its sentinel's sense point, in µV, in the cycle in which it crosses (R196). -/
structure Crossing where
  cluster : Nat
  uv : Int
  deriving DecidableEq, Repr, Inhabited

/-- What a stage edge meets: a write of the stage-done marker that it sees (R44, R46), and the domains that cross in its cycle
(R210, R211). -/
structure EdgeIn where
  marker : Option (BitVec 16) := none
  crossings : List Crossing := []
  deriving DecidableEq, Repr, Inhabited

/-- A cluster's domain voltage, in µV, in the cycle in which the sentinel judges it (R196). -/
structure DomainVolt where
  cluster : ClusterId
  uv : Int
  deriving DecidableEq, Repr, Inhabited

/-- The lowest voltage of a cluster's domain, in µV, since a moment (R199). -/
structure DomainSince where
  cluster : ClusterId
  uv : Int
  since : Nat
  deriving DecidableEq, Repr, Inhabited

/-- The board sense, the plane sense and the n line of a rail, in µV, and since when they have stood so (R127). -/
structure SenseIn where
  sense : Int
  plane : Int
  n : Int
  since : Nat
  deriving DecidableEq, Repr, Inhabited

/-- The domain voltage, in µV, that a cell samples (R134). -/
structure CellVolt where
  cell : CellId
  v : Int
  deriving DecidableEq, Repr, Inhabited

/-- The current, in mA, that is sensed in a cell (R144). -/
structure CellSense where
  cell : CellId
  mA : Int
  deriving DecidableEq, Repr, Inhabited

/-- A host access: its offset and its size in bytes (R69). -/
structure Access where
  off : Nat
  size : Nat
  deriving DecidableEq, Repr, Inhabited

/-- A host read of a ledger's low word: the ledger, counted as the registers stand, and the size of the access in bytes (R69,
R363). -/
structure LedgerRead where
  k : Nat
  size : Nat
  deriving DecidableEq, Repr, Inhabited

/-- The raw code of a conversion of a converter (R188). -/
structure AdcCode where
  conv : Nat
  code : Nat
  deriving DecidableEq, Repr, Inhabited

/-- What the surroundings report at the boundary of a pace: the changed status words of the cells (R136), while they judge
it whether the AX start comparators find AX in window (R126), the domains that cross in this cycle 0 (R196, R210), and the raw
codes of the conversions whose results are written in it (R181). -/
structure PaceIn where
  cells : List CellWord := []
  axInWindow : Bool := false
  trips : List Crossing := []
  codes : List AdcCode := []
  deriving DecidableEq, Repr, Inhabited

/-- A Chiene message as received: the port, the lane and its 32 bytes (R72). -/
structure ConvoyMsg where
  port : Nat
  prio : Bool
  bytes : List Byte
  deriving DecidableEq, Repr, Inhabited

/-- The core's registers at the boundary at which it halts (R439). -/
structure CoreCtx where
  pc : BitVec 32
  regs : List (BitVec 32)
  deriving DecidableEq, Repr, Inhabited

/-- What the curve search of a recharacterisation finds for one point (R288). -/
structure RecharPoint where
  point : Nat
  pass : Option Nat
  deriving DecidableEq, Repr, Inhabited

/-- A fraction: numerator and denominator. -/
structure Frac where
  num : Int := 0
  den : Nat := 1
  deriving DecidableEq, Repr, Inhabited

/-- Convoy states (R338). -/
inductive CvySt where
  | notJoined | aligning | joined | skewed | lost
  deriving DecidableEq, Repr, Inhabited

/-- The code of a convoy state (R338). -/
def CvySt.code : CvySt → Nat
  | .notJoined => 0 | .aligning => 1 | .joined => 2 | .skewed => 3 | .lost => 4

/-- GF_0 to GF_15 of the grade code 0x01 (R264). -/
def gradeOneTable : Tab 16 Nat :=
  ⟨[0, 8, 16, 20, 24, 28, 32, 36, 40, 44, 48, 52, 56, 64, 72, 76], rfl⟩

/-- The level table loaded at power-up from `gf` and the boost ceiling (R264). -/
def levelTable (gf : Tab 16 Nat) (ceil : Nat) : Tab 16 LvlEnt :=
  gf.mapI (fun k c => if k = 15 then ⟨ceil, true⟩ else ⟨c, false⟩)

/-- The default level table of the ZH-4200 (R264). -/
def defaultLevels : Tab 16 LvlEnt := levelTable gradeOneTable 80

end Sys2Proof.Machine
end

