-- ==== Sys2Proof/Syntax.lean ====
section
/-! DEFINITION. The commands of the block: one constructor per row of the table of operations and events. -/

namespace Sys2Proof

open Sys2Proof.Machine

/-- A command. Rows that are opcodes of the packet interface carry the taken packet; rows that are events at the
boundary carry what the surroundings bring with them; rows that are deadlines carry the object whose time has come. -/
inductive Instr where
  /-- STAGE_EDGE (R31): The reference-cycle count reaches the stage length and a new stage opens, applying every edge effect in its fixed order. Operands: the stage-done marker write visible by this edge, if any, and the domains that cross in the edge cycle. -/
  | stageEdge (e : EdgeIn)
  /-- PACE_BOUNDARY (R29): Cycle 0 of a pace: the converter snapshot is taken and all outputs computed in the previous pace take effect. Operands: what the cells and the AX start comparators report at this boundary, the domains that cross in it, and the converter codes whose results are written in it. -/
  | paceBoundary (inp : PaceIn)
  /-- WAKE_ADMISSION (R150): A pending wake is admitted at the fastest slope that fits the segment headroom. Operands: the pending wake of cluster `n` is tested. -/
  | wakeAdmission (n : ClusterId)
  /-- WAKE_DEADLINE_EXPIRY (R151): A wake not admitted by its deadline proceeds late at the slowest slope on the wake allowance and raises FLT_WAKE_LATE. Operands: the deadline test of the pending wake of cluster `n` has failed. -/
  | wakeDeadlineExpiry (n : ClusterId)
  /-- WAKE_LATCH_REPLAY (R280): A set wake latch is replayed once the cluster is free, requesting Active and raising EV_WAKE_REPLAYED. Operands: the set wake latch of cluster `n` is examined. -/
  | wakeLatchReplay (n : ClusterId)
  /-- WAKE_SELF_TEST_END (R278): The 200 ns cell and sentinel self-test of a Dormant exit ends, isolating failing cells and recording sentinel failure. Operands: the cells (0 to 11) that fail, and whether the sentinel passes. -/
  | wakeSelfTestEnd (n : ClusterId) (badCells : List Nat) (sentinelOk : Bool)
  /-- ENGINE_EVAL_DEADLINE (R173): At cycle 512 unfinished slots are abandoned with FLT_ENGINE_OVERRUN, and completed results are clamped and written back. Operands: the slots whose descriptor or state read has a parity error in this pace. -/
  | engineEvalDeadline (parity : List Nat)
  /-- STAGE_TRIM_DECISION (R320): At cycle 0 of p15 a joined chip trims the stage by one reference cycle according to its offset from the root. -/
  | stageTrimDecision
  /-- CARAVAN_CUTOFF (R251): The commit cut-off of an edge expires, fixing which committed caravans are due there. -/
  | caravanCutoff
  /-- CARAVAN_EDGE_CHECK (R252): From cycle 1 of p15, every item of the caravans due at the next edge is judged, and failing caravans are aborted. -/
  | caravanEdgeCheck
  /-- CARAVAN_OPEN_TIMEOUT (R244): An Open caravan with no arrival for TIMEOUT stages is aborted with cause 6. Operands: record `k`. -/
  | caravanOpenTimeout (k : Nat)
  /-- SETPOINT_STEP (R123): A moving rail, feed or cluster set-point takes one code step after 250 cycles (or its wake slope interval). Operands: the object whose step falls due. -/
  | setpointStep (o : SpObj)
  /-- PERIOD_CLOSE (R33): The first stage edge at or after a millisecond mark closes the accounting period, resetting period counters. -/
  | periodClose
  /-- ENERGY_RECONCILE (R357): Once a period's contributions are complete, each rail's measured energy is attributed to labels and the post and frame are issued. -/
  | energyReconcile
  /-- FRAME_DEADLINE_EXPIRY (R359): A period's reconciliation, post or frame not done by eight stages after its close raises FLT_FRAME_LATE. -/
  | frameDeadlineExpiry
  /-- LEDGER_POST_ACK (R361): A reduce-add post completes; on acknowledgement the mirrors update, on ERROR the values are carried. Operands: completion of the oldest reduce-add post. -/
  | ledgerPostAck (st : DmaStatus)
  /-- FRAME_WRITE_DONE (R364): A telemetry frame write completes, HEAD advances and vector 3 is signalled, or the frame is dropped. Operands: completion of the oldest frame write. -/
  | frameWriteDone (st : DmaStatus)
  /-- CONVOY_CHECKPOINT (R331): At stage 8 of a window each member computes LVCHK, latches its proposal, and leaves send UP. -/
  | convoyCheckpoint
  /-- CONVOY_UP_DEADLINE (R325): A node's reporting deadline expires and it sends UP with SHORT for missing children. -/
  | convoyUpDeadline
  /-- ROOT_ANNOUNCE (R328): The root, having aggregated or at its deadline, sends ANNOUNCE with the agreed level, HOLD or SKEW. -/
  | rootAnnounce
  /-- CONVOY_ACK_DEADLINE (R329): At the edge opening T − 8 a root missing an ACK sends CANCEL on the priority lane. -/
  | convoyAckDeadline
  /-- CONVOY_SYNC_LOSS (R321): No valid SYNC in four stages, or an offset beyond 100 ns, makes the chip Lost with FLT_CONVOY_SYNC. -/
  | convoySyncLoss
  /-- SYNC (R319): A received SYNC updates the offset estimate and is forwarded with adjusted ELAPSED. Operands: the received message. -/
  | sync (m : ConvoyMsg)
  /-- ECHO_REQ (R323): A received ECHO_REQ is answered at once with ECHO_RSP carrying its residence time. Operands: the received message. -/
  | echoReq (m : ConvoyMsg)
  /-- ECHO_RSP (R323): A received ECHO_RSP contributes a round trip to the link latency estimate. Operands: the received message. -/
  | echoRsp (m : ConvoyMsg)
  /-- JOINED (R317): A received JOINED adds the child port to the joined set. Operands: the received message. -/
  | joined (m : ConvoyMsg)
  /-- LEFT (R317): A received LEFT removes the child port from the joined set. Operands: the received message. -/
  | left (m : ConvoyMsg)
  /-- UP (R327): A received UP is merged into the node's aggregate of proposals, checksums and counts. Operands: the received message. -/
  | up (m : ConvoyMsg)
  /-- ANNOUNCE (R328): A received ANNOUNCE posts a convoy change for T (or handles HOLD and SKEW) and is forwarded; ACK follows its children. Operands: the received message. -/
  | announce (m : ConvoyMsg)
  /-- ACK (R325): A received ACK is counted and forwarded once all joined children have acknowledged. Operands: the received message. -/
  | ack (m : ConvoyMsg)
  /-- CANCEL (R329): A received CANCEL clears the pending convoy change for T and raises EV_CONVOY_CANCEL. Operands: the received message. -/
  | cancel (m : ConvoyMsg)
  /-- PRIO_REQ (R330): A received PRIO_REQ is forwarded unchanged, or at the root recorded for the stage. Operands: the received message. -/
  | prioReq (m : ConvoyMsg)
  /-- PRIO_ANNOUNCE (R330): A received PRIO_ANNOUNCE posts LEVEL for T_p, replacing any pending convoy change. Operands: the received message. -/
  | prioAnnounce (m : ConvoyMsg)
  /-- FREQ_DONE (R63): brx_freq_done_i is sampled, starting any downward voltage ramp and ending the no-done wait. -/
  | freqDone
  /-- FREQ_NO_DONE_TIMEOUT (R64): No done by cycle 0 of p1 raises FLT_FREQ_NO_DONE and holds targets at the higher value. -/
  | freqNoDoneTimeout
  /-- CLUSTER_STATE_ECHO (R65): A matching echo on brx_cl_state_ack_i completes a handshake and lets the transition take its next step. Operands: the echo sampled for cluster `n`. -/
  | clusterStateEcho (n : ClusterId) (code : Nat)
  /-- HANDSHAKE_TIMEOUT (R65): An echo not matching by the next stage edge raises FLT_CL_HANDSHAKE and holds the cluster. Operands: cluster `n`. -/
  | handshakeTimeout (n : ClusterId)
  /-- CLUSTER_WAKE_EDGE (R66): A rising edge on brx_cl_wake_i sets the cluster's wake latch. Operands: cluster `n`. -/
  | clusterWakeEdge (n : ClusterId)
  /-- SA_RETENTION_ACK (R279): SA retention acknowledges fall, releasing the waiting exit step. Operands: the banks whose acknowledge is now 1; every other bank's is 0. -/
  | saRetentionAck (banks : List Nat)
  /-- SA_BANK_PINNED (R76): A pinned indication during a retention request drops the request and raises EV_BANK_PINNED. Operands: the pinned indication of bank `b`. -/
  | saBankPinned (b : Nat) (pinned : Bool)
  /-- ACTIVITY_RECORD (R68): An activity record is accepted for its cluster and pace, or discarded with EV_ACT_RECORD. Operands: the record on brx_act_data_i. -/
  | activityRecord (rec : BitVec 128)
  /-- PHASE_PULSE_START (R111): The group comparator finds feedback at or below reference and starts a pulse on the next phase in rotation. Operands: the comparator of group `g` with V_sense in µV. -/
  | phasePulseStart (g : GroupId) (sense : Int)
  /-- PHASE_PULSE_END (R113): A phase's on-time expires and its pulse ends. Operands: phase `ph`. -/
  | phasePulseEnd (ph : PhaseId)
  /-- PHASE_OVERCURRENT (R129): A phase monitor crossing 60 A ends the pulse, blocks the phase and unparks the group. Operands: a crossing of 60 A, or the fall below 50 A that ends the block. -/
  | phaseOvercurrent (ph : PhaseId) (below : Bool)
  /-- PHASE_FAULT_FLAG (R59): A filtered power-stage fault flag inhibits the phase's PWM and disables it with cause 1. Operands: the filtered fault flag of phase `ph`. -/
  | phaseFaultFlag (ph : PhaseId) (low : Bool)
  /-- PHASE_PARK_DISABLE (R117): A parked phase's enable falls once its current is below 2 A or 2 µs after its last pulse. Operands: the current of the parked phase, in 10 mA. -/
  | phaseParkDisable (ph : PhaseId) (amps : Nat)
  /-- PHASE_UNPARK_READY (R117): An unparked phase enters the rotation 100 ns after its enable rises. Operands: phase `ph`. -/
  | phaseUnparkReady (ph : PhaseId)
  /-- PHASE_CHECK_DONE (R133): A phase's one-pace pre-live check ends, and it joins the rotation or the command fails. Operands: the monitor of the checked phase, in 10 mA. -/
  | phaseCheckDone (ph : PhaseId) (curr : Int)
  /-- SENSE_LINE_LOSS (R128): A running open sense line held 500 ns switches the comparator to plane sense and raises FLT_SENSE_LOSS. Operands: the rail, its board sense, plane and n line in µV, and the moment from which they have stood so. -/
  | senseLineLoss (r : Nat) (x : SenseIn)
  /-- TRACKING_PRECHECK (R119): At 10 µs into a tracking start the sense pre-check is judged and the common ramp starts or the start fails. Operands: what the pre-check measures, rail by rail. -/
  | trackingPrecheck (meas : List PreCheck)
  /-- TRACKING_STOP_LOW_SIDE_END (R121): A stopping rail's low-side hold ends below 50 mV or after 20 µs; its phases go Off and the reply is written when all are Off. Operands: the rail, and whether its voltage is below 50 mV. -/
  | trackingStopLowSideEnd (r : Nat) (below : Bool)
  /-- CELL_CURRENT_LIMIT (R135): A cell limits its current to 3.5 A on a local sample and sets LIMITING. Operands: the cell with its output voltage in µV. -/
  | cellCurrentLimit (x : CellVolt)
  /-- CELL_HEALTH_FAULT (R144): A cell health condition is met and isolation begins by driving the pass device off. Operands: the cell with its current in mA, and the condition met. -/
  | cellHealthFault (x : CellSense) (cause : CellCause)
  /-- CELL_ISOLATION_COMPLETE (R145): The isolation switch opens when cell current falls below 0.1 A or at 20 ns, and the cell leaves LIVE_MASK. Operands: cell `c`. -/
  | cellIsolationComplete (c : CellId)
  /-- SENTINEL_TRIP (R196): The domain voltage falls to the trip level, raising stretch and firing a Ready bellows. Operands: the cluster with its voltage in µV at the sense point. -/
  | sentinelTrip (x : DomainVolt)
  /-- STRETCH_RELEASE (R199): Stretch falls after the domain recovers above release for 2 ns, possibly raising EV_STRETCH_HIGH. Operands: the cluster, the lowest voltage in µV at its sense point, and the moment from which it has stood there. -/
  | stretchRelease (x : DomainSince)
  /-- BELLOWS_FIRE_END (R207): A fire ends on the low flag or the window end, and the bellows requests a charge slot. Operands: whether the low flag (else the end of the window) ends the fire. -/
  | bellowsFireEnd (n : ClusterId) (low : Bool)
  /-- BELLOWS_SLOT_GRANT (R208): A freed charge slot is granted to the lowest waiting bellows, which starts charging. Operands: cluster `n`. -/
  | bellowsSlotGrant (n : ClusterId)
  /-- BELLOWS_CHARGE_DONE (R208): The full flag rises, the charge ends, the slot frees and the bellows becomes Ready. Operands: cluster `n`. -/
  | bellowsChargeDone (n : ClusterId)
  /-- BELLOWS_CHARGE_TIMEOUT (R214): A charge missing its deadline opens the charge path and puts the bellows in Fault. Operands: cluster `n`. -/
  | bellowsChargeTimeout (n : ClusterId)
  /-- BELLOWS_FLAG_CONFLICT (R214): Full and low flags sampled together put the bellows in Fault with cause 2. Operands: cluster `n`. -/
  | bellowsFlagConflict (n : ClusterId)
  /-- ADC_RESULT (R181): A conversion result is corrected, converted to its unit, written to its channel and compared with the window. Operands: the raw code of channel `c`. -/
  | adcResult (c : ChanId) (d : Nat) (urgent : Bool)
  /-- ADC_SYSCAL_DONE (R189): System calibration collects its samples and applies or rejects new coefficients. Operands: the sums of the ZERO and CREF codes. -/
  | adcSyscalDone (u : ConvId) (sz : Nat) (sr : Nat)
  /-- ADC_BG_BLOCK_DONE (R191): A background calibration block completes and nudges the coefficients or counts a rejection. Operands: the sums of the block. -/
  | adcBgBlockDone (u : ConvId) (sz : Nat) (sr : Nat)
  /-- ADC_SPARE_EXCHANGE (R192): After 64 stages the spare slice updates the replaced stage's weight and moves to the next. Operands: the weight the spare slice has measured. -/
  | adcSpareExchange (u : ConvId) (w : Int)
  /-- ADC_URGENT_REQUEST (R183): A core write to BRX_ADC_URG queues an urgent conversion or sets URG_DROP. Operands: the channel written to BRX_ADC_URG. -/
  | adcUrgentRequest (c : Nat)
  /-- SEQ_SWAP (R179): A core write of SEQ_SWAP starts validation of a converter's shadow sequence. Operands: the converters whose SEQ_SWAP bit is written 1. -/
  | seqSwap (mask : BitVec 16)
  /-- SEQ_VALIDATION_DONE (R179): Sequence validation ends; the sequence takes effect at a pace boundary or is rejected with EV_SEQ_REJECTED. Operands: converter `u`. -/
  | seqValidationDone (u : ConvId)
  /-- SWAP (R156): A core write of SWAP starts validation of the engine's shadow descriptor bank. -/
  | swap
  /-- PLAN_VALIDATION_DONE (R157): Validation of the shadow bank ends; the swap is scheduled for an edge or rejected with EV_PLAN_REJECTED. Operands: the slots of the shadow bank with a word that reads with a parity error. -/
  | planValidationDone (parity : List Nat)
  /-- ENGINE_BANK_WRITE (R158): A core write to the descriptor banks lands in the shadow or is discarded with WR_DROP. Operands: the core address and the word. -/
  | engineBankWrite (addr : Nat) (w : BitVec 32)
  /-- CAL_TILE_READ_DONE (R140): A bracket or scrub read of a calibration tile completes and is checked; a failing tile is marked bad and its clusters go to defaults. Operands: calibration tile `t`, and whether its words were disturbed. -/
  | calTileReadDone (t : Nat) (upset : Bool)
  /-- CURVE_TILE_READ_DONE (R285): A curve tile read completes and is checked; a failing tile sends its clusters to the ROM default curve. Operands: curve tile `t`, and whether its words were disturbed. -/
  | curveTileReadDone (t : Nat) (upset : Bool)
  /-- MANIFEST_TILE_READ_DONE (R228): A read of a store tile for stage S + 2 completes and is checked, or the tile is marked bad. Operands: store tile `t`, and whether its words were disturbed. -/
  | manifestTileReadDone (t : Nat) (upset : Bool)
  /-- MANIFEST_BLOCK_ARRIVAL (R225): A fetched manifest block arrives and is checked and stored, or condemned, or reported as a fetch error. Operands: the block of store slot `slot`, none for an ERROR. -/
  | manifestBlockArrival (slot : Nat) (data : Option (List Byte))
  /-- MANIFEST_LATE_EXPIRY (R223): A block not stored by the edge opening its first stage − 2 raises FLT_MANIFEST_LATE. Operands: store slot `slot`. -/
  | manifestLateExpiry (slot : Nat)
  /-- MANIFEST_LOAD_TIMEOUT (R236): Fetches incomplete at the MANIFEST_LOAD deadline return the store to Empty with DEADLINE_MISSED. -/
  | manifestLoadTimeout
  /-- SEAL_GO (R432): A core write of GO to BRX_SEAL_CTRL starts a seal write of a permitted tile or sets REFUSED. Operands: the tile written with GO to BRX_SEAL_CTRL. -/
  | sealGo (tile : Nat)
  /-- SEAL_WRITE_DONE (R432): A seal write ends, writing the tile's check with BAD 0 and setting SEAL. -/
  | sealWriteDone
  /-- CORE_TILE_READ_DONE (R431): A tile read for the core's tile buffer completes and is checked, faulting the access on failure. Operands: the tile, whether its words were disturbed, and whether an instruction fetch reads it. -/
  | coreTileReadDone (t : Nat) (upset : Bool) (fetch : Bool)
  /-- FIRMWARE_FALLBACK (R423): A loaded image hits a bad code tile or an unhandled trap, and the ROM personality resumes with FLT_FW_FALLBACK. Operands: cause 1 or 2 and the address of the fetch or trap. -/
  | firmwareFallback (cause : Nat) (addr : BitVec 32)
  /-- CORE_HOST_WINDOW_WRITE (R417): A core write to the host window goes to the policy shadow for governor and swell registers, else is discarded. Operands: the host offset and the word. -/
  | coreHostWindowWrite (off : Nat) (w : BitVec 32)
  /-- FIRMWARE_FETCH_DONE (R422): The image header or body fetch completes, is sealed and hashed, and authentication follows. Operands: the bytes of the header or body, none for an ERROR. -/
  | firmwareFetchDone (data : Option (List Byte))
  /-- FIRMWARE_AUTH_DONE (R421): Key digest and signature verification ends, passing or failing the load. -/
  | firmwareAuthDone
  /-- FIRMWARE_LOAD_TIMEOUT (R392): A load incomplete at its deadline ends with RESULT 5 and DEADLINE_MISSED. -/
  | firmwareLoadTimeout
  /-- CORE_HALT (R439): The core halts at an instruction boundary for a breakpoint, watchpoint, EBREAK, step or HALT. Operands: the halt cause, its matcher and the core's registers at the boundary. -/
  | coreHalt (cause : Nat) (index : Nat) (ctx : CoreCtx)
  /-- DIODE_RESULT (R339): Every 100 µs the always-on island produces a diode temperature result and judges trip, restart and broken sensor. Operands: the difference of the two forward voltages in µV and the forward voltage in mV. -/
  | diodeResult (dUv : Int) (vf : Int)
  /-- THERMAL_TRIP (R347): The Bruxon domain samples the trip: rails Off, clusters Dormant without retention, bellows Off and FLT_THERM_TRIP raised. -/
  | thermalTrip
  /-- RESTART_TO_STANDBY_READY (R348): After release with power requested, a tracking start of AX to its former target begins. -/
  | restartToStandbyReady
  /-- RESTART_CORE_RAILS (R348): Once AX is in window, a ratiometric start of CF, SA and FB begins, ending with EV_THERM_RESTARTED. -/
  | restartCoreRails
  /-- THERMAL_CAL_DONE (R340): After 64 results the system offset is computed and applied or rejected. -/
  | thermalCalDone
  /-- GRACE_EXPIRY (R345): The throttle grace expires; if THROT holds, the thermal ceiling drops below the level in force. -/
  | graceExpiry
  /-- THERMAL_CEILING_STEP (R346): Every 10 periods of enforcement the thermal ceiling moves one level down or up, clearing at 15. -/
  | thermalCeilingStep
  /-- POWER_ON_RESET (R464): brx_por_n_i rises; the always-on island starts and samples the power request. Operands: brx_pwr_req_i as first sampled. -/
  | powerOnReset (req : Bool)
  /-- POWER_REQUEST_UP (R283): A power request of 1 in Cold closes the control-island switch and starts bring-up. -/
  | powerRequestUp
  /-- CLOCK_GENERATOR_START (R283): At 20 µs the Bruxon clock generator starts from ref_clk. -/
  | clockGeneratorStart
  /-- CLOCK_LOCK (R283): The clock locks; the control island leaves reset and the copier starts. -/
  | clockLock
  /-- COPIER_DONE (R418): The copier finishes sealing tables and writing the energy model; stage 0 opens and the core starts. -/
  | copierDone
  /-- POWER_REQUEST_DOWN (R284): A power request of 0 starts a descent, requesting every cluster to Dormant. -/
  | powerRequestDown
  /-- DESCENT_RAILS_STOP (R284): Once every cluster is Dormant, CF, SA and FB stop by coincident tracking and AX after them. -/
  | descentRailsStop
  /-- DESCENT_ISLAND_OFF (R284): With every rail Off, the control-island switch opens and the chip is Cold. -/
  | descentIslandOff
  /-- WARM_RESET_START (R453): brx_warm_rst_n_i goes low: caravans abort, the debug port locks, and pending commands end. -/
  | warmResetStart
  /-- WARM_RESET_END (R459): The warm reset ends: WARM is set, held doorbells and GO take effect, and the core restarts. -/
  | warmResetEnd
  /-- TEST_RESET (R438): brx_trst_n_i low resumes the core, clears matchers and locks the debug port. -/
  | testReset
  /-- COMMAND_DOORBELL (R372): A write of BRX_CMD_DOORBELL makes new command slots available and starts their fetch. Operands: the TAIL written. -/
  | commandDoorbell (tail : Nat)
  /-- COMMAND_SLOT_FETCH_DONE (R372): A command slot fetch completes and the slots await taking. Operands: the fetched slots in ring order, none for an ERROR. -/
  | commandSlotFetchDone (slots : List (Option (List Byte)))
  /-- COMMAND_SLOT_TAKE (R373): A fetched slot is taken when in-flight and reply room allow, and validation starts. -/
  | commandSlotTake
  /-- INDIRECT_PAYLOAD_FETCH_DONE (R378): An indirect payload fetch completes and its CRC and length are checked. Operands: the command whose payload arrives, none for an ERROR. -/
  | indirectPayloadFetchDone (o : Origin) (data : Option (List Byte))
  /-- REPLY_DEADLINE_EXPIRY (R42): A command's reply deadline passes unanswered and FLT_REPLY_LATE is raised. Operands: the command. -/
  | replyDeadlineExpiry (o : Origin)
  /-- REPLY_HOLD_DRAIN (R374): A held reply is written to the reply ring once FB is in window and the ring is enabled. -/
  | replyHoldDrain
  /-- EVENT_RING_WRITE (R385): The oldest queued event is written to the event ring when allowed and room exists, and its vector signalled. -/
  | eventRingWrite
  /-- MAILBOX_GO (R376): A write of GO takes the mailbox slot as an urgent command, or sets DROP when busy. -/
  | mailboxGo
  /-- RING_CONTROL_WRITE (R371): A write of BRX_RING_CTRL enables rings, zeroing their indices, or stops taking and writing. Operands: the word written to BRX_RING_CTRL. -/
  | ringControlWrite (w : BitVec 32)
  /-- EVENT_CAUSE_CLEAR (R387): A W1C write to BRX_EVT_CAUSE acknowledges categories and releases the alert when all are clear. Operands: the word written to BRX_EVT_CAUSE. -/
  | eventCauseClear (w : BitVec 32)
  /-- STAGE_LO_READ (R40): A read of BRX_STAGE_LO latches the upper counter bits into BRX_STAGE_HI. -/
  | stageLoRead
  /-- LEDGER_LO_READ (R363): A read of a BRX_EN_LEDGER_LO register latches its HI register. Operands: the ledger, counted as the registers stand, and the size of the access in bytes. -/
  | ledgerLoRead (x : LedgerRead)
  /-- APERTURE_WRITE (R69): A host write to the Ledger RAM aperture is discarded and raises EV_APERTURE_WRITE. Operands: the aperture offset, the size of the access in bytes and the word. -/
  | apertureWrite (x : Access) (w : BitVec 32)
  /-- REGISTER_WRITE (R454): A host write to any other register updates its writable fields or is ignored. Operands: the host offset, the size of the access in bytes and the word. -/
  | registerWrite (x : Access) (w : BitVec 32)
  /-- PING (R390): Echoes the payload with the stage, chip state and personality. -/
  | ping (p : Packet)
  /-- GET_INFO (R391): Returns a page of identity, capability and grade values. -/
  | getInfo (p : Packet)
  /-- LOAD_FIRMWARE (R422): Starts fetching, authenticating and installing a firmware image or part record. -/
  | loadFirmware (p : Packet)
  /-- ARM (R393): Arms an action (bellows, drone on cell loss, sensor trip or chip drone) for the masked clusters. -/
  | arm (p : Packet)
  /-- DISARM (R393): Disarms an action, with bellows disarmed under R203. -/
  | disarm (p : Packet)
  /-- SET_EVENT_MASK (R388): Sets, adds, removes or clears masks of informational events. -/
  | setEventMask (p : Packet)
  /-- RAIL_ENABLE (R119): Starts a tracking start of the masked rails to their targets. -/
  | railEnable (p : Packet)
  /-- RAIL_DISABLE (R121): Starts a tracking stop of the masked rails. -/
  | railDisable (p : Packet)
  /-- RAIL_SET_TARGET (R394): Sets rail targets, or the CF feed floor, for enabled non-tracking rails. -/
  | railSetTarget (p : Packet)
  /-- RAIL_GET_STATUS (R395): Returns a coherent sample of one rail's status mirrors. -/
  | railGetStatus (p : Packet)
  /-- PHASE_GROUP_SETTINGS (R133): PHASE_CONFIG OP 0x00 sets a group's shedding and ripple settings. -/
  | phaseGroupSettings (p : Packet)
  /-- PHASE_DISABLE_BY_HOST (R133): PHASE_CONFIG OP 0x01 disables a phase with cause 4. -/
  | phaseDisableByHost (p : Packet)
  /-- PHASE_REENABLE (R133): PHASE_CONFIG OP 0x02 checks a Disabled phase and returns it to service. -/
  | phaseReenable (p : Packet)
  /-- SPARE_INTO_SERVICE (R133): PHASE_CONFIG OP 0x03 checks a spare and puts it in place of a Disabled phase. -/
  | spareIntoService (p : Packet)
  /-- SPARE_TO_RESERVE (R133): PHASE_CONFIG OP 0x04 returns a spare to reserve, restoring the replaced phase. -/
  | spareToReserve (p : Packet)
  /-- CLUSTER_SET_STATE (R278): Starts state transitions of the masked clusters. -/
  | clusterSetState (p : Packet)
  /-- CLUSTER_SET_OFFSET (R396): Sets host offsets and sentinel thresholds of listed clusters. -/
  | clusterSetOffset (p : Packet)
  /-- CLUSTER_GET_STATUS (R397): Returns a coherent sample of six registers of one cluster. -/
  | clusterGetStatus (p : Packet)
  /-- DRONE_ENTER (R103): Starts drone entry of one cluster, or chip drone mode. -/
  | droneEnter (p : Packet)
  /-- DRONE_EXIT (R104): Starts drone exit of one cluster, or ends chip drone mode. -/
  | droneExit (p : Packet)
  /-- CARAVAN_OPEN (R243): Opens a caravan record for an id. -/
  | caravanOpen (p : Packet)
  /-- CARAVAN_MEMBER (R248): A packet flagged as a caravan member is staged as items, or aborts its caravan. Operands: the packet, its opcode and the caravan it names. -/
  | caravanMember (p : Packet) (opcode : Nat) (id : Nat)
  /-- CARAVAN_COMMIT (R251): Commits an Open caravan for its effect edge, optionally targeted and level-bound. -/
  | caravanCommit (p : Packet)
  /-- CARAVAN_ABORT (R258): Aborts an Open or pre-cut-off Committed caravan, or frees an Aborted record. -/
  | caravanAbort (p : Packet)
  /-- CARAVAN_STATUS (R259): Returns the four caravan records. -/
  | caravanStatus (p : Packet)
  /-- MANIFEST_LOAD (R236): Starts fetching and checking a manifest image into the store. -/
  | manifestLoad (p : Packet)
  /-- MANIFEST_ENGAGE (R237): Starts the manifest at S0 or joins clusters to the running manifest. -/
  | manifestEngage (p : Packet)
  /-- MANIFEST_RELEASE (R238): Disengages masked clusters, or unloads the manifest. -/
  | manifestRelease (p : Packet)
  /-- MANIFEST_STATUS (R239): Returns the manifest engine state. -/
  | manifestStatus (p : Packet)
  /-- SET_LEVEL_TABLE (R265): SET_LEVEL OP 0x00 writes entries of the level table. -/
  | setLevelTable (p : Packet)
  /-- SET_LEVEL_PREFERENCE (R304): SET_LEVEL OP 0x01 sets or clears preferred levels per job label. -/
  | setLevelPreference (p : Packet)
  /-- SET_LIMITS (R296): Sets rail, cap, settle, boost and cluster limits. -/
  | setLimits (p : Packet)
  /-- ADMIT_GUARANTEE (R311): Admits a floor or bandwidth guarantee if budgets allow. -/
  | admitGuarantee (p : Packet)
  /-- REVOKE_GUARANTEE (R314): Removes a guarantee at the next latch edge. -/
  | revokeGuarantee (p : Packet)
  /-- SET_FIXED_FREQUENCY (R275): Enters fixed-level or fixed-code mode, or leaves fixed mode. -/
  | setFixedFrequency (p : Packet)
  /-- SET_SWELL (R308): Sets the host swell ceiling of masked clusters. -/
  | setSwell (p : Packet)
  /-- CONVOY_JOIN (R323): Starts joining a convoy: latency measurement, alignment and counter load. -/
  | convoyJoin (p : Packet)
  /-- CONVOY_JOIN_TIMEOUT (R323): A chip not loaded by the join deadline returns to Not joined with DEADLINE_MISSED. -/
  | convoyJoinTimeout
  /-- CONVOY_LEAVE (R336): Leaves the convoy at the next window edge, sending LEFT. -/
  | convoyLeave (p : Packet)
  /-- CONVOY_HOST_PROPOSAL (R337): CONVOY_PROPOSE_LEVEL OP 0x00 sets or clears HOSTPROP. -/
  | convoyHostProposal (p : Packet)
  /-- CONVOY_CLEAR_SKEW (R337): CONVOY_PROPOSE_LEVEL OP 0x01 returns a Skewed chip to Joined. -/
  | convoyClearSkew (p : Packet)
  /-- CONVOY_DROP_PORT (R337): CONVOY_PROPOSE_LEVEL OP 0x02 removes a port from the joined set. -/
  | convoyDropPort (p : Packet)
  /-- CONVOY_STATUS (R338): Returns the convoy state. -/
  | convoyStatus (p : Packet)
  /-- THERMAL_THRESHOLDS (R350): THERMAL_CONFIG OP 0x00 sets thermal thresholds and grace. -/
  | thermalThresholds (p : Packet)
  /-- THERMAL_CALIBRATE (R340): THERMAL_CONFIG OP 0x01 starts system calibration of the diode offset. -/
  | thermalCalibrate (p : Packet)
  /-- THERMAL_STATUS (R351): Returns the thermal registers. -/
  | thermalStatus (p : Packet)
  /-- ENERGY_SET_LEDGER_ADDR (R366): ENERGY_SET_LEDGER OP 0x00 sets the ledger address and optionally zeroes mirrors. -/
  | energySetLedgerAddr (p : Packet)
  /-- ENERGY_SET_FRAME_RING (R364): ENERGY_SET_LEDGER OP 0x01 sets the telemetry frame ring. -/
  | energySetFrameRing (p : Packet)
  /-- ENERGY_READ (R367): Returns the ledger mirrors of a label, unattributed or measured. -/
  | energyRead (p : Packet)
  /-- ENERGY_MODEL_LOAD (R355): Loads a new energy model record for the next period. -/
  | energyModelLoad (p : Packet)
  /-- ADC_CALIBRATE_SYSTEM (R189): Starts system calibration of masked converters. -/
  | adcCalibrateSystem (p : Packet)
  /-- ADC_CAL_TIMEOUT (R190): At the reply deadline unfinished converters keep their coefficients with RESULT 3 and the reply is written. -/
  | adcCalTimeout
  /-- ADC_SET_CAL_MODE (R193): Sets calibration and power mode of masked converters. -/
  | adcSetCalMode (p : Packet)
  /-- CELL_RECHARACTERIZE (R287): Schedules a recharacterisation window for masked clusters. -/
  | cellRecharacterize (p : Packet)
  /-- RECHAR_WINDOW_STEP (R287): A recharacterisation window reaches its next stage: Rest request, curve search, cell retests, table write or return to Active. Operands: the cluster, whether its monitors pass the run, and the cells (0 to 11) that fail the self-test of their retest. -/
  | recharWindowStep (n : ClusterId) (pass : Bool) (bad : List Nat)
  /-- DIAG_READ_TRACE (R399): Copies trace records to host memory. -/
  | diagReadTrace (p : Packet)
  /-- TRACE_COPY_DONE (R399): The trace copy DMA completes and the reply is written. -/
  | traceCopyDone
  /-- NOP (R434): Debug no-operation. -/
  | nop
  /-- CHALLENGE (R436): Issues a new unlock challenge or reads a word of the outstanding one. -/
  | challenge (addr : Nat)
  /-- RESPONSE (R437): Loads a word of the unlock response. -/
  | response (addr : Nat) (w : BitVec 32)
  /-- SUBMIT (R437): Compares the response with the expected HMAC and unlocks or fails. -/
  | submit
  /-- LOCK (R438): Locks the port, resumes the core and clears matchers. -/
  | lock
  /-- HALT (R439): Requests a halt of the firmware core. -/
  | halt
  /-- RESUME (R440): Resumes a halted core. -/
  | resume
  /-- STEP (R440): Executes one instruction and halts again. -/
  | step
  /-- READ_MEM (R443): Reads a word of the core address map. -/
  | readMem (addr : BitVec 32)
  /-- WRITE_MEM (R443): Writes a word of the core address map where permitted. -/
  | writeMem (addr : BitVec 32) (w : BitVec 32)
  /-- READ_REG (R444): Reads a core register of a halted core. -/
  | readReg (num : BitVec 32)
  /-- WRITE_REG (R444): Writes a core register of a halted core. -/
  | writeReg (num : BitVec 32) (w : BitVec 32)
  /-- SET_MATCH (R442): Sets a breakpoint or watchpoint. -/
  | setMatch (addr : Nat) (w : BitVec 32)
  /-- CONVERT (R445): Requests an urgent conversion of a channel. -/
  | convert (chan : Nat)
  /-- DEBUG_CHALLENGE_EXPIRY (R437): An outstanding challenge expires at the 100th period close after issue. -/
  | debugChallengeExpiry
  /-- DEBUG_WITHHOLD_END (R437): After 1,000 periods following a failed response, challenges may be issued again. -/
  | debugWithholdEnd
  /-- MANIFEST_HEADER_ARRIVAL (R217): The fetched 1,024-byte manifest header arrives and is accepted, or the load is rejected on HCRC or field failure. Operands: the header, none for an ERROR. -/
  | manifestHeaderArrival (data : Option (List Byte))
  /-- DEBUG_OPERATION_DONE (R434): A debug-port operation that took time, such as the 20 µs unlock check or a 2 µs memory access, completes and its result becomes available to the next capture. -/
  | debugOperationDone
  /-- APERTURE_READ (R69): A host read through the aperture at 0x0010_0000 uses slot A of Ledger RAM, returns the word and raises FLT_LEDGER_PARITY on a parity error. Operands: the aperture offset, the size of the access in bytes, and whether the word read has a parity error. -/
  | apertureRead (x : Access) (upset : Bool)
  deriving DecidableEq, Repr

end Sys2Proof
end

