-- ==== Sys2Proof/Decode.lean ====
section
/-! DEFINITION. Words of the opcode table: its rows are commands and events, and give no bits. -/

namespace Sys2Proof

/-- The command that `w` spells by the table's bits: none, for no row of the table has any. -/
def decodeTableWord (_nbits _w : Nat) : Option Instr := none

end Sys2Proof
end

