-- ==== Sys2Proof/Config.lean ====
section
/-! DEFINITION. What the spec leaves to the part or does not state: constants without a body, of which no proof can see a
value. -/

namespace Sys2Proof.Config

/-- Byte of the boot ROM at an offset below 128 KiB (R416): the spec gives the ROM's place and not its contents. -/
opaque romByte : Nat → BitVec 8

/-- The `k`-th challenge drawn from the on-die random source (R436). -/
opaque challenge : Nat → BitVec 128

/-- The response that the key in fuses K_dev gives for a challenge and die identity (R436): HMAC-SHA-256 under a key that
no path of Bruxon reads. -/
opaque response : BitVec 128 → BitVec 64 → BitVec 256

/-- Whether a firmware image of header and body is authentic under R421: the digest of its key equals the ROM's and its
signature verifies. The ROM's digest is a constant of the part. -/
opaque authentic : List (BitVec 8) → List (BitVec 8) → Bool

/-- The coefficients of the one-pole smoothing sections of the ROM default plan, which R175 names and does not give (slots 144
to 287 and 304 to 319), by slot and word. -/
opaque romPlan : Nat → Nat → BitVec 32

/-- GAIN_e of FLT_ADC_CAL where the sums give no estimate of 16 bits (R189, R409), from S_z and S_r. -/
opaque gainEstimate : Nat → Nat → BitVec 16

/-- BRX_ADC_URG_RES_u from channel, result and writing cycle: R185 and R416 name the contents and not the layout. -/
opaque urgentResult : Nat → Nat → Nat → BitVec 32

/-- Bytes 1 to 2 of FLT_BELLOWS for a bellows that has never been granted a charge slot (R215), by model time. -/
opaque sinceNoGrant : Nat → BitVec 16

/-- Bits [59:10] of a calibration point that a recharacterisation measures (R137, R288 step 5), by cell, point and count: the
spec gives the fields and no way to predict a measurement. -/
opaque calMeasured : Nat → Nat → Nat → BitVec 50

/-- Bytes 8 to 9 of FLT_GUARANTEE_DEGRADED where the limit that set H or B_SA has no limit ID in R296 (R312): the segment
limits, the SA live phases, and the 200 A of R311. -/
opaque noLimitId : BitVec 16

/-- DEADLINE of a DMA request for which no rule states one (R70): reads of command slots, payloads and images, writes of ring
entries and traces; by the address and the moment of the request. -/
opaque openDeadline : Nat → Nat → BitVec 20

/-- The proportional coefficient of a cell's local loop (R134 gives it fixed and unstated), in 2^-20 mA per µV. -/
opaque cellKp : Int

/-- The integral coefficient of a cell's local loop (R134 gives it fixed and unstated), in 2^-20 mA per µV and sample. -/
opaque cellKi : Int

end Sys2Proof.Config
end

