-- ==== Sys2Proof/Machine/Plan.lean ====
section
/-! DEFINITION. What hardware loads at power-up of the control island: the ROM default plan of the control engine and the
ROM default sequences of the converters (R154, R175, R180). -/

namespace Sys2Proof.Machine

/-- The words of one descriptor: 80 bytes (R154). -/
abbrev Descr := Tab 20 (BitVec 32)

/-- Word 0 of a descriptor from EN, RATE, PH, sections, SRC, CH, REFK and RIDX (R154). -/
def descWord0 (rate nsec src ch refk ridx : Nat) : BitVec 32 :=
  BitVec.ofNat 32 (1 + 2 * rate + 256 * (nsec - 1) + 1024 * src + 4096 * ch + 2 ^ 21 * refk + 2 ^ 23 * ridx)

/-- Word 1 of a descriptor of the worked example: ISHIFT 9, OSHIFT 1, KEEP 1, SS_STEP 8 and INTEG 0b0001 (R154, R175). -/
def descWord1 (destk didx : Nat) : BitVec 32 := BitVec.ofNat 32 (0x10899000 + destk + 8 * didx)

/-- Words 2 to 19 of the worked example: gains, bounds, the PI section, the two-tap average and two pass-through sections
(R175). -/
def exampleTail : List (BitVec 32) :=
  [0x40004000#32, 0x5000B000#32,
   0xE6663333#32, 0xC0000000#32, 0xA0000000#32, 0x00006000#32,
   0x40004000#32, 0x00000000#32, 0x80000000#32, 0x00007FFF#32,
   0x00007FFF#32, 0x00000000#32, 0x80000000#32, 0x00007FFF#32,
   0x00007FFF#32, 0x00000000#32, 0x80000000#32, 0x00007FFF#32]

/-- A descriptor from its words; missing words are 0. -/
def descOf (l : List (BitVec 32)) : Descr := Tab.ofFn 20 (fun i => l.getD i 0)

/-- A loop of four sections with the worked example's values. -/
def loopFour (ch refk ridx destk didx : Nat) : Descr :=
  descOf (descWord0 0 4 0 ch refk ridx :: descWord1 destk didx :: exampleTail)

/-- Words 2 to 19 of a loop of two sections: the worked example's gains, bounds and pass-through sections; B0, B1 and A1H of the
one-pole smoothing section are the ROM's (R175; DESIGN CHOICE log 30). -/
def smoothTail (s : Nat) : List (BitVec 32) :=
  exampleTail.take 2 ++ [Config.romPlan s 4, Config.romPlan s 5 &&& 0xFFFF0000#32] ++ (exampleTail.drop 4).take 2
    ++ exampleTail.drop 10 ++ (exampleTail.drop 10).take 4

/-- A loop of two sections: one-pole smoothing and pass-through, its other values the worked example's (R175). -/
def loopTwo (s rate src ch destk didx : Nat) : Descr :=
  descOf (descWord0 rate 2 src ch 0 0 :: descWord1 destk didx :: smoothTail s)

/-- The descriptor of slot `s` in the ROM default plan (R175). -/
def romSlot (s : Nat) : Descr :=
  if s < 144 then loopFour s 1 s 0 s
  else if s < 288 then loopTwo s 2 1 (s - 144) 2 (s - 144)
  else if s < 300 then loopFour (272 + (s - 288)) 2 (s - 288) 1 (s - 288)
  else if s < 303 then loopFour (285 + (s - 300)) 2 (s - 288) 1 (s - 288)
  else if s = 303 then loopFour 288 2 0 3 0
  else if s < 319 then loopTwo s 4 2 (s - 304) 3 0
  else loopTwo s 4 0 292 3 0

/-- The ROM default plan (R175). -/
def romBank : Tab 320 Descr := Tab.ofFn 320 romSlot

/-- The channels of converter `u` in ascending order that the map converts (R177). -/
def convChannels (u : Nat) : List Nat := (List.range 20).filterMap (fun k => if 16 * k + u < 312 then some (16 * k + u) else none)

/-- The channels that the default sequence converts twice a round (R180). -/
def twiceChannel (c : Nat) : Bool := c < 292

/-- A slot of the default sequence: both rounds, DIV 0, PH 0, COND for the spare phases (R178, R180). -/
def seqWord (c : Nat) : BitVec 32 := BitVec.ofNat 32 (c + 512 * 3 + (if 268 ≤ c && c < 272 then 2 ^ 18 else 0))

/-- The ROM default sequence of converter `u` (R180). -/
def romSequence (u : Nat) : Tab 64 (BitVec 32) :=
  let a := (convChannels u).map seqWord
  let b := ((convChannels u).filter twiceChannel).map seqWord
  Tab.ofFn 64 (fun q => if q < 32 then a.getD q 0 else b.getD (q - 32) 0)

end Sys2Proof.Machine
end

