-- ==== Sys2Proof/Machine/Units.lean ====
section
/-! DEFINITION. The parts of the machine's state: one structure per unit of the block, each field with the rule that
names it, its width, and its value right after the control island powers up. -/

namespace Sys2Proof.Machine

/-- a slewing set-point: value in whole codes, target, and the step timer of R123 and R124. -/
structure SetPoint where
  /-- instantaneous set-point, in codes of its object (cluster codes may be below 0 under R148) (R123; whole code). -/
  cur : Int := 0
  /-- target the set-point moves towards (R123; whole code). -/
  tgt : Int := 0
  /-- a ramp is in progress (R124; 1 bit). -/
  moving : Bool := false
  /-- direction of the ramp, or of the last one (R124; 1 bit). -/
  up : Bool := false
  /-- moment at which the next step falls (R123; model time). -/
  due : Nat := 0
  /-- moment of the final step: a set-point still counts as moving in that cycle (R124; model time). -/
  stepAt : Nat := 0
  /-- step interval in Bruxon cycles (R123, R148; cycles). -/
  every : Nat := 250
  deriving DecidableEq, Repr, Inhabited

/-- one tier-1 rail (R18, R86 to R89). -/
structure Rail where
  /-- committed target, rail code (for CF the feed follower's result) (R86, R89; 10 bits). -/
  target : Nat := 0
  /-- instantaneous set-point and its ramp (R87, R123; set-point). -/
  sp : SetPoint := {}
  /-- ENABLED (R89; 1 bit). -/
  enabled : Bool := false
  /-- TRACKING (R89, R119; 1 bit). -/
  tracking : Bool := false
  /-- IN_WINDOW at the last snapshot (R88, R89; 1 bit). -/
  inWindow : Bool := false
  /-- consecutive snapshots out of window (R89; count to 4). -/
  outRun : Nat := 0
  /-- FLT_RAIL_WINDOW outstanding (R89; 1 bit). -/
  windowFault : Bool := false
  /-- the host has cleared the cause since the fault (R89; 1 bit). -/
  faultAcked : Bool := false
  /-- in window in every snapshot of the present stage (R89; 1 bit). -/
  wholeStage : Bool := false
  /-- sense bias currents applied (R60; 1 bit). -/
  bias : Bool := false
  /-- VOLT, measured voltage, rail code (R89; 10 bits). -/
  volt : Nat := 0
  /-- rail current of the last pace in 10 mA, shown as CURR in 0.25 A (R89, R160; 16 bits). -/
  curr : Int := 0
  deriving DecidableEq, Repr, Inhabited

/-- one CF segment (R19, R91, R92). -/
structure Seg where
  /-- H_x in mA, shown as HEADROOM in 0.25 A (R92; 16 bits signed). -/
  head : Int := 0
  /-- WAKE_ALLOW A_x, 0.25 A (R92, R149; 16 bits). -/
  wakeAllow : Nat := 0
  /-- segment current of the last pace in 10 mA, shown as LOAD in 0.25 A (R92, R160; 16 bits). -/
  load : Int := 0
  /-- segment in window at the last snapshot (R88; 1 bit). -/
  inWin : Bool := false
  /-- consecutive snapshots of this segment out of window (R89; count to 4). -/
  outRun : Nat := 0
  /-- FLT_RAIL_WINDOW of this segment outstanding (R89; 1 bit). -/
  windowFault : Bool := false
  /-- lowest headroom of any pace of the stage so far (R307; mA). -/
  headMin : Option Int := none
  /-- sum of the segment current over the paces of the stage so far (R300; 10 mA). -/
  curSum : Int := 0
  /-- stage sums of the last stages, newest first (R300; up to 16). -/
  means : List Int := []
  /-- lowest headroom of the stage last closed (R307; mA). -/
  headClosed : Option Int := none
  deriving DecidableEq, Repr, Inhabited

/-- one phase group (R107, R115 to R117, R128, R132). -/
structure Group where
  /-- SHED_EN (reset differs by group: R117) (R117; 1 bit). -/
  shedEn : Bool := true
  /-- MIN_SW (R117; 5 bits). -/
  minSw : Nat := 3
  /-- SHED_A, 1 A (R117; 8 bits). -/
  shedA : Nat := 15
  /-- ADD_A, 1 A (R117; 8 bits). -/
  addA : Nat := 28
  /-- RIP_AMP (R112, R117; 4 bits). -/
  ripAmp : Nat := 4
  /-- RIP_TAU (R112, R117; 2 bits). -/
  ripTau : Nat := 1
  /-- SENSE_FALLBACK (R128; 1 bit). -/
  fallback : Bool := false
  /-- SENSE_OFFS, 0.25 mV (R128; 16 bits signed). -/
  senseOffs : Int := 0
  /-- mean of V_sense - V_plane over the last complete pace (R128; 0.25 mV). -/
  offsMean : Int := 0
  /-- the same for the pace before it (R128; 0.25 mV). -/
  offsPrev : Int := 0
  /-- sum of the board sense results of the present pace (R128; 0.25 mV). -/
  senseSum : Int := 0
  /-- board sense results of the present pace (R128; count). -/
  senseCnt : Nat := 0
  /-- sum of the plane sense results of the present pace (R128; 0.25 mV). -/
  planeSum : Int := 0
  /-- plane sense results of the present pace (R128; count). -/
  planeCnt : Nat := 0
  /-- SWELL_CLAMP (R132; 1 bit). -/
  swellClamp : Bool := false
  /-- every parked phase has been unparked in the present pace (R116; 1 bit). -/
  unparkNow : Bool := false
  /-- the same for the pace before: UNPARK_ALL shows either (R116, R133; 1 bit). -/
  unparkLast : Bool := false
  /-- phase that took the last pulse of the rotation (R113; phase index). -/
  rot : Option Nat := none
  /-- start of the group's previous pulse (R111; model time). -/
  lastStart : Option Nat := none
  /-- every phase was skipped: the pulse waits for the first that becomes ready (R113; 1 bit). -/
  pulseWait : Bool := false
  /-- what the high-pass filter of the emulator subtracts from the sum of e_i (R112; 1/32000 nV). -/
  ripLow : Int := 0
  /-- moment up to which the emulator has been computed (R112; model time). -/
  ripAt : Nat := 0
  /-- Δ_g in force, 0.125 mV (R111, R166; -200..200). -/
  delta : Int := 0
  /-- highest group current in any snapshot of the stage (R115; 10 mA). -/
  iPeak : Int := 0
  /-- group current of the last pace (R116, R160; 10 mA). -/
  curr : Int := 0
  /-- from its join to step 1 of a tracking stop (R169; 1 bit). -/
  inService : Bool := false
  deriving DecidableEq, Repr, Inhabited

/-- one phase channel (R108, R114, R129 to R133). -/
structure Phase where
  /-- STATE (R108, R133; 2 bits). -/
  st : PhState := .off
  /-- CAUSE of the disabling (R131, R133; 3 bits). -/
  cause : PhCause := .none
  /-- brx_phase_en_o[i] (R57; 1 bit). -/
  en : Bool := false
  /-- brx_pwm_o[i] (R57; 1 bit). -/
  pwm : Bool := false
  /-- SPARE: this spare is in service (R90; 1 bit). -/
  spareIn : Bool := false
  /-- REPLACES (R90; 7 bits). -/
  replaces : Nat := 127
  /-- trim_i (R114; -16..16). -/
  trim : Int := 0
  /-- ON_TIME, 250 ps (R109; 12 bits). -/
  onTime : Nat := 0
  /-- on-time of the pulse in progress, for its full length (R113; 250 ps). -/
  pulseOn : Nat := 0
  /-- I_i of the last pace in 10 mA, shown as CURR in 0.25 A (R133, R160; 16 bits signed). -/
  curr : Int := 0
  /-- sum of the monitor samples of the present pace (R114; 10 mA). -/
  iSum : Int := 0
  /-- monitor samples of the present pace (R114; count). -/
  iCnt : Nat := 0
  /-- OC_ACTIVE (R133; 1 bit). -/
  ocActive : Bool := false
  /-- a termination has fallen in the present pace (R133; 1 bit). -/
  ocNow : Bool := false
  /-- OC_COUNT of the period (R129; 16 bits). -/
  ocCount : Nat := 0
  /-- the last pulses, newest first: true when terminated (R130; up to 128). -/
  ocHist : List Bool := []
  /-- next pulse blocked until the monitor falls below 50 A (R129; 1 bit). -/
  blocked : Bool := false
  /-- PWM inhibited by the fault flag (R59; 1 bit). -/
  inhibited : Bool := false
  /-- brx_phase_flt_n_i[i] is 0 after its filter (R59; 1 bit). -/
  flagLow : Bool := false
  /-- consecutive samples out of the monitor's range (R131; count to 2). -/
  senseRun : Nat := 0
  /-- consecutive samples that meet the open condition (R131; count to 2). -/
  openRun : Nat := 0
  /-- consecutive paces at trim limit with imbalance (R131; count to 64). -/
  stuckRun : Nat := 0
  /-- when it began switching, or was parked (R117; model time). -/
  since : Nat := 0
  /-- start of its last pulse (R111; model time). -/
  pulseAt : Nat := 0
  /-- end of its last pulse (40 ns minimum off-time) (R113; model time). -/
  pulseEnd : Option Nat := none
  /-- parked, enable not yet fallen (R117; 1 bit). -/
  parking : Bool := false
  /-- chosen to be parked, in a pulse whose end comes first (R117; 1 bit). -/
  parkWait : Bool := false
  /-- enable raised, enters the rotation at this moment (R117; model time). -/
  waking : Option Nat := none
  /-- emulator term e_i at the moment up to which it has been computed (R112; 1 nV). -/
  ripple : Nat := 0
  deriving DecidableEq, Repr, Inhabited

/-- one point of a cluster curve (R93). -/
structure CurvePt where
  /-- FREQ; above 80 unused (R93; 7 bits). -/
  freq : Nat := 127
  /-- VMIN, 1.25 mV + 0.300 V (R93; 10 bits). -/
  vmin : Nat := 0
  deriving DecidableEq, Repr, Inhabited

/-- voltage of one cluster (R96, R97, R167). -/
structure CVolt where
  /-- TARGET in force (T_n plus lift, or the CF target in drone mode) (R97; 10 bits). -/
  target : Nat := 0
  /-- SETPOINT and its ramp (R97, R123; set-point). -/
  sp : SetPoint := {}
  /-- CURVE_DEFAULT: ROM default curve in use (R97, R140, R272; 1 bit). -/
  curveDefault : Bool := false
  /-- CLAMPED (R96; 1 bit). -/
  clamped : Bool := false
  /-- guardband of 25 mV in force (R96; 1 bit). -/
  g25 : Bool := false
  /-- OFFSET O_n (R96; 8 bits signed). -/
  offset : Int := 0
  /-- cluster correction in force (R167; -20..20). -/
  corr : Int := 0
  /-- curve points last read from good tiles (R93, R285; 16 points). -/
  curve : Tab 16 CurvePt := Tab.replicate 16 {}
  /-- cells of a bad calibration tile wait for the set-point to reach T_n (R140; 1 bit). -/
  calWait : Bool := false
  deriving DecidableEq, Repr, Inhabited

/-- power state of one cluster (R65, R276 to R281). -/
structure CSt where
  /-- STATE, settled state (R65, R276; 2 bits). -/
  st : CState := .dormant
  /-- REQ, brx_cl_state_o (R65; 2 bits). -/
  req : CState := .dormant
  /-- ACK, last echo sampled (R65; 2 bits). -/
  ack : CState := .dormant
  /-- transition in progress and its step (R278; transition). -/
  trans : Option Trans := none
  /-- HELD (R101; 1 bit). -/
  held : Bool := false
  /-- FLT_CL_HANDSHAKE hold in force (R65; 1 bit). -/
  hsFault : Bool := false
  /-- edge by which the echo must match (R65; stage). -/
  hsEdge : Option Nat := none
  /-- wake latch (R66; 1 bit). -/
  latch : Bool := false
  /-- stage in which the latched edge was sampled (R280; 48 bits). -/
  latchStage : Nat := 0
  /-- last wake edge merged into a set latch (R281; model time). -/
  edgeAgain : Option Nat := none
  /-- REPLAYED (R280; 1 bit). -/
  replayed : Bool := false
  /-- brx_cl_rst_n_o[n] (R61; 1 bit). -/
  rstN : Bool := false
  /-- the cluster was Active at the edge opening W (R287; 1 bit). -/
  recharWas : Bool := false
  /-- in a recharacterisation window (R287; 1 bit). -/
  inRechar : Bool := false
  /-- the set-point is under the curve search of the window (R288; 1 bit). -/
  search : Bool := false
  deriving DecidableEq, Repr, Inhabited

/-- wake of one cluster (R148 to R152). -/
structure CWake where
  /-- WAITED (R151; 8 bits). -/
  waited : Nat := 0
  /-- PENDING (R150; 1 bit). -/
  pending : Bool := false
  /-- RAMPING (R148; 1 bit). -/
  ramping : Bool := false
  /-- the ramp of the wake has made its first step (R198; 1 bit). -/
  stepped : Bool := false
  /-- SLOPE code (R148; 2 bits). -/
  slope : Nat := 0
  /-- LATE (R151; 1 bit). -/
  late : Bool := false
  /-- draws on A_x: proceeds or waits as a late wake (R151; 1 bit). -/
  lateOnly : Bool := false
  /-- LEAK, 0.05 A (R149; 8 bits). -/
  leak : Nat := 40
  /-- paces to the first complete pace after an entry into Rest (R149; count). -/
  leakRun : Nat := 0
  /-- WAKE_DEADLINE D of the current wake (R151; 1..64 stages). -/
  deadline : Nat := 4
  /-- pace of the first admission test (R151; pace). -/
  firstTest : Option Nat := none
  /-- stage of the first test (R151; stage). -/
  firstStage : Nat := 0
  /-- pace of the last test that failed (R150; pace). -/
  testedAt : Option Nat := none
  deriving DecidableEq, Repr, Inhabited

/-- cells of one cluster as a group (R145 to R147). -/
structure CCells where
  /-- LIVE_MASK, kept across warm reset (R145; 12 bits). -/
  liveMask : BitVec 12 := 0xFFF
  /-- MODE of the cells that are not isolated (R136, R278; 2 bits). -/
  mode : CellMode := .off
  /-- LIVE m after step 4 (R145; 4 bits). -/
  live : Nat := 12
  /-- SUSTAINED ceiling, 10 mA (R146; 16 bits). -/
  limSus : Nat := 1250
  /-- ONE_STAGE ceiling, 10 mA (R146; 16 bits). -/
  limOne : Nat := 1800
  /-- armed for DRONE_ON_CELL_LOSS (R393; 1 bit). -/
  armDrone : Bool := false
  /-- no live cell: turned off at the next cycle 0 (R103; 1 bit). -/
  dead : Bool := false
  /-- isolations complete since the last cycle 0, reported at step 4 (R145, R147; records). -/
  isolated : List IsoRec := []
  deriving DecidableEq, Repr, Inhabited

/-- drone mode of one cluster (R101 to R106). -/
structure CDrone where
  /-- step of drone entry or exit, or in drone mode (R103, R104; state). -/
  st : DroneSt := .none
  /-- D_n, rail code (R102; 10 bits). -/
  req : Nat := 0
  deriving DecidableEq, Repr, Inhabited

/-- droop sentinel of one cluster (R196 to R201, R215). -/
structure CSent where
  /-- THRESH (R197; 5 bits). -/
  thresh : Nat := 8
  /-- TRIPPED, brx_stretch_o[n] (R201; 1 bit). -/
  tripped : Bool := false
  /-- SELFTEST_FAIL (R215; 1 bit). -/
  selftestFail : Bool := false
  /-- STUCK (R215; 1 bit). -/
  stuck : Bool := false
  /-- TRIPS of the period (R201; 16 bits). -/
  trips : Nat := 0
  /-- rise of the stretch in progress (R199; model time). -/
  riseAt : Nat := 0
  /-- moment from which the stretch in progress is not yet counted: its rise, or the edge that split it (R52; model time). -/
  countFrom : Nat := 0
  /-- stretch of the present stage so far (R52; ns). -/
  total : Nat := 0
  /-- LAST_NS (R52; 16 bits). -/
  lastNs : Nat := 0
  /-- MAX_NS of the period (R54; 16 bits). -/
  maxNs : Nat := 0
  /-- stretch of the period, for the frame (R53, R365; ns). -/
  periodNs : Nat := 0
  /-- stretch has been 1 and the channel above release in the whole stage so far (R215; 1 bit). -/
  allStage : Bool := false
  /-- stretch seen in each of the last paces, newest first (R211; up to 16). -/
  hist : List Bool := []
  /-- stretch seen in the present pace (R211; 1 bit). -/
  nowSeen : Bool := false
  deriving DecidableEq, Repr, Inhabited

/-- bellows of one cluster (R202 to R209, R214). -/
structure Blw where
  /-- STATE (R202; 3 bits). -/
  st : BlwState := .off
  /-- HOST_ARM, kept across warm reset (R203; 1 bit). -/
  hostArm : Bool := false
  /-- first charge since arming has completed (R204; 1 bit). -/
  firstDone : Bool := false
  /-- LAST (R207; 2 bits). -/
  last : Nat := 0
  /-- FAULT_CAUSE (R214; 2 bits). -/
  faultCause : Nat := 0
  /-- SKIPS of the period (R206; 8 bits). -/
  skips : Nat := 0
  /-- FIRES of the period (R207; 16 bits). -/
  fires : Nat := 0
  /-- rise of the fire in progress (R212; model time). -/
  fireAt : Nat := 0
  /-- end of the FIRE_WIN window of the fire in progress (R207; model time). -/
  fireEnd : Nat := 0
  /-- current of the fire in progress (R205, R206; 25 mA). -/
  fireI : Nat := 0
  /-- last grant of a charge slot; 0 before the first (R209; model time). -/
  grantAt : Nat := 0
  /-- the charge wanted or in progress is a first charge (R209; 1 bit). -/
  first : Bool := false
  /-- brx_blw_fire_o[n] (R74; 1 bit). -/
  fire : Bool := false
  /-- brx_blw_chg_o[n] (R74; 1 bit). -/
  chg : Bool := false
  /-- moment from which it asks for a charge slot (R208; model time). -/
  askAt : Nat := 0
  /-- forecast fire due at the next pace boundary: its current (R206, R233; 25 mA). -/
  fcAt : Option Nat := none
  /-- disarmed during a fire or charge: goes Off at its end (R203; 1 bit). -/
  leaveWhenDone : Bool := false
  /-- the fire or charge ends in the next cycle (R207, R208; 1 bit). -/
  ending : Bool := false
  deriving DecidableEq, Repr, Inhabited

/-- manifest entry of a cluster for one stage, with why there is none (R218, R229). -/
structure ManEnt where
  /-- the entry, when usable (R218; 32 bits). -/
  word : Option (BitVec 32) := none
  /-- REASON code when there is no usable entry (R240; 3 bits). -/
  why : Nat := 1
  deriving DecidableEq, Repr, Inhabited

/-- one engagement or release that waits for its edge (R237, R238). -/
structure EngEv where
  /-- the stage from which it holds (R237; stage). -/
  stage : Nat := 0
  /-- engaged from that stage, or released (R237, R238; 1 bit). -/
  on : Bool := false
  /-- the diverged mark and the run return to 0 there (R237; 1 bit). -/
  rejoin : Bool := false
  deriving DecidableEq, Repr, Inhabited

/-- manifest state of one cluster (R229 to R237). -/
structure CMan where
  /-- engaged for the present stage (R229, R237; 1 bit). -/
  engaged : Bool := false
  /-- engagements and releases that wait for their edges, by stage and in the order accepted (R237, R238; changes). -/
  evs : List EngEv := []
  /-- DIVERGED (R234; 1 bit). -/
  diverged : Bool := false
  /-- RUN (R234; 3 bits). -/
  run : Nat := 0
  /-- DIV_PACES of the period (R240; 10 bits). -/
  divPaces : Nat := 0
  /-- entries of stages S, S + 1 and S + 2 (R228, R230; 3 entries). -/
  ents : Tab 3 ManEnt := Tab.replicate 3 {}
  /-- F of the current pace, 0 when not served, 25 mA (R220, R230; 10 bits). -/
  fc : Nat := 0
  /-- served in the present pace (R230; 1 bit). -/
  served : Bool := false
  /-- F of the coming pace, as computed in the present one (R220, R230; 10 bits). -/
  fcNext : Nat := 0
  /-- F of the pace after the coming one, as computed in the present one (R220, R230; 10 bits). -/
  fcAfter : Nat := 0
  /-- FF in force, 25 mA per live cell (R231; 8 bits). -/
  ff : Nat := 0
  /-- LIFT in force (R232; 2 bits). -/
  lift : Nat := 0
  /-- paces to the removal of the lift (R232; paces). -/
  liftLeft : Nat := 0
  /-- F and M of the running divergent paces, newest first (R234; up to 4). -/
  hist : List (Nat × Nat) := []
  deriving DecidableEq, Repr, Inhabited

/-- limits, swell and currents of one cluster (R294, R296, R307). -/
structure CGov where
  /-- committed SUSTAINED, 10 mA (R296; 16 bits). -/
  sus : Nat := 1250
  /-- committed ONE_STAGE, 10 mA (R296; 16 bits). -/
  one : Nat := 1800
  /-- HOST_n (R308; 4 bits). -/
  host : Nat := 15
  /-- g_n latched (R307; 4 bits). -/
  gov : Nat := 15
  /-- DRIVEN, brx_swell_o (R307; 4 bits). -/
  driven : Nat := 0
  /-- cluster current of the last pace (R160; 10 mA). -/
  cur : Nat := 0
  /-- sum over the paces of the stage so far (R294; 10 mA). -/
  curSum : Nat := 0
  /-- stage sums of the last stages, newest first (R294; up to 64). -/
  means : List Nat := []
  /-- the one-stage check of R295 failed in the last closed stage (R307; 1 bit). -/
  oneFail : Bool := false
  /-- highest stage sum of the period (R365; 10 mA). -/
  pkSum : Nat := 0
  deriving DecidableEq, Repr, Inhabited

/-- ageing record of one cluster (R290, R291). -/
structure CAge where
  /-- REF (R291; 10 bits). -/
  ref : Nat := 0
  /-- RAISE (R291; 6 bits). -/
  raise : Nat := 0
  /-- PT_FAIL (R288; 1 bit). -/
  ptFail : Bool := false
  /-- REMAIN, 10 h (R291; 15 bits). -/
  remain : Nat := 32767
  deriving DecidableEq, Repr, Inhabited

/-- activity of one cluster (R67, R68, R353). -/
structure CEn where
  /-- label of the last record (R67; 6 bits). -/
  label : Nat := 0
  /-- counts of the last record (R67; 8 x 12 bits). -/
  counts : Tab 8 Nat := Tab.replicate 8 0
  /-- a record for the awaited pace has been accepted (R68; 1 bit). -/
  got : Bool := false
  /-- the cluster was in Active or Rest at cycle 0 of the pace whose records are awaited: one is due (R68; 1 bit). -/
  has : Bool := false
  /-- the same for the present pace (R68; 1 bit). -/
  hasNext : Bool := false
  deriving DecidableEq, Repr, Inhabited

/-- everything Bruxon holds for one cluster. -/
structure Cluster where
  /-- voltage (R23; unit). -/
  v : CVolt := {}
  /-- power state (R276; unit). -/
  s : CSt := {}
  /-- wake (R148; unit). -/
  w : CWake := {}
  /-- cells as a group (R145; unit). -/
  k : CCells := {}
  /-- drone mode (R101; unit). -/
  d : CDrone := {}
  /-- sentinel (R196; unit). -/
  t : CSent := {}
  /-- bellows (R202; unit). -/
  b : Blw := {}
  /-- manifest (R229; unit). -/
  m : CMan := {}
  /-- governor's view (R296; unit). -/
  g : CGov := {}
  /-- ageing (R291; unit). -/
  a : CAge := {}
  /-- ΔT_n, shown in 1/256 C (R342; 1/65536 C). -/
  rise : Int := 0
  /-- activity (R67; unit). -/
  e : CEn := {}
  deriving DecidableEq, Repr, Inhabited

/-- one calibration point of a cell (R137). -/
structure CalPt where
  /-- VPT; above 560 the point is unused (R137; 10 bits). -/
  vpt : Nat := 1023
  /-- VOFS (R137; 8 bits signed). -/
  vofs : Int := 0
  /-- IGAIN (R137; 10 bits signed). -/
  igain : Int := 0
  /-- IOFS (R137; 8 bits signed). -/
  iofs : Int := 0
  /-- RON (R137; 8 bits). -/
  ron : Nat := 80
  /-- SHARE0 (R137; -32..31). -/
  share0 : Int := 0
  /-- VDO (R137; 8 bits). -/
  vdo : Nat := 100
  deriving DecidableEq, Repr, Inhabited

/-- one regulator cell (R134 to R147). -/
structure Cell where
  /-- MODE (R136; 2 bits). -/
  mode : CellMode := .off
  /-- MODE of the command word of the present pace (R136; 2 bits). -/
  cmdMode : CellMode := .off
  /-- flags of the health checks in the status word of the last pace (R136; 3 bits). -/
  flags : Nat := 0
  /-- integral of the error in the local loop (R134; 1 uV). -/
  integral : Int := 0
  /-- u_c at the last local sample (R134; 1 mA). -/
  loopOut : Int := 0
  /-- I_cmd,c at the last local sample (R134; 1 mA). -/
  command : Int := 0
  /-- current that the pass-device drive sets (R134, R135; 1 mA). -/
  drive : Nat := 0
  /-- CAUSE (R144; 3 bits). -/
  cause : CellCause := .none
  /-- CAL_DEFAULT (R137, R140; 1 bit). -/
  calDefault : Bool := false
  /-- LIMITING of the last pace (R135; 1 bit). -/
  limiting : Bool := false
  /-- the limit has acted in the present pace (R135; 1 bit). -/
  limNow : Bool := false
  /-- SHARE_c (R142; -32..31). -/
  share : Int := 0
  /-- RON interpolated (R138; 8 bits). -/
  ron : Nat := 80
  /-- VDO interpolated (R138; 8 bits). -/
  vdo : Nat := 100
  /-- CURR I_c of the last pace, 1 mA (R136; 12 bits). -/
  curr : Nat := 0
  /-- LIMIT_PACES of the period (R135; 16 bits). -/
  limitPaces : Nat := 0
  /-- SETPOINT of the command word (R136, R167; 10 bits). -/
  setpoint : Nat := 0
  /-- FF of the command word (R136, R231; 8 bits). -/
  ff : Nat := 0
  /-- VOFS of the trim word (R136, R138; 8 bits signed). -/
  vofs : Int := 0
  /-- IGAIN of the trim word (R136, R138; 10 bits signed). -/
  igain : Int := 0
  /-- IOFS of the trim word (R136, R138; 8 bits signed). -/
  iofs : Int := 0
  /-- bracket: the used points that enclose the set-point (one at an end, none when the cell has no used point) (R138, R139; up to 2). -/
  pts : List CalPt := []
  /-- set-point for which the bracket was taken (R139; whole code). -/
  ptsAt : Int := 0
  /-- isolation in progress (steps 1 and 2) (R145; cause). -/
  isoAt : Option CellCause := none
  /-- it regulates in a retest, out of LIVE_MASK (R289; 1 bit). -/
  retest : Bool := false
  /-- paces that met the open condition (R144; count to 4). -/
  openRun : Nat := 0
  /-- paces that met the share condition (R144; count to 64). -/
  shareRun : Nat := 0
  deriving DecidableEq, Repr, Inhabited

/-- state of one section of a loop slot (R162). -/
structure SecSt where
  /-- x1 (R162; 16 bits signed). -/
  x1 : Int := 0
  /-- x2 (R162; 16 bits signed). -/
  x2 : Int := 0
  /-- y1 (R162; 16 bits signed). -/
  y1 : Int := 0
  /-- y2 (R162; 16 bits signed). -/
  y2 : Int := 0
  /-- residue (R162; 16 bits signed). -/
  r : Int := 0
  deriving DecidableEq, Repr, Inhabited

/-- state part of one loop slot (R153, R162 to R170). -/
structure SlotSt where
  /-- section states (R162; 4 sections). -/
  secs : Tab 4 SecSt := Tab.replicate 4 {}
  /-- OUT (R163; 16 bits signed). -/
  out : Int := 0
  /-- value held at its destination (after conversion and hard clamp) (R166; code). -/
  dest : Int := 0
  /-- SAT_HI (R164; 1 bit). -/
  satHi : Bool := false
  /-- SAT_LO (R164; 1 bit). -/
  satLo : Bool := false
  /-- SS_ACTIVE (R168; 1 bit). -/
  ss : Bool := false
  /-- soft start armed, first evaluation not yet made (R168; 1 bit). -/
  ssFirst : Bool := false
  /-- soft-start reference r_s (R168; 0.25 mV). -/
  rs : Int := 0
  /-- HELD (R170; 1 bit). -/
  held : Bool := false
  /-- OFF (R169; 1 bit). -/
  off : Bool := true
  /-- STEP_LIMIT (R166; 1 bit). -/
  stepLim : Bool := false
  /-- evaluated in the present pace: its result takes effect at the next cycle 0 (R174; 1 bit). -/
  wrote : Bool := false
  deriving DecidableEq, Repr, Inhabited

/-- one converter channel (R177, R181, R194). -/
structure Chan where
  /-- VALUE (R181, R185; 16 bits). -/
  value : Int := 0
  /-- FRESH (R181; 1 bit). -/
  fresh : Bool := false
  /-- STALE (R181; 1 bit). -/
  stale : Bool := false
  /-- URGENT (R185; 1 bit). -/
  urgent : Bool := false
  /-- ALARM (R194; 1 bit). -/
  alarm : Bool := false
  /-- AGE (R195; 8 bits). -/
  age : Nat := 0
  /-- snapshot value of the present pace (R181; 16 bits). -/
  snap : Int := 0
  /-- snapshot aged: no result since the previous one at low power (R187; 1 bit). -/
  aged : Bool := false
  /-- a first result has been written since the converters started (R182; 1 bit). -/
  seen : Bool := false
  /-- window LO (R194; 16 bits). -/
  lo : Nat := 0
  /-- window HI (R194; 16 bits). -/
  hi : Nat := 0xFFFF
  /-- window EN (R194; 1 bit). -/
  en : Bool := false
  /-- window N (R194; 4 bits). -/
  n : Nat := 4
  /-- RUN (R194; 4 bits). -/
  run : Nat := 0
  deriving DecidableEq, Repr, Inhabited

/-- one converter (R176 to R193). -/
structure Conv where
  /-- CAL_MODE: 1 background (R193; 1 bit). -/
  calMode : Bool := true
  /-- POWER_MODE: 1 AUTO (R193; 1 bit). -/
  auto : Bool := false
  /-- LOW_POWER (R186; 1 bit). -/
  lowPower : Bool := false
  /-- the pace is spent biasing up (R186; 1 bit). -/
  bias : Bool := false
  /-- CAL_BUSY (R189; 1 bit). -/
  calBusy : Bool := false
  /-- SEQ_FAIL (R179; 1 bit). -/
  seqFail : Bool := false
  /-- URG_DROP (R183; 1 bit). -/
  urgDrop : Bool := false
  /-- IDLE_MIN of the period (R195; 8 bits). -/
  idleMin : Nat := 128
  /-- urgent queue, oldest first (R183; up to 4). -/
  urgQ : List Nat := []
  /-- CAL_REJECTS (R191; 4 bits). -/
  calRejects : Nat := 0
  /-- SPARE_STAGE (R192; 4 bits). -/
  spareStage : Nat := 0
  /-- stage in which the spare took its place (R192; stage). -/
  spareSince : Nat := 0
  /-- W_s of the pipeline stages (R192; 10 weights). -/
  weights : Tab 10 Int := Tab.replicate 10 0
  /-- OFS (fused at power-up) (R188; 16 bits signed). -/
  ofs : Int := 0
  /-- GAIN (fused at power-up) (R188; 16 bits). -/
  gain : Nat := 16384
  /-- accepted coefficients that take effect at the next cycle 0 (R188, R189; coefficients). -/
  coefNext : Option (Int × Nat) := none
  /-- sequence in force (loaded from ROM at power-up) (R178, R180; 64 words). -/
  seq : Tab 64 (BitVec 32) := Tab.replicate 64 0
  /-- shadow sequence (R179; 64 words). -/
  shadow : Tab 64 (BitVec 32) := Tab.replicate 64 0
  /-- SEQ_SWAP set, validation under way (R179; 1 bit). -/
  swapReq : Bool := false
  /-- pace at whose cycle 0 the accepted sequence takes effect (R179; pace). -/
  swapWait : Option Nat := none
  /-- pace whose cycle 0 a sequence accepted for this SEQ_SWAP meets (R179; pace). -/
  swapAt : Nat := 0
  /-- channel, result and writing cycle of BRX_ADC_URG_RES_u (R185; 32 bits). -/
  urgRes : Option (Nat × Nat × Nat) := none
  /-- accepted sequence that waits for its pace (R179; 64 words). -/
  seqNext : Tab 64 (BitVec 32) := Tab.replicate 64 0
  /-- moment of a SEQ_SWAP written while the last one is validated (R10, R179; model time). -/
  swapAgain : Option Nat := none
  /-- positions of the present pace that have passed (R176; position). -/
  pos : Nat := 0
  /-- conversion displaced by one position (R184; channel). -/
  carry : Option Nat := none
  /-- samples whose results are to be written, oldest first (R176, R185; list). -/
  pipe : List AdcSample := []
  /-- conversions scheduled so far in the present pace (R181; channels). -/
  due : List Nat := []
  /-- calibration samples of the collection in progress (R189, R191; 0 to 512). -/
  calNum : Nat := 0
  /-- first pace of the system calibration (R189; pace). -/
  calFrom : Nat := 0
  /-- moment at which the last code of a complete collection is there (R189, R191; model time). -/
  calEnd : Option Nat := none
  /-- new coefficients of a system calibration wait for the next cycle 0 (R189; 1 bit). -/
  calAccept : Bool := false
  deriving DecidableEq, Repr, Inhabited

/-- one slot of the manifest store (R221 to R228). -/
structure ManSlot where
  /-- sequence held or fetched (R222; sequence q). -/
  seq : Option Nat := none
  /-- its block index (R222; 16 bits). -/
  block : Nat := 0
  /-- stored with its trailer checks passed (R223; 1 bit). -/
  stored : Bool := false
  /-- first stage at whose opening edge the block stood stored (R223; stage). -/
  storedIn : Nat := 0
  /-- its fetch was refused (R224; 1 bit). -/
  refused : Bool := false
  /-- its trailer condemned the whole block (R225; 1 bit). -/
  condemned : Bool := false
  /-- its lateness has been judged (R223; 1 bit). -/
  lateDone : Bool := false
  /-- tile g stored and good (R225; 9 bits). -/
  tileOk : Tab 9 Bool := Tab.replicate 9 false
  /-- clusters whose forecast a ramp rule removed (R227; clusters). -/
  rampBad : List Nat := []
  /-- forecast code of p15 of each cluster's last entry, none for NONE (R226; codes). -/
  p15 : Tab 144 (Option Nat) := Tab.replicate 144 none
  deriving DecidableEq, Repr, Inhabited

/-- a MANIFEST_RELEASE waiting for its edge (R238). -/
structure ManRel where
  /-- the command to answer (R238; command). -/
  pkt : Packet := default
  /-- stage opened by the edge E (R238; stage). -/
  edge : Nat := 0
  deriving DecidableEq, Repr, Inhabited

/-- the manifest engine (R216 to R240). -/
structure Man where
  /-- STATE (R239, R240; 2 bits). -/
  st : ManState := .empty
  /-- ADDR of the image (R236; 64 bits). -/
  addr : Nat := 0
  /-- IMAGE_LEN (R236; 32 bits). -/
  len : Nat := 0
  /-- FREQ of the header (R216; 7 bits). -/
  freq : Nat := 0
  /-- STEP_MIN of the header (R216, R240; 6 bits). -/
  stepMin : Nat := 0
  /-- LOOP_EN of the header (R216, R240; 1 bit). -/
  loopEn : Bool := false
  /-- NBLK of the header (R216, R240; 16 bits). -/
  nblk : Nat := 0
  /-- LOOP of the header (R216; 16 bits). -/
  loop : Nat := 0
  /-- S0; 0 unless Running (R222, R237; 48 bits). -/
  s0 : Nat := 0
  /-- slots of the store (R221; 14 slots). -/
  slots : Tab 14 ManSlot := Tab.replicate 14 {}
  /-- LIFT_MAX (R237, R240; 2 bits). -/
  liftMax : Nat := 2
  /-- the values of LIFT_MAX that wait for their stages, by stage and in the order accepted (R237; stages, codes). -/
  lifts : List (Nat × Nat) := []
  /-- the MANIFEST_LOAD in progress (R236; command). -/
  load : Option Packet := none
  /-- stage opened by the edge of the load's deadline (R236; stage). -/
  due : Nat := 0
  /-- the header of the load has been accepted (R236; 1 bit). -/
  hdrDone : Bool := false
  /-- stage at whose opening edge the manifest is unloaded (R238; stage). -/
  unloadAt : Option Nat := none
  /-- releases waiting for their edge (R238; list). -/
  rels : List ManRel := []
  /-- EV_MANIFEST_END has been raised for the running manifest (R240; 1 bit). -/
  endDone : Bool := false
  deriving DecidableEq, Repr, Inhabited

/-- one caravan record (R241). -/
structure CvnRec where
  /-- ID (R241; 16 bits). -/
  id : BitVec 16 := 0
  /-- STATE (R241; 3 bits). -/
  st : CvnState := .free
  /-- staged items, in staging order (R246; up to 1024). -/
  items : List Item := []
  /-- ITEMS (R259; 11 bits). -/
  count : Nat := 0
  /-- TIMEOUT (R243; stages). -/
  timeout : Nat := 256
  /-- stage of the last arrival (R244; stage). -/
  lastArr : Nat := 0
  /-- LEVEL_BIND level (R254; level). -/
  bind : Option Nat := none
  /-- TARGETED (R250; 1 bit). -/
  targeted : Bool := false
  /-- stage opened by the effect edge, 0 unless Committed (R251; 48 bits). -/
  edge : Nat := 0
  /-- order in which the commit reached the unit, or the abort's age (R251; count). -/
  order : Nat := 0
  /-- last CAUSE (R258; 4 bits). -/
  cause : Nat := 0
  /-- the CARAVAN_COMMIT to be answered (R257; command). -/
  tag : Option Packet := none
  /-- passed the edge check (R252; 1 bit). -/
  passed : Bool := false
  deriving DecidableEq, Repr, Inhabited

/-- one entry of the guarantee table (R309, R312). -/
structure Guarantee where
  /-- GID, 0 free (R309; 16 bits). -/
  gid : Nat := 0
  /-- KIND (R309; 2 bits). -/
  kind : Nat := 0
  /-- PREC (R309; 6 bits). -/
  prec : Nat := 0
  /-- LABEL, 127 none (R309; 7 bits). -/
  label : Nat := 127
  /-- REQ (R309; 16 bits). -/
  req : Nat := 0
  /-- KEPT (R312; 16 bits). -/
  kept : Nat := 0
  /-- DEGRADED (R312; 1 bit). -/
  degraded : Bool := false
  /-- AMOUNT as requested (R309; 32 bits). -/
  amount : Nat := 0
  /-- in effect: the latch edge after its reply has passed (R311; 1 bit). -/
  active : Bool := false
  /-- its reply has been written (R311; 1 bit). -/
  told : Bool := false
  /-- revoked, leaves at the next latch edge (R314; 1 bit). -/
  leaving : Bool := false
  deriving DecidableEq, Repr, Inhabited

/-- a window limit (R296). -/
structure Lim where
  /-- LIMIT (reset per R296) (R296; 16 bits). -/
  limit : Nat := 0
  /-- window length in stages or periods (R296; 1..64). -/
  len : Nat := 1
  /-- stages closed since the write, or period closes since it, the close of the period written in among them (R297; count). -/
  since : Nat := 0
  /-- written at the edge whose stage has yet to close (R297; 1 bit). -/
  fresh : Bool := false
  deriving DecidableEq, Repr, Inhabited

/-- the stage frame (R34 to R41, R33). -/
structure Clk where
  /-- brx_stage_tick_o (R35; 1 bit). -/
  tick : Bool := false
  /-- stage counter S (R38; 48 bits). -/
  stage : Nat := 0
  /-- STAGE_HI, bits [47:32] latched by the last read of BRX_STAGE_LO (R40; 16 bits). -/
  hiLatch : Nat := 0
  /-- current pace (R40; 4 bits). -/
  pace : Nat := 0
  /-- TRIM of the current stage (R36, R40; 2 bits). -/
  trim : Trim := .none
  /-- the previous stage was trimmed (never two in a row) (R36; 1 bit). -/
  trimmedLast : Bool := false
  /-- the stage generator runs (R39, R418; 1 bit). -/
  running : Bool := false
  /-- Bruxon cycles since power-on, 1 ns each (R34; model time). -/
  now : Nat := 0
  /-- edge cycle of the current stage (R34; model time). -/
  stageStart : Nat := 0
  /-- cycle 0 of the current pace (R29; model time). -/
  paceStart : Nat := 0
  /-- paces begun since power-on (R151; count). -/
  paceNo : Nat := 0
  /-- the stage edge has been applied and the boundary of its p0 has not (R31, R29; 1 bit). -/
  p0Pending : Bool := false
  /-- length of the last closed stage (R36, R294; cycles). -/
  lastLen : Nat := 10240
  /-- reference cycles counted from the edge of stage 0 to the current edge (R33, R37; reference cycles). -/
  refCount : Nat := 0
  /-- next millisecond mark (R33; reference cycles). -/
  nextMark : Nat := 100000
  /-- a mark has been reached: the period closes at this edge (R33; 1 bit). -/
  periodDue : Bool := false
  /-- number of the current accounting period (R33, R364; 32 bits). -/
  periodSeq : Nat := 0
  /-- first stage of the current period (R33; 48 bits). -/
  periodFirst : Nat := 0
  /-- length of the current period so far (R33, R37; reference cycles). -/
  periodCycles : Nat := 0
  /-- value returned by the last host read (R69, R449; 32 bits). -/
  lastRead : BitVec 32 := 0
  /-- effects that fall in a cycle yet to come, oldest first (R109, R116, R117, R131, R132, R140; list). -/
  soon : List SoonEnt := []
  deriving DecidableEq, Repr, Inhabited

/-- deadline status (R45). -/
structure Dl where
  /-- BRX_DL_STATUS: ENGINE, TASK, REPLY, ADC, MANIFEST, LEVEL, FRAME, WAKE (R45; 8 bits). -/
  status : BitVec 8 := 0
  /-- ENGINE_MISSES (R45; 16 bits). -/
  engineMisses : Nat := 0
  /-- TASK_MISSES (R45; 16 bits). -/
  taskMisses : Nat := 0
  deriving DecidableEq, Repr, Inhabited

/-- the always-on controller, the islands and reset (R17, R79 to R81, R283, R284, R448 to R459). -/
structure Sys where
  /-- brx_por_n_i has been sampled at 1 (R79; 1 bit). -/
  porHigh : Bool := false
  /-- brx_pwr_req_i after its filter (R79; 1 bit). -/
  pwrReq : Bool := false
  /-- control island: off, switched on, clock started, copying, up (R17, R283; state). -/
  island : Island := .off
  /-- closing of the control-island switch (R283; model time). -/
  switchAt : Nat := 0
  /-- progress of a descent to Cold (R284; state). -/
  descent : Descent := .none
  /-- chip state (R282; 2 bits). -/
  chip : Chip := .cold
  /-- brx_pwr_good_o (R81; 1 bit). -/
  powerGood : Bool := false
  /-- brx_warm_rst_n_i sampled low: a warm reset is in progress (R452; 1 bit). -/
  warmLow : Bool := false
  /-- SCRATCH, kept in the always-on island (R458; 32 bits). -/
  scratch : BitVec 32 := 0
  /-- POWER_UP (R459; 1 bit). -/
  powerUp : Bool := true
  /-- WARM (R459; 1 bit). -/
  warm : Bool := false
  /-- WARM_COUNT (R459; 8 bits). -/
  warmCount : Nat := 0
  /-- BRX_RESET_STAGE (R459; 32 bits). -/
  resetStage : BitVec 32 := 0
  /-- doorbell sampled while the warm reset is low (R452; 8 bits). -/
  heldDoorbell : Option Nat := none
  /-- mailbox GO sampled while the warm reset is low (R452; 1 bit). -/
  heldGo : Bool := false
  /-- brx_sa_ret_req_o (R74, R76; 64 bits). -/
  saReq : Tab 64 Bool := Tab.replicate 64 false
  /-- brx_sa_ret_ack_i as last sampled (R74; 64 bits). -/
  saAck : Tab 64 Bool := Tab.replicate 64 false
  /-- brx_sa_pinned_i as last sampled (R74; 64 bits). -/
  saPinned : Tab 64 Bool := Tab.replicate 64 false
  /-- SENSOR_TRIP armed (R393; 1 bit). -/
  armSensorTrip : Bool := false
  /-- CHIP_DRONE armed (R393; 1 bit). -/
  armChipDrone : Bool := false
  deriving DecidableEq, Repr, Inhabited

/-- the part's fuses and factory record (R264, R391, R418, R448). -/
structure Fuses where
  /-- STEPPING (R448, R456; 8 bits). -/
  stepping : Nat := 1
  /-- boot ROM version (R448; 32 bits). -/
  romVersion : BitVec 32 := 1
  /-- die identity (R391; 64 bits). -/
  dieId : BitVec 64 := 0
  /-- GRADE (R264; 8 bits). -/
  grade : Nat := 1
  /-- GF_0 to GF_15, the grade 0x01 table (R264; 16 x 7 bits). -/
  gf : Tab 16 Nat := gradeOneTable
  /-- BOOST_CEIL (R264; 7 bits). -/
  boostCeil : Nat := 80
  /-- phase group of spares ph124 to ph127 (the reset column of BRX_CAP_SPARE) (R90, R457; 4 x 8 bits). -/
  spareGroup : Tab 4 Nat := ⟨[5, 6, 12, 13], rfl⟩
  /-- anti-rollback counter (R421; 0 to 63). -/
  counter : Nat := 0
  /-- factory diode gain (R340; 16 bits). -/
  diodeGain : Nat := 41947
  /-- fused OFS_e of each converter (R188; 16 bits signed). -/
  adcOfs : Tab 16 Int := Tab.replicate 16 0
  /-- fused GAIN_e of each converter (R188; 16 bits). -/
  adcGain : Tab 16 Nat := Tab.replicate 16 16384
  /-- curve tiles of the factory record; none where it lacks the section (R418; factory record). -/
  curves : Tab 9 (Option (Tab 16 (Tab 16 CurvePt))) := Tab.replicate 9 none
  /-- calibration points of the factory record, per cell (R418; factory record). -/
  cells : List (Nat × List CalPt) := []
  /-- thermal model of the factory record (R341, R418; factory record). -/
  therm : Option ThermModel := none
  /-- corner table bytes of the factory record (R310, R418; factory record). -/
  corner : Option (List Nat) := none
  deriving DecidableEq, Repr, Inhabited

/-- one command taken and not yet replied (R373, R381). -/
structure InFlight where
  /-- ring slot or mailbox (R373; slot). -/
  org : Origin := .mailbox
  /-- SEQ (R378; 16 bits). -/
  seq : Nat := 0
  /-- OPCODE (R378; 16 bits). -/
  opcode : Nat := 0
  /-- processed before every non-urgent command (R381; 1 bit). -/
  urgent : Bool := false
  /-- CARAVAN id of a member (R245; 16 bits). -/
  caravan : Option Nat := none
  /-- stage of the doorbell or GO from which the deadline counts (R42; stage). -/
  since : Nat := 0
  /-- edge at which the reply deadline expires; none for a deadline its opcode sets later (R42; stage). -/
  due : Option Nat := none
  /-- FLT_REPLY_LATE has been raised (R42; 1 bit). -/
  late : Bool := false
  /-- taken; taken effect and carried by hardware or firmware (R453; state). -/
  effect : Effect := .taken
  /-- a check of steps 1 to 8 has failed: its rejection waits for its turn (R378; status, data). -/
  fails : Option (Status × List Byte) := none
  /-- indirect payload being fetched (R378; ADDR, PLEN, PCRC). -/
  desc : Option (Nat × Nat × Nat) := none
  /-- the read of the indirect payload has been issued (R378, R374; 1 bit). -/
  asked : Bool := false
  /-- payload held (R378; bytes). -/
  payload : List Byte := []
  deriving DecidableEq, Repr, Inhabited

/-- command interface (R369 to R383, R453 to R455). -/
structure Cmd where
  /-- BRX_CMD_BASE_LO (R375; 32 bits). -/
  cmdLo : BitVec 32 := 0
  /-- BRX_CMD_BASE_HI (R375; 32 bits). -/
  cmdHi : BitVec 32 := 0
  /-- BRX_RPL_BASE_LO (R375; 32 bits). -/
  rplLo : BitVec 32 := 0
  /-- BRX_RPL_BASE_HI (R375; 32 bits). -/
  rplHi : BitVec 32 := 0
  /-- BRX_EVT_BASE_LO (R375; 32 bits). -/
  evtLo : BitVec 32 := 0
  /-- BRX_EVT_BASE_HI (R375; 32 bits). -/
  evtHi : BitVec 32 := 0
  /-- CMD_EN (R371; 1 bit). -/
  cmdEn : Bool := false
  /-- RPL_EN (R371; 1 bit). -/
  rplEn : Bool := false
  /-- EVT_EN (R371; 1 bit). -/
  evtEn : Bool := false
  /-- HEAD of the command ring (R370; 8 bits). -/
  cmdHead : Nat := 0
  /-- TAIL of the last doorbell (R370; 8 bits). -/
  cmdTail : Nat := 0
  /-- BRX_RPL_HEAD (R370; 8 bits). -/
  rplHead : Nat := 0
  /-- BRX_RPL_TAIL (R370; 8 bits). -/
  rplTail : Nat := 0
  /-- BRX_EVT_HEAD (R370; 10 bits). -/
  evtHead : Nat := 0
  /-- BRX_EVT_TAIL (R370; 10 bits). -/
  evtTail : Nat := 0
  /-- slots covered by a doorbell and not yet taken, with the stage of the first doorbell that covers each (R372; slots). -/
  covered : List (Nat × Nat) := []
  /-- of those, how many have been requested by DMA (R372; count). -/
  asked : Nat := 0
  /-- slots fetched and not yet taken, in ring order; none for an ERROR (R372; slots). -/
  fetched : List (Option (List Byte)) := []
  /-- covered slots whose passed reply deadline has been reported (R42, R45; slots). -/
  lateSlots : List Nat := []
  /-- commands in flight, in order of taking (R373; up to 17). -/
  inflight : List InFlight := []
  /-- reply hold, in order of completion (R374; up to 16). -/
  hold : List Reply := []
  /-- cycle in which the last command took effect (R382; model time). -/
  tookAt : Option Nat := none
  /-- BRX_MBX_CMD_w (R376; 16 words). -/
  mbxCmd : Tab 16 (BitVec 32) := Tab.replicate 16 0
  /-- BRX_MBX_RPL_w (R376; 8 words). -/
  mbxRpl : Tab 8 (BitVec 32) := Tab.replicate 8 0
  /-- BUSY (R376; 1 bit). -/
  mbxBusy : Bool := false
  /-- DONE (R376; 1 bit). -/
  mbxDone : Bool := false
  /-- DROP (R376; 1 bit). -/
  mbxDrop : Bool := false
  /-- commands that have taken effect and apply at the next cycle 0 of a pace (R382; commands). -/
  next : List Deferred := []
  /-- changes of SET_LIMITS and of SET_LEVEL OP 0x01, already answered, that take effect at the next stage edge (R296, R304; changes). -/
  quiet : List Act := []
  /-- DIAG_READ_TRACE copies in progress (R399; requests). -/
  traceReq : List TraceCopy := []
  deriving DecidableEq, Repr, Inhabited

/-- event path (R384 to R388, R460, R461). -/
structure Evt where
  /-- event queue, oldest first (R385; up to 64). -/
  queue : List Event := []
  /-- reserved entry (R385, R386; 1 entry). -/
  reserved : Option Event := none
  /-- events of the queue that are older than the reserved entry (R385; count). -/
  reservedAfter : Nat := 0
  /-- events raised in the present cycle, not yet in order of code (R50; events). -/
  fresh : List Event := []
  /-- LOST (R386, R388; 16 bits). -/
  lost : Nat := 0
  /-- urgent events among LOST (R386; 16 bits). -/
  lostUrgent : Nat := 0
  /-- code of the first event discarded (R386; 16 bits). -/
  lostFirst : Nat := 0
  /-- SEQ of the next event (R384; 16 bits). -/
  seq : Nat := 0
  /-- BRX_EVT_CAUSE (R387, R388; 12 bits). -/
  cause : BitVec 12 := 0
  /-- CAT_MASK (R388; 16 bits). -/
  catMask : BitVec 16 := 0
  /-- masked codes (R388; up to 32). -/
  codes : List Nat := []
  /-- MASKED (R388; 16 bits). -/
  masked : Nat := 0
  /-- SENT of each vector (R461; 4 x 16 bits). -/
  irqSent : Tab 4 Nat := Tab.replicate 4 0
  /-- codes and sources raised in this period, with the misses counted since (R45, R403; table). -/
  once : List OnceEnt := []
  /-- counts of the period before, carried by the first event of this period (R45; table). -/
  prev : List OnceEnt := []
  /-- the model's own field: moment of the bits in setNow (R9; model time). -/
  setAt : Nat := 0
  /-- the model's own field: write-1-to-clear bits set at that moment (offset and bit), which a clear in the same cycle leaves set (R9; list). -/
  setNow : List (Nat × Nat) := []
  /-- signals of vector 2 that wait for vector 1, whose event of the same cycle has yet to be written (R50; count). -/
  held2 : Nat := 0
  deriving DecidableEq, Repr, Inhabited

/-- the trace (R399, R428). -/
structure Trc where
  /-- NEXT (R399; 32 bits). -/
  next : Nat := 0
  /-- records held, newest first (R399; up to 8,192). -/
  recs : List TraceRec := []
  /-- TRACE_LOST (R428; 8 bits). -/
  lost : Nat := 0
  deriving DecidableEq, Repr, Inhabited

/-- tile-check entry of one sealed tile (R431). -/
structure TileSt where
  /-- CRC-32C of the tile (R431; 32 bits). -/
  crc : BitVec 32 := 0
  /-- BAD (R431; 1 bit). -/
  bad : Bool := false
  deriving DecidableEq, Repr, Inhabited

/-- Ledger RAM (R426 to R432). -/
structure Led where
  /-- bytes that differ from what an unlisted byte reads as (outside the trace) (R426; 1 MiB). -/
  ram : List Host.Cell := []
  /-- tile-check array (R431; 640 entries). -/
  tiles : Tab 640 TileSt := Tab.replicate 640 {}
  /-- 32-bit words with a parity error (R430; addresses). -/
  parityBad : List Nat := []
  /-- PARITY_ERRS (R430; 16 bits). -/
  parityErrs : Nat := 0
  /-- seal write in progress by firmware (R432; tile). -/
  sealBusy : Option Nat := none
  /-- TILE of BRX_SEAL_CTRL (R417; 10 bits). -/
  sealTile : Nat := 0
  /-- REFUSED (R417; 1 bit). -/
  sealRefused : Bool := false
  /-- seal buffer (R416, R432; 1 KiB). -/
  sealBuf : List Byte := List.replicate 1024 0
  /-- tiles held in the tile buffer, most recently used first (R432; up to 8). -/
  tileBuf : List Nat := []
  /-- calibration tiles requested for brackets and not yet read, oldest first (R139; tiles). -/
  calReq : List Nat := []
  /-- calibration tile that the scrub reads next (R139; 8 bits). -/
  scrubNext : Nat := 0
  deriving DecidableEq, Repr, Inhabited

/-- firmware load and personality (R417 to R425). -/
structure Fw where
  /-- MARK, the stage-done marker (R417; 16 bits). -/
  done : BitVec 16 := 0xFFFF
  /-- BRX_FW_IRQ (R417; 5 bits). -/
  irq : BitVec 5 := 0
  /-- BRX_FW_IRQ_EN (R417; 5 bits). -/
  irqEn : BitVec 5 := 0
  /-- PERSONALITY: a loaded image runs (R426, R422; 1 bit). -/
  loaded : Bool := false
  /-- FW_VALID (R422; 1 bit). -/
  valid : Bool := false
  /-- FALLBACK (R423; 2 bits). -/
  fallback : Nat := 0
  /-- RESULT (R392; 8 bits). -/
  result : Nat := 0xFF
  /-- BRX_FW_VERSION (R432; 32 bits). -/
  version : BitVec 32 := 0
  /-- BRX_FW_TRAP (R423; 32 bits). -/
  trapAddr : BitVec 32 := 0
  /-- LOADING: step and progress of the load (R422; load). -/
  load : Option FwLoad := none
  /-- ENTRY of the image in the code region (R420; address). -/
  entry : Nat := 0
  /-- CODE_LEN of the image in the code region (R420; bytes). -/
  codeLen : Nat := 0
  deriving DecidableEq, Repr, Inhabited

/-- the firmware core (R415). -/
structure Core where
  /-- the core has left reset (R418; 1 bit). -/
  on : Bool := false
  /-- x0 to x31 (R415; 32 x 32 bits). -/
  regs : Tab 32 (BitVec 32) := Tab.replicate 32 0
  /-- program counter, the boot ROM at reset (R418; 32 bits). -/
  pc : BitVec 32 := 0x00100000
  /-- mstatus.MIE (R415; 1 bit). -/
  mie : Bool := false
  /-- mstatus.MPIE (R415; 1 bit). -/
  mpie : Bool := false
  /-- mtvec (R415; 32 bits). -/
  mtvec : BitVec 32 := 0
  /-- mepc (R415; 32 bits). -/
  mepc : BitVec 32 := 0
  /-- mcause (R415; 32 bits). -/
  mcause : BitVec 32 := 0
  /-- mtval (R415; 32 bits). -/
  mtval : BitVec 32 := 0
  /-- mie.MEIE (R415; 1 bit). -/
  meie : Bool := false
  /-- mscratch (R415; 32 bits). -/
  mscratch : BitVec 32 := 0
  /-- mcycle (R415; 64 bits). -/
  mcycle : BitVec 64 := 0
  /-- minstret (R415; 64 bits). -/
  minstret : BitVec 64 := 0
  /-- IN_TRAP (R423; 1 bit). -/
  inTrap : Bool := false
  deriving DecidableEq, Repr, Inhabited

/-- the debug port (R433 to R446). -/
structure Dbg where
  /-- UNLOCKED (R446; 1 bit). -/
  unlocked : Bool := false
  /-- HALTED (R446; 1 bit). -/
  halted : Bool := false
  /-- CAUSE (R446; 3 bits). -/
  cause : Nat := 0
  /-- BP_INDEX (R446; 3 bits). -/
  bpIndex : Nat := 0
  /-- AUTH_FAILS, kept in the always-on island (R446; 8 bits). -/
  authFails : Nat := 0
  /-- challenge outstanding (R436, R446; 128 bits). -/
  challenge : Option (BitVec 128) := none
  /-- period closes since its issue (R437; count to 100). -/
  challengeAge : Nat := 0
  /-- 0, or 1 more than the period closes until challenges may be issued again (R437; count to 1,001). -/
  withheld : Nat := 0
  /-- response words loaded (R437; 8 words). -/
  response : Tab 8 (BitVec 32) := Tab.replicate 8 0
  /-- BRX_DBG_MATCH_k (R442, R446; 12 words). -/
  match_ : Tab 12 (BitVec 32) := Tab.replicate 12 0
  /-- DCTRL.EBREAK_HALT (R444; 1 bit). -/
  ebreakHalt : Bool := false
  /-- a HALT has been sampled and the core has not reached the boundary (R439; 1 bit). -/
  haltReq : Bool := false
  /-- an operation is in progress (R434; 1 bit). -/
  busy : Bool := false
  /-- an update was discarded: the next capture returns BUSY (R434; 1 bit). -/
  busyLost : Bool := false
  /-- the unlock check is in progress (R434, R437; 1 bit). -/
  submit : Bool := false
  /-- RDATA of the last operation (R433; 32 bits). -/
  rdata : BitVec 32 := 0
  /-- STATUS of the last operation (R434; 4 bits). -/
  status : Nat := 0
  /-- LAST_OP (R433; 4 bits). -/
  lastOp : Nat := 0
  deriving DecidableEq, Repr, Inhabited

/-- the feed follower (R98 to R100, R105). -/
structure Feed where
  /-- FLOOR, feed floor (R87, R100; 10 bits). -/
  floor : Nat := 240
  /-- FOLLOW, F in rail code (R98, R100; 10 bits). -/
  follow : Nat := 0
  /-- SETTER (R100; 8 bits). -/
  setter : Nat := 255
  /-- DRONE_SET (R100; 1 bit). -/
  droneSet : Bool := false
  /-- CAPPED (R100; 1 bit). -/
  capped : Bool := false
  /-- CHIP_DRONE (R105; 1 bit). -/
  chipDrone : Bool := false
  deriving DecidableEq, Repr, Inhabited

/-- the 12 V bus (R110). -/
structure Vin where
  /-- VIN in use, 1 mV (R110, R133; 16 bits). -/
  mv : Nat := 12000
  /-- RANGE (R110, R133; 1 bit). -/
  range : Bool := false
  /-- consecutive snapshots out of range (R110; count to 4). -/
  run : Nat := 0
  /-- a first converter result has come since power-up (R110; 1 bit). -/
  seen : Bool := false
  deriving DecidableEq, Repr, Inhabited

/-- the caravan unit (R241 to R262). -/
structure Cvn where
  /-- caravan records (R241; 4 records). -/
  recs : Tab 4 CvnRec := Tab.replicate 4 {}
  /-- LAST_CAUSE (R262; 4 bits). -/
  lastCause : Nat := 0
  /-- ABORTS of the period (R262; 16 bits). -/
  aborts : Nat := 0
  /-- next place in the order of commits and aborts (R251, R242; count). -/
  order : Nat := 0
  /-- edge whose commit cut-off has expired (R251; stage). -/
  cutoffFor : Option Nat := none
  deriving DecidableEq, Repr, Inhabited

/-- the level sequencer (R263 to R275). -/
structure Seq where
  /-- BRX_LVL_k CODE and BOOST (R263, R264; 16 x 8 bits). -/
  table : Tab 16 LvlEnt := defaultLevels
  /-- CODE in force (R266, R291; 7 bits). -/
  code : Nat := 0
  /-- LEVEL in force (R275, R291; 4 bits). -/
  level : Nat := 0
  /-- the voltage frequency that the targets follow (R268; 7 bits). -/
  vcode : Nat := 0
  /-- pending change (R266; change). -/
  pend : Option Pend := none
  /-- HOLD_REASON (R269, R291; 3 bits). -/
  holdReason : Nat := 0
  /-- FIXED, FIXED_CODE and the level or code held (R275; mode). -/
  fixed : Fixed := .off
  /-- BELOW_PL0 (R275; 1 bit). -/
  belowPl0 : Bool := false
  /-- NO_DONE_HOLD (R64; 1 bit). -/
  noDone : Bool := false
  /-- an apply has not been followed by brx_freq_done_i (R63, R64; 1 bit). -/
  awaitDone : Bool := false
  /-- FLT_FREQ_NO_DONE has been raised for the last apply (R64, R403; 1 bit). -/
  doneLate : Bool := false
  /-- code in force before the last apply (R268; 7 bits). -/
  applyOld : Nat := 0
  /-- stage of the last apply (R64; stage). -/
  applyStage : Nat := 0
  /-- code at which f_v stays until brx_freq_done_i is sampled (R268; 7 bits). -/
  fvHold : Option Nat := none
  /-- that code comes from the hold of R64: f_v follows nothing else (R268; 1 bit). -/
  fvFixed : Bool := false
  /-- conditions of boost that held when they were last looked at (R274; 5 bits). -/
  boostHeld : BitVec 5 := 0b11011#5
  /-- brx_freq_code_o (R61; 7 bits). -/
  freqOut : Nat := 0
  deriving DecidableEq, Repr, Inhabited

/-- the inputs of a due loop slot, latched at cycle 0 of the pace (R160, R161, R171, R172). -/
structure EngIn where
  /-- the slot (R171; 9 bits). -/
  slot : Nat := 0
  /-- measured value (R160; 16 bits). -/
  m : Int := 0
  /-- REF (R161; 0.25 mV). -/
  ref : Int := 0
  /-- output of the outer slot as held at cycle 0 (R171; 16 bits). -/
  outer : Int := 0
  /-- its input is stale or aged (R170; 1 bit). -/
  stale : Bool := false
  /-- its lane (R172; 4 bits). -/
  lane : Nat := 0
  /-- cycle in which its last multiply-accumulate issues (R172; cycle). -/
  last : Nat := 0
  deriving DecidableEq, Repr, Inhabited

/-- the control engine (R153 to R174). -/
structure Eng where
  /-- descriptor banks, loaded with the ROM default plan at power-up (R153, R154; 2 x 320 x 80 bytes). -/
  banks : Tab 2 (Tab 320 (Tab 20 (BitVec 32))) := Tab.replicate 2 (Tab.replicate 320 (Tab.replicate 20 0))
  /-- BANK, active bank (R153, R156; 1 bit). -/
  bank : Nat := 0
  /-- SWAP_PEND (R156; 1 bit). -/
  swapPend : Bool := false
  /-- SWAP_FAIL (R157; 1 bit). -/
  swapFail : Bool := false
  /-- FAIL_SLOT (R156; 9 bits). -/
  failSlot : Nat := 511
  /-- FAIL_REASON (R156; 4 bits). -/
  failReason : Nat := 0
  /-- WR_DROP (R158; 1 bit). -/
  wrDrop : Bool := false
  /-- stage edges since the SWAP that is pending (R157; edges). -/
  swapAge : Nat := 0
  /-- stage edges after its SWAP at which a validated swap takes effect (R157; edges). -/
  swapEdge : Option Nat := none
  /-- moment of a SWAP written while the last one is validated (R10, R156; model time). -/
  swapAgain : Option Nat := none
  /-- WORST_COST (R172; 10 bits). -/
  worst : Nat := 344
  /-- LAST_CYCLE (R173; 10 bits). -/
  lastCycle : Nat := 0
  /-- MAX_CYCLE of the period (R173; 10 bits). -/
  maxCycle : Nat := 0
  /-- OVR_SLOT (R173; 9 bits). -/
  ovrSlot : Nat := 511
  /-- slots assigned to lanes in the present pace, with their inputs (R172; up to 320). -/
  inputs : List EngIn := []
  /-- state parts (R153; 320 slots). -/
  slots : Tab 320 SlotSt := Tab.replicate 320 {}
  /-- lane and cycle of each stall of the present pace, in order (R173; list). -/
  stalls : List (Nat × Nat) := []
  deriving DecidableEq, Repr, Inhabited

/-- an ADC_CALIBRATE_SYSTEM in progress (R189, R190). -/
structure AdcCal where
  /-- the command to answer (R190; command). -/
  pkt : Packet := default
  /-- masked converters that have not finished (R190; 16 bits). -/
  left : Nat := 0
  /-- RESULT_u (R190; 16 bytes). -/
  results : Tab 16 Nat := Tab.replicate 16 4
  /-- stage opened by the edge of its reply deadline (R190; stage). -/
  due : Nat := 0
  deriving DecidableEq, Repr, Inhabited

/-- the converters together (R182, R190). -/
structure Adc where
  /-- the converters run (R182; 1 bit). -/
  on : Bool := false
  /-- system calibrations in progress (R190; list). -/
  cals : List AdcCal := []
  deriving DecidableEq, Repr, Inhabited

/-- chip-wide settings of the transient lines (R203, R211). -/
structure BlwCfg where
  /-- FIRE_WIN (R204; 4 bits). -/
  fireWin : Nat := 8
  /-- FIRE_I (R204; 4 bits). -/
  fireI : Nat := 6
  /-- SETTLE (R211; 4 bits). -/
  settle : Nat := 1
  /-- last cycle in which a charge slot freed (R208; model time). -/
  freedAt : Nat := 0
  /-- charge slots freed in that cycle (R208; count). -/
  freedCnt : Nat := 0
  deriving DecidableEq, Repr, Inhabited

/-- what the window integrators hold of the last closed stage for the governor (R294, R300). -/
structure GovIn where
  /-- a stage has closed since power-up (R294; 1 bit). -/
  valid : Bool := false
  /-- labels of the activity records of the stage (R303; 64 bits). -/
  labels : BitVec 64 := 0
  deriving DecidableEq, Repr, Inhabited

/-- the currents of one rail that an evaluation rests on (R300). -/
structure RailEst where
  /-- for the window limit (R300; 0.25 A). -/
  win : Frac := {}
  /-- for the millisecond limit (R300; 0.25 A). -/
  ms : Frac := {}
  /-- stage sum of the evaluated stage (R300; 0.25 A / 16). -/
  stage : Int := 0
  deriving DecidableEq, Repr, Inhabited

/-- results of a governor evaluation, as latched (R299 to R315). -/
structure GovEval where
  /-- E_CEIL (R301; 4 bits). -/
  e : Nat := 15
  /-- T_CEIL that the task used (R301; 4 bits). -/
  t : Nat := 15
  /-- FLOOR F (R310, R312; 4 bits). -/
  floorLvl : Nat := 0
  /-- a floor guarantee is in the table (R310; 1 bit). -/
  floorAny : Bool := false
  /-- C, none below PL0 (R302; 4 bits). -/
  c : Option Nat := some 15
  /-- CHOICE X (R303; 4 bits). -/
  x : Nat := 14
  /-- OUT L (R305; 4 bits). -/
  l : Nat := 0
  /-- CAP_UNREACH (R315; 1 bit). -/
  unreach : Bool := false
  /-- P_ALLOW, 1 W (R302; 16 bits). -/
  pAllow : Nat := 65535
  /-- P_WIN, 1 W (R302; 16 bits). -/
  pWin : Nat := 0
  /-- power estimate of each level, in 1 W (R300, R315; 16 values). -/
  pi : Tab 16 Frac := Tab.replicate 16 {}
  /-- L_x that the task used, 1 A (R299, R132; 12 values). -/
  segLim : Tab 12 Nat := Tab.replicate 12 0
  /-- swell code of each cluster (R307; 144 x 4 bits). -/
  g : Tab 144 Nat := Tab.replicate 144 15
  /-- largest of measure and forecast for the sustained check, in 10 mA / 1024 (R300, R313; 144 values). -/
  clSus : Tab 144 Nat := Tab.replicate 144 0
  /-- the same for the one-stage check, in 10 mA / 32 (R300, R313; 144 values). -/
  clPeak : Tab 144 Nat := Tab.replicate 144 0
  /-- the same for each segment, in 10 mA / 32 (R300, R313; 12 values). -/
  segPeak : Tab 12 Int := Tab.replicate 12 0
  /-- estimates of each rail (R300, R313; 4 rails). -/
  rails : Tab 4 RailEst := Tab.replicate 4 {}
  /-- f_c in units of 25 MHz (R300; frequency). -/
  freq : Nat := 16
  /-- LEAK of each cluster that is not Dormant, 0 for the others, in 0.05 A (R300, R313; 144 values). -/
  leak : Tab 144 Nat := Tab.replicate 144 0
  /-- the cluster was in Active or Rest (R301, R313; 144 bits). -/
  judged : Tab 144 Bool := Tab.replicate 144 false
  /-- ceilings that bounded its limits, in 10 mA (R298, R313; 144 pairs). -/
  ceil : Tab 144 (Nat × Nat) := Tab.replicate 144 (1250, 1800)
  /-- f_k of each level in units of 25 MHz (R300, R313; 16 values). -/
  levF : Tab 16 Nat := Tab.replicate 16 16
  /-- limit ID of the check that set H (R312; 16 bits). -/
  limId : Nat := 0xFFFF
  /-- limit ID of the limit that set B_SA (R312; 16 bits). -/
  bwId : Nat := 0xFFFF
  /-- SA_BASE that the evaluation used (R310; 0.25 A). -/
  saBase : Nat := 240
  deriving DecidableEq, Repr, Inhabited

/-- the governor (R292 to R315). -/
structure Gov where
  /-- window limits (R296; 4 limits). -/
  win : Tab 4 Lim := ⟨[{ limit := 10400 }, { limit := 800 }, { limit := 480 }, { limit := 120 }], rfl⟩
  /-- millisecond limits (R296; 4 limits). -/
  ms : Tab 4 Lim := ⟨[{ limit := 7200, since := 1 }, { limit := 800, since := 1 }, { limit := 480, since := 1 }, { limit := 120, since := 1 }], rfl⟩
  /-- CAP, 1 W (R296; 16 bits). -/
  cap : Nat := 1650
  /-- SECONDS (R296; 4 bits). -/
  seconds : Nat := 10
  /-- BOOST_EN (R296; 1 bit). -/
  boostEn : Bool := false
  /-- PREF of each label (R304; 64 x 8 bits). -/
  prefs : Tab 64 (Option Nat) := Tab.replicate 64 none
  /-- guarantee table (R309; 64 entries). -/
  guar : Tab 64 Guarantee := Tab.replicate 64 {}
  /-- sum of CURR over the paces of the stage so far (R294; 0.25 A). -/
  railSum : Tab 4 Int := Tab.replicate 4 0
  /-- sum over the paces of the stage so far of V x I over the rails, in 1/12 of 0.25 mV x 0.25 A (R294; sum). -/
  powSum : Int := 0
  /-- stage sums of each rail, newest first (R294; up to 64). -/
  railStages : Tab 4 (List Int) := Tab.replicate 4 []
  /-- sum of the stage sums of each rail in the period so far (R294; sum). -/
  railPer : Tab 4 Int := Tab.replicate 4 0
  /-- stages of each rail's sum in the period so far (R294; stages). -/
  perStages : Tab 4 Nat := Tab.replicate 4 0
  /-- sum and stage count of each rail's last periods, newest first (R294; up to 64). -/
  railPers : Tab 4 (List (Int × Nat)) := Tab.replicate 4 []
  /-- WIN_MEAN, 0.25 A (R294; 16 bits). -/
  winMean : Tab 4 Nat := Tab.replicate 4 0
  /-- MS_MEAN, 0.25 A (R294; 16 bits). -/
  msMean : Tab 4 Nat := Tab.replicate 4 0
  /-- chip energy of the period so far, 1/3.072e12 mJ (R294, R315; energy). -/
  perEnergy : Int := 0
  /-- chip energy of the last complete buckets, newest first, 1/3.072e12 mJ (R294; up to 100). -/
  buckets : List Int := []
  /-- chip energy of the bucket in progress (R294; energy). -/
  bucket : Int := 0
  /-- periods of the bucket in progress (R294; 0..99). -/
  bucketPers : Nat := 0
  /-- OVER, 1 mJ (R315; 32 bits). -/
  overMj : Nat := 0
  /-- the exact value that OVER shows rounded down (R315; energy). -/
  overFrac : Int := 0
  /-- labels of the activity records of the stage so far (R303; 64 bits). -/
  labels : BitVec 64 := 0
  /-- measures of the last closed stage (R294; unit). -/
  meas : GovIn := {}
  /-- results last latched (R299; unit). -/
  last : GovEval := {}
  /-- words the core has written to governor and swell registers of the policy shadow, in order (R417; writes). -/
  shadowW : List (Nat × BitVec 32) := []
  /-- outputs L of the consecutive evaluations above the level in force, newest first (R305; up to 8). -/
  ups : List Nat := []
  /-- the policy shadow was latched at the last stage edge (R44, R326; 1 bit). -/
  latched : Bool := false
  /-- the pending change is an upward one of the governor (R305; 1 bit). -/
  postedUp : Bool := false
  deriving DecidableEq, Repr, Inhabited

/-- what a recharacterisation has found for one cluster (R288, R289). -/
structure RecharRes where
  /-- the cluster (R286; 8 bits). -/
  n : Nat := 0
  /-- the points reached (R288; up to 16). -/
  pts : List RecharPoint := []
  /-- its search has begun (R288; 1 bit). -/
  begun : Bool := false
  /-- the points to be searched, ascending in FREQ, the one under test first (R288; up to 16). -/
  todo : List Nat := []
  /-- set-point of the run (R288; code). -/
  trial : Int := 0
  /-- pace of the run of the monitors at that set-point (R288; pace). -/
  runFrom : Option Nat := none
  /-- cells that regulate in the retest and have passed so far (R289; up to 12). -/
  cells : List Nat := []
  /-- first pace of the retest (R289; pace). -/
  retestFrom : Option Nat := none
  deriving DecidableEq, Repr, Inhabited

/-- a recharacterisation window (R286 to R291). -/
structure Rechar where
  /-- the command to answer (R286; command). -/
  pkt : Packet := default
  /-- MASK (R286; 144 bits). -/
  mask : Nat := 0
  /-- CURVE (R286; 1 bit). -/
  curve : Bool := false
  /-- CELLS (R286; 1 bit). -/
  cellsOn : Bool := false
  /-- W (R286; 48 bits). -/
  w : Nat := 0
  /-- HOURS_NOW (R286; 32 bits). -/
  now : Nat := 0
  /-- HOURS_LAST (R286; 32 bits). -/
  prev : Option Nat := none
  /-- 0 waiting for W, 1 search, 2 retests, 3 written, 4 returning to Active (R287; 0..4). -/
  step : Nat := 0
  /-- what has been found (R288; clusters). -/
  res : List RecharRes := []
  /-- reply data, formed when the tables are written (R290; 24 bytes). -/
  data : List Byte := []
  deriving DecidableEq, Repr, Inhabited

/-- a system calibration of the diode in progress (R340). -/
structure ThermCal where
  /-- the command to answer (R340; command). -/
  pkt : Packet := default
  /-- T_REF (R340; 1/16 C). -/
  tref : Int := 0
  /-- sum of the results taken with OFS 0 (R340; 1/16 C). -/
  sum : Int := 0
  /-- results taken (R340; 0..64). -/
  n : Nat := 0
  deriving DecidableEq, Repr, Inhabited

/-- thermal protection (R339 to R351). -/
structure Therm where
  /-- TEMP_d, 1/16 C (R339; 16 bits signed). -/
  temp : Int := 0
  /-- T_hot, 1/16 C (R342; 16 bits signed). -/
  hot : Int := 0
  /-- HOT_CLUSTER (R342; 8 bits). -/
  hotCl : Nat := 255
  /-- the first diode measurement since power-on reset is complete (R80; 1 bit). -/
  first : Bool := false
  /-- moment of the next diode result, once the first has come (R339; model time). -/
  nextRes : Nat := 0
  /-- brx_therm_trip_n_o is low (R79, R80; 1 bit). -/
  pinLow : Bool := true
  /-- WARN (R344; 1 bit). -/
  warn : Bool := false
  /-- THROT (R345; 1 bit). -/
  throt : Bool := false
  /-- TRIP (R347; 1 bit). -/
  trip : Bool := false
  /-- the Bruxon-domain consequences of the trip have followed (R347; 1 bit). -/
  tripSeen : Bool := false
  /-- WARN threshold, 1 C (R343; 8 bits). -/
  warnC : Nat := 95
  /-- THROT threshold, 1 C (R343; 8 bits). -/
  throtC : Nat := 105
  /-- TRIP threshold, 1 C (R343; 8 bits). -/
  tripC : Nat := 118
  /-- RESTART threshold, 1 C (R343; 8 bits). -/
  restC : Nat := 75
  /-- GRACE G, 1 ms (R345; 10 bits). -/
  grace : Nat := 20
  /-- WARN and THROT that take effect at the next stage edge (R350; thresholds). -/
  edgeCfg : Option (Nat × Nat) := none
  /-- TRIP and RESTART that take effect at the next result (R350; thresholds). -/
  resCfg : Option (Nat × Nat) := none
  /-- LEFT (R345; 10 bits). -/
  graceLeft : Nat := 0
  /-- stage of the throttle request whose grace counts (R48, R345; stage). -/
  graceAt : Nat := 0
  /-- stage opened by the edge at which the last period of the grace has closed: it expires at the next edge (R345; stage). -/
  graceDue : Option Nat := none
  /-- consecutive results at or above TRIP (R343; count to 2). -/
  tripRun : Nat := 0
  /-- consecutive results below RESTART (R348; count to 16). -/
  coolRun : Nat := 0
  /-- consecutive broken results (R349; count to 2). -/
  badRun : Nat := 0
  /-- consecutive results not broken (R349; count to 16). -/
  goodRun : Nat := 0
  /-- SENSOR_BAD (R349; 1 bit). -/
  sensorBad : Bool := false
  /-- FLT_THERM_SENSOR waits for the control island (R349; 1 bit). -/
  sensorTell : Bool := false
  /-- last TEMP_d that was not broken (R349; 1/16 C). -/
  lastGood : Int := 0
  /-- 4 x the rise at the diode at that result (R349; 1/65536 C). -/
  riseGood : Int := 0
  /-- T_CEIL (R346; 4 bits). -/
  ceil : Nat := 15
  /-- ENFORCING (R346; 1 bit). -/
  enforcing : Bool := false
  /-- periods since the last step of the ceiling (R346; 0..10). -/
  ceilPers : Nat := 0
  /-- CONTEXT_LOST (R347; 1 bit). -/
  contextLost : Bool := false
  /-- MAP_DEFAULT (R341; 1 bit). -/
  mapDefault : Bool := false
  /-- coefficients in use; clusters beyond the list take THETA 600 (R341; unit). -/
  model : ThermModel := { tau := 20, kappa := 64, theta := [] }
  /-- OFS, 1/16 C, kept across warm reset (R340; 10 bits signed). -/
  ofs : Int := 0
  /-- OFS that applies at the next result (R340; 1/16 C). -/
  ofsNext : Option Int := none
  /-- a system calibration in progress (R340; calibration). -/
  cal : Option ThermCal := none
  /-- consecutive accounting periods with every cluster Dormant (R340; count to 100). -/
  dormantPers : Nat := 0
  /-- a cluster has not been Dormant at some pace of the current accounting period (R340; 1 bit). -/
  awake : Bool := false
  /-- COUNT (R347; 16 bits). -/
  trips : Nat := 0
  /-- MAX_TEMP, 1/16 C, kept across warm reset (R347; 16 bits signed). -/
  maxTemp : Int := 0
  /-- step of the restart to Standby-Ready: 0 none, 1 AX, 2 core rails (RESTARTING) (R348; 0..2). -/
  restart : Nat := 0
  /-- the trip has been released and the restart has not begun (R348; 1 bit). -/
  release : Bool := false
  deriving DecidableEq, Repr, Inhabited

/-- the accumulators of a period (R353, R365). -/
structure EnAcc where
  /-- cluster CF energy of each label, 0.25 mV x 10 mA x 1 ns (R353; 64 sums). -/
  cf : Tab 64 Int := Tab.replicate 64 0
  /-- unlabelled CF energy (R353; sum). -/
  cfNone : Int := 0
  /-- modelled energy of label l on rail r at 3l + r - 1: 4 x 0.1 pJ times the square of the rail code (R353; 192 sums). -/
  model : Tab 192 Nat := Tab.replicate 192 0
  /-- measured energy of each rail, 0.25 mV x 10 mA x 1 ns (R353; 4 sums). -/
  meas : Tab 4 Int := Tab.replicate 4 0
  /-- the modelled sums under the ROM default model, for a period that falls back to it (R353, R356; 192 sums). -/
  rom : Tab 192 Nat := Tab.replicate 192 0
  /-- paces accumulated (R365; count). -/
  paces : Nat := 0
  /-- sum of the rail currents (R365; 0.25 A). -/
  railI : Tab 4 Int := Tab.replicate 4 0
  /-- sum of the rail voltages (R365; 1/12 of 0.25 mV). -/
  railV : Tab 4 Int := Tab.replicate 4 0
  /-- sum of the segment currents (R365; 10 mA). -/
  segI : Tab 12 Int := Tab.replicate 12 0
  /-- sum of the cluster currents (R365; 10 mA). -/
  clI : Tab 144 Nat := Tab.replicate 144 0
  /-- MISSING: a record has been substituted (R353; 1 bit). -/
  missing : Bool := false
  deriving DecidableEq, Repr, Inhabited

/-- a closed period on its way to its ledger post and its frame (R359, R365). -/
structure EnPer where
  /-- SEQ (R364; 32 bits). -/
  seq : Nat := 0
  /-- FIRST (R365; 48 bits). -/
  first : Nat := 0
  /-- LAST (R365; 48 bits). -/
  last : Nat := 0
  /-- ELAPSED (R365; 1 ns). -/
  elapsed : Nat := 0
  /-- stage opened by the edge E + 8 (R359; stage). -/
  due : Nat := 0
  /-- TEMP_d (R365; 1/16 C). -/
  temp : Int := 0
  /-- T_hot (R365; 1/16 C). -/
  hot : Int := 0
  /-- LEVEL at the edge closing LAST (R365; 4 bits). -/
  level : Nat := 0
  /-- CODE at the edge closing LAST (R365; 7 bits). -/
  code : Nat := 0
  /-- highest stage sum of each cluster (R365; 144 values). -/
  peaks : List Nat := []
  /-- stretch total of each cluster (R365; 144 values). -/
  stretch : List Nat := []
  /-- accumulators, once the last pace of the period has been added (R353; unit). -/
  acc : EnAcc := {}
  /-- the last pace of the period has been added (R353; 1 bit). -/
  accDone : Bool := false
  /-- energy model that governs the period (R355; 64 bytes). -/
  model : List Byte := []
  /-- ledger address that governs the period (R366; 64 bits). -/
  addr : Nat := 0
  /-- frame-ring address that governs the period (R366; 64 bits). -/
  ringAddr : Nat := 0
  /-- slots of the frame ring that governs the period (R366; 11 bits). -/
  ringCount : Nat := 0
  /-- the deadline has passed (R359; 1 bit). -/
  late : Bool := false
  /-- the shares have been computed (R357; 1 bit). -/
  reconciled : Bool := false
  /-- the shares have taken effect at a stage edge: post and frame are issued (R44, R359; 1 bit). -/
  taken : Bool := false
  /-- FB was not in window at the close: nothing is posted and the values are carried (R362; 1 bit). -/
  fbOut : Bool := false
  /-- the period uses the ROM default model (R356; 1 bit). -/
  dflt : Bool := false
  /-- shares, unattributed and measured energy of the period in nJ (R357; 264 lanes). -/
  shares : List Nat := []
  /-- ratios of the rails (R357; 4 codes). -/
  rho : List Nat := []
  /-- its frame waits for FB or for the frame before it (R365; 1 bit). -/
  frameHeld : Bool := false
  /-- HEAD and TAIL of a frame ring that a later setting has replaced (R366; HEAD, TAIL). -/
  ring : Option (Nat × Nat) := none
  /-- its post awaits its completion (R361; 1 bit). -/
  postOpen : Bool := false
  /-- its frame awaits its completion (R364; 1 bit). -/
  frameOpen : Bool := false
  /-- shares, unattributed and measured energy in nJ, with what has been carried (R361; 264 lanes). -/
  lanes : List Nat := []
  /-- CARRIED (R362; 1 bit). -/
  carried : Bool := false
  deriving DecidableEq, Repr, Inhabited

/-- the energy accountant (R352 to R368). -/
structure En where
  /-- accumulators of the current period (R353; unit). -/
  acc : EnAcc := {}
  /-- closed periods not yet complete, oldest first (R359; list). -/
  pers : List EnPer := []
  /-- model that governs the current period (R354, R355; 64 bytes). -/
  model : List Byte := []
  /-- MODEL_DEFAULT (R356; 1 bit). -/
  modelDefault : Bool := false
  /-- a model has been loaded that governs from the next period (R355, R356; 1 bit). -/
  modelNew : Bool := false
  /-- length of the pace before the present one (R353; ns). -/
  prevLen : Nat := 640
  /-- paces begun since the stage generator started (R353; count to 2). -/
  pacesSince : Nat := 0
  /-- ledger address; 0 disables posting (R360; 64 bits). -/
  addr : Nat := 0
  /-- ledger address and ZERO that govern from the next period close (R366; setting). -/
  addrNext : Option (Nat × Bool) := none
  /-- frame-ring address; 0 disables frames (R364; 64 bits). -/
  ringAddr : Nat := 0
  /-- slots of the frame ring (R364; 11 bits). -/
  ringCount : Nat := 0
  /-- frame ring that governs from the next period close (R366; setting). -/
  ringNext : Option (Nat × Nat) := none
  /-- BRX_TLM_HEAD.HEAD (R364; 10 bits). -/
  head : Nat := 0
  /-- BRX_TLM_TAIL.TAIL (R364; 10 bits). -/
  tail : Nat := 0
  /-- values carried to the next post; none when empty (R362; 264 lanes). -/
  carry : List Nat := []
  /-- mirrors of the ledger: 4l + r, then unattributed at 256 + r and measured at 260 + r, 1 nJ (R363; 264 x 64 bits). -/
  mirrors : Tab 264 Nat := Tab.replicate 264 0
  /-- BRX_EN_LEDGER_HI as latched by the last read of its LO (R363; 264 x 32 bits). -/
  hi : Tab 264 Nat := Tab.replicate 264 0
  /-- SEQ of the last acknowledged post (R367; 32 bits). -/
  lastAck : Nat := 0
  /-- frames dropped since the last delivered frame (R365; 8 bits). -/
  dropped : Nat := 0
  /-- the period before had a ratio out of range (R358; 1 bit). -/
  rangeWas : Bool := false
  deriving DecidableEq, Repr, Inhabited

/-- what an UP message reports of a subtree (R317, R327). -/
structure CvyUp where
  /-- PROP_MIN (R327; 8 bits). -/
  prop : Nat := 15
  /-- LEVEL_MIN (R327; 8 bits). -/
  lmin : Nat := 15
  /-- LEVEL_MAX (R327; 8 bits). -/
  lmax : Nat := 0
  /-- LVCHK_MIN (R327; 16 bits). -/
  cmin : Nat := 0xFFFF
  /-- LVCHK_MAX (R327; 16 bits). -/
  cmax : Nat := 0
  /-- COUNT (R327; 16 bits). -/
  count : Nat := 0
  /-- SKEWED (R327; 16 bits). -/
  skewed : Nat := 0
  /-- SHORT (R327; 1 bit). -/
  short : Bool := false
  deriving DecidableEq, Repr, Inhabited

/-- the convoy link unit (R316 to R338). -/
structure Cvy where
  /-- STATE (R338; 3 bits). -/
  st : CvySt := .notJoined
  /-- CONVOY (R316, R322; 16 bits). -/
  id : Nat := 0
  /-- ROLE; 3 none (R322; 2 bits). -/
  role : Nat := 3
  /-- DEPTH (R322; 3 bits). -/
  depth : Nat := 0
  /-- CHILDREN (R322; 8 bits). -/
  children : BitVec 8 := 0
  /-- joined set (R317; 8 bits). -/
  kids : BitVec 8 := 0
  /-- the CONVOY_JOIN to be answered (R323; command). -/
  join : Option Packet := none
  /-- stage opened by the edge of the join's deadline (R323; stage). -/
  joinDue : Nat := 0
  /-- level table of the convoy (R322; 16 codes). -/
  codes : List Nat := []
  /-- level table before the join, restored when the join fails (R323; table). -/
  oldTable : Option (Tab 16 LvlEnt) := none
  /-- step of the join in progress (R323; 0..5). -/
  step : Nat := 0
  /-- echo requests sent (R323; 0..16). -/
  echoSent : Nat := 0
  /-- requests sent and not answered (R323; SEQ, model time). -/
  echoAt : List (Nat × Nat) := []
  /-- sum of round trip less residence (R323; ns). -/
  echoSum : Int := 0
  /-- answers received (R323; 0..16). -/
  echoGot : Nat := 0
  /-- stages spent in step 2 (R323; 16 bits). -/
  alignStages : Nat := 0
  /-- stage loaded (R323; 48 bits). -/
  loadStage : Nat := 0
  /-- offset at the load (R323; ns). -/
  loadDelta : Int := 0
  /-- stage opened by the edge of step 5 (R323; 48 bits). -/
  joinStage : Nat := 0
  /-- LAT, 1 ns (R322, R323; 16 bits). -/
  lat : Nat := 0
  /-- OFFSET, 1 ns (R319; 16 bits signed). -/
  delta : Int := 0
  /-- an offset has been measured since the join was accepted (R319; 1 bit). -/
  hasDelta : Bool := false
  /-- a valid SYNC has arrived in the present stage (R321; 1 bit). -/
  gotSync : Bool := false
  /-- consecutive stages without a valid SYNC (R321; count to 4). -/
  noSync : Nat := 0
  /-- LEVEL_NOW of the latest SYNC (R317; 8 bits). -/
  syncLevel : Nat := 0
  /-- PEND_LEVEL and PEND_T of the latest SYNC (R317; level, stage). -/
  syncPend : Option (Nat × Nat) := none
  /-- PROP, P (R326; 4 bits). -/
  prop : Nat := 0
  /-- HOSTPROP (R337; 4 bits). -/
  hostProp : Option Nat := none
  /-- ANNOUNCED, level of the last ANNOUNCE (R328; 4 bits). -/
  annLevel : Nat := 0
  /-- T of the last ANNOUNCE (R325; 48 bits). -/
  annT : Nat := 0
  /-- EXP, LVCHK_EXP of the last ANNOUNCE (R331; 16 bits). -/
  annExp : Nat := 0
  /-- T of the agreement in progress, none once it is cancelled, void or past (R329; stage). -/
  annFor : Option Nat := none
  /-- OWN, own LVCHK at the last checkpoint (R331; 16 bits). -/
  own : Nat := 0
  /-- level of the last ANNOUNCE or PRIO_ANNOUNCE that has applied (R331; 4 bits). -/
  expLevel : Option Nat := none
  /-- announced levels that have not reached their stage (R331; stage, level). -/
  expNext : List (Nat × Nat) := []
  /-- UP messages of the window received from joined children (R327; port, report). -/
  reports : List (Nat × CvyUp) := []
  /-- the checkpoint of the present window has been taken (R331; 1 bit). -/
  cpDone : Bool := false
  /-- the checkpoint of the window has passed and its UP or ANNOUNCE is still to come (R325; 1 bit). -/
  checked : Bool := false
  /-- SHORT in the last UP sent (R327; 1 bit). -/
  short : Bool := false
  /-- COUNT of the last UP or ACK sent (R338; 16 bits). -/
  count : Nat := 0
  /-- joined ports missing in the last window (R327; 8 bits). -/
  missing : BitVec 8 := 0
  /-- ACKs received for T (R325; port, count). -/
  acks : List (Nat × Nat) := []
  /-- the ACK of this member is still to be sent (R325; 1 bit). -/
  ackOpen : Bool := false
  /-- S_W of the last checkpoint (R331; 48 bits). -/
  skewT : Nat := 0
  /-- requests received in the present stage (root) (R330; level, cause). -/
  prioReqs : List (Nat × Nat) := []
  /-- stage of the last PRIO_REQ sent (R330; stage). -/
  prioSent : Option Nat := none
  /-- H and CAUSE of the root's own condition in the stage that closes (R330; level, cause). -/
  prioOwn : Option (Nat × Nat) := none
  /-- PRIO_ANNOUNCE that has not yet applied (R330; T_p, level, cause). -/
  prioNext : Option (Nat × Nat × Nat) := none
  /-- the CONVOY_LEAVE commands to be answered (R336; commands). -/
  leave : List Packet := []
  /-- Skewed ends at the next window edge (R337; 1 bit). -/
  clearSkew : Bool := false
  /-- ports that leave the joined set at the next window edge (R337; 8 bits). -/
  dropPorts : BitVec 8 := 0
  /-- DISCARDED (R318; 16 bits). -/
  discarded : Nat := 0
  /-- CANCELS (R329; 16 bits). -/
  cancels : Nat := 0
  deriving DecidableEq, Repr, Inhabited

/-- The window of channel `c` at reset: the ROM defaults of R195, and none elsewhere. -/
def chanReset (c : Nat) : Chan :=
  if c = 293 then { lo := 4760, hi := 4840, en := true }
  else if c = 295 then { lo := 0, hi := 20, en := true }
  else if 296 ≤ c && c ≤ 311 then { lo := 3244, hi := 3310, en := true }
  else {}

/-- The settings of phase group `g` at reset (R117, R133). -/
def groupReset (g : Nat) : Group :=
  if g < 12 then {}
  else if g = 12 then { minSw := 4, ripAmp := 3 }
  else if g = 13 then { shedEn := false, minSw := 2, ripAmp := 3 }
  else { shedEn := false, minSw := 2, shedA := 10, addA := 20, ripAmp := 6, ripTau := 2 }

end Sys2Proof.Machine
end

