-- ==== Sys2Proof/Machine/State.lean ====
section
/-! DEFINITION. The machine's state as plain data, the ways a step can stop, and the state right after reset. -/

namespace Sys2Proof.Machine

/-- Why the machine stops with a fault. No command of this block ends in a fault: every condition the spec describes is
an effect on the state (a status bit, an event, a rejected packet), so the type has no constructor. -/
inductive Fault where
  deriving DecidableEq, Repr

/-- Why a command has no meaning. -/
inductive Refusal where
  /-- Raised only by an arm of the dispatcher whose command has no meaning yet. Safe: nothing is concluded of it. -/
  | notModelled (mnemonic : String)
  deriving DecidableEq, Repr

/-- the whole machine. -/
structure State where
  /-- stage frame (R34; unit). -/
  clk : Clk := {}
  /-- deadline status (R45; unit). -/
  dl : Dl := {}
  /-- always-on controller, islands, reset (R17; unit). -/
  sys : Sys := {}
  /-- fuses and factory record (R448; unit). -/
  fuses : Fuses := {}
  /-- rails CF, SA, FB, AX (R18; 4 rails). -/
  rails : Tab 4 Rail := Tab.replicate 4 {}
  /-- feed follower (R98; unit). -/
  feed : Feed := {}
  /-- bus voltage (R110; unit). -/
  vin : Vin := {}
  /-- tracking starts in progress (R119; list). -/
  starts : List TrackStart := []
  /-- tracking stops in progress (R121; list). -/
  stops : List TrackStop := []
  /-- CF segments (R19; 12 segments). -/
  segs : Tab 12 Seg := Tab.replicate 12 {}
  /-- phase groups (R107; 15 groups). -/
  groups : Tab 15 Group := Tab.ofFn 15 groupReset
  /-- phase channels (R108; 128 phases). -/
  phases : Tab 128 Phase := Tab.replicate 128 {}
  /-- PHASE_CONFIG checks in progress (R133; list). -/
  checks : List PhCheck := []
  /-- clusters (R3; 144 clusters). -/
  cl : Tab 144 Cluster := Tab.replicate 144 {}
  /-- regulator cells (R134; 1,728 cells). -/
  cells : Tab 1728 Cell := Tab.replicate 1728 {}
  /-- converter channels (R177; 320 channels). -/
  chans : Tab 320 Chan := Tab.ofFn 320 chanReset
  /-- converters (R176; 16 converters). -/
  convs : Tab 16 Conv := Tab.replicate 16 {}
  /-- converters together (R182; unit). -/
  adc : Adc := {}
  /-- control engine (R153; unit). -/
  eng : Eng := {}
  /-- settings of the transient lines (R203; unit). -/
  blwCfg : BlwCfg := {}
  /-- manifest engine (R221; unit). -/
  man : Man := {}
  /-- governor (R292; unit). -/
  gov : Gov := {}
  /-- convoy link unit (R316; unit). -/
  cvy : Cvy := {}
  /-- thermal protection (R339; unit). -/
  therm : Therm := {}
  /-- energy accountant (R353; unit). -/
  en : En := {}
  /-- recharacterisation window scheduled or in progress (R287; window). -/
  rech : Option Rechar := none
  /-- caravan unit (R241; unit). -/
  cvn : Cvn := {}
  /-- level sequencer (R266; unit). -/
  seq : Seq := {}
  /-- command interface (R369; unit). -/
  cmd : Cmd := {}
  /-- event path (R385; unit). -/
  evt : Evt := {}
  /-- trace (R399; unit). -/
  trc : Trc := {}
  /-- Ledger RAM (R426; unit). -/
  led : Led := {}
  /-- firmware load and personality (R417; unit). -/
  fw : Fw := {}
  /-- firmware core (R415; unit). -/
  core : Core := {}
  /-- debug port (R433; unit). -/
  dbg : Dbg := {}
  /-- the model's own field: how many free values have been drawn (R436; count). -/
  freeCount : Nat := 0
  /-- the model's own field: what Bruxon has put on its ports, newest first (R83; log). -/
  out : List Output := []
  /-- the model's own field: commands waiting, first in first out (R382; queue). -/
  pending : List Instr := []
  deriving DecidableEq, Repr, Inhabited

/-- The machine right after reset: Cold, with brx_por_n_i still low, every register at the value its Reset column gives
(R448) or at the value a log entry names, nothing listed in Ledger RAM and no command waiting. -/
def State.reset : State := {}

end Sys2Proof.Machine
end

