-- ==== Sys2Proof/Machine/Ops.lean ====
section
/-! DEFINITION. The shared operations of every command: bytes, rounding, model time, the trace, events, replies and the
frame in which a command packet is checked, takes effect and is answered. -/

namespace Sys2Proof.Machine

/-! ### Bytes and numbers -/

/-- The number that bytes spell, least significant byte first (R4). -/
def leNat : List Byte → Nat
  | [] => 0
  | b :: bs => b.toNat + 256 * leNat bs

/-- The `k` low bytes of a number, least significant first (R4). -/
def leBytes : Nat → Nat → List Byte
  | 0, _ => []
  | k + 1, n => BitVec.ofNat 8 n :: leBytes k (n / 256)

/-- `k` bytes of a list from byte `a` on. -/
def slice (l : List Byte) (a k : Nat) : List Byte := (l.drop a).take k

/-- The unsigned field of `k` bytes from byte `a` of a payload; bytes past the end count as 0. -/
def field (l : List Byte) (a k : Nat) : Nat := leNat (slice l a k)

/-- The `k` bytes from byte `a` on are 0. -/
def zeros (l : List Byte) (a k : Nat) : Bool := field l a k == 0

/-- A two's complement number of `w` bits. -/
def signed (w n : Nat) : Int := if n < 2 ^ (w - 1) then n else (n : Int) - (2 : Int) ^ w

/-- The `w`-bit two's complement code of a number. -/
def code2 (w : Nat) (i : Int) : Nat := (i % (2 : Int) ^ w).toNat

/-- Round to the nearest integer, halves away from zero. -/
def roundDiv (a : Int) (b : Nat) : Int :=
  if 0 ≤ a then (2 * a + b) / (2 * b) else -((2 * (-a) + b) / (2 * b))

/-- Round up. -/
def ceilDiv (a b : Nat) : Nat := (a + b - 1) / b

/-- Clamp to a range. -/
def clampI (lo hi x : Int) : Int := max lo (min hi x)

/-- Clamp to a range. -/
def clampN (lo hi x : Nat) : Nat := max lo (min hi x)

/-- The bits of a mask below `n`, in ascending order. -/
def maskBits (n m : Nat) : List Nat := (List.range n).filter (fun i => m.testBit i)

/-- The mask of a list of bits. -/
def bitsMask (l : List Nat) : Nat := l.foldl (fun m i => m ||| 2 ^ i) 0

/-- A list padded with zero bytes to length `k`. -/
def padTo (k : Nat) (l : List Byte) : List Byte := l ++ List.replicate (k - l.length) 0

/-- The 32-bit words that bytes spell. -/
def toWords : List Byte → List (BitVec 32)
  | a :: b :: c :: d :: rest => (d ++ c ++ b ++ a) :: toWords rest
  | _ => []

/-- The bytes of 32-bit words. -/
def ofWords (l : List (BitVec 32)) : List Byte := l.flatMap (fun w => leBytes 4 w.toNat)

/-- One bit of the CRC-32C of R431, bit-reflected. -/
def crcBit (c : BitVec 32) : BitVec 32 :=
  if c.getLsbD 0 then (c >>> 1) ^^^ 0x82F63B78#32 else c >>> 1

/-- One byte of the CRC-32C of R431. -/
def crcByte (c : BitVec 32) (b : Byte) : BitVec 32 :=
  let c := c ^^^ b.zeroExtend 32
  crcBit (crcBit (crcBit (crcBit (crcBit (crcBit (crcBit (crcBit c)))))))

/-- CRC-32C: polynomial 0x1EDC6F41 reflected, initial value and final exclusive-OR all ones (R431). -/
def crc32c (l : List Byte) : BitVec 32 := l.foldl crcByte 0xFFFFFFFF#32 ^^^ 0xFFFFFFFF#32

/-! ### Named updates of the state's tables -/

/-- Change cluster `n`. -/
def State.updCl (s : State) (n : Nat) (f : Cluster → Cluster) : State := { s with cl := s.cl.modify n f }

/-- Change cell `c`. -/
def State.updCell (s : State) (c : Nat) (f : Cell → Cell) : State := { s with cells := s.cells.modify c f }

/-- Change phase `i`. -/
def State.updPh (s : State) (i : Nat) (f : Phase → Phase) : State := { s with phases := s.phases.modify i f }

/-- Change group `g`. -/
def State.updGrp (s : State) (g : Nat) (f : Group → Group) : State := { s with groups := s.groups.modify g f }

/-- Change segment `x`. -/
def State.updSeg (s : State) (x : Nat) (f : Seg → Seg) : State := { s with segs := s.segs.modify x f }

/-- Change rail `r`. -/
def State.updRail (s : State) (r : Nat) (f : Rail → Rail) : State := { s with rails := s.rails.modify r f }

/-- Cluster `n`. -/
def State.cluster (s : State) (n : Nat) : Cluster := s.cl.get n

/-- Rail `r`. -/
def State.rail (s : State) (r : Nat) : Rail := s.rails.get r

/-- Apply a state change to each number of a list, in order. -/
def forEach {α : Type} (l : List α) (f : α → State → State) (s : State) : State :=
  l.foldl (fun s a => f a s) s

/-! ### Model time (R29, R34) -/

/-- Length of the current pace in Bruxon cycles: 640, but 630 or 650 for p15 of a trimmed stage (R36). -/
def State.paceLen (s : State) : Nat :=
  if s.clk.pace = 15 then
    match s.clk.trim with
    | .none => 640
    | .longer => 650
    | .shorter => 630
  else 640

/-- The moment at which the current pace ends. -/
def State.paceEnd (s : State) : Nat := s.clk.paceStart + s.paceLen

/-- Bruxon cycle within the current pace (R40). -/
def State.cycle (s : State) : Nat := s.clk.now - s.clk.paceStart

/-- The control island is powered and out of reset. -/
def State.islandUp (s : State) : Bool := s.sys.island == .up || s.sys.island == .copying

/-- Firmware makes progress: the core has left reset and is neither halted nor held by a warm reset (R383, R441). -/
def State.fwRuns (s : State) : Bool := s.core.on && !s.dbg.halted && !s.sys.warmLow

/-- FB is in window, as the DMA port needs (R374). -/
def State.fbOk (s : State) : Bool := (s.rail 2).enabled && (s.rail 2).inWindow

/-- The trip is asserted or its restart runs: RAIL_ENABLE and wakes are rejected (R347). -/
def State.thermHold (s : State) : Bool := s.therm.trip || s.therm.release || s.therm.restart != 0

/-! ### Outputs and the trace -/

/-- Put something on a port. -/
def emit (o : Output) (s : State) : State := { s with out := o :: s.out }

/-- Signal an MSI-X vector and count it (R375, R461). -/
def vector (v : Nat) (s : State) : State :=
  { s with out := .vector v :: s.out
           evt := { s.evt with irqSent := s.evt.irqSent.modify v (fun n => min 65535 (n + 1)) } }

/-- Write a trace record (R399). -/
def trace (kind flags : Nat) (body : List Byte) (s : State) : State :=
  let r : TraceRec := { stage := s.clk.stage % 2 ^ 32, cycle := s.cycle, pace := s.clk.pace,
                        kind := kind, flags := flags, body := padTo 8 body }
  { s with trc := { s.trc with next := (s.trc.next + 1) % 2 ^ 32, recs := (r :: s.trc.recs).take 8192 } }

/-- The byte of an origin in a trace record or a failure reply: the slot, or 0xFF for the mailbox (R380, R399). -/
def Origin.byte : Origin → Nat
  | .ring k => k % 256
  | .mailbox => 0xFF

/-! ### Events (R384 to R388) -/

/-- The urgent codes of the Fault Catalogue (R404). -/
def urgentCodes : List Nat :=
  [0x0110, 0x0111, 0x0113, 0x0114, 0x0115, 0x0116, 0x0117, 0x0210, 0x0211, 0x0220, 0x0221, 0x0222,
   0x0311, 0x0312, 0x0314, 0x0315, 0x0316, 0x0512, 0x0610, 0x0611, 0x0612, 0x0614, 0x0710, 0x0711, 0x0712,
   0x0810, 0x0811, 0x0812, 0x0A11, 0x0A12, 0x0A13, 0x0A14, 0x0A15, 0x0B10, 0x0B20]

/-- The informational codes of the Fault Catalogue (R404). -/
def infoCodes : List Nat :=
  [0x0112, 0x0121, 0x0122, 0x0123, 0x0212, 0x0310, 0x0313, 0x0320, 0x0321, 0x0322, 0x0323, 0x0324, 0x0325,
   0x0420, 0x0510, 0x0511, 0x0513, 0x0520, 0x0521, 0x0613, 0x0620, 0x0621, 0x0720, 0x0721, 0x0722,
   0x0820, 0x0821, 0x0822, 0x0823, 0x0910, 0x0911, 0x0912, 0x0913, 0x0920, 0x0921, 0x0A10, 0x0A20, 0x0A21, 0x0B21]

/-- The code is urgent (R400). -/
def isUrgent (code : Nat) : Bool := urgentCodes.contains code

/-- The 32 bytes of an event record as written in stage `now` (R383): HELD marks one written two or more stages late. -/
def Event.bytes (e : Event) (now : Nat) : List Byte :=
  leBytes 2 e.code ++ [if isUrgent e.code then 1 else 2, if e.stage + 2 ≤ now then 1 else 0]
    ++ leBytes 2 e.source ++ leBytes 6 e.stage ++ (padTo 16 e.data).take 16 ++ leBytes 2 e.repeats ++ leBytes 2 e.seq

/-- Raise an event in the present cycle, with the stage and the count it carries; the same code from the same source
twice in one cycle is one event (R413). -/
def raiseEv (e : Event) (s : State) : State :=
  if s.evt.fresh.any (fun f => f.code == e.code && f.source == e.source) then s
  else { s with evt := { s.evt with fresh := s.evt.fresh ++ [{ e with moment := s.clk.now }] } }

/-- Raise an event of the present stage. -/
def raise (code source : Nat) (data : List Byte) (s : State) : State :=
  raiseEv { code, source, stage := s.clk.stage, data } s

/-- Let something fall `k` cycles from now. -/
def soonIn (k : Nat) (w : Soon) (s : State) : State :=
  { s with clk := { s.clk with soon := s.clk.soon ++ [{ due := s.clk.now + k, what := w }] } }

/-- The code has been raised from this source in this period. -/
def raisedOnce (s : State) (code source : Nat) : Bool :=
  s.evt.once.any (fun e => e.code == code && e.source == source)

/-- Raise at most one event of a code and source in an accounting period, carrying no count. -/
def raisePeriod (code source : Nat) (data : List Byte) (s : State) : State :=
  if raisedOnce s code source then s
  else raise code source data { s with evt := { s.evt with once := { code, source } :: s.evt.once } }

/-- Raise a missed deadline under R45: one event per code, source and period, later misses counted, and the count of the
period before carried by the first event of this one. -/
def raiseMiss (code source : Nat) (data : List Byte) (s : State) : State :=
  if raisedOnce s code source then
    { s with evt := { s.evt with once := s.evt.once.map (fun e =>
        if e.code == code && e.source == source then { e with misses := min 65535 (e.misses + 1) } else e) } }
  else
    let reps := ((s.evt.prev.find? (fun e => e.code == code && e.source == source)).map OnceEnt.misses).getD 0
    raiseEv { code, source, stage := s.clk.stage, data, repeats := reps }
      { s with evt := { s.evt with once := { code, source } :: s.evt.once } }

/-- Record that a write-1-to-clear bit is set in this cycle (R9). -/
def noteSet (off bit : Nat) (s : State) : State :=
  { s with evt := { s.evt with
      setAt := s.clk.now
      setNow := (off, bit) :: (if s.evt.setAt = s.clk.now then s.evt.setNow.filter (fun x => x != (off, bit)) else []) } }

/-- The bits of a write-1-to-clear register that have been set in this cycle: a clear leaves them set (R9). -/
def justSet (s : State) (off : Nat) : Nat :=
  if s.evt.setAt = s.clk.now then bitsMask ((s.evt.setNow.filter (fun x => x.1 == off)).map Prod.snd) else 0

/-- What a write to a write-1-to-clear register clears (R9). -/
def clears (s : State) (off : Nat) (w : BitVec 32) : BitVec 32 := w &&& ~~~(BitVec.ofNat 32 (justSet s off))

/-- Set a bit of the firmware interrupt register (R417). -/
def fwIrq (bit : Nat) (s : State) : State :=
  noteSet 0x240004 bit { s with fw := { s.fw with irq := s.fw.irq ||| BitVec.ofNat 5 (2 ^ bit) } }

/-- Set a bit of BRX_DL_STATUS (R45). -/
def dlSet (bit : Nat) (s : State) : State :=
  noteSet 0x110 bit { s with dl := { s.dl with status := s.dl.status ||| BitVec.ofNat 8 (2 ^ bit) } }

/-- The mask of SET_EVENT_MASK covers the code (R388). -/
def evMasked (s : State) (code : Nat) : Bool :=
  !isUrgent code && (s.evt.catMask.getLsbD (code / 256) || s.evt.codes.contains code)

/-- The category bit of an urgent event that enters the ring (R387). -/
def causeSet (code : Nat) (s : State) : State :=
  if isUrgent code then
    noteSet 0x1040 (code / 256) { s with evt := { s.evt with cause := s.evt.cause ||| BitVec.ofNat 12 (2 ^ (code / 256)) } }
  else s

/-- The trace record of an event (R399). -/
def evTrace (e : Event) (flags : Nat) (s : State) : State :=
  trace 3 flags (leBytes 2 e.code ++ leBytes 2 e.source ++ [if isUrgent e.code then 1 else 2]) s

/-- Give an event its number (R384). -/
def evNumber (e : Event) (s : State) : Event × State :=
  ({ e with seq := s.evt.seq }, { s with evt := { s.evt with seq := (s.evt.seq + 1) % 65536 } })

/-- FLT_EVENT_LOST enters the reserved entry while discards are unreported and the entry is free (R386). -/
def reportLost (s : State) : State :=
  if s.evt.lost = 0 || s.evt.reserved.isSome then s
  else
    let (e, s) := evNumber { code := 0x0114, source := 0, stage := s.clk.stage,
                             data := leBytes 2 s.evt.lost ++ leBytes 2 s.evt.lostUrgent ++ leBytes 2 s.evt.lostFirst } s
    evTrace e 0 (causeSet 0x0114
      { s with evt := { s.evt with reserved := some e, reservedAfter := s.evt.queue.length,
                                   lost := 0, lostUrgent := 0, lostFirst := 0 } })

/-- Count a discarded event (R386). -/
def countLost (code : Nat) (s : State) : State :=
  { s with evt := { s.evt with
    lostFirst := if s.evt.lost = 0 then code else s.evt.lostFirst
    lost := min 65535 (s.evt.lost + 1)
    lostUrgent := if isUrgent code then min 65535 (s.evt.lostUrgent + 1) else s.evt.lostUrgent } }

/-- Remove the last informational event of a queue: the queue without it, its code and its place. -/
def dropNewestInfo : List Event → Option (List Event × Nat × Nat)
  | [] => none
  | e :: es =>
    match dropNewestInfo es with
    | some (rest, c, k) => some (e :: rest, c, k + 1)
    | none => if isUrgent e.code then none else some (es, e.code, 0)

/-- An event takes its place in the event queue: last, but before the events of its own cycle with a greater code, whose
numbers then go up by one (R50, R384). -/
def queueIn (e : Event) : List Event → List Event
  | [] => [e]
  | f :: fs =>
    if f.moment == e.moment && decide (e.code < f.code) then
      { e with seq := f.seq } :: (f :: fs).map (fun g => { g with seq := (g.seq + 1) % 65536 })
    else f :: queueIn e fs

/-- An event enters the event queue, or displaces, or is masked or discarded (R385, R386, R388). -/
def evEnter (e : Event) (s : State) : State :=
  if evMasked s e.code then
    evTrace e 1 { s with evt := { s.evt with masked := min 65535 (s.evt.masked + 1) } }
  else
    let (e, s) := evNumber e s
    if s.evt.queue.length < 64 then
      evTrace e 0 (causeSet e.code { s with evt := { s.evt with queue := queueIn e s.evt.queue } })
    else if isUrgent e.code then
      match dropNewestInfo s.evt.queue with
      | some (rest, c, k) =>
        countLost c (evTrace e 0 (causeSet e.code
          { s with evt := { s.evt with
              queue := queueIn e rest
              reservedAfter := if k < s.evt.reservedAfter then s.evt.reservedAfter - 1 else s.evt.reservedAfter } }))
      | none => countLost e.code (evTrace e 2 s)
    else countLost e.code (evTrace e 2 s)

/-- Place an event among the events of one cycle by ascending code (R50). -/
def insertByCode (e : Event) : List Event → List Event
  | [] => [e]
  | f :: fs => if e.code < f.code then e :: f :: fs else f :: insertByCode e fs

/-- The events of one cycle in ascending order of code (R50). -/
def sortByCode (l : List Event) : List Event := l.foldl (fun acc e => insertByCode e acc) []

/-! ### The end of boost (R273, R274) -/

/-- The chip is in a convoy from the load of its stage counter until it leaves (R266, R321, R323). -/
def State.inConvoy (s : State) : Bool :=
  match s.cvy.st with
  | .notJoined => false
  | .aligning => decide (4 ≤ s.cvy.step)
  | .joined | .skewed | .lost => true

/-- The conditions of boost in the order of R273. -/
def boostConds (s : State) : List Bool :=
  [ !s.inConvoy, s.seq.fixed == .off, s.gov.boostEn, !s.therm.warn && !s.therm.throt, !s.groups.any (fun g => g.swellClamp) ]

/-- The number of the first condition of boost that fails (R274). -/
def boostFails (s : State) : Option Nat :=
  ((List.range 5).find? (fun i => !(boostConds s).getD i true)).map (· + 1)

/-- The entry of level `k`. -/
def State.lvl (s : State) (k : Nat) : LvlEnt := s.seq.table.val.getD k ⟨0, false⟩

/-- The highest non-boost level (R274). -/
def topLevel (s : State) : Nat := (List.range 16).foldl (fun m k => if (s.lvl k).boost then m else k) 0

/-- The pace from whose cycle 0 the targets follow a change posted in the present cycle: the next one, and the edge cycle belongs
to the pace it opens (R48, R268). -/
def State.risePace (s : State) : Nat := if s.clk.p0Pending then s.clk.paceNo + 2 else s.clk.paceNo + 1

/-- A boost level is in force: the code in force is a boost entry's (R273, R275). -/
def boosting (s : State) : Bool :=
  (s.lvl s.seq.level).boost && (s.seq.fixed == .off || s.seq.code == (s.lvl s.seq.level).code)

/-- The conditions of boost that hold, bit i for condition i + 1 (R273, R274). -/
def boostMask (s : State) : BitVec 5 := BitVec.ofNat 5 (bitsMask ((List.range 5).filter (fun i => (boostConds s).getD i true)))

/-- A change that the host has posted in the present cycle: it overwrites what the sequencer posts in that cycle (R49, R266). -/
def hostPosted (s : State) : Bool :=
  match s.seq.pend with
  | some p => p.moment == s.clk.now && (p.source == .fixed || p.source == .tableEdit)
  | none => false

/-- The end of boost is posted: the highest non-boost level, for the edge opening S_p + 2 (R274). -/
def postBoostEnd (s : State) : State :=
  if hostPosted s then s
  else
    let k := topLevel s
    { s with seq := { s.seq with
        pend := some { code := (s.lvl k).code, level := k, stage := s.clk.stage + 2, source := .boostEnd
                       rises := s.risePace, moment := s.clk.now } } }

/-- A condition of boost ceases to hold: while a boost level is in force its end is posted and reported in that cycle, the first
such condition by number standing for several (R274). -/
def boostCheck (s : State) : State :=
  let now := boostMask s
  let fell := s.seq.boostHeld &&& ~~~now
  let s := { s with seq := { s.seq with boostHeld := now } }
  match (List.range 5).find? (fun i => fell.getLsbD i) with
  | none => s
  | some i => if boosting s then raise 0x0620 0 [BitVec.ofNat 8 (i + 1)] (postBoostEnd s) else s

/-! ### Replies (R373 to R376, R379, R380) -/

/-- The 32 bytes of a reply written in stage `now`. -/
def Reply.bytes (r : Reply) (now : Nat) : List Byte :=
  leBytes 2 r.seq ++ [BitVec.ofNat 8 r.status.code, BitVec.ofNat 8 (min 24 r.data.length)]
    ++ padTo 24 (r.data.take 24) ++ leBytes 4 (r.stage.getD now)

/-- The command answered by a reply leaves the commands in flight (R373). -/
def dropInflight (o : Origin) (seq : Nat) : List InFlight → List InFlight
  | [] => []
  | f :: fs => if f.org == o && f.seq == seq then fs else f :: dropInflight o seq fs

/-- The trace record of a reply (R399). -/
def rplTrace (r : Reply) (s : State) : State :=
  trace 2 0 (leBytes 2 r.seq ++ [BitVec.ofNat 8 r.status.code, BitVec.ofNat 8 (min 24 r.data.length)] ++ leBytes 2 r.opcode) s

/-! ### DMA (R70) -/

/-- DEADLINE of a request for an address: a stage and a pace where a rule states them, else the open value of the configuration
(R70). -/
def dueCode (addr : Nat) (due : Option (Nat × Nat)) (s : State) : BitVec 20 :=
  match due with
  | some (stage, pace) => BitVec.ofNat 20 (16 * stage + pace)
  | none => Config.openDeadline addr s.clk.now

/-- Issue a DMA request. -/
def dma (r : DmaReq) (s : State) : State := emit (.dma r) s

/-- Issue read requests that cover `beats` beats from `addr`, at most `most` beats each. -/
def dmaRead (addr beats most : Nat) (due : Option (Nat × Nat)) (s : State) : State :=
  let read := fun a n s => dma { op := .read, addr := a, beats := n, deadline := dueCode a due s } s
  let full := beats / most
  let s := (List.range full).foldl (fun s k => read (addr + 64 * most * k) most s) s
  if beats % most = 0 then s else read (addr + 64 * most * full) (beats % most) s

/-- The base of the reply ring. -/
def rplBase (s : State) : Nat := s.cmd.rplLo.toNat + 2 ^ 32 * s.cmd.rplHi.toNat

/-- The base of the event ring. -/
def evtBase (s : State) : Nat := s.cmd.evtLo.toNat + 2 ^ 32 * s.cmd.evtHi.toNat

/-- The request that writes entry `index` of a ring of 32-byte entries: the beat that holds it (R70, R369). -/
def ringWrite (base index : Nat) (bytes : List Byte) (s : State) : DmaReq :=
  let a := base + 64 * (index / 2)
  { op := .write, addr := a, beats := 1, deadline := dueCode a none s, data := bytes }

/-- Write a reply into the reply ring and signal vector 0 (R375). -/
def ringReply (r : Reply) (s : State) : State :=
  let s := rplTrace r s
  vector 0 { s with
    out := .reply s.cmd.rplHead (r.bytes s.clk.stage) (ringWrite (rplBase s) s.cmd.rplHead (r.bytes s.clk.stage) s) :: s.out
    cmd := { s.cmd with rplHead := (s.cmd.rplHead + 1) % 256, inflight := dropInflight r.org r.seq s.cmd.inflight } }

/-- Write a reply into the mailbox: DONE is set, BUSY falls, and vector 0 is signalled only while FB is in window
(R376). -/
def mailboxReply (r : Reply) (s : State) : State :=
  let s := rplTrace r s
  let b := r.bytes s.clk.stage
  let s := { s with
    out := .mailbox b :: s.out
    cmd := { s.cmd with mbxRpl := Tab.ofFn 8 (fun w => (toWords b).getD w 0), mbxDone := true, mbxBusy := false,
                        inflight := dropInflight r.org r.seq s.cmd.inflight } }
  let s := noteSet 0x1240 2 s
  if s.fbOk then vector 0 s else s

/-- The reply ring can be written (R374). -/
def State.rplOpen (s : State) : Bool := s.fbOk && s.cmd.rplEn

/-- A finished reply: written at once, or kept in the reply hold behind those already there (R374). -/
def putReply (r : Reply) (s : State) : State :=
  match r.org with
  | .mailbox => mailboxReply r s
  | .ring _ =>
    if s.rplOpen && s.cmd.hold.isEmpty then ringReply r s
    else { s with cmd := { s.cmd with
      hold := s.cmd.hold ++ [r]
      inflight := s.cmd.inflight.map (fun f => if f.org == r.org && f.seq == r.seq then { f with effect := .answered } else f) } }

/-- Answer a packet. -/
def reply (p : Packet) (opcode : Nat) (st : Status) (data : List Byte) (s : State) : State :=
  putReply { org := p.org, seq := p.seq, status := st, data, opcode } s

/-! ### Packets that fail before their opcode is reached (R248, R378, R381) -/

/-- The record in Open or Committed that holds a caravan id, else the Aborted one. -/
def cvnFind (s : State) (id : Nat) : Option Nat :=
  let holds := fun (r : CvnRec) => r.id.toNat == id
  match (s.cvn.recs.places (fun _ r => holds r && (r.st == .open_ || r.st == .committed))).head? with
  | some k => some k
  | none => (s.cvn.recs.places (fun _ r => holds r && r.st == .aborted)).head?

/-- A record becomes Aborted: its items are discarded and their count kept (R258, R259, R262). -/
def cvnAbort (k cause : Nat) (s : State) : State :=
  { s with cvn := { s.cvn with
      recs := s.cvn.recs.modify k (fun r => { r with
        st := .aborted, count := r.items.length, items := [], edge := 0, cause, order := s.cvn.order, tag := none, passed := false })
      order := s.cvn.order + 1, lastCause := cause, aborts := min 65535 (s.cvn.aborts + 1) } }

/-- What becomes of a member packet that fails with a status and a cause, by the state of the caravan it names (R248). -/
def memberFails (id : Nat) (st : Status) (cause : Nat) (s : State) : Status × State :=
  match cvnFind s id with
  | none => (.badState, s)
  | some k =>
    match (s.cvn.recs.get k).st with
    | .open_ => (st, cvnAbort k cause s)
    | .aborted => (.caravanAborted, s)
    | _ => (.badState, s)

/-- A command not yet processed names the caravan as a member. -/
def InFlight.joins (f : InFlight) (id : Nat) : Bool := f.caravan == some id && f.effect == .taken

/-- A command waits for earlier slots: CARAVAN_COMMIT and CARAVAN_ABORT for the members of their caravan, `ahead` being the
commands taken before it (R381). -/
def waitsFor (ahead : List InFlight) (f : InFlight) : Bool :=
  (f.opcode == 0x0403 || f.opcode == 0x0404) && ahead.any (fun g => g.joins (field f.payload 0 2))

/-- The first command not yet processed that satisfies a condition and waits for no earlier slot. -/
def firstTaken (p : InFlight → Bool) (ahead : List InFlight) : List InFlight → Option InFlight
  | [] => none
  | f :: fs => if p f && f.effect == .taken && !waitsFor ahead f then some f else firstTaken p (ahead ++ [f]) fs

/-- The command to be processed next: the first urgent one not yet processed, else the first of the others. Members keep the
order of the ring whatever their urgent flag (R249, R381). -/
def nextTaken (l : List InFlight) : Option InFlight :=
  match firstTaken (fun f => f.urgent && f.caravan.isNone) [] l with
  | some f => some f
  | none => firstTaken (fun _ => true) [] l

/-- It is the turn of a packet in flight: it is the next to be processed, and its payload is held (R378, R381). A packet that is
not in flight is taken in the cycle of its row. -/
def turn (s : State) (p : Packet) : Bool :=
  let same := fun (f : InFlight) => f.org == p.org && f.seq == p.seq
  !s.cmd.inflight.any same || (match nextTaken s.cmd.inflight with
    | some f => same f && f.desc.isNone
    | none => false)

/-- Packets whose turn has come and that have failed a check of steps 1 to 8 are rejected (R378, R381). -/
def rejectFailed : Nat → State → State
  | 0, s => s
  | fuel + 1, s =>
    if !s.fwRuns then s
    else
      match nextTaken s.cmd.inflight with
      | none => s
      | some f =>
        match f.fails with
        | none => s
        | some (st, data) =>
          let (st, s) := match f.caravan with
            | some id => if data.isEmpty then memberFails id st 2 s else (st, s)
            | none => (st, s)
          rejectFailed fuel (putReply { org := f.org, seq := f.seq, status := st, data, opcode := f.opcode } s)

/-- The events raised enter the event path in order of code, their discards reported together (R50, R386). -/
def enterEvents (s : State) : State :=
  reportLost ((sortByCode s.evt.fresh).foldl (fun s e => evEnter e s) { s with evt := { s.evt with fresh := [] } })

/-- The end of a command's effect: packets that have failed are rejected in their turn, boost ends if it must, and the events
enter the event path. The edge cycle goes on with the boundary of p0, so after a stage edge they wait for it. -/
def finish (s : State) : State :=
  let s := boostCheck (rejectFailed s.cmd.inflight.length s)
  if s.clk.p0Pending then s else enterEvents s

/-! ### The frame of a command packet (R378, R381, R382) -/

/-- The status of the first check that fails, in order (R378). -/
def firstFail : List (Bool × Status) → Option Status
  | [] => none
  | (bad, st) :: rest => if bad then some st else firstFail rest

/-- Record how a command in flight goes on after it has taken effect (R453). -/
def markEffect (p : Packet) (e : Effect) (s : State) : State :=
  { s with cmd := { s.cmd with inflight := s.cmd.inflight.map (fun f =>
      if f.org == p.org && f.seq == p.seq then { f with effect := e } else f) } }

/-- Set the edge at which the reply deadline of a command expires (R42). -/
def setDue (p : Packet) (due : Nat) (s : State) : State :=
  { s with cmd := { s.cmd with inflight := s.cmd.inflight.map (fun f =>
      if f.org == p.org && f.seq == p.seq then { f with due := some due } else f) } }

/-- Process a command packet: nothing happens while firmware makes no progress (R383); the first failing check rejects it
with no effect and DLEN 0 (R378, R380); otherwise it takes effect in this cycle (R382). -/
def command (p : Packet) (opcode : Nat) (checks : List (Bool × Status)) (effect : State → State) (s : State) :
    Host.Outcome State Fault Refusal :=
  if !s.fwRuns then .next s
  else
    match firstFail checks with
    | some st => .next (finish (reply p opcode st [] s))
    | none => .next (finish (effect { s with cmd := { s.cmd with tookAt := some s.clk.now } }))

/-- Firmware can process a packet in the present cycle: it runs, the packet's turn has come, and no command has taken effect
in this cycle (R381 to R383). -/
def State.ready (s : State) (p : Packet) : Bool := s.fwRuns && turn s p && s.cmd.tookAt != some s.clk.now

/-- Leave the changes of a command to cycle 0 of the next pace, where its reply is written (R382). -/
def defer (p : Packet) (opcode : Nat) (acts : List Act) (s : State) : State :=
  markEffect p .hardware { s with cmd := { s.cmd with next := s.cmd.next ++ [{ pkt := p, opcode, acts, se := s.clk.stage }] } }

/-- The stage opened by the edge of a command's reply deadline: `k` stages from its doorbell or GO (R42). -/
def replyDue (p : Packet) (k : Nat) (s : State) : Nat :=
  match s.cmd.inflight.find? (fun f => f.org == p.org && f.seq == p.seq) with
  | some f => f.since + k
  | none => s.clk.stage + k

/-! ### Masks (R388) -/

/-- The event masks change (R388). -/
def applyEventMask (op catMask : Nat) (codes : List Nat) (s : State) : State :=
  let e := s.evt
  { s with evt :=
    if op = 0 then { e with catMask := BitVec.ofNat 16 catMask }
    else if op = 1 then { e with codes := e.codes ++ codes.filter (fun c => !e.codes.contains c) }
    else if op = 2 then { e with codes := e.codes.filter (fun c => !codes.contains c) }
    else { e with catMask := 0, codes := [] } }

/-- The next state. -/
def done (s : State) : Host.Outcome State Fault Refusal := .next (finish s)

/-- A command whose object or moment is not there: nothing happens. -/
def idle (s : State) : Host.Outcome State Fault Refusal := .next s

end Sys2Proof.Machine
end

