-- ==== Sys2Proof/Machine/Voltage.lean ====
section
/-! DEFINITION. Set-points and targets: the slew law, cluster curves and targets, the drone requirement and the feed
follower (R86 to R106, R123, R124, R268). -/

namespace Sys2Proof.Machine

/-! ### Set-points (R123, R124) -/

/-- The set-point still counts as moving: in a ramp, or in the cycle of the ramp's final step. -/
def SetPoint.isMoving (p : SetPoint) (now : Nat) : Bool := p.moving || (p.stepAt == now && p.stepAt != 0)

/-- A new target takes effect in cycle `now` (R124): ahead of a moving ramp the step timer continues, behind it the
direction reverses, at the set-point itself the ramp stops, and at rest a ramp begins whose first step falls one
interval later. -/
def SetPoint.aim (p : SetPoint) (now : Nat) (tgt : Int) : SetPoint :=
  if tgt = p.cur then { p with tgt, moving := false }
  else if p.isMoving now && (decide (p.cur < tgt) == p.up) then
    { p with tgt, moving := true, due := if p.moving then p.due else now + p.every }
  else { p with tgt, moving := true, up := decide (p.cur < tgt), due := now + p.every }

/-- The set-point stands at a value, with no ramp. -/
def SetPoint.hold (p : SetPoint) (v : Int) : SetPoint := { p with cur := v, tgt := v, moving := false }

/-- One step of one code towards the target in cycle `now` (R123). -/
def SetPoint.step (p : SetPoint) (now : Nat) : SetPoint :=
  let c := if p.up then p.cur + 1 else p.cur - 1
  { p with cur := c, moving := decide (c ≠ p.tgt), stepAt := now, due := p.due + p.every }

/-! ### Cluster curves (R93 to R96) -/

/-- Insert a point into points in ascending FREQ; the later of two at one FREQ stands (R94 step 1). -/
def insertPoint (f v : Nat) : List (Nat × Nat) → List (Nat × Nat)
  | [] => [(f, v)]
  | (g, w) :: rest =>
    if f < g then (f, v) :: (g, w) :: rest
    else if f = g then (f, v) :: rest
    else (g, w) :: insertPoint f v rest

/-- Replace each value by the largest so far (R94 step 2). -/
def runningMax (m : Nat) : List (Nat × Nat) → List (Nat × Nat)
  | [] => []
  | (f, v) :: rest => (f, max m v) :: runningMax (max m v) rest

/-- The used points of a curve, ascending and non-decreasing (R94 steps 1 and 2). -/
def curvePoints (c : Tab 16 CurvePt) : List (Nat × Nat) :=
  runningMax 0 (c.val.foldl (fun acc p => if p.freq ≤ 80 then insertPoint p.freq p.vmin acc else acc) [])

/-- The value between the points of an ascending list at `f`, rounded up; none above the last (R94 steps 4 and 5). -/
def interpUp (f : Nat) : List (Nat × Nat) → Option Nat
  | (fa, va) :: (fb, vb) :: rest =>
    if f = fa then some va
    else if f < fb then some (va + ceilDiv ((vb - va) * (f - fa)) (fb - fa))
    else interpUp f ((fb, vb) :: rest)
  | [(fa, va)] => if f = fa then some va else none
  | [] => none

/-- C_n(f) of a curve, none when uncharacterised (R94). -/
def evalCurve (c : Tab 16 CurvePt) (f : Nat) : Option Nat :=
  match curvePoints c with
  | [] => none
  | (fa, va) :: rest => if f ≤ fa then some va else interpUp f ((fa, va) :: rest)

/-- The ROM default curve D(f) (R96). -/
def romCurve (f : Nat) : Nat := 208 + ceilDiv (37 * f) 10

/-- The code is characterised for the cluster by its curve as read (R94). -/
def Cluster.charAt (c : Cluster) (f : Nat) : Bool := (evalCurve c.v.curve f).isSome

/-- C_n at a frequency code: the curve, or D(f) while the cluster is on the ROM default curve (R96, R272). -/
def Cluster.curveAt (c : Cluster) (f : Nat) : Nat :=
  if c.v.curveDefault then romCurve f else (evalCurve c.v.curve f).getD (romCurve f)

/-- The voltage frequency f_v (R268). -/
def Seq.fv (q : Seq) : Nat :=
  let up := match q.pend with
    | some p => if q.code < p.code then p.code else 0
    | none => 0
  match q.fvHold with
  | some h => if q.fvFixed then h else max (max h q.code) up
  | none => max q.code up

/-- The voltage frequency that the targets follow in pace number `n`: they rise from cycle 0 of the pace after posting (R268). -/
def Seq.fvAt (q : Seq) (n : Nat) : Nat :=
  match q.pend with
  | some p => if n < p.rises then Seq.fv { q with pend := none } else q.fv
  | none => q.fv

/-- The code at which the cluster's curve is evaluated: f_v, or the code in force where f_v is uncharacterised for it
(R268). -/
def fvFor (s : State) (c : Cluster) : Nat :=
  if !c.v.curveDefault && !c.charAt s.seq.vcode then s.seq.code else s.seq.vcode

/-- The guardband in force (R96): 20 codes with manifest engaged and bellows armed, 48 otherwise and on the ROM default
curve. -/
def Cluster.guard (c : Cluster) : Nat := if c.v.g25 && !c.v.curveDefault then 20 else 48

/-- C_n + G_n + O_n before the clamp, at a code (R96). -/
def Cluster.rawTarget (c : Cluster) (f : Nat) : Int := (c.curveAt f : Int) + c.guard + c.v.offset

/-- T_n with the manifest's pre-positioning lift (R96, R232). -/
def targetOf (s : State) (c : Cluster) : Nat :=
  (clampI 0 560 (c.rawTarget (fvFor s c) + c.m.lift)).toNat

/-- T_n is clamped at 0 or 560 (R97). -/
def clampedOf (s : State) (c : Cluster) : Bool :=
  let t := c.rawTarget (fvFor s c)
  decide (t < 0) || decide (560 < t)

/-! ### Drone requirement (R102) -/

/-- D_n at a frequency code as a rail code: C_n + 48 + O_n, plus 18 mV of switch drop and 10 mV of grid allowance,
rounded up to 2.5 mV. The drop is 18 A × (m ÷ 12) × 12 mΩ ÷ m, the same for every m from 1 to 12. -/
def droneReq (c : Cluster) (f : Nat) : Nat :=
  let t : Int := 5 * ((c.curveAt f : Int) + 48 + c.v.offset) + 1312
  ((t + 9) / 10).toNat

/-- The drone cap of R100 as a rail code: 1.000 V plus the switch drop of R102, rounded down. -/
def droneCap : Nat := 407

/-- The cluster draws on the feed as a drone: from step 1 of its entry until step 1 of its exit (R98, R103, R104). -/
def Cluster.droneOut (c : Cluster) : Bool :=
  match c.d.st with
  | .entering | .latchWait | .on => true
  | _ => false

/-- The cluster regulates: its cells are on and it is not in drone mode (R98). -/
def Cluster.regulating (c : Cluster) : Bool := c.k.mode == .regulate && !c.droneOut

/-- A cluster code as the rail code that leads it by 25 mV, rounded up (R98). -/
def feedFor (code : Nat) : Nat := ceilDiv (1300 + 5 * code) 10

/-- A rail code as a cluster code, rounded down (R103). -/
def clusterCodeOf (rail : Nat) : Nat := (rail * 10 - 1200) / 5

/-- The feed follower's choice so far: rail code, setter and whether a drone requirement set it. -/
structure FeedPick where
  f : Nat
  setter : Nat
  drone : Bool
  deriving DecidableEq, Repr, Inhabited

/-- One cluster's claim on the feed (R98). -/
def feedClaim (n : Nat) (c : Cluster) (p : FeedPick) : FeedPick :=
  if c.droneOut then
    if p.f < c.d.req then ⟨c.d.req, n, true⟩ else p
  else if c.regulating then
    let v := feedFor (max c.v.sp.cur.toNat c.v.target)
    if p.f < v then ⟨v, n, false⟩ else p
  else p

/-- The largest claim of the clusters above the floor; the lowest index stands on a tie (R98). -/
def feedPick (s : State) : FeedPick :=
  (listMapFrom (fun n c => (n, c)) 0 s.cl.val).foldl (fun p x => feedClaim x.1 x.2 p) ⟨s.feed.floor, 255, false⟩

/-- Some cluster is in drone mode (R100). -/
def anyDrone (s : State) : Bool := s.cl.any Cluster.droneOut

/-- The ceiling of F: 1.050 V, and the drone cap while a cluster is in drone mode (R98, R100). -/
def feedCeil (s : State) : Nat := if anyDrone s then droneCap else 420

/-- The feed follower (R98 to R100): F is chosen and the CF set-point is aimed at it unless CF tracks or is off. -/
def feedUpdate (s : State) : State :=
  let p := feedPick s
  let lim := feedCeil s
  let f := min p.f lim
  let s := { s with feed := { s.feed with follow := f, setter := p.setter, droneSet := p.drone, capped := decide (lim < p.f) } }
  let s := s.updRail 0 (fun r =>
    if r.enabled && !r.tracking then { r with target := f, sp := r.sp.aim s.clk.now f } else r)
  if anyDrone s && s.cl.any (fun c => c.regulating && decide (574 < c.v.target + 20)) then raisePeriod 0x0212 0 [] s else s

/-! ### Retargeting clusters (R97, R124, R148) -/

/-- The target that the cluster's state asks for when `full` is its T_n, if it asks for one: T_n in Active and Rest and for a
wake to them, code 120 for Retain; none while a handshake hold freezes it, a drone rides the feed, or its cells are off. -/
def wantAt (full : Nat) (c : Cluster) : Option Nat :=
  if c.s.hsFault || c.s.search || c.droneOut || c.k.mode != .regulate then none
  else
    match c.s.trans with
    | none => if c.s.st == .active || c.s.st == .rest then some full else some 120
    | some t =>
      match t.phase with
      | .ackWait | .echo | .settle =>
        if c.s.st == .active || c.s.st == .rest then some full else some 120
      | .downRamp => some 120
      | .finalEcho =>
        if t.target == .retain then some 120 else some full
      | .selfTest | .unadmitted => some 120
      | .wakeRamp | .rampDone | .resetDone =>
        if t.target == .retain then some 120 else some full

/-- The target that the cluster's state asks for, from its T_n. -/
def wantTarget (s : State) (c : Cluster) : Option Nat := wantAt (targetOf s c) c

/-- A cluster takes a target and its ramp follows, starting at `at_`. -/
def aimCluster (t : Nat) (at_ : Nat) (c : Cluster) : Cluster :=
  { c with v := { c.v with target := t, sp := c.v.sp.aim at_ t } }

/-- Recompute one cluster's target from its terms (R23, R31). -/
def retarget (s : State) (at_ : Nat) (c : Cluster) : Cluster :=
  let c := { c with v := { c.v with clamped := clampedOf s c } }
  match wantTarget s c with
  | some t => if t = c.v.target && c.v.sp.tgt = t then c else aimCluster t at_ c
  | none => c

/-- Every cluster target is recomputed from its terms; ramps that begin do so in cycle `at_`. -/
def retargetAll (at_ : Nat) (s : State) : State :=
  let s := { s with seq := { s.seq with vcode := s.seq.fvAt s.clk.paceNo } }
  { s with cl := s.cl.map (retarget s at_) }

/-- A drone cluster in entry rides a new F (R106): its requirement is recomputed and its ramp retargets. -/
def droneRecalc (s : State) : State :=
  { s with cl := s.cl.map (fun c =>
      if c.droneOut then { c with d := { c.d with req := droneReq c (fvFor s c) } } else c) }

/-- Drone clusters take the feed as their target: the set-point of an entry ramps to it, and one in drone mode stands at
it (R103). -/
def droneRide (s : State) : State :=
  let t := clusterCodeOf s.feed.follow
  { s with cl := s.cl.map (fun c =>
      match c.d.st with
      | .entering => if c.v.target = t then c else aimCluster t s.clk.now c
      | .latchWait | .on => { c with v := { c.v with target := t, sp := c.v.sp.hold t } }
      | _ => c) }

end Sys2Proof.Machine
end

