-- ==== Sys2Proof/Machine/Forecast.lean ====
section
/-! DEFINITION. Manifest entries and their forecasts: templates, scaling, forecast stages and served clusters, and the
forecast of a segment (R115, R132, R218 to R220, R229, R230). -/

namespace Sys2Proof.Machine

/-! ### Entries and templates (R218, R219) -/

/-- AMP of an entry. -/
def entAmp (w : BitVec 32) : Nat := w.toNat % 1024
/-- SHAPE of an entry. -/
def entShape (w : BitVec 32) : Nat := (w.toNat / 2 ^ 10) % 16
/-- PIVOT of an entry. -/
def entPivot (w : BitVec 32) : Nat := (w.toNat / 2 ^ 14) % 16
/-- BASE of an entry. -/
def entBase (w : BitVec 32) : Nat := (w.toNat / 2 ^ 18) % 16
/-- NOFIRE of an entry. -/
def entNoFire (w : BitVec 32) : Bool := w.getLsbD 22
/-- The reserved bits of an entry. -/
def entRes (w : BitVec 32) : Nat := w.toNat / 2 ^ 23
/-- AMP is NONE. -/
def entNone (w : BitVec 32) : Bool := entAmp w == 1023

/-- Ramp rule 2: a reserved bit, PIVOT or BASE that shall be 0 is not (R218, R219, R226). -/
def entMalformed (w : BitVec 32) : Bool :=
  entRes w != 0 || (entShape w == 0 && (entPivot w != 0 || entBase w != 0)) || (14 ≤ entShape w && entPivot w != 0)

/-- 1 over 1 or 0 over 1. -/
def weight (b : Bool) : Nat × Nat := if b then (1, 1) else (0, 1)

/-- The template weight h(p) as a fraction (R219). -/
def template (shape pv p : Nat) : Nat × Nat :=
  match shape with
  | 0 => (1, 1)
  | 1 => weight (decide (pv ≤ p))
  | 2 => weight (decide (p < pv))
  | 3 => weight (p == pv)
  | 4 => weight (decide (pv ≤ p) && decide (p ≤ pv + 1))
  | 5 => weight (decide (pv ≤ p) && decide (p ≤ pv + 3))
  | 6 => weight (decide (pv ≤ p) && decide (p ≤ pv + 7))
  | 7 => weight (p != pv)
  | 8 => weight (!(decide (pv ≤ p) && decide (p ≤ pv + 3)))
  | 9 => if p < pv then (0, 1) else if p ≤ pv + 3 then (p - pv + 1, 4) else (1, 1)
  | 10 => if p < pv then (1, 1) else if p ≤ pv + 3 then (4 - (p - pv + 1), 4) else (0, 1)
  | 11 => (4 - ((p - pv) + (pv - p)), 4)
  | 12 => weight (p % 2 == pv % 2)
  | 13 => weight (p % 4 == pv % 4)
  | 14 => (p, 15)
  | _ => (15 - p, 15)

/-- The forecast current code I(p) of an entry: B plus the weighted rest, rounded half up (R219). -/
def entCurrent (w : BitVec 32) (p : Nat) : Nat :=
  let a := entAmp w
  let b := a * entBase w / 15
  let (n, d) := template (entShape w) (entPivot w) p
  b + (2 * ((a - b) * n) + d) / (2 * d)

/-- The scaled forecast F(p) at a frequency code (R220). -/
def scaled (i code freq : Nat) : Nat :=
  let d := 400 + 25 * freq
  min 720 ((2 * (i * (400 + 25 * code)) + d) / (2 * d))

/-! ### Forecast stages and served clusters (R229, R230) -/

/-- Keep a list of values by stage in order of stage, those of one stage in the order they came. -/
def insertAt {α : Type} (at_ : α → Nat) (x : α) : List α → List α
  | [] => [x]
  | y :: ys => if at_ y ≤ at_ x then y :: insertAt at_ x ys else x :: y :: ys

/-- The engagements and releases of a cluster that hold from stage `t` or earlier. -/
def evsDue (m : CMan) (t : Nat) : List EngEv := m.evs.filter (fun e => decide (e.stage ≤ t))

/-- The cluster is or will be engaged for stage `t`, from what is scheduled (R229, R237, R238). -/
def engagedFor (m : CMan) (t : Nat) : Bool := (evsDue m t).foldl (fun _ e => e.on) m.engaged

/-- The cluster is or will still be diverged in stage `t`: it is not rejoined by then (R234, R237). -/
def divergedFor (m : CMan) (t : Nat) : Bool := m.diverged && !(evsDue m t).any EngEv.rejoin

/-- The usable entry of stage S + k. -/
def entryAt (m : CMan) (k : Nat) : Option (BitVec 32) := (m.ents.get k).word

/-- Stage S + k is a forecast stage of the cluster (R229). -/
def forecastStage (s : State) (c : Cluster) (k : Nat) : Bool :=
  s.man.st == .running && engagedFor c.m (s.clk.stage + k) && !divergedFor c.m (s.clk.stage + k) &&
    (match entryAt c.m k with
     | some w => !entNone w
     | none => false)

/-- The cluster can be served: in Active, regulating and not in drone mode; a waking cluster has not settled in Active yet
(R230, R235). -/
def serveable (c : Cluster) : Bool := c.s.st == .active && c.k.mode == .regulate && c.d.st == .none

/-- The cluster is served in the present pace (R230). -/
def servedNow (s : State) (c : Cluster) : Bool := forecastStage s c 0 && serveable c

/-- F of pace `p` of stage S + k at the frequency code in force, 0 when that is no forecast stage (R220, R229). -/
def forecastAt (s : State) (c : Cluster) (k p : Nat) : Nat :=
  if forecastStage s c k then
    match entryAt c.m k with
    | some w => scaled (entCurrent w p) s.seq.code s.man.freq
    | none => 0
  else 0

/-- The manifest counts as engaged for the guardband (R229). -/
def guardEngaged (s : State) (c : Cluster) : Bool := forecastStage s c 0 && forecastStage s c 1

/-! ### Forecasts of a segment, formed in the cycle of their use (R115, R132, R230) -/

/-- The forecast of segment `x` for pace `p` of stage S + k, in 25 mA: the served state of each cluster now holds for every
pace (R230). -/
def segForecast (s : State) (x k p : Nat) : Nat :=
  (s.cl.sumI (fun n c => if n % 12 == x && servedNow s c then (forecastAt s c k p : Int) else 0)).toNat

/-- The highest forecast of segment `x` from pace `p` of the present stage to the end of the next (R115, R132). -/
def segPeak (s : State) (x p : Nat) : Nat :=
  let a := (List.range 16).foldl (fun m j => if p ≤ j then max m (segForecast s x 0 j) else m) 0
  (List.range 16).foldl (fun m j => max m (segForecast s x 1 j)) a

end Sys2Proof.Machine
end

