-- ==== Sys2Proof/Machine/Groups.lean ====
section
/-! DEFINITION. The phase groups: on-times, the ripple emulator, balance trims, the rotation, shedding and the disabling of phases
(R107 to R117, R130 to R132). -/

namespace Sys2Proof.Machine

/-! ### Groups (R90, R107, R108) -/

/-- The rail a group belongs to (R107). -/
def railOfGroup (g : Nat) : Nat := if g < 12 then 0 else g - 11

/-- The groups of a rail (R107). -/
def groupsOfRail (r : Nat) : List Nat := if r = 0 then List.range 12 else [r + 11]

/-- The group a channel is wired to; a spare's plane is fused (R90, R107). -/
def groupOf (s : State) (i : Nat) : Nat :=
  if i < 96 then i / 8 else if i < 112 then 12 else if i < 120 then 13 else if i < 124 then 14
  else s.fuses.spareGroup.get (i - 124)

/-- The phase is live: Switching or Parked (R108). -/
def Phase.live (p : Phase) : Bool := p.st == .switching || p.st == .parked

/-- The phase is Switching. -/
def Phase.switching (p : Phase) : Bool := p.st == .switching

/-- Phase `i`. -/
def State.phase (s : State) (i : Nat) : Phase := s.phases.get i

/-- Group `g`. -/
def State.group (s : State) (g : Nat) : Group := s.groups.get g

/-- The channels of a group that satisfy a condition, ascending. -/
def groupPhases (s : State) (g : Nat) (p : Phase → Bool) : List Nat :=
  s.phases.places (fun i ph => groupOf s i == g && p ph)

/-- Live phases of a group. -/
def liveCount (s : State) (g : Nat) : Nat := (groupPhases s g Phase.live).length

/-- Switching phases of a group. -/
def swCount (s : State) (g : Nat) : Nat := (groupPhases s g Phase.switching).length

/-- L_g: live phases × 40 A, in A (R91, R133). -/
def limitA (s : State) (g : Nat) : Nat := 40 * liveCount s g

/-- The wake allowance A_x of a limit in A, in codes of 0.25 A rounded up (R92, R149); groups other than segments have
none. -/
def wakeAllowOf (g lim : Nat) : Nat := if g < 12 then ceilDiv (2 * lim) 25 else 0

/-- A current in 10 mA as a code of 0.25 A, to the nearest. -/
def quarterAmps (i : Int) : Int := roundDiv i 25

/-- The set-point of a group: its rail's instantaneous code (R109). -/
def groupSet (s : State) (g : Nat) : Nat := (s.rail (railOfGroup g)).sp.cur.toNat

/-! ### On-times (R109, R110) -/

/-- V_in in mV as the on-time law uses it: 9 V to 15 V (R110). -/
def vinClamped (s : State) : Nat := clampN 9000 15000 s.vin.mv

/-- T_on in 250 ps from the set-point code, V_in in mV and the trim: one rounding to the nearest with ties up, then 20 ns
to 400 ns (R109). -/
def onTimeOf (code vin : Nat) (trim : Int) : Nat :=
  let num : Int := 20000 * (code : Int) * (256 + trim)
  let den : Int := 768 * (vin : Int)
  clampN 80 1600 ((2 * num + den) / (2 * den)).toNat

/-! ### The ripple emulator (R112) -/

/-- A in nV of the ripple emulator (R112). -/
def ripAmp (gr : Group) : Nat := 1000000 * (4 + 2 * gr.ripAmp)

/-- What one 250 ps adds to the term of a phase in its on-time, in nV (R112). -/
def ripRise (gr : Group) (p : Phase) : Nat := ripAmp gr / max 1 p.pulseOn

/-- What one 250 ps takes from the term of a switching phase in its off-time, in nV (R112). -/
def ripFall (s : State) (g : Nat) (p : Phase) : Nat :=
  let v := 5 * groupSet s g
  let vin := 2 * vinClamped s
  ripAmp (s.group g) * v / ((vin - v) * max 1 p.onTime)

/-- The term of a phase after `k` steps of 250 ps: it rises in its on-time, falls to 0 in its off-time, and is 0 unless the
phase switches (R112). -/
def ripTerm (s : State) (g : Nat) (p : Phase) (k : Nat) : Nat :=
  if !p.switching then 0 else if p.pwm then p.ripple + k * ripRise (s.group g) p else p.ripple - k * ripFall s g p

/-- One step of 250 ps of the low part of the sum `x`, which the high-pass filter takes away; its time constant is 1, 2, 4 or
8 µs (R112). -/
def ripFilter (tau : Nat) (low x : Int) : Int := low + (32000 * x - low) / (4000 * 2 ^ tau)

/-- The emulator of a group is computed up to now, in steps of 250 ps (R112). -/
def ripTo (g : Nat) (s : State) : State :=
  let gr := s.group g
  let l := groupPhases s g (fun p => p.ripple != 0 || (p.pwm && p.switching))
  let s := s.updGrp g (fun gr => { gr with ripAt := s.clk.now })
  if l.isEmpty && gr.ripLow == 0 then s
  else
    let k := 4 * (s.clk.now - gr.ripAt)
    let sum (j : Nat) : Nat := l.foldl (fun a i => a + ripTerm s g (s.phase i) j) 0
    let low := (List.range k).foldl (fun low j => ripFilter gr.ripTau low (sum (j + 1))) gr.ripLow
    let s' := s.updGrp g (fun gr => { gr with ripLow := low })
    forEach l (fun i s' => s'.updPh i (fun p => { p with ripple := ripTerm s g p k })) s'

/-- V_inj of a group in µV at the moment up to which its emulator has been computed (R112). -/
def vinj (s : State) (g : Nat) : Int :=
  let sum := (groupPhases s g (fun _ => true)).foldl (fun (a : Int) i => a + (s.phase i).ripple) 0
  (sum - (s.group g).ripLow / 32000) / 1000

/-- Recompute the on-times of a group's phases; a phase that does not switch shows 0 (R109, R133). -/
def refreshOn (g : Nat) (s : State) : State :=
  let s := ripTo g s
  let v := vinClamped s
  let c := groupSet s g
  { s with phases := s.phases.mapI (fun i p =>
      if groupOf s i == g then { p with onTime := if p.switching then onTimeOf c v p.trim else 0 } else p) }

/-- Recompute the on-times of a rail's groups. -/
def refreshRail (r : Nat) (s : State) : State := forEach (groupsOfRail r) refreshOn s

/-! ### Unparking (R116, R117) -/

/-- A parked phase is unparked: its enable rises in the next cycle, and it enters the rotation 100 ns later; one that has yet
to be parked stays (R117). -/
def wakePhase (now : Nat) (p : Phase) : Phase :=
  if p.st == .parked && p.waking.isNone then { p with parking := false, waking := some (now + 101) }
  else { p with parkWait := false }

/-- Unpark every parked phase of a group at once (R116). -/
def unparkAll (g : Nat) (s : State) : State :=
  let s := { s with phases := s.phases.mapI (fun i p => if groupOf s i == g then wakePhase s.clk.now p else p) }
  soonIn 1 (.raiseEn g) (s.updGrp g (fun gr => { gr with unparkNow := true }))

/-- The unparked phases of a group have their enable raised (R117). -/
def raiseEn (g : Nat) (s : State) : State :=
  { s with phases := s.phases.mapI (fun i p =>
      if groupOf s i == g && p.st == .parked && p.waking.isSome then { p with en := true } else p) }

/-- The first of a list with the least value of `f`. -/
def argMin (f : Nat → Nat) : List Nat → Option Nat
  | [] => none
  | i :: is =>
    match argMin f is with
    | none => some i
    | some j => if f j < f i then some j else some i

/-- Unpark the phase of a group that has been parked longest (R117). -/
def unparkOne (g : Nat) (s : State) : State :=
  match argMin (fun i => (s.phase i).since) (groupPhases s g (fun p => p.st == .parked && p.waking.isNone)) with
  | some i => soonIn 1 (.raiseEn g) (s.updPh i (wakePhase s.clk.now))
  | none => s

/-- Unparking at cycle 0 of a pace: on the previous pace's current, or the forecast for the coming pace, per switching
phase above ADD_A (R116). -/
def unparkAtPace (g : Nat) (forecast : Nat) (s : State) : State :=
  let gr := s.group g
  let n := swCount s g
  if n = 0 then s
  else if decide ((100 * gr.addA * n : Int) < gr.curr) || decide (40 * gr.addA * n < forecast) then unparkOne g s
  else s

/-- The cache die an SA phase serves; a spare serves that of the phase it replaces (R115). -/
def saDie (s : State) (i : Nat) : Nat :=
  let k := if i < 124 then i else (s.phase i).replaces
  (k - 96) / 4

/-- Parking the phase keeps every cache die with a switching phase (R115). -/
def saKeepsDies (s : State) (i : Nat) : Bool :=
  (groupPhases s 12 Phase.switching).any (fun j => j != i && saDie s j == saDie s i)

/-- A phase is parked in its off-time (R117). -/
def Phase.park (now : Nat) (p : Phase) : Phase :=
  { p with st := .parked, parking := true, parkWait := false, waking := none, since := now, onTime := 0, ripple := 0 }

/-- Shedding of a group at a stage edge: the longest-switching phase is parked when load and forecast permit, once its
off-time has begun (R115, R117); the forecast is in 25 mA. -/
def shedAtEdge (g : Nat) (forecast : Nat) (s : State) : State :=
  let gr := s.group g
  let sw := groupPhases s g Phase.switching
  let n := sw.length
  let peak : Int := max (2 * gr.iPeak) (5 * (forecast : Int))
  let s := s.updGrp g (fun gr => { gr with iPeak := 0 })
  if gr.shedEn && !(s.rail (railOfGroup g)).tracking && decide (gr.minSw < n) && decide (1 < n)
      && decide (peak < 200 * (gr.shedA : Int) * ((n : Int) - 1)) then
    let ok := if g = 12 then sw.filter (saKeepsDies s) else sw
    match argMin (fun i => (s.phase i).since) ok with
    | some i => s.updPh i (fun p => if p.pwm then { p with parkWait := true } else p.park s.clk.now)
    | none => s
  else s

/-! ### Phase loss (R91, R131, R132) -/

/-- The swell clamp's test of a segment: load or forecast peak above L_x − A_x (R132), in mA. -/
def overSegment (s : State) (x : Nat) : Bool :=
  let l := limitA s x
  let room : Int := 1000 * (l : Int) - 250 * (wakeAllowOf x l : Int)
  decide (room < max (10 * (s.segs.get x).load) (25 * (segPeak s x s.clk.pace : Int)))

/-- What follows in the group of a phase that has been Disabled, in the cycle after (R132). -/
def phaseLoss (i : Nat) (cause : PhCause) (s : State) : State :=
  let g := groupOf s i
  let s := s.updPh i (fun p => { p with pwm := false, en := p.en && p.st != .disabled, pulseEnd := if p.pwm then some s.clk.now else p.pulseEnd })
  let s := unparkAll g s
  let s := if cause == .host then s else
    raise 0x0220 i ([BitVec.ofNat 8 cause.code, BitVec.ofNat 8 g, BitVec.ofNat 8 (liveCount s g), 0]
      ++ leBytes 2 (4 * limitA s g) ++ leBytes 2 (code2 16 (quarterAmps (s.group g).curr))) s
  if g < 12 && overSegment s g then s.updGrp g (fun gr => { gr with swellClamp := true }) else s

/-- The state of a phase that is taken out of service. -/
def Phase.out (st : PhState) (cause : PhCause) (p : Phase) : Phase :=
  { p with st, cause, en := false, pwm := false, onTime := 0, parking := false, parkWait := false, waking := none, trim := 0,
           ripple := 0, blocked := false, senseRun := 0, openRun := 0, stuckRun := 0 }

/-- A phase becomes Disabled; a pulse in progress ends in the next cycle, with what completes the disabling (R57, R131,
R132). -/
def disablePhase (i : Nat) (cause : PhCause) (s : State) : State :=
  if (s.phase i).st == .disabled then s
  else soonIn 1 (.loss i cause) ((ripTo (groupOf s i) s).updPh i (fun p => { p.out .disabled cause with en := p.en && p.pwm, pwm := p.pwm }))

/-- The condition of a cause has been met: the phase is Disabled if it still switches, or for the fault flag is parked
(R131). -/
def disableDue (i : Nat) (cause : PhCause) (s : State) : State :=
  let p := s.phase i
  if p.switching || (p.live && cause == .faultFlag) then disablePhase i cause s else s

/-- A phase enters Switching at trim 0 (R114). -/
def Phase.join (now : Nat) (p : Phase) : Phase :=
  { p with st := .switching, cause := .none, en := true, trim := 0, since := now, waking := none, parking := false,
           parkWait := false, senseRun := 0, openRun := 0, stuckRun := 0 }

/-- The phases of a list that have come to switch with their fault flag at 0 are Disabled in the next cycle (R131). -/
def judgeFlags (l : List Nat) (s : State) : State :=
  forEach (l.filter (fun i => (s.phase i).switching && (s.phase i).flagLow)) (fun i => soonIn 1 (.disable i .faultFlag)) s

/-- A spare holds the place of this phase (R90). -/
def replacedBy (s : State) (i : Nat) : Option Nat :=
  s.phases.places (fun _ p => p.spareIn && p.replaces == i) |>.head?

/-- The mean current of a group's switching phases in the last pace, as sum and count (R114). -/
def meanOf (s : State) (g : Nat) : Int × Nat :=
  let l := groupPhases s g Phase.switching
  (l.foldl (fun a i => a + (s.phase i).curr) 0, l.length)

/-- One monitor sample of a phase, in 10 mA, judged under R131: out of the monitor's range, or far below the mean, on two
consecutive samples of a switching phase. -/
def phaseSample (i : Nat) (u : Int) (s : State) : State :=
  let p := s.phase i
  let (sum, n) := meanOf s (groupOf s i)
  let bad := decide (u < -1200) || decide (7200 < u)
  let low := decide (0 < n) && decide (1000 * (n : Int) ≤ sum) && decide ((n : Int) * u < sum - 1500 * (n : Int))
  let p' := { p with iSum := p.iSum + u, iCnt := p.iCnt + 1,
                     senseRun := if p.switching && bad then p.senseRun + 1 else 0,
                     openRun := if p.switching && low then p.openRun + 1 else 0 }
  let s := s.updPh i (fun _ => p')
  if !p.switching then s
  else if 2 ≤ p'.senseRun then soonIn 1 (.disable i .currentSense) s
  else if 2 ≤ p'.openRun then soonIn 1 (.disable i .openPath) s
  else s

/-- Balance trims of a group at cycle 0 of a pace (R114), and the trim-limit condition of R131. -/
def trimGroup (g : Nat) (s : State) : State :=
  let (sum, n) := meanOf s g
  if n = 0 then s
  else
    let s := if 500 * (n : Int) ≤ sum then
        { s with phases := s.phases.mapI (fun i p =>
            if groupOf s i == g && p.switching then
              { p with trim := clampI (-16) 16 (p.trim + roundDiv (sum - n * p.curr) (400 * n)) } else p) }
      else s
    let stuck (p : Phase) : Bool :=
      (p.trim == 16 || p.trim == -16) &&
        (decide (1500 * (n : Int) < sum - n * p.curr) || decide (1500 * (n : Int) < n * p.curr - sum))
    let s := { s with phases := s.phases.mapI (fun i p =>
        if groupOf s i == g && p.switching then { p with stuckRun := if stuck p then p.stuckRun + 1 else 0 } else p) }
    forEach (groupPhases s g (fun p => p.switching && decide (64 ≤ p.stuckRun))) (fun i => soonIn 1 (.disable i .currentSense)) s

/-- The currents of the pace that ends: I_i of every phase from its samples, and the overcurrent flag (R114, R133). -/
def phaseAverages (s : State) : State :=
  { s with phases := s.phases.map (fun p =>
      { p with curr := if p.iCnt = 0 then (if p.st == .off then 0 else p.curr) else roundDiv p.iSum p.iCnt
               iSum := 0, iCnt := 0, ocActive := p.ocNow, ocNow := false }) }

/-- Group currents of the pace that ends: the sum of I_i over the live phases (R160). -/
def groupCurrents (s : State) : State :=
  { s with groups := s.groups.mapI (fun g gr =>
      let c := (groupPhases s g Phase.live).foldl (fun a i => a + (s.phase i).curr) 0
      { gr with curr := c, iPeak := max gr.iPeak c, unparkLast := gr.unparkNow, unparkNow := false }) }

/-! ### Pulses (R111 to R113) -/

/-- V_ref of a group in µV: the set-point plus Δ_g (R111). -/
def vref (s : State) (g : Nat) : Int := 2500 * (groupSet s g : Int) + 125 * (s.group g).delta

/-- The place of a phase in the rotation: a spare takes that of the phase it replaces (R113). -/
def rotPos (s : State) (i : Nat) : Nat := if i < 124 then i else (s.phase i).replaces

/-- The rail of a group holds its low side on at the end of a tracking stop (R121 step 3). -/
def lowHeld (s : State) (g : Nat) : Bool := s.stops.any (fun t => t.low.any (fun x => x.1 == railOfGroup g))

/-- The phase may start a pulse: not inhibited, not blocked, past its minimum off-time (R57, R59, R113, R129). -/
def Phase.ready (now : Nat) (p : Phase) : Bool :=
  p.switching && p.en && !p.pwm && !p.blocked && !p.inhibited &&
    (match p.pulseEnd with
     | some t => decide (t + 40 ≤ now)
     | none => true)

/-- The next ready phase of the rotation after the one that took the last pulse (R113). -/
def nextPhase (s : State) (g : Nat) : Option Nat :=
  let l := if lowHeld s g then [] else groupPhases s g (Phase.ready s.clk.now)
  let after := match (s.group g).rot with
    | some k => l.filter (fun i => decide (k < rotPos s i))
    | none => l
  match argMin (rotPos s) after with
  | some i => some i
  | none => argMin (rotPos s) l

/-- A phase starts a pulse: it runs for the on-time of this moment (R109, R113). -/
def startPulse (g i : Nat) (s : State) : State :=
  let s := (ripTo g s).updPh i (fun p => { p with
    pwm := true, pulseAt := s.clk.now, pulseOn := p.onTime, ocHist := (false :: p.ocHist).take 128 })
  s.updGrp g (fun gr => { gr with rot := some (rotPos s i), lastStart := some s.clk.now, pulseWait := false })

/-- The group's pulse starts on the next phase of the rotation, or waits for the first phase that becomes ready: the end of a
minimum off-time is looked for, and a block or a pulse that ends looks again (R113). -/
def pulseOrWait (g : Nat) (s : State) : State :=
  match nextPhase s g with
  | some i => startPulse g i s
  | none =>
    let s := s.updGrp g (fun gr => { gr with pulseWait := true })
    let ends := (groupPhases s g (fun p => p.switching && p.en && !p.pwm && !p.blocked && !p.inhibited)).filterMap
      (fun i => (s.phase i).pulseEnd.map (· + 40))
    match ends.filter (fun t => decide (s.clk.now < t)) with
    | [] => s
    | t :: ts => soonIn (ts.foldl min t - s.clk.now) (.pulse g) s

/-- A waiting pulse starts if it still waits (R113). -/
def pulseDue (g : Nat) (s : State) : State :=
  if (s.group g).pulseWait && (s.rail (railOfGroup g)).enabled then pulseOrWait g s else s

/-- The pulse of a phase ends: its off-time begins, in which it may be parked (R113, R117). -/
def endPulse (i : Nat) (s : State) : State :=
  let g := groupOf s i
  let s := (ripTo g s).updPh i (fun p =>
    let p := { p with pwm := false, pulseEnd := some s.clk.now }
    if p.parkWait then p.park s.clk.now else p)
  if (s.group g).pulseWait then soonIn 40 (.pulse g) s else s

/-- The fault flag inhibits the PWM of a phase while it is 0 (R59). -/
def inhibitDue (i : Nat) (s : State) : State :=
  let p := s.phase i
  if !p.flagLow then s
  else
    let s := if p.pwm then endPulse i s else s
    s.updPh i (fun p => { p with inhibited := true })

end Sys2Proof.Machine
end

