-- ==== Sys2Proof/Machine/Positions.lean ====
section
/-! DEFINITION. The positions of the telemetry converters: what each samples, and when its result is written (R176, R178,
R183 to R186, R189 to R191). -/

namespace Sys2Proof.Machine

/-- Converter `u`. -/
def State.conv (s : State) (u : Nat) : Conv := s.convs.get u

/-- Change converter `u`. -/
def State.updConv (s : State) (u : Nat) (f : Conv → Conv) : State := { s with convs := s.convs.modify u f }

/-- Change channel `c`. -/
def State.updChan (s : State) (c : Nat) (f : Chan → Chan) : State := { s with chans := s.chans.modify c f }

/-! ### The slots of a sequence (R178) -/

/-- A field of a sequence word (R178). -/
def seqField (w : BitVec 32) (lo len : Nat) : Nat := (w.toNat / 2 ^ lo) % 2 ^ len

/-- COND holds a slot back: the phase of its channel is Off and not under a PHASE_CONFIG check (R178). -/
def condIdle (s : State) (w : BitVec 32) : Bool :=
  let c := seqField w 0 9
  seqField w 18 1 == 1 && (s.phase (c - 144)).st == .off && !(s.checks.any (fun k => k.phase == c - 144))

/-- A slot is scheduled in pace `p`, in round 0 or round 1 (R178). -/
def slotScheduled (s : State) (w : BitVec 32) (p round : Nat) : Bool :=
  let d := 2 ^ seqField w 11 3
  seqField w (9 + round) 1 == 1 && p % d == seqField w 14 4 % d && !condIdle s w

/-- A slot runs at low power: whatever DIV and PH hold (R186). -/
def slotLowPower (s : State) (w : BitVec 32) : Bool := seqField w 9 2 != 0 && !condIdle s w

/-- Positions of a full-rate pace of `len` cycles (R176). -/
def positions (len : Nat) : Nat := if len = 630 then 126 else if len = 650 then 130 else 128

/-- Positions of a converter in the present pace: one of every 8 ADC clocks at low power (R176, R186). -/
def State.posCount (s : State) (v : Conv) : Nat := if v.lowPower then 16 else positions s.paceLen

/-- Cycles from one position to the next. -/
def Conv.posWidth (v : Conv) : Nat := if v.lowPower then 40 else 5

/-- Cycles from a position to the writing of its result (R176, R186). -/
def Conv.latency (v : Conv) : Nat := if v.lowPower then 360 else 45

/-- The scheduled channel of position `k` of the present pace, if it is not idle; a low-power round spans four paces (R178,
R186). -/
def slotAt (s : State) (v : Conv) (k : Nat) : Option Nat :=
  let w := v.seq.get (if v.lowPower then 16 * (s.clk.pace % 4) + k else k % 64)
  let runs := if v.lowPower then slotLowPower s w else decide (k < 128) && slotScheduled s w s.clk.pace (k / 64)
  if runs then some (seqField w 0 9) else none

/-- An idle position remains after position `k` in the same round (R184). -/
def idleRemains (s : State) (v : Conv) (k : Nat) : Bool :=
  if v.lowPower then
    let q := 16 * (s.clk.pace % 4) + k + 1
    (List.range (64 - q)).any (fun j => !slotLowPower s (v.seq.get (q + j)))
  else
    let stop := min (64 * (k / 64 + 1)) (min 128 (s.posCount v))
    (List.range (stop - (k + 1))).any (fun j => (slotAt s v (k + 1 + j)).isNone)

/-! ### Position by position (R184, R185, R189, R191) -/

/-- The converters run: they are on, and AX is enabled (R182). -/
def convsRun (s : State) : Bool := s.adc.on && (s.rail 3).enabled

/-- The converter collects calibration samples in this pace: in background mode, or for a system calibration from its first
pace until it has them all; not in a pace whose snapshot found AX out of window (R189, R191). -/
def collecting (s : State) (v : Conv) : Bool :=
  (s.rail 3).inWindow && (v.calMode || (v.calBusy && decide (v.calFrom ≤ s.clk.paceNo) && decide (v.calNum < 512)))

/-- A calibration sample is taken at `at_`, ZERO and CREF in turn: the 512th completes the block, and in background mode the
next block begins (R189, R191). -/
def Conv.collect (at_ : Nat) (v : Conv) : Conv :=
  if v.calNum + 1 < 512 then { v with calNum := v.calNum + 1 }
  else { v with calNum := if v.calMode then 0 else 512, calEnd := some (at_ + v.latency) }

/-- A channel is sampled at `at_`. -/
def Conv.sample (at_ c : Nat) (urgent : Bool) (v : Conv) : Conv :=
  { v with pipe := v.pipe.filter (fun e => decide (at_ ≤ e.due)) ++ [{ chan := c, urgent, due := at_ + v.latency }] }

/-- What a converter samples at its next position: the conversion displaced from the position before, an urgent one in an idle
position or where an idle one remains to absorb the slip, the scheduled one, or a calibration sample (R184, R185). -/
def Conv.take (s : State) (at_ : Nat) (slot : Option Nat) (room : Bool) (v : Conv) : Conv :=
  match v.carry, slot, v.urgQ with
  | some c, _, _ => { v.sample at_ c false with carry := slot }
  | none, none, c :: rest => { v.sample at_ c true with urgQ := rest }
  | none, some x, c :: rest =>
    if room then { v.sample at_ c true with urgQ := rest, carry := some x } else v.sample at_ x false
  | none, some x, [] => v.sample at_ x false
  | none, none, [] => if collecting s v then v.collect at_ else v

/-- A converter passes its next position; in the pace spent biasing up it converts nothing (R184, R186, R187). -/
def Conv.next (s : State) (v : Conv) : Conv :=
  let k := v.pos
  let at_ := s.clk.paceStart + v.posWidth * k
  let slot := slotAt s v k
  let v' := { v with pos := k + 1, due := match slot with | some c => c :: v.due | none => v.due }
  if v.bias then v' else v'.take s at_ slot (idleRemains s v k)

/-- Converter `u` passes its positions that begin up to `t` (R176). -/
def convTo (u t : Nat) (s : State) : State :=
  if !convsRun s || decide (t < s.clk.paceStart) then s
  else
    let v := s.conv u
    let n := min (s.posCount v) ((t - s.clk.paceStart) / v.posWidth + 1)
    s.updConv u (fun v => (List.range (n - v.pos)).foldl (fun v _ => v.next s) v)

/-- Every converter passes its positions up to `t`: before something changes that they depend on. -/
def convsTo (t : Nat) (s : State) : State :=
  if convsRun s then forEach (List.range 16) (fun u s => convTo u t s) s else s

/-- A converter passes positions, of the present pace, until one of its samples waits to be written. -/
def seekSample (s : State) : Nat → Conv → Conv
  | 0, v => v
  | fuel + 1, v =>
    if !v.pipe.isEmpty || decide (s.posCount v ≤ v.pos) then v else seekSample s fuel (v.next s)

/-- The converter with its next sample found: those whose moment has passed without a result are lost. -/
def Conv.ahead (s : State) (u : Nat) : Conv :=
  let v := (convTo u s.clk.now s).conv u
  let v := { v with pipe := v.pipe.filter (fun e => decide (s.clk.now ≤ e.due)) }
  if convsRun s then seekSample s 131 v else v

/-- An urgent conversion of a channel is requested: it joins its converter's queue, eligible from the next position, or sets
URG_DROP (R183, R445). -/
def urgentRequest (c : Nat) (s : State) : State :=
  let u := c % 16
  let s := convTo u s.clk.now s
  if 312 ≤ c || decide (4 ≤ (s.conv u).urgQ.length) then
    noteSet (0x20800 + 4 * u) 5 (s.updConv u (fun v => { v with urgDrop := true }))
  else s.updConv u (fun v => { v with urgQ := v.urgQ ++ [c] })

/-! ### The end of a calibration (R190, R191) -/

/-- A converter of a calibration finishes with a result; the last one answers the command (R190). -/
def calFinish (u result : Nat) (s : State) : State :=
  let s := s.updConv u (fun v => { v with calBusy := false, calAccept := false, calEnd := none })
  match s.adc.cals.find? (fun k => k.left.testBit u) with
  | none => s
  | some k =>
    let k' := { k with left := k.left - 2 ^ u, results := k.results.set u result }
    if k'.left = 0 then
      reply k.pkt 0x0A01 .ok (k'.results.val.map (BitVec.ofNat 8)) { s with adc := { s.adc with cals := s.adc.cals.erase k } }
    else { s with adc := { s.adc with cals := s.adc.cals.map (fun x => if x == k then k' else x) } }

/-- AX has left its window or is disabled: every system calibration that still collects ends, and every background block in
progress is discarded (R190, R191). -/
def calAbandon (s : State) : State :=
  let s := { s with convs := s.convs.map (fun v => if v.calMode then { v with calNum := 0, calEnd := none } else v) }
  forEach (s.convs.places (fun _ v => v.calBusy && !v.calAccept)) (fun u => calFinish u 5) s

/-- The converters stop with AX: their samples are lost, and every channel is without a first result again, so that its next
snapshot reads 0 (R182; DESIGN CHOICE log 86: VALUE keeps the last result). -/
def convsStop (s : State) : State :=
  let s := calAbandon (convsTo s.clk.now s)
  { s with adc := { s.adc with on := false }
           chans := s.chans.map (fun k => { k with seen := false, fresh := false })
           convs := s.convs.map (fun v => { v with lowPower := false, bias := false, pipe := [], carry := none, due := [] }) }

end Sys2Proof.Machine
end

