-- ==== Sys2Proof/Machine/Ram.lean ====
section
/-! DEFINITION. Ledger RAM: bytes and ranges of its canonical form, the trace that hardware keeps in it, and sealed tiles
(R4, R399, R426 to R432). -/

namespace Sys2Proof.Machine

/-- Ledger RAM outside the trace: the bytes that differ from what an unlisted byte reads as, by rising address. -/
abbrev Memory := List Host.Cell

/-- What an unlisted byte reads as. -/
def unlisted : Byte := 0

/-- The canonical form: addresses strictly rise, from `lo` on, and no byte listed equals an unlisted one. -/
def Memory.wfFrom : Nat → Memory → Bool
  | _, [] => true
  | lo, (a, b) :: rest => decide (lo ≤ a) && b != unlisted && Memory.wfFrom (a + 1) rest

/-- The canonical form of a memory. -/
def Memory.wf (m : Memory) : Bool := Memory.wfFrom 0 m

/-- The byte at an address. -/
def Memory.read : Memory → Nat → Byte
  | [], _ => unlisted
  | (a, b) :: rest, k => if a = k then b else Memory.read rest k

/-- The cells of consecutive bytes from an address that are listed. -/
def Memory.cellsOf : Nat → List Byte → Memory
  | _, [] => []
  | a, b :: bs => if b = unlisted then Memory.cellsOf (a + 1) bs else (a, b) :: Memory.cellsOf (a + 1) bs

/-- Store consecutive bytes from an address, in canonical form. -/
def Memory.store (m : Memory) (a : Nat) (bs : List Byte) : Memory :=
  m.filter (fun c => decide (c.1 < a)) ++ Memory.cellsOf a bs ++ m.filter (fun c => decide (a + bs.length ≤ c.1))

/-- `k` bytes from an address. -/
def Memory.load (m : Memory) (a k : Nat) : List Byte :=
  let near := m.filter (fun c => decide (a ≤ c.1) && decide (c.1 < a + k))
  (List.range k).map (fun i => Memory.read near (a + i))

/-! ### The trace as Ledger RAM shows it (R399) -/

/-- The 16 bytes of a trace record. -/
def TraceRec.bytes (r : TraceRec) : List Byte :=
  leBytes 4 r.stage ++ leBytes 2 (r.cycle + 1024 * (r.pace % 16)) ++ [BitVec.ofNat 8 r.kind, BitVec.ofNat 8 r.flags] ++ (padTo 8 r.body).take 8

/-- The record whose place in the trace is `k`, if one is held: record numbers modulo 8,192 (R399). -/
def recordAt (s : State) (k : Nat) : Option TraceRec :=
  let newest := (s.trc.next + 2 ^ 32 - 1) % 2 ^ 32
  s.trc.recs[(newest + 8192 - k) % 8192]?

/-- The byte of the trace region at an offset into it. -/
def traceByte (s : State) (off : Nat) : Byte :=
  match recordAt s (off / 16) with
  | some r => r.bytes.getD (off % 16) 0
  | none => unlisted

/-- A byte of Ledger RAM as every reader sees it. -/
def ramByte (s : State) (a : Nat) : Byte :=
  if 0xD0000 ≤ a && a < 0xF0000 then traceByte s (a - 0xD0000) else Memory.read s.led.ram a

/-- Bytes of Ledger RAM. -/
def ramLoad (s : State) (a k : Nat) : List Byte :=
  if a + k ≤ 0xD0000 || 0xF0000 ≤ a then Memory.load s.led.ram a k else (List.range k).map (fun i => ramByte s (a + i))

/-- Store bytes in Ledger RAM outside the trace. -/
def ramStore (a : Nat) (bs : List Byte) (s : State) : State := { s with led := { s.led with ram := Memory.store s.led.ram a bs } }

/-! ### Sealed tiles (R426, R431) -/

/-- The address of a sealed tile: tiles 0 to 255 are the code region, 256 to 639 lie from 0x6_0000 on (R426). -/
def tileAddr (t : Nat) : Nat := if t < 256 then 1024 * t else 0x60000 + 1024 * (t - 256)

/-- The sealed tile that holds an address (R426). -/
def tileOf (a : Nat) : Option Nat :=
  if a < 0x40000 then some (a / 1024)
  else if 0x60000 ≤ a && a < 0xC0000 then some (256 + (a - 0x60000) / 1024)
  else none

/-- The bytes of a tile. -/
def tileBytes (s : State) (t : Nat) : List Byte := ramLoad s (tileAddr t) 1024

/-- Store a tile and write its check, the bad mark cleared (R431, R432). -/
def sealTile (t : Nat) (bs : List Byte) (s : State) : State :=
  let bs := (padTo 1024 bs).take 1024
  let s := ramStore (tileAddr t) bs s
  { s with led := { s.led with
      tiles := s.led.tiles.set t { crc := crc32c bs, bad := false }
      tileBuf := s.led.tileBuf.filter (fun x => x != t) } }

/-- A sealed tile is marked bad (R431). -/
def tileBad (s : State) (t : Nat) : Bool := (s.led.tiles.get t).bad

/-- A tile read passes: the words as read give the entry's CRC (R431); a disturbed word fails it. -/
def tilePasses (s : State) (t : Nat) (upset : Bool) : Bool := !upset && crc32c (tileBytes s t) == (s.led.tiles.get t).crc

/-- Mark a tile bad (R431). -/
def markBad (t : Nat) (s : State) : State :=
  { s with led := { s.led with tiles := s.led.tiles.modify t (fun x => { x with bad := true }) } }

end Sys2Proof.Machine
end

