-- ==== Sys2Proof/Machine/Cells.lean ====
section
/-! DEFINITION. Regulator cells: calibration, sharing, the words of each pace, health and isolation (R134 to R147). -/

namespace Sys2Proof.Machine

/-- Cell `c`. -/
def State.cell (s : State) (c : Nat) : Cell := s.cells.get c

/-- The cells of a cluster. -/
def cellsOf (n : Nat) : List Nat := (List.range 12).map (fun k => 12 * n + k)

/-- Live cells of a cluster's mask. -/
def liveOf (m : BitVec 12) : Nat := ((List.range 12).filter (fun k => m.getLsbD k)).length

/-! ### Calibration (R137 to R141) -/

/-- A calibration point of 8 bytes (R137); an unused one has VPT above 560. -/
def calPoint (b : List Byte) : CalPt :=
  let w := leNat b
  let f := fun lo len => (w / 2 ^ lo) % 2 ^ len
  let share := signed 8 (f 44 8)
  let bad := decide (f 60 4 ≠ 0) || decide (share < -32) || decide (31 < share)
  { vpt := if bad then 1023 else f 0 10, vofs := signed 8 (f 10 8), igain := signed 10 (f 18 10), iofs := signed 8 (f 28 8),
    ron := f 36 8, share0 := share, vdo := f 52 8 }

/-- Insert a used point into points of ascending VPT; the later of two at one VPT stands (R138). -/
def insertCal (p : CalPt) : List CalPt → List CalPt
  | [] => [p]
  | q :: rest => if p.vpt < q.vpt then p :: q :: rest else if p.vpt = q.vpt then p :: rest else q :: insertCal p rest

/-- The used points of a cell's table, ascending in VPT (R138). -/
def usedCal (pts : List CalPt) : List CalPt :=
  pts.foldl (fun acc p => if p.vpt ≤ 560 then insertCal p acc else acc) []

/-- The bracket of a set-point among ascending points: the two that enclose it, or the end point beyond them (R139). -/
def bracket (v : Int) : List CalPt → List CalPt
  | a :: b :: rest => if v ≤ a.vpt then [a] else if v ≤ b.vpt then [a, b] else bracket v (b :: rest)
  | l => l

/-- The line between two points at `v`, to the nearest code with ties away from zero (R138). -/
def calLine (v : Int) (va vb : Nat) (a b : Int) : Int :=
  roundDiv (a * ((vb : Int) - va) + (b - a) * (v - va)) (vb - va)

/-- A field interpolated in a bracket; outside it the nearer point counts (R138, R139). -/
def calField (v : Int) (f : CalPt → Int) (dflt : Int) : List CalPt → Int
  | a :: b :: _ => if v ≤ a.vpt then f a else if (b.vpt : Int) ≤ v then f b else calLine v a.vpt b.vpt (f a) (f b)
  | [a] => f a
  | [] => dflt

/-- SHARE0 of the point of a bracket nearest the set-point (R138; DESIGN CHOICE log 99: of two points equally near, which the spec does
not decide, the one of the lower VPT counts). -/
def calShare (v : Int) : List CalPt → Int
  | a :: b :: _ => if (b.vpt : Int) - v < v - a.vpt then b.share0 else a.share0
  | [a] => a.share0
  | [] => 0

/-- The trim word of a cell at a set-point, with RON and VDO (R136, R138). -/
def trimCell (v : Int) (c : Cell) : Cell :=
  { c with vofs := calField v CalPt.vofs 0 c.pts, igain := calField v CalPt.igain 0 c.pts, iofs := calField v CalPt.iofs 0 c.pts,
           ron := (calField v (fun p => p.ron) 80 c.pts).toNat, vdo := (calField v (fun p => p.vdo) 100 c.pts).toNat,
           calDefault := c.pts.isEmpty }

/-- The calibration tile of a cell, as its tile-check entry counts (R137, R426). -/
def calTileOf (c : Nat) : Nat := 256 + c / 8

/-- The set-point has left the bracket of a cell: it is outside the two points, or on the other side of an end point than when
the bracket was taken (R139). -/
def Cell.leftBracket (c : Cell) (v : Int) : Bool :=
  match c.pts with
  | a :: b :: _ => decide (v < a.vpt) || decide ((b.vpt : Int) < v)
  | [a] => decide (v ≤ a.vpt) != decide (c.ptsAt ≤ a.vpt)
  | [] => false

/-- A calibration tile with a cell of the cluster is bad (R140). -/
def calBad (s : State) (n : Nat) : Bool := (cellsOf n).any (fun c => tileBad s (calTileOf c))

/-- Once the set-point has reached T_n, the cells of bad tiles change to the ROM default point: in the cycle after, or in the
cycle in which T_n changes to a value at or below the set-point (R140 step 3). -/
def calSettle (n : Nat) (s : State) : State :=
  let c := s.cluster n
  if c.v.calWait && c.v.curveDefault && (!c.v.sp.isMoving s.clk.now || decide ((c.v.target : Int) ≤ c.v.sp.cur)) then
    let s := forEach (cellsOf n) (fun i s => if tileBad s (calTileOf i) then s.updCell i (fun x => trimCell c.v.sp.cur { x with pts := [] }) else s) s
    s.updCl n (fun c => { c with v := { c.v with calWait := false } })
  else s

/-! ### Modes, sharing and words (R136, R142, R143) -/

/-- Set the mode of a cluster's cells that are not isolated; a cell that starts to regulate takes SHARE0 (R136, R138). -/
def setCells (n : Nat) (m : CellMode) (s : State) : State :=
  let v := (s.cluster n).v.sp.cur
  let s := s.updCl n (fun c => { c with k := { c.k with mode := m } })
  forEach (cellsOf n) (fun i s => s.updCell i (fun c =>
    if c.mode == .isolated then c
    else if c.retest && m != .regulate then { c with mode := .isolated, retest := false }
    else { c with mode := m, share := if m == .regulate && c.mode != .regulate then calShare v c.pts else c.share })) s

/-- The share trims of a cluster at cycle 0 of a pace, over the cells that regulated in the pace that ends (R142). -/
def shareTrims (n : Nat) (s : State) : State :=
  let live := (cellsOf n).filter (fun i => (s.cell i).mode == .regulate && (s.cell i).cmdMode == .regulate)
  let sum : Int := live.foldl (fun a i => a + ((s.cell i).curr : Int)) 0
  let k := live.length
  if k = 0 || decide (sum < 250 * (k : Int)) then s
  else
    forEach live (fun i s => s.updCell i (fun c =>
      let d := clampI (-4) 4 (roundDiv (32 * (sum - k * c.curr)) sum.toNat)
      { c with share := clampI (-32) 31 (c.share + d) })) s

/-- The cell has carried current throughout the pace that ends, as a regulator or as a switch (R103, R144). -/
def Cell.carried (c : Cell) : Bool :=
  (c.mode == .regulate || c.mode == .switch) && (c.cmdMode == .regulate || c.cmdMode == .switch)

/-- The paces for which the open and share conditions of R144 have held, from the currents and share trims of the pace that
ends; they are judged in drone mode too (R103). -/
def healthRuns (n : Nat) (s : State) : State :=
  let live := (cellsOf n).filter (fun i => (s.cell i).carried)
  let sum : Int := live.foldl (fun a i => a + ((s.cell i).curr : Int)) 0
  let k : Int := live.length
  forEach (cellsOf n) (fun i s => s.updCell i (fun c =>
    if !c.carried then { c with openRun := 0, shareRun := 0 }
    else
      let dev : Int := if sum < k * c.curr then k * c.curr - sum else sum - k * c.curr
      { c with
        openRun := if decide (500 * k ≤ sum) && decide (10 * k * c.curr < sum) then c.openRun + 1 else 0
        shareRun := if (c.share == -32 || c.share == 31) && decide (sum < 4 * dev) then c.shareRun + 1 else 0 })) s

/-! ### The local loop of a cell (R134, R135) -/

/-- V_ref,c in µV: the set-point with the engine's correction, plus VOFS (R134, R136). -/
def Cell.vref (c : Cell) : Int := 300000 + 1250 * (c.setpoint : Int) + 125 * c.vofs

/-- I_cmd,c in mA from u_c: w_c × u_c + FF, with w_c = (128 + SHARE_c) ÷ 128 (R134). -/
def Cell.commandOf (c : Cell) (u : Int) : Int := roundDiv ((128 + c.share) * u) 128 + 25 * (c.ff : Int)

/-- The current in mA that the drive sets: the command while the cell regulates, within 0 A and the 3.5 A of R135; none while
the pass device is driven off. A switch is fully on, and its current is the resistance's to set (R103, R134, R135, R145). -/
def Cell.driveOf (c : Cell) (i : Int) : Nat :=
  if c.mode == .regulate && c.isoAt.isNone then (clampI 0 3500 i).toNat else 0

/-- One sample of the local loop at the domain voltage `v` in µV: the error, u_c through the proportional-integral law, the
current command and the drive; a command above 3.5 A is limited (R134, R135). -/
def Cell.sample (v : Int) (c : Cell) : Cell :=
  if c.mode != .regulate then { c with integral := 0, loopOut := 0, command := 0, drive := 0 }
  else
    let e := c.vref - v
    let sum := c.integral + e
    let u := (Config.cellKp * e + Config.cellKi * sum) / 2 ^ 20
    let i := c.commandOf u
    { c with integral := sum, loopOut := u, command := i, drive := c.driveOf i, limNow := c.limNow || decide (3500 < i) }

/-- The status words of the pace that ends: I_c, the flags and LIMITING, the last local sample where it is reported, and the
cluster currents (R134 to R136, R160). A cell that was off or isolated throughout the pace has carried no current. -/
def cellWords (ws : List CellWord) (s : State) : State :=
  let s := { s with cells := s.cells.map (fun (c : Cell) =>
    if c.cmdMode == CellMode.off || c.cmdMode == CellMode.isolated then { c with curr := 0, flags := 0 } else c) }
  let s := ws.foldl (fun s w => s.updCell w.cell (fun c =>
    let c := { c with curr := min 4095 w.curr, flags := w.flags % 8 }
    match w.vloc with
    | some v => c.sample v
    | none => c)) s
  let s := { s with cells := s.cells.map (fun c =>
    { c with limiting := c.limNow, limNow := false
             limitPaces := if c.limNow then min 65535 (c.limitPaces + 1) else c.limitPaces }) }
  { s with cl := s.cl.mapI (fun n c =>
    let sum : Int := (cellsOf n).foldl (fun a i => a + ((s.cell i).curr : Int)) 0
    let cur := (roundDiv sum 10).toNat
    { c with g := { c.g with cur } }) }

/-- The command and trim words of one cell: set-point with the engine's correction, mode, share, feedforward and the trims at
the set-point; a cell of a bad tile keeps its trim word until it changes to the default point (R136, R138, R140, R167). -/
def commandCell (s : State) (i : Nat) (c : Cell) : Cell :=
  let cl := s.cluster (i / 12)
  let c := if tileBad s (calTileOf i) && !c.pts.isEmpty then c else trimCell cl.v.sp.cur c
  { c with setpoint := (clampI 0 560 (cl.v.sp.cur + cl.v.corr)).toNat
           ff := if cl.droneOut || c.mode != .regulate then 0 else cl.m.ff
           cmdMode := c.mode }

/-- The words of the cells of one cluster, written again in the cycle 0 in which its wake is admitted (R136, R148). -/
def commandCluster (n : Nat) (s : State) : State := forEach (cellsOf n) (fun i s' => s'.updCell i (commandCell s i)) s

/-- The tiles whose cells' set-point has left its bracket, ascending and not yet requested (R139). -/
def wantedTiles (s : State) : List Nat :=
  (List.range 216).filter (fun t => !tileBad s (256 + t) && !s.led.calReq.contains t &&
    (List.range 8).any (fun k =>
      let c := s.cell (8 * t + k)
      (c.mode == .regulate || c.mode == .switch) && c.leftBracket (s.cluster ((8 * t + k) / 12)).v.sp.cur))

/-- The words of a pace for every cell (R136), and the reads that their brackets need (R139). -/
def cellCommands (s : State) : State :=
  let s := { s with cells := s.cells.mapI (commandCell s) }
  { s with led := { s.led with calReq := s.led.calReq ++ wantedTiles s } }

/-! ### Isolation (R144 to R147) -/

/-- The cell limits its current to 3.5 A on a local sample, taken at the domain voltage (R134, R135). -/
def execCellCurrentLimit (x : CellVolt) (s : State) : Host.Outcome State Fault Refusal :=
  if (s.cell x.cell).mode == .regulate || (s.cell x.cell).mode == .switch then
    done (s.updCell x.cell (fun c => { c.sample x.v with limNow := true }))
  else idle s

/-- The cluster of a cell is in the self-test of a wake from Dormant (R144). -/
def inSelfTest (s : State) (c : Nat) : Bool :=
  match (s.cluster (c / 12)).s.trans with
  | some t => t.phase == .selfTest
  | none => false

/-- A condition of R144 is met: two by the sensed current in mA, held for 4 samples, two by the paces counted, and one in the
self-test of a wake. -/
def healthHeld (s : State) (i : Nat) (mA : Int) : CellCause → Bool
  | .openPath => decide (4 ≤ (s.cell i).openRun)
  | .share => decide (64 ≤ (s.cell i).shareRun)
  | .none => false
  | .currentSense => decide (mA < -500) || decide (5000 < mA)
  | .short => decide (4500 < mA)
  | .selfTest => inSelfTest s i && (decide (mA < -100) || decide (100 < mA))

/-- A cell health condition is met, with the current sensed on the samples that meet it: isolation begins with the pass
device off; a cell under retest goes back to its isolation (R144, R145 step 1, R289). -/
def execCellHealthFault (x : CellSense) (cause : CellCause) (s : State) : Host.Outcome State Fault Refusal :=
  let c := s.cell x.cell
  if c.mode != .isolated && c.isoAt.isNone && healthHeld s x.cell x.mA cause then
    done (s.updCell x.cell (fun c =>
      if c.retest then { c with mode := .isolated, retest := false, drive := 0, openRun := 0, shareRun := 0 }
      else { c with isoAt := some cause, drive := 0 }))
  else idle s

/-- The isolation switch of a cell opens: MODE 0b11, its cause, and the cell leaves LIVE_MASK; the cluster's account waits
for the next cycle 0 (R145 steps 3 and 4). -/
def isolate (c : Nat) (cause : CellCause) (s : State) : State :=
  let curr := (s.cell c).curr
  let s := s.updCell c (fun x => { x with mode := .isolated, cause, isoAt := none, drive := 0, openRun := 0, shareRun := 0 })
  s.updCl (c / 12) (fun cl => { cl with k := { cl.k with
    liveMask := cl.k.liveMask &&& ~~~(BitVec.ofNat 12 (2 ^ (c % 12)))
    isolated := cl.k.isolated ++ [{ cell := c, cause, curr }] } })

/-- The isolation of a cell completes (R145 step 3). -/
def execCellIsolationComplete (c : CellId) (s : State) : Host.Outcome State Fault Refusal :=
  match (s.cell c).isoAt with
  | some cause => done (isolate c cause s)
  | none => idle s

/-- The ceilings of a cluster with `m` live cells in 10 mA: sustained and one-stage (R102, R146). -/
def ceilings (m : Nat) : Nat × Nat := if 10 ≤ m then (1250, 1800) else (1250 * m / 12, 1800 * m / 12)

/-- The live count and ceilings of a cluster follow its LIVE_MASK (R145, R146). -/
def recountCells (n : Nat) (s : State) : State :=
  s.updCl n (fun c =>
    let m := liveOf c.k.liveMask
    { c with k := { c.k with live := m, limSus := (ceilings m).1, limOne := (ceilings m).2 } })

/-- The reports of a cluster's isolations, the live count falling by one with each (R147, R409). -/
def reportIsolations (m : Nat) : List IsoRec → State → State
  | [], s => s
  | r :: rs, s =>
    reportIsolations (m - 1) rs
      (raise 0x0313 r.cell ([BitVec.ofNat 8 r.cause.code, BitVec.ofNat 8 (m - 1)] ++ leBytes 2 r.curr) s)

/-- Step 4 of the isolations of a cluster at cycle 0 of a pace: count, ceilings and events; what a cluster below 8 live
cells does follows in its state rules (R145, R147). -/
def accountIsolations (n : Nat) (s : State) : State :=
  let c := s.cluster n
  if c.k.isolated.isEmpty then s
  else
    let m0 := c.k.live
    let s := recountCells n (s.updCl n (fun c => { c with k := { c.k with isolated := [] } }))
    let m := (s.cluster n).k.live
    let s := reportIsolations m0 c.k.isolated s
    if m = 8 || m = 9 then
      raise 0x0314 n (leBytes 2 (ceilings m).1 ++ leBytes 2 (ceilings m).2 ++ [BitVec.ofNat 8 m]) s
    else s

end Sys2Proof.Machine
end

