-- ==== Sys2Proof/Machine/Droop.lean ====
section
/-! DEFINITION. The state of the transient line of each cluster: trip levels, stretch and its record, and what a bellows does in
each of its states (R52, R53, R196 to R215). -/

namespace Sys2Proof.Machine

/-! ### Sentinels (R196 to R201, R52, R53) -/

/-- The sentinel is active: of a waking cluster from the first step of its ramp (R198). -/
def sentActive (c : Cluster) : Bool :=
  match c.s.st with
  | .active | .rest => c.k.mode == .regulate || c.droneOut
  | _ => match c.s.trans with
    | some t => match t.phase with
      | .wakeRamp => c.w.stepped
      | .rampDone | .resetDone => true
      | .finalEcho => t.target == .active || t.target == .rest
      | _ => false
    | none => false

/-- The set-point before a step of this cycle, by which a crossing of the same cycle is judged (R213). -/
def SetPoint.before (p : SetPoint) (now : Nat) : Int :=
  if p.stepAt == now && p.stepAt != 0 then (if p.up then p.cur - 1 else p.cur + 1) else p.cur

/-- V_trip in 0.25 mV at a set-point: the set-point less the threshold, and in drone mode less the switch drop at the one-stage limit,
18 A × (m ÷ 12) × 12 mΩ ÷ m = 18 mV (R196 to R198). -/
def tripAt (c : Cluster) (sp : Int) : Int :=
  1200 + 5 * sp - (40 + 10 * (c.t.thresh : Int)) - (if c.droneOut then 72 else 0)

/-- V_trip in 0.25 mV (R196). -/
def tripLevel (c : Cluster) : Int := tripAt c c.v.sp.cur

/-- A domain voltage in µV is at or below the trip level of this cycle, which a set-point step of the cycle does not move
(R196, R213). -/
def crosses (s : State) (c : Cluster) (uv : Int) : Bool := decide (uv ≤ 250 * tripAt c (c.v.sp.before s.clk.now))

/-- The release level in µV: V_trip + 5 mV, with the threshold in force (R197, R199). -/
def releaseLevel (c : Cluster) : Int := 250 * tripLevel c + 5000

/-- Pace of the present stage in which a moment lies. -/
def paceAt (s : State) (t : Nat) : Nat := min 15 ((t - s.clk.stageStart) / 640)

/-- The stretch in progress is counted up to now, and EV_STRETCH_HIGH follows the first crossing of 256 ns in the stage: in
this cycle at the edge that closes the stage, else in the next (R52, R53). -/
def countStretch (edge : Bool) (n : Nat) (s : State) : State :=
  let c := s.cluster n
  if !c.t.tripped then s
  else
    let before := c.t.total
    let after := before + (s.clk.now - c.t.countFrom)
    let s := s.updCl n (fun c => { c with t := { c.t with total := after, countFrom := s.clk.now, nowSeen := true } })
    if before < 256 && 256 ≤ after then
      let data := leBytes 2 (min 65535 after) ++ [BitVec.ofNat 8 (paceAt s (c.t.countFrom + (256 - before)))]
      if edge then raisePeriod 0x0320 n data s else soonIn 1 (.stretchHigh n s.clk.stage data) s
    else s

/-- EV_STRETCH_HIGH of a stage, once in a period (R53). -/
def stretchHigh (n stage : Nat) (data : List Byte) (s : State) : State :=
  if raisedOnce s 0x0320 n then s
  else raiseEv { code := 0x0320, source := n, stage, data } { s with evt := { s.evt with once := { code := 0x0320, source := n } :: s.evt.once } }

/-- The stretch of a cluster falls (R199, R201). -/
def stretchEnd (n : Nat) (s : State) : State :=
  if (s.cluster n).t.tripped then
    (countStretch false n s).updCl n (fun c => { c with t := { c.t with tripped := false, allStage := false } })
  else s

/-- Stretch of the stage that closes (R52, R54): totals recorded, a stretch in progress split, and the stuck condition
judged (R215 cause 2). -/
def stretchClose (n : Nat) (s : State) : State :=
  let s := countStretch true n s
  s.updCl n (fun c =>
    let last := min 65535 c.t.total
    { c with t := { c.t with
        lastNs := last, maxNs := max c.t.maxNs last, periodNs := c.t.periodNs + c.t.total, total := 0,
        stuck := c.t.tripped && c.t.allStage, allStage := c.t.tripped } })

/-- FLT_SENTINEL cause 2 of a stuck sentinel belongs to the stage that opens (R48, R215). -/
def stuckReport (n : Nat) (s : State) : State :=
  let c := s.cluster n
  if c.t.stuck then
    raisePeriod 0x0316 n ([2] ++ leBytes 2 (code2 16 (s.chans.get n).value) ++ [BitVec.ofNat 8 c.t.thresh]) s
  else s

/-- What each snapshot says of the sentinels: the stretch of the paces, and the level that the stuck condition needs (R211,
R215). -/
def stretchPace (s : State) : State :=
  { s with cl := s.cl.mapI (fun n c => { c with t := { c.t with
      hist := ((c.t.nowSeen || c.t.tripped) :: c.t.hist).take 16
      nowSeen := c.t.tripped
      allStage := c.t.allStage && decide (tripLevel c + 20 ≤ (s.chans.get n).snap) } }) }

/-- Stretch in the SETTLE window before an edge, whose last pace has not been closed yet (R211). -/
def settleStretch (s : State) (c : Cluster) : Bool :=
  c.t.tripped || c.t.nowSeen || (c.t.hist.take s.blwCfg.settle).any id

/-! ### Bellows (R202 to R209) -/

/-- The code of BRX_BLW_n.STATE (R202). -/
def blwCode (b : Blw) : Nat :=
  match b.st with
  | .off => 0
  | .charging => if b.first then 1 else 6
  | .ready => if b.fcAt.isSome then 3 else 2
  | .firing => 4
  | .waiting => 5
  | .fault => 7

/-- The bellows is armed for R23 and R96 (R204). -/
def blwArmed (c : Cluster) : Bool := c.b.hostArm && c.b.firstDone && c.b.st != .fault && !c.t.selftestFail

/-- A fire begins with a current in 25 mA and a cause (R205 to R207). -/
def blwFire (n cur cause : Nat) (s : State) : State :=
  s.updCl n (fun c => { c with b := { c.b with
    st := .firing, fire := true, fireAt := s.clk.now, fireEnd := s.clk.now + 20 * s.blwCfg.fireWin, fireI := cur,
    last := cause, fires := min 65535 (c.b.fires + 1) } })

/-- The sentinel fire current I_f in 25 mA (R204). -/
def tripCurrent (s : State) : Nat := 40 * (2 + s.blwCfg.fireI)

/-- A trip meets the bellows: it fires one that is Ready or Armed; in the cycle in which a forecast fire begins there is one
fire at the larger current (R205, R207, R212). -/
def blwTrip (n : Nat) (s : State) : State :=
  let b := (s.cluster n).b
  match b.st with
  | .ready => blwFire n (tripCurrent s) 1 s
  | .firing =>
    if b.fireAt == s.clk.now && b.last == 2 then
      s.updCl n (fun c => { c with b := { c.b with fireI := max c.b.fireI (tripCurrent s), last := 3 } })
    else s
  | _ => s

/-- A crossing of an active sentinel: stretch rises, a Ready bellows fires, and the segment's phases unpark in the next cycle
(R116, R196, R201, R205). -/
def trip (n : Nat) (uv : Int) (s : State) : State :=
  let c := s.cluster n
  if !sentActive c || c.t.tripped || !crosses s c uv then s
  else
    let s := s.updCl n (fun c => { c with t := { c.t with
      tripped := true, riseAt := s.clk.now, countFrom := s.clk.now, nowSeen := true, trips := min 65535 (c.t.trips + 1) } })
    soonIn 1 (.unpark (n % 12)) (blwTrip n s)

/-- The crossings of a cycle 0, before anything else of that cycle (R49, R210). -/
def trips (l : List Crossing) (s : State) : State := forEach (l.filter (fun x => decide (x.cluster < 144))) (fun x => trip x.cluster x.uv) s

/-- A forecast fire at the boundary it was named for: it fires a Ready bellows, or is skipped (R206). -/
def forecastFire (n : Nat) (s : State) : State :=
  let b := (s.cluster n).b
  match b.fcAt with
  | none => s
  | some cur =>
    let s := s.updCl n (fun c => { c with b := { c.b with fcAt := none } })
    match b.st with
    | .ready => blwFire n cur 2 s
    | .firing =>
      if b.fireAt == s.clk.now && b.last == 1 then
        s.updCl n (fun c => { c with b := { c.b with fireI := max c.b.fireI cur, last := 3 } })
      else
        raisePeriod 0x0324 n [BitVec.ofNat 8 (blwCode b)]
          (s.updCl n (fun c => { c with b := { c.b with skips := min 255 (c.b.skips + 1) } }))
    | _ =>
      raisePeriod 0x0324 n [BitVec.ofNat 8 (blwCode b)]
        (s.updCl n (fun c => { c with b := { c.b with skips := min 255 (c.b.skips + 1) } }))

/-- A bellows asks for a charge slot from a moment on (R208). -/
def blwAsk (first : Bool) (at_ : Nat) (b : Blw) : Blw := { b with st := .waiting, first, askAt := at_, fire := false, chg := false, ending := false }

/-- A bellows goes Off. -/
def blwOff (b : Blw) : Blw := { b with st := .off, fire := false, chg := false, ending := false, leaveWhenDone := false, firstDone := false }

/-- What follows a fire whose drive falls now: one cycle on the bellows asks for a slot, or it goes Off (R203, R207, R208). -/
def fireEnded (n : Nat) (s : State) : State :=
  s.updCl n (fun c =>
    if c.b.st != .firing then c
    else { c with b := if c.b.leaveWhenDone then blwOff c.b else blwAsk (!c.b.firstDone) (s.clk.now + 1) c.b })

/-- A charge slot frees in this cycle (R208). -/
def slotFreed (s : State) : State :=
  { s with blwCfg := { s.blwCfg with
      freedAt := s.clk.now, freedCnt := if s.blwCfg.freedAt = s.clk.now then s.blwCfg.freedCnt + 1 else 1 } }

/-- A charge ends: the bellows is Ready, and Armed for a forecast fire that waits, whose segment unparks; or it goes Off
(R116, R203, R206, R208). -/
def chargeEnded (n : Nat) (s : State) : State :=
  let b := (s.cluster n).b
  if b.st != .charging then s
  else
    let next (b : Blw) : Blw := if b.leaveWhenDone then blwOff b else { b with st := .ready, chg := false, ending := false, firstDone := true }
    let s := slotFreed (s.updCl n (fun c => { c with b := next c.b }))
    if b.fcAt.isSome && !b.leaveWhenDone then soonIn 1 (.unpark (n % 12)) s else s

/-- The charge path opens and the bellows enters Fault (R214). -/
def blwFaulted (n cause : Nat) (s : State) : State :=
  let b := (s.cluster n).b
  if b.st == .off || b.st == .fault then s
  else
    let s := if b.st == .charging then slotFreed s else s
    s.updCl n (fun c => { c with b := { c.b with
      st := .fault, faultCause := cause, fire := false, chg := false, ending := false, leaveWhenDone := false } })

/-- The current in 25 mA that a fire delivers at most, at a cluster node in µV: none above V_sp + 10 mV (R207). -/
def blwCurrent (c : Cluster) (uv : Int) : Nat :=
  if c.b.fire && decide (uv ≤ 1250 * (240 + c.v.sp.cur) + 10000) then c.b.fireI else 0

/-- Bellows holding a charge slot (R208). -/
def slotsHeld (s : State) : Nat := s.cl.count (fun c => c.b.st == .charging)

/-- Nanoseconds since the grant, as FLT_BELLOWS reports them (R215). -/
def sinceGrant (s : State) (b : Blw) : Nat :=
  if b.grantAt = 0 then (Config.sinceNoGrant s.clk.now).toNat else min 65535 (s.clk.now - b.grantAt)

/-- The deadline of a charge in progress (R209). -/
def chargeDue (b : Blw) : Nat := b.grantAt + (if b.first then 5000 else 2000)

/-- AX is disabled, or a thermal trip: every bellows that is not in Fault goes Off, HOST_ARM kept (R203, R347). -/
def bellowsOff (s : State) : State :=
  { s with cl := s.cl.map (fun c => if c.b.st == .fault then c else { c with b := blwOff c.b }) }

/-- Armed bellows in Off ask for a first charge once AX is in window (R203). -/
def bellowsWake (s : State) : State :=
  let ax := s.rail 3
  if ax.enabled && ax.inWindow then
    { s with cl := s.cl.map (fun c =>
        if c.b.hostArm && c.b.st == .off then { c with b := blwAsk true (s.clk.now + 1) c.b } else c) }
  else s

/-- ARM BELLOWS reaches one cluster (R203, R208, R214). -/
def blwArm (n : Nat) (s : State) : State :=
  s.updCl n (fun c =>
    let b := c.b
    let b' := { b with hostArm := true, leaveWhenDone := false, firstDone := b.firstDone && b.hostArm && b.st != .fault, faultCause := 0 }
    let ask := (s.rail 3).enabled && (b.st == .off || b.st == .fault)
    { c with b := if ask then blwAsk true (s.clk.now + 1) b' else if b.st == .fault then { b' with st := .off } else b' })

/-- Disarming BELLOWS reaches one cluster (R203). -/
def blwDisarm (n : Nat) (s : State) : State :=
  s.updCl n (fun c =>
    let b := { c.b with hostArm := false }
    let b' := match b.st with
      | .firing | .charging => { b with leaveWhenDone := true }
      | .waiting | .ready => blwOff b
      | _ => b
    { c with b := b' })

end Sys2Proof.Machine
end

