-- ==== Sys2Proof/Machine/Time.lean ====
section
/-! DEFINITION. The passing of model time: what falls in the cycles that pass, and the frames of timed rows (R29, R34, R41,
R46). -/

namespace Sys2Proof.Machine

/-! ### What falls in a later cycle -/

/-- An effect falls, in the present cycle. -/
def fallNow (w : Soon) (s : State) : State :=
  match w with
  | .refresh r => refreshRail r s
  | .tickLow => { s with clk := { s.clk with tick := false } }
  | .unpark g => unparkAll g s
  | .raiseEn g => raiseEn g s
  | .pulse g => pulseDue g s
  | .inhibit i => inhibitDue i s
  | .disable i c => disableDue i c s
  | .loss i c => phaseLoss i c s
  | .calSettle n => calSettle n s
  | .fireEnd n => fireEnded n s
  | .chargeEnd n => chargeEnded n s
  | .blwFault n c => blwFaulted n c s
  | .stretchHigh n st d => stretchHigh n st d s
  | .masks op m cs => applyEventMask op m cs s

/-- The first effect that falls at or before `t`, the earliest of those that wait. -/
def nextSoon (t : Nat) (l : List SoonEnt) : Option SoonEnt :=
  l.foldl (fun b e =>
    if decide (t < e.due) then b
    else match b with
      | some x => if e.due < x.due then some e else b
      | none => some e) none

/-- The effects that fall up to `t`, each in its cycle, and the events they raise; those they bring about in their turn fall
two cycles on at most. -/
def fallTo (t : Nat) : Nat → State → State
  | 0, s => s
  | fuel + 1, s =>
    match nextSoon t s.clk.soon with
    | none => s
    | some e =>
      let s := { s with clk := { s.clk with now := max s.clk.now e.due, soon := s.clk.soon.erase e } }
      let s := boostCheck (fallNow e.what s)
      fallTo t fuel (if s.clk.p0Pending then s else enterEvents s)

/-- Time passes to `t`, past everything that falls on the way and in the cycle `t` itself. -/
def passTo (t : Nat) (s : State) : State :=
  if s.clk.soon.isEmpty then { s with clk := { s.clk with now := max s.clk.now t } }
  else
    let s := fallTo t (4 * s.clk.soon.length + 64) s
    { s with clk := { s.clk with now := max s.clk.now t } }

/-! ### Timed rows -/

/-- Bring model time to `due`: at once when that moment has come; by letting time pass when it lies inside the current
pace, or before the stage generator runs; not at all when a pace boundary lies between, that of p0 in an edge cycle among
them. -/
def reach (due : Nat) (s : State) : Option State :=
  if due ≤ s.clk.now then some s
  else if !s.clk.running || (!s.clk.p0Pending && decide (due < s.paceEnd)) then some (passTo due s)
  else none

/-- A timed command: when its moment `due` can be reached, `f` happens then. -/
def atTime (due : Nat) (f : State → State) (s : State) : Host.Outcome State Fault Refusal :=
  match reach due s with
  | some s => done (f s)
  | none => idle s

/-- A cycle passes, but not past the end of the pace in progress: a pace boundary is an event of its own (R29, R34). -/
def tick (s : State) : State :=
  if s.clk.running && (s.clk.p0Pending || decide (s.paceEnd ≤ s.clk.now + 1)) then s
  else passTo (s.clk.now + 1) s

/-- A deadline expires: what follows falls in its cycle, and the cycle is over. A row that comes after it falls later, so an
arrival of this cycle is one that came before it, and has met the deadline (R41, R46). An edge cycle is not over before its
boundary of p0. -/
def lapse (f : State → State) (s : State) : Host.Outcome State Fault Refusal :=
  if s.clk.p0Pending then idle s else .next (tick (finish (f s)))

/-- A timed deadline expires. -/
def lapseAt (due : Nat) (f : State → State) (s : State) : Host.Outcome State Fault Refusal :=
  match reach due s with
  | some s => lapse f s
  | none => idle s

/-! ### The cycle of a command (R381 to R383) -/

/-- A command packet is processed in its turn, and not in a cycle in which another command has taken effect: the next cycle is
its own, unless a pace boundary comes first (R381, R382). Before its turn its row does nothing. -/
def inTurn (p : Packet) (s : State) (f : State → Host.Outcome State Fault Refusal) : Host.Outcome State Fault Refusal :=
  if !s.fwRuns || !turn s p then idle s
  else if s.cmd.tookAt != some s.clk.now then f s
  else if (tick s).clk.now = s.clk.now then idle s
  else f (tick s)

end Sys2Proof.Machine
end

