-- ==== Sys2Proof/Machine/Phases.lean ====
section
/-! DEFINITION. The commands and events of the phase controller: pulses, overcurrent, fault flags, parking and PHASE_CONFIG
(R57 to R59, R90, R111 to R117, R129 to R133). -/

namespace Sys2Proof.Machine

/-! ### Pulses (R111 to R113, R129, R130) -/

/-- The group comparator with its sense voltage in µV, the plane sense plus SENSE_OFFS after a sense loss, which leaves CF's segments at their own sense points: V_fb, the emulator's
V_inj with it, is at or below the reference and 20 ns have passed since the group's last pulse started. The next phase in
rotation starts a pulse (R111 to R113, R128). -/
def execPhasePulseStart (g : GroupId) (sense : Int) (s : State) : Host.Outcome State Fault Refusal :=
  let gr := s.group g
  let gap := match gr.lastStart with
    | some t => decide (t + 20 ≤ s.clk.now)
    | none => true
  let s' := ripTo g s
  let fb := sense + (if 12 ≤ g.val && gr.fallback then 250 * gr.senseOffs else 0) + vinj s' g
  if gap && decide (fb ≤ vref s' g) && !lowHeld s g then done (pulseOrWait g s') else idle s

/-- A phase's on-time expires (R113). -/
def execPhasePulseEnd (i : PhaseId) (s : State) : Host.Outcome State Fault Refusal :=
  let p := s.phase i
  if p.pwm then atTime (p.pulseAt + ceilDiv p.pulseOn 4) (endPulse i) s else idle s

/-- A phase monitor crosses 60 A: the pulse ends, at the end of blanking if inside it, the phase is blocked and its group
unparks; the fall below 50 A ends the block (R116, R129, R130). -/
def execPhaseOvercurrent (i : PhaseId) (below : Bool) (s : State) : Host.Outcome State Fault Refusal :=
  let p := s.phase i
  if below then done (pulseDue (groupOf s i) (s.updPh i (fun p => { p with blocked := false })))
  else if !p.pwm then idle s
  else
    atTime (max s.clk.now (p.pulseAt + 8)) (fun s =>
      let s := endPulse i s
      let s := s.updPh i (fun p => { p with
        blocked := true, ocNow := true, ocCount := min 65535 (p.ocCount + 1),
        ocHist := match p.ocHist with | _ :: t => true :: t | [] => [true] })
      let s := soonIn 1 (.unpark (groupOf s i)) s
      let n := ((s.phase i).ocHist.filter id).length
      if 64 ≤ n then raisePeriod 0x0222 i [BitVec.ofNat 8 n] s else s) s

/-- The filtered fault flag of a phase: low inhibits its PWM and disables it when Switching or Parked, from the next cycle; a
return to 1 does not re-enable it (R59, R131). -/
def execPhaseFaultFlag (i : PhaseId) (low : Bool) (s : State) : Host.Outcome State Fault Refusal :=
  let p := s.phase i
  if low then
    let s := soonIn 1 (.inhibit i) (s.updPh i (fun p => { p with flagLow := true }))
    done (if p.live then soonIn 1 (.disable i .faultFlag) s else s)
  else done (s.updPh i (fun p => { p with flagLow := false, inhibited := false }))

/-- A parked phase's enable falls once its current is below 2 A, or 2 µs after its last pulse (R117). -/
def execPhaseParkDisable (i : PhaseId) (amps : Nat) (s : State) : Host.Outcome State Fault Refusal :=
  let p := s.phase i
  if p.st == .parked && p.parking && !p.pwm then
    let off (s : State) : State := s.updPh i (fun p => { p with en := false, parking := false })
    if amps < 200 then done (off s) else atTime (p.pulseEnd.getD p.since + 2000) off s
  else idle s

/-- An unparked phase enters the rotation (R117). -/
def execPhaseUnparkReady (i : PhaseId) (s : State) : Host.Outcome State Fault Refusal :=
  let p := s.phase i
  match p.waking with
  | some t =>
    if p.st == .parked then
      atTime t (fun s => pulseDue (groupOf s i) (judgeFlags [i] (refreshOn (groupOf s i) (s.updPh i (Phase.join s.clk.now))))) s
    else idle s
  | none => idle s

/-! ### PHASE_CONFIG (R133) -/

/-- Reply data of PHASE_CONFIG (R133). -/
def phaseData (s : State) (g check : Nat) : List Byte :=
  let lv := liveCount s g
  let sw := swCount s g
  [BitVec.ofNat 8 g, BitVec.ofNat 8 lv, BitVec.ofNat 8 sw, BitVec.ofNat 8 (lv - sw)]
    ++ leBytes 2 (4 * limitA s g) ++ [BitVec.ofNat 8 check]

/-- Nominal phases of a group (R107). -/
def nominal (g : Nat) : Nat := if g = 12 then 16 else if g = 14 then 4 else 8

/-- The group settings of a PHASE_CONFIG OP 0x00 payload are legal (R117, R133). -/
def groupLegal (l : List Byte) : Bool :=
  let g := field l 1 1
  let minSw := field l 5 1
  let shedA := field l 6 1
  let addA := field l 7 1
  g < 15 && field l 4 1 ≤ 1 && (if g = 12 then 4 ≤ minSw && minSw ≤ 16 else 2 ≤ minSw && minSw ≤ nominal g)
    && 5 ≤ shedA && shedA ≤ 30 && shedA + 8 ≤ addA && addA ≤ 38 && field l 8 1 ≤ 15 && field l 9 1 ≤ 3

/-- The group's rail tracks (R133). -/
def groupTracks (s : State) (g : Nat) : Bool := (s.rail (railOfGroup g)).tracking

/-- PHASE_CONFIG OP 0x00: the group's settings change at the next cycle 0 of a pace (R133). -/
def execPhaseGroupSettings (p : Packet) (s : State) : Host.Outcome State Fault Refusal :=
  inTurn p s fun s =>
  let l := p.payload
  let f := fun k => field l k 1
  command p 0x0205
    [ (l.length != 16, .badLength),
      (f 0 != 0 || !groupLegal l || f 2 != 0 || f 3 != 0 || !zeros l 10 6, .badParam) ]
    (defer p 0x0205 [.group (f 1) (f 4) (f 5) (f 6) (f 7) (f 8) (f 9)]) s

/-- The new settings of a group (R133). -/
def applyGroup (g shedEn minSw shedA addA ripAmp ripTau : Nat) (s : State) : State :=
  s.updGrp g (fun gr => { gr with shedEn := shedEn == 1, minSw, shedA, addA, ripAmp, ripTau })

/-- PHASE_CONFIG OP 0x01: the phase is Disabled by the host, unless it is already, or the group would keep too few phases
or too little limit (R133). -/
def execPhaseDisableByHost (p : Packet) (s : State) : Host.Outcome State Fault Refusal :=
  inTurn p s fun s =>
  let l := p.payload
  let i := field l 2 1
  let g := groupOf s i
  let ph := s.phase i
  let lv := liveCount s g
  command p 0x0205
    [ (l.length != 16, .badLength),
      (field l 0 1 != 1 || field l 1 1 != 0 || decide (123 < i) || !zeros l 3 13, .badParam),
      (groupTracks s g, .busyRetry),
      (ph.st == .disabled, .badState),
      (decide (lv - ph.live.toNat < (s.group g).minSw), .badState),
      (decide (4000 * ((lv : Int) - 1) - 25 * (wakeAllowOf g (limitA s g) : Int) < (s.group g).curr), .badState) ]
    (defer p 0x0205 [.phaseDisable i]) s

/-- Start the one-pace check of a phase, which its channel's COND looks at from now on (R133, R178). -/
def startCheck (c : PhCheck) (s : State) : State :=
  let s := convsTo s.clk.now s
  markEffect c.pkt .hardware { s with checks := s.checks ++ [c] }

/-- PHASE_CONFIG OP 0x02: a Disabled phase is checked and returns to service (R133). -/
def execPhaseReenable (p : Packet) (s : State) : Host.Outcome State Fault Refusal :=
  inTurn p s fun s =>
  let l := p.payload
  let i := field l 2 1
  command p 0x0205
    [ (l.length != 16, .badLength),
      (field l 0 1 != 2 || field l 1 1 != 0 || decide (123 < i) || !zeros l 3 13, .badParam),
      (groupTracks s (groupOf s i), .busyRetry),
      ((s.phase i).st != .disabled, .badState),
      ((replacedBy s i).isSome, .badState) ]
    (startCheck { pkt := p, phase := i, start := s.clk.paceNo }) s

/-- PHASE_CONFIG OP 0x03: a spare of the same plane is checked and takes the place of a Disabled phase (R90, R133). -/
def execSpareIntoService (p : Packet) (s : State) : Host.Outcome State Fault Refusal :=
  inTurn p s fun s =>
  let l := p.payload
  let i := field l 2 1
  let k := field l 3 1
  command p 0x0205
    [ (l.length != 16, .badLength),
      (field l 0 1 != 3 || field l 1 1 != 0 || decide (123 < i) || decide (k < 124) || decide (127 < k) || !zeros l 4 12
        || groupOf s k != groupOf s i, .badParam),
      (groupTracks s (groupOf s k), .busyRetry),
      ((s.phase k).spareIn, .badState),
      ((s.phase i).st != .disabled, .badState) ]
    (startCheck { pkt := p, phase := k, replaces := some i, start := s.clk.paceNo }) s

/-- PHASE_CONFIG OP 0x04: the phase a spare replaces is checked and restored, and the spare returns to reserve (R90,
R133). -/
def execSpareToReserve (p : Packet) (s : State) : Host.Outcome State Fault Refusal :=
  inTurn p s fun s =>
  let l := p.payload
  let k := field l 3 1
  command p 0x0205
    [ (l.length != 16, .badLength),
      (field l 0 1 != 4 || field l 1 1 != 0 || field l 2 1 != 0 || decide (k < 124) || decide (127 < k) || !zeros l 4 12,
        .badParam),
      (groupTracks s (groupOf s k), .busyRetry),
      (!(s.phase k).spareIn, .badState) ]
    (startCheck { pkt := p, phase := (s.phase k).replaces, restore := some k, start := s.clk.paceNo }) s

/-- A checked phase joins the rotation, or stands Off while its rail is off (R133). -/
def joinChecked (i : Nat) (s : State) : State :=
  let g := groupOf s i
  let on := (s.rail (railOfGroup g)).enabled
  refreshOn g (s.updPh i (fun p => if on then p.join s.clk.now else p.out .off .none))

/-- The one-pace check of a phase ends at cycle 0 of the pace after it, in which the row falls: its fault flag must read 1 and its monitor −3 A to
+3 A. It joins, or the command is answered BAD_STATE with the check that failed (R133). -/
def execPhaseCheckDone (i : PhaseId) (curr : Int) (s : State) : Host.Outcome State Fault Refusal :=
  match s.checks.find? (fun c => c.phase == i.val && decide (c.start + 2 ≤ s.clk.paceNo) && s.clk.now == s.clk.paceStart) with
  | none => idle s
  | some c =>
    let s := convsTo s.clk.now s
    let s := { s with checks := s.checks.erase c }
    let g := groupOf s i
    let bad := if (s.phase i).flagLow then 1 else if curr < -300 || 300 < curr then 2 else 0
    if bad != 0 then done (reply c.pkt 0x0205 .badState (phaseData s g bad) s)
    else
      let s := match c.replaces with
        | some d => s.updPh i (fun p => { p with spareIn := true, replaces := d })
        | none => s
      let s := match c.restore with
        | some k => s.updPh k (fun p => { p.out .off .none with spareIn := false, replaces := 127 })
        | none => s
      let s := joinChecked i s
      done (reply c.pkt 0x0205 .ok (phaseData s g 0) s)

end Sys2Proof.Machine
end

