-- ==== Sys2Proof/Machine/Adc.lean ====
section
/-! DEFINITION. The telemetry converters: sequences, results and the snapshot, urgent conversions, low power, calibration
and windows (R176 to R195). -/

namespace Sys2Proof.Machine

/-! ### Sequences (R178 to R182) -/

/-- The first slot of a shadow sequence that fails a check of R179. -/
def seqCheck (u : Nat) (l : List (BitVec 32)) : Option Nat :=
  (List.range 64).find? (fun q =>
    let w := l.getD q 0
    let ch := seqField w 0 9
    seqField w 19 13 != 0 || decide (4 < seqField w 11 3) || decide (312 ≤ ch) || ch % 16 != u
      || (seqField w 18 1 == 1 && !(144 ≤ ch && ch ≤ 271)) || (53 ≤ q && seqField w 10 1 == 1))

/-- The pace whose cycle 0 a swap requested in the present cycle meets (R179). -/
def seqSwapPace (s : State) : Nat := if s.cycle ≤ 511 then s.clk.paceNo + 1 else s.clk.paceNo + 2

/-- SEQ_SWAP is written: the validation of the named shadow sequences starts; a write while one is under way is kept for the end
of the validation in the same cycle (R10, R179). -/
def seqSwapRequest (mask : Nat) (s : State) : State :=
  let at_ := seqSwapPace s
  forEach (maskBits 16 mask) (fun u s => s.updConv u (fun v =>
    if v.swapReq then { v with swapAgain := some s.clk.now } else { v with swapReq := true, swapAt := at_ })) s

/-- A core write of SEQ_SWAP (R179). -/
def execSeqSwap (mask : BitVec 16) (s : State) : Host.Outcome State Fault Refusal :=
  if !s.fwRuns then idle s else done (seqSwapRequest mask.toNat s)

/-- A shadow sequence is rejected: SEQ_SWAP falls, unless it is written in this cycle, which starts a validation anew (R10,
R179). -/
def seqReject (u q : Nat) (s : State) : State :=
  let at_ := seqSwapPace s
  let s := s.updConv u (fun v => { v with swapReq := v.swapAgain == some s.clk.now, swapAt := at_, swapAgain := none, seqFail := true })
  noteSet (0x20800 + 4 * u) 4 (raise 0x0A21 u [BitVec.ofNat 8 q] s)

/-- The validation of a shadow sequence ends: the sequence as validated takes effect at its pace, or is rejected (R179). -/
def execSeqValidationDone (u : ConvId) (s : State) : Host.Outcome State Fault Refusal :=
  let v := s.conv u
  if !v.swapReq || v.swapWait.isSome then idle s
  else
    match seqCheck u v.shadow.val with
    | some q => done (seqReject u q s)
    | none => done (s.updConv u (fun v => { v with swapWait := some v.swapAt, seqNext := v.shadow }))

/-- An accepted sequence takes effect at cycle 0 of its pace (R179). -/
def Conv.swapSeq (pace : Nat) (v : Conv) : Conv :=
  match v.swapWait with
  | some k => if k ≤ pace then { v with seq := v.seqNext, swapReq := false, swapWait := none } else v
  | none => v

/-- Accepted coefficients take effect at cycle 0 of the next pace (R188). -/
def Conv.newCoef (v : Conv) : Conv :=
  match v.coefNext with
  | some (o, g) => { v with ofs := o, gain := g, coefNext := none }
  | none => v

/-- Accepted sequences and coefficients take effect, and with its coefficients a converter's system calibration has finished
(R179, R188 to R190). -/
def convApply (s : State) : State :=
  let s := { s with convs := s.convs.map (fun v => (v.swapSeq s.clk.paceNo).newCoef) }
  forEach (s.convs.places (fun _ v => v.calAccept)) (fun u => calFinish u 0) s

/-! ### Results (R177, R181, R185, R188, R194) -/

/-- X of a raw code: nearest, ties up (R188). -/
def corrected (v : Conv) (d : Nat) : Int :=
  let a := (16 * (d : Int) - v.ofs) * v.gain
  (a + 8192) / 16384

/-- U of a corrected value: the nearest unit, ties away from zero, clamped (R177). -/
def unitOf (c : Nat) (x : Int) : Int :=
  if 144 ≤ c && c ≤ 271 then clampI (-32768) 32767 (roundDiv (x - 24000) 4)
  else if c = 287 || c = 291 then clampI 0 65535 (roundDiv x 5)
  else if c = 292 then clampI 0 65535 (roundDiv (8 * x) 5)
  else clampI 0 65535 (roundDiv x 10)

/-- A bound of a window as a number of its channel: signed for a current (R177, R194). -/
def boundOf (c b : Nat) : Int := if 144 ≤ c && c ≤ 271 then signed 16 b else b

/-- The result lies inside the channel's window (R194). -/
def inWindow (c : Nat) (k : Chan) (u : Int) : Bool := decide (boundOf c k.lo ≤ u) && decide (u ≤ boundOf c k.hi)

/-- The window of an enabled channel compares a result (R194, R195). -/
def windowCheck (c : Nat) (u : Int) (s : State) : State :=
  let k := s.chans.get c
  if !k.en then s
  else if inWindow c k u then s.updChan c (fun k => { k with run := 0 })
  else
    let run := min 15 (k.run + 1)
    let s := s.updChan c (fun k => { k with run })
    if max 1 k.n ≤ run then
      let health := c = 293 || c = 295 || (296 ≤ c && c ≤ 311)
      raisePeriod (if health then 0x0A13 else 0x0A20) c (leBytes 2 (code2 16 u) ++ [BitVec.ofNat 8 run])
        (noteSet (0x20000 + 4 * c) 19 (s.updChan c (fun k => { k with alarm := true })))
    else s

/-- A result of a board or plane sense joins the sums of its rail's groups (R128). -/
def senseSample (c : Nat) (u : Int) (s : State) : State :=
  if c < 284 || 291 < c then s
  else forEach (groupsOfRail ((c - 284) % 4)) (fun g s => s.updGrp g (fun gr =>
    if c < 288 then { gr with senseSum := gr.senseSum + u, senseCnt := gr.senseCnt + 1 }
    else { gr with planeSum := gr.planeSum + u, planeCnt := gr.planeCnt + 1 })) s

/-- A result is written to its channel (R181, R185). -/
def writeResult (c : Nat) (u : Int) (urgent : Bool) (s : State) : State :=
  let s := s.updChan c (fun k => { k with value := u, fresh := true, urgent, age := 0, seen := true })
  let s := if urgent then s.updConv (c % 16) (fun v => { v with urgRes := some (c, code2 16 u, s.clk.now) }) else s
  let s := senseSample c u (windowCheck c u s)
  if 144 ≤ c && c ≤ 271 then phaseSample (c - 144) u s else s

/-- The result of the oldest sample of converter `u` is corrected, converted and written (R177, R181, R188). -/
def takeResult (u d : Nat) (s : State) : State :=
  match (s.conv u).pipe with
  | [] => s
  | e :: rest =>
    writeResult e.chan (unitOf e.chan (corrected (s.conv u) d)) e.urgent (s.updConv u (fun v => { v with pipe := rest }))

/-- A conversion result: the next one of its converter, written 9 ADC clocks after its position (R176, R181, R184, R185). -/
def execAdcResult (c : ChanId) (d : Nat) (urgent : Bool) (s : State) : Host.Outcome State Fault Refusal :=
  let u := c.val % 16
  let v := Conv.ahead s u
  match v.pipe with
  | [] => idle s
  | e :: _ =>
    if e.chan != c.val || e.urgent != urgent || 4095 < d then idle s
    else atTime e.due (takeResult u d) (s.updConv u (fun _ => v))

/-- The results that are written in cycle 0 of a pace, a raw code for each converter that has one: the snapshot of that cycle holds
them, and they use the coefficients from before it (R181, R188). -/
def boundaryResults (l : List AdcCode) (s : State) : State :=
  forEach l (fun k s =>
    match ((s.conv k.conv).pipe.filter (fun e => decide (s.clk.now ≤ e.due))) with
    | e :: rest =>
      if e.due = s.clk.now then takeResult k.conv k.code (s.updConv k.conv (fun v => { v with pipe := e :: rest })) else s
    | [] => s) s

/-- A core write to BRX_ADC_URG (R183). -/
def execAdcUrgentRequest (c : Nat) (s : State) : Host.Outcome State Fault Refusal :=
  if !s.fwRuns then idle s else done (urgentRequest c s)

/-! ### The snapshot (R181, R182, R186, R187, R195) -/

/-- LP_OK: no cluster Active, Rest or waking, and no rail tracking (R186). -/
def lpOk (s : State) : Bool :=
  !(s.rails.any Rail.tracking)
    && s.cl.all (fun c => c.s.st != .active && c.s.st != .rest && !(match c.s.trans with
        | some t => t.phase == .wakeRamp || t.phase == .selfTest
        | none => false))

/-- The snapshot of every channel at cycle 0 of a pace: the channels due are those whose conversion was scheduled in the pace
that ends, none once AX is disabled; a channel without a result since the converters started reads 0 (R181, R182, R187). -/
def snapshot (s : State) : State :=
  let on := convsRun s
  let due := (List.range 16).map (fun u => if on && !(s.conv u).lowPower then (s.conv u).due else [])
  let chans := s.chans.mapI (fun c k =>
    let isDue := k.seen && (due.getD (c % 16) []).contains c
    { k with snap := if k.seen then k.value else 0
             stale := isDue && !k.fresh, aged := (s.conv (c % 16)).lowPower && !k.fresh
             fresh := false, age := min 255 (k.age + 1) })
  let late := chans.places (fun _ k => k.stale)
  forEach late (fun c s => dlSet 3 (raiseMiss 0x0A10 c [] s)) { s with chans }

/-- IDLE_MIN of the converters after a pace of `len` cycles, and the positions of the next pace (R176, R195,
BRX_ADC_CONV_u). -/
def idleMin (len : Nat) (s : State) : State :=
  let on := convsRun s
  { s with convs := s.convs.map (fun v =>
      { v with idleMin := if on && !v.lowPower && !v.bias then min v.idleMin (positions len - v.due.length) else v.idleMin
               pos := 0, due := [] }) }

/-- The power mode of a running converter at cycle 0 of pace `p` (R186). -/
def Conv.power (ok : Bool) (p : Nat) (v : Conv) : Conv :=
  if !v.auto then { v with lowPower := false, bias := false }
  else if v.lowPower then (if ok then v else { v with lowPower := false, bias := true })
  else { v with lowPower := ok && p % 4 == 0, bias := false }

/-- The power mode of every converter at cycle 0 of a pace (R186). -/
def convPower (s : State) : State :=
  if convsRun s then
    let ok := lpOk s
    { s with convs := s.convs.map (Conv.power ok s.clk.pace) }
  else s

/-! ### System calibration (R189, R190) -/

/-- The converters at cycle 0 of a pace: they start in the pace after AX is first in window, and calibrations end when AX leaves
its window (R182, R190, R191). `axWas` is AX in window at the snapshot before. -/
def convRun (axWas : Bool) (s : State) : State :=
  let ax := s.rail 3
  let s := if !ax.enabled || !ax.inWindow then calAbandon s else s
  if !s.adc.on && ax.enabled && axWas then
    { s with adc := { s.adc with on := true }
             convs := s.convs.map (fun v =>
               { v with calNum := if v.calMode then 0 else v.calNum, calEnd := none
                        spareStage := if v.calMode then max 1 v.spareStage else v.spareStage, spareSince := s.clk.stage }) }
  else s

/-- OFS_e of the sums (R189). -/
def ofsEstimate (sz : Nat) : Int := roundDiv sz 16

/-- GAIN_e of the sums; none when their difference is 0 or negative (R189). -/
def gainEst (sz sr : Nat) : Option Nat :=
  if sr ≤ sz then none else some (roundDiv (16384 * 768000) (sr - sz)).toNat

/-- OFS_e is accepted (R188). -/
def ofsOk (o : Int) : Bool := decide (-1024 ≤ o) && decide (o ≤ 1024)

/-- GAIN_e is accepted (R188). -/
def gainOk : Option Nat → Bool
  | some g => 12288 ≤ g && g ≤ 20480
  | none => false

/-- Event data of FLT_ADC_CAL (R409). -/
def adcCalData (cause sz sr : Nat) : List Byte :=
  [BitVec.ofNat 8 cause] ++ leBytes 2 (code2 16 (ofsEstimate sz)) ++
    leBytes 2 (match gainEst sz sr with
      | some g => if g < 65536 then g else (Config.gainEstimate sz sr).toNat
      | none => (Config.gainEstimate sz sr).toNat)

/-- The estimates of a system calibration: new coefficients, in force at cycle 0 of the next pace, or a rejection (R189). -/
def sysCalJudge (u sz sr : Nat) (s : State) : State :=
  let o := ofsEstimate sz
  let g := gainEst sz sr
  if !ofsOk o then calFinish u 1 (raise 0x0A12 u (adcCalData 1 sz sr) s)
  else if !gainOk g then calFinish u 2 (raise 0x0A12 u (adcCalData 2 sz sr) s)
  else s.updConv u (fun v => { v with coefNext := some (o, g.getD 0), calAccept := true, calEnd := none })

/-- The samples of a system calibration are complete (R189). -/
def execAdcSyscalDone (u : ConvId) (sz sr : Nat) (s : State) : Host.Outcome State Fault Refusal :=
  let v := (convTo u s.clk.now s).conv u
  match v.calEnd with
  | some t => if v.calBusy && !v.calAccept then atTime t (sysCalJudge u sz sr) (convTo u s.clk.now s) else idle s
  | none => idle s

/-- The estimates of a background block: the coefficients move an eighth of the way, or the block is rejected (R191). -/
def blockJudge (u sz sr : Nat) (s : State) : State :=
  let o := ofsEstimate sz
  let g := gainEst sz sr
  let s := s.updConv u (fun v => { v with calEnd := none })
  if ofsOk o && gainOk g then
    s.updConv u (fun v => { v with
      calRejects := 0
      coefNext := some (v.ofs + roundDiv (o - v.ofs) 8, ((v.gain : Int) + roundDiv ((g.getD 0 : Int) - v.gain) 8).toNat) })
  else
    let n := (s.conv u).calRejects
    let s := s.updConv u (fun v => { v with calRejects := min 15 (n + 1) })
    if n = 3 then raisePeriod 0x0A12 u (adcCalData 3 sz sr) s else s

/-- A background block is complete (R191). -/
def execAdcBgBlockDone (u : ConvId) (sz sr : Nat) (s : State) : Host.Outcome State Fault Refusal :=
  let v := (convTo u s.clk.now s).conv u
  match v.calEnd with
  | some t => if v.calMode then atTime t (blockJudge u sz sr) (convTo u s.clk.now s) else idle s
  | none => idle s

/-- The spare slice has stood in for 64 stages of a running converter: the weight of the stage it replaced moves by a
sixteenth, and the spare goes on to the next stage (R192; a start of the converters begins the 64 stages anew, DESIGN CHOICE
log 86). -/
def execAdcSpareExchange (u : ConvId) (w : Int) (s : State) : Host.Outcome State Fault Refusal :=
  let v := s.conv u
  if convsRun s && v.calMode && v.spareStage != 0 && decide (v.spareSince + 64 ≤ s.clk.stage) then
    done (s.updConv u (fun v => { v with
      weights := v.weights.modify (v.spareStage - 1) (fun x => x + roundDiv (w - x) 16)
      spareStage := if v.spareStage = 10 then 1 else v.spareStage + 1
      spareSince := s.clk.stage }))
  else idle s

/-- ADC_CALIBRATE_SYSTEM (R190). -/
def execAdcCalibrateSystem (p : Packet) (s : State) : Host.Outcome State Fault Refusal :=
  inTurn p s fun s =>
  let l := p.payload
  let us := maskBits 16 (field l 0 2)
  command p 0x0A01
    [ (l.length != 16, .badLength), (us.isEmpty || !zeros l 2 14, .badParam),
      (us.any (fun u => (s.conv u).calMode || (s.conv u).calBusy), .badState),
      (!((s.rail 3).enabled && (s.rail 3).inWindow), .badState) ]
    (fun s =>
      let from_ := s.clk.paceNo + 1
      let s := forEach us (fun u s => s.updConv u (fun v =>
        { v with calBusy := true, calAccept := false, calNum := 0, calFrom := from_, calEnd := none })) (convsTo s.clk.now s)
      markEffect p .hardware { s with adc := { s.adc with
        cals := s.adc.cals ++ [{ pkt := p, left := field l 0 2, due := replyDue p 32 s }] } }) s

/-- The reply deadline of a system calibration: converters without their samples keep their coefficients; one whose new
coefficients only wait for cycle 0 has finished (R190). -/
def execAdcCalTimeout (s : State) : Host.Outcome State Fault Refusal :=
  match s.adc.cals.find? (fun k => decide (k.due ≤ s.clk.stage)) with
  | some k => lapse (forEach (maskBits 16 k.left) (fun u s => calFinish u (if (s.conv u).calAccept then 0 else 3) s)) s
  | none => idle s

/-- ADC_SET_CAL_MODE: modes change at the next cycle 0 of a pace (R193). -/
def execAdcSetCalMode (p : Packet) (s : State) : Host.Outcome State Fault Refusal :=
  inTurn p s fun s =>
  let l := p.payload
  let us := maskBits 16 (field l 0 2)
  let f := fun k => field l k 1
  command p 0x0A02
    [ (l.length != 16, .badLength),
      (us.isEmpty || (1 < f 2 && f 2 != 0xFF) || (1 < f 3 && f 3 != 0xFF) || !zeros l 4 12, .badParam),
      (us.any (fun u => (s.conv u).calBusy), .badState) ]
    (defer p 0x0A02 [.calMode (field l 0 2) (f 2) (f 3)]) s

/-- The new modes (R192, R193). -/
def applyCalMode (mask mode power : Nat) (s : State) : State :=
  forEach (maskBits 16 mask) (fun u s => s.updConv u (fun v =>
    let v := if mode = 0 then { v with calMode := false, spareStage := 0, calNum := 0, calEnd := none }
      else if mode = 1 && !v.calMode then
        { v with calMode := true, calNum := 0, calEnd := none, spareStage := if s.adc.on then 1 else 0, spareSince := s.clk.stage }
      else v
    if power = 0xFF then v else { v with auto := power == 1 })) s

/-- Reply data of ADC_SET_CAL_MODE (R193). -/
def calModeData (s : State) : List Byte :=
  leBytes 2 (bitsMask (s.convs.places (fun _ v => v.calMode))) ++ leBytes 2 (bitsMask (s.convs.places (fun _ v => v.auto)))

/-- The period counters of the converters return at a close (R195, BRX_ADC_CONV_u). -/
def convPeriod (s : State) : State := { s with convs := s.convs.map (fun v => { v with idleMin := 128 }) }

end Sys2Proof.Machine
end

