-- ==== Sys2Proof/Machine/Transient.lean ====
section
/-! DEFINITION. The events of the droop sentinels and the bellows (R196 to R215). -/

namespace Sys2Proof.Machine

/-- The domain voltage of a cluster falls to the trip level (R196, R205). -/
def execSentinelTrip (x : DomainVolt) (s : State) : Host.Outcome State Fault Refusal :=
  let c := s.cluster x.cluster
  if !sentActive c || c.t.tripped || !crosses s c x.uv then idle s else done (trip x.cluster x.uv s)

/-- The domain has stood at or above a voltage since a moment: stretch falls once that has been the release level
for 2 ns after the first 4 ns of the stretch (R199). -/
def execStretchRelease (x : DomainSince) (s : State) : Host.Outcome State Fault Refusal :=
  let c := s.cluster x.cluster
  if !c.t.tripped then idle s
  else
    match reach (max (c.t.riseAt + 4) x.since + 2) s with
    | some u => if releaseLevel (u.cluster x.cluster) ≤ x.uv then done (stretchEnd x.cluster u) else idle s
    | none => idle s

/-- A fire ends on the low flag or at the end of its window, and its drive falls in the next cycle (R207). -/
def execBellowsFireEnd (n : ClusterId) (low : Bool) (s : State) : Host.Outcome State Fault Refusal :=
  let b := (s.cluster n).b
  if b.st != .firing || b.ending then idle s
  else
    let ends (s : State) : State :=
      soonIn 1 (.fireEnd n) (s.updCl n (fun c => { c with b := { c.b with ending := true } }))
    if low then done (ends s) else atTime b.fireEnd ends s

/-- The cycle in which a bellows that asks from `ask` can be granted a slot: a slot that frees is granted in the next cycle
(R208). -/
def grantTime (s : State) (ask : Nat) : Option Nat :=
  let t := max s.clk.now ask
  let freed := if s.blwCfg.freedAt = t then s.blwCfg.freedCnt else 0
  if slotsHeld s + freed < 32 then some t else if slotsHeld s < 32 then some (t + 1) else none

/-- A slot is granted to the lowest bellows that waits for one, and its charge path closes (R208, R209). -/
def execBellowsSlotGrant (n : ClusterId) (s : State) : Host.Outcome State Fault Refusal :=
  let b := (s.cluster n).b
  match grantTime s b.askAt with
  | none => idle s
  | some t =>
    let lower := s.cl.places (fun m c => decide (m < n.val) && c.b.st == .waiting && decide (c.b.askAt ≤ t))
    if b.st == .waiting && lower.isEmpty then
      atTime t (fun s => s.updCl n (fun c => { c with b := { c.b with st := .charging, chg := true, grantAt := s.clk.now } })) s
    else idle s

/-- The full flag reads 1, risen or already 1 at the grant: the charge ends and frees its slot in the next cycle (R203, R208,
R209). -/
def execBellowsChargeDone (n : ClusterId) (s : State) : Host.Outcome State Fault Refusal :=
  let b := (s.cluster n).b
  if b.st != .charging || b.ending then idle s
  else done (soonIn 1 (.chargeEnd n) (s.updCl n (fun c => { c with b := { c.b with ending := true } })))

/-- FLT_BELLOWS, in the cycle before the bellows enters Fault (R214). -/
def blwFault (n cause : Nat) (s : State) : State :=
  let b := (s.cluster n).b
  soonIn 1 (.blwFault n cause)
    (raise 0x0315 n ([BitVec.ofNat 8 cause] ++ leBytes 2 (sinceGrant s b) ++ [BitVec.ofNat 8 (blwCode b)]) s)

/-- A charge misses its deadline, which the full flag has not met (R214 cause 1). -/
def execBellowsChargeTimeout (n : ClusterId) (s : State) : Host.Outcome State Fault Refusal :=
  let b := (s.cluster n).b
  if b.st == .charging && !b.ending then lapseAt (chargeDue b) (blwFault n 1) s else idle s

/-- Full and low are sampled at 1 together (R214 cause 2). -/
def execBellowsFlagConflict (n : ClusterId) (s : State) : Host.Outcome State Fault Refusal :=
  let b := (s.cluster n).b
  if b.st == .off || b.st == .fault then idle s else done (blwFault n 2 s)

end Sys2Proof.Machine
end

