-- ==== Sys2Proof/Machine/Clusters.lean ====
section
/-! DEFINITION. Cluster power states: transitions and their handshake, holds, wakes and their admission, the wake latch,
drone mode, SA retention, and their commands (R65, R66, R76, R92, R97, R101 to R106, R148 to R152, R276 to R281, R396
to R398). -/

namespace Sys2Proof.Machine

/-! ### Standing (R101, R276 to R278) -/

/-- A transition is in progress; a wake pending and not admitted does not count (R277). -/
def Cluster.inProgress (c : Cluster) : Bool :=
  match c.s.trans with
  | none => false
  | some t => t.phase != .unadmitted && !c.s.hsFault

/-- The cluster is waking: its wake has been admitted and is not complete, or its self-test runs (R92, R150). -/
def Cluster.waking (c : Cluster) : Bool :=
  match c.s.trans with
  | some t => t.phase == .wakeRamp || t.phase == .selfTest
  | none => false

/-- The cluster is in a wake, from its request on. -/
def Cluster.inWake (c : Cluster) : Bool :=
  match c.s.trans with
  | some t => match t.phase with
    | .selfTest | .unadmitted | .wakeRamp | .rampDone | .resetDone => true
    | .finalEcho => c.s.st == .dormant || c.s.st == .retain
    | _ => false
  | none => false

/-- The cluster is in Active or Rest for R101: settled there and neither waking nor in a transition towards Retain or
Dormant. -/
def Cluster.inActiveRest (c : Cluster) : Bool :=
  (c.s.st == .active || c.s.st == .rest) &&
    (match c.s.trans with
     | none => true
     | some t => t.target == .active || t.target == .rest)

/-- CF, SA and FB are enabled and in window (R277, R280). -/
def gridUp (s : State) : Bool := [0, 1, 2].all (fun r => (s.rail r).enabled && (s.rail r).inWindow)

/-! ### Steps of a transition (R65, R278) -/

/-- The cluster has settled in a state: its transition is done. -/
def settle (n : Nat) (st : CState) (s : State) : State :=
  let s := if st == .retain || st == .dormant then stretchEnd n s else s
  s.updCl n (fun c =>
    { c with s := { c.s with st, trans := none, hsEdge := none }
             w := { c.w with leakRun := if st == .rest then 2 else c.w.leakRun, pending := false } })

/-- The echo of a transition's code has matched. At the last step the cluster settles, and one that has lost its cells on the
way begins the steps to Retain; at the code of Dormant a hold ends, but not that of a cluster whose cells were lost on the way
(R65, R101, R410). -/
def echoed (n : Nat) (t : Trans) (last : Bool) (s : State) : State :=
  if last then
    let s := settle n t.target s
    if t.lost && (t.target == .active || t.target == .rest) then
      s.updCl n (fun c => { c with s := { c.s with trans := some { target := .retain, phase := .ackWait } } })
    else s
  else
    s.updCl n (fun c => { c with s := { c.s with
      trans := some { t with phase := .settle }, hsEdge := none, held := c.s.held && (t.target != .dormant || t.lost) } })

/-- The phases of the first step of a transition from a settled state whose code is driven: whether its echo is the last
(R278). -/
def firstEcho (st target : CState) : TPhase :=
  if (target == .retain || target == .dormant) && st != target then .echo else .finalEcho

/-- The code of the step is driven at a cycle 0 of a pace once the echo has matched the code before (`free`: after a handshake
fault the host's request does not wait for it); when it is already driven and echoed, the step is complete at once, else the
echo must match by the next stage edge (R61, R65). -/
def driveCode (free : Bool) (n : Nat) (t : Trans) (s : State) : State :=
  let c := s.cluster n
  if s.clk.now != s.clk.paceStart || (c.s.ack != c.s.req && !free) then
    s.updCl n (fun c => { c with s := { c.s with trans := some { t with phase := .ackWait } } })
  else if c.s.req == t.target && c.s.ack == t.target then echoed n t (t.phase == .finalEcho) s
  else
    s.updCl n (fun c => { c with s := { c.s with req := t.target, trans := some t, hsEdge := some (s.clk.stage + 1) } })

/-- The wake record of a new wake (R148, R151). -/
def CWake.start (w : CWake) (deadline : Nat) : CWake :=
  { w with waited := 0, pending := true, ramping := false, late := false, lateOnly := false, deadline, firstTest := none,
           firstStage := 0, testedAt := none }

/-- A request starts a transition: the cluster is not in the state yet, or its handshake has failed (R65, R277). -/
def Cluster.starts (c : Cluster) (target : CState) : Bool := c.s.st != target || c.s.hsFault

/-- A transition starts from the settled state (R278 step 1). A cluster already in the state is left unchanged, but a frozen
handshake is begun afresh and a pending wake is withdrawn. -/
def startTrans (n : Nat) (target : CState) (deadline : Nat) (s : State) : State :=
  let c := s.cluster n
  let st := c.s.st
  let wasAdmit : Bool := match c.s.trans with | some t => t.phase == .unadmitted | none => false
  let frozen := c.s.hsFault
  if !c.starts target && c.s.trans.isNone then s
  else
    let s := s.updCl n (fun c => { c with s := { c.s with hsFault := false, hsEdge := none, replayed := false, trans := none }
                                          w := { c.w with pending := false } })
    let wake (s : State) : State := s.updCl n (fun c => { c with
      s := { c.s with trans := some { target, phase := if st == .retain || wasAdmit then .unadmitted else .selfTest, due := s.clk.now + 200 } }
      w := c.w.start deadline })
    if !c.starts target then s
    else if st == .dormant && target != .dormant then wake s
    else if st == .retain && (target == .active || target == .rest) then wake s
    else driveCode frozen n { target, phase := firstEcho st target } s

/-- The measured voltage of a cluster as a set-point code, rounded down; it may lie below code 0 (R148). -/
def measuredCode (s : State) (n : Nat) : Int := ((s.chans.get n).snap - 1200) / 5

/-- The cells of a drone cluster leave switch mode with their set-point at the measured voltage, and D_n leaves F (R104
step 1, R278). -/
def leaveDrone (n : Nat) (st : DroneSt) (s : State) : State :=
  let c := s.cluster n
  if c.d.st == .none then s
  else
    let sw := c.k.mode == .switch
    let v := measuredCode s n
    let s := s.updCl n (fun c => { c with d := { st, req := 0 }, v := { c.v with sp := if sw then c.v.sp.hold v else c.v.sp } })
    if sw then setCells n .regulate s else s

/-- The cluster is unpowered: reset low, cells off, no target (R103, R278 step 3, R347). -/
def powerOff (n : Nat) (s : State) : State :=
  setCells n .off ((stretchEnd n s).updCl n (fun c => { c with
    s := { c.s with rstN := false }, d := { st := .none, req := 0 },
    v := { c.v with target := 0, sp := { c.v.sp.hold 0 with every := 250 } } }))

/-- The pace-timed step of a cluster's transition at cycle 0 (R278). -/
def paceTrans (n : Nat) (s : State) : State :=
  let c := s.cluster n
  match c.s.trans with
  | none => s
  | some t =>
    if c.s.hsFault then s
    else match t.phase with
    | .ackWait => driveCode false n { t with phase := firstEcho c.s.st t.target } s
    | .settle =>
      if t.target == .dormant then settle n .dormant (powerOff n s)
      else
        let s := leaveDrone n .none s
        let s := s.updCl n (fun c => { aimCluster 120 s.clk.now c with s := { c.s with trans := some { t with phase := .downRamp } } })
        if (s.cluster n).v.sp.moving then s else settle n .retain s
    | .rampDone =>
      if c.s.st == .dormant then
        s.updCl n (fun c => { c with s := { c.s with rstN := true, trans := some { t with phase := .resetDone } } })
      else if t.target == .retain then settle n .retain s
      else if s.sys.saAck.any id || c.s.ack != c.s.req then s
      else driveCode false n { t with phase := .finalEcho } s
    | .resetDone => if s.sys.saAck.any id || c.s.ack != c.s.req then s else driveCode false n { t with phase := .finalEcho } s
    | _ => s

/-- An echo is sampled (R65): a matching one completes the handshake of the step. -/
def execClusterStateEcho (n : ClusterId) (code : Nat) (s : State) : Host.Outcome State Fault Refusal :=
  let e := CState.ofCode code
  let s := s.updCl n (fun c => { c with s := { c.s with ack := e } })
  let c := s.cluster n
  match c.s.trans with
  | some t =>
    if c.s.hsFault || e != c.s.req then done s
    else match t.phase with
      | .finalEcho => done (echoed n t true s)
      | .echo => done (echoed n t false s)
      | _ => done s
  | none => done s

/-- The echo has not matched by the next stage edge: FLT_CL_HANDSHAKE, and voltage and request are held (R65). -/
def execHandshakeTimeout (n : ClusterId) (s : State) : Host.Outcome State Fault Refusal :=
  let c := s.cluster n
  match c.s.hsEdge with
  | some e =>
    if decide (e ≤ s.clk.stage) && c.s.ack != c.s.req then
      lapse (fun s =>
        let s := s.updCl n (fun c => { c with s := { c.s with hsFault := true, hsEdge := none }, v := { c.v with sp := { c.v.sp with moving := false, tgt := c.v.sp.cur } } })
        raise 0x0311 n [BitVec.ofNat 8 c.s.req.code, BitVec.ofNat 8 c.s.ack.code] s) s
    else idle s
  | none => idle s

/-! ### Segments' headroom (R92, R149) -/

/-- The forecast of a cluster for the pace in mA: 0 unless its manifest serves it and it is not a drone (R92). -/
def Cluster.forecastMa (c : Cluster) : Nat := if c.m.served && !c.droneOut then 25 * c.m.fc else 0

/-- H_x and A_x of one segment (R92). -/
def headroom (s : State) (x : Nat) : Seg :=
  let l := limitA s x
  let a := wakeAllowOf x l
  let use := s.cl.sumI (fun n c => if n % 12 == x && !c.waking then max (c.forecastMa : Int) (10 * c.g.cur) else 0)
  let h : Int := 1000 * (l : Int) - 250 * a - use
  let sg := s.segs.get x
  { sg with head := h, wakeAllow := a, headMin := some (match sg.headMin with | some m => min m h | none => h) }

/-- The headroom of every segment at cycle 0 of a pace (R92). -/
def headrooms (s : State) : State := { s with segs := s.segs.mapI (fun x _ => headroom s x) }

/-- I_w of a cluster at a slope, in codes of 0.25 A rounded up (R149). -/
def wakeDraw (c : Cluster) (slope : Nat) : Nat :=
  ceilDiv ([200, 100, 50, 25].getD slope 25 + 50 * c.w.leak) 250

/-- The draws of the wakes of a segment that are admitted and not complete: those charged to H', or the late ones charged
to A_x (R150, R151). -/
def drawsOf (s : State) (x : Nat) (late : Bool) : Nat :=
  (s.cl.sumI (fun n c =>
    if n % 12 == x && c.w.ramping && c.w.lateOnly == late then (wakeDraw c c.w.slope : Int) else 0)).toNat

/-- The leakage estimate: the cluster current of the first complete pace after an entry into Rest (R149). -/
def leakUpdate (c : Cluster) : Cluster :=
  match c.w.leakRun with
  | 0 => c
  | 1 => { c with w := { c.w with leakRun := 0, leak := min 255 (roundDiv c.g.cur 5).toNat } }
  | k + 1 => { c with w := { c.w with leakRun := k } }

/-! ### Wakes (R148 to R152) -/

/-- The end voltage of a wake (R148). -/
def wakeEnd (s : State) (c : Cluster) (target : CState) : Nat := if target == .retain then 120 else targetOf s c

/-- The ramp of a wake is complete (R152). -/
def wakeComplete (n : Nat) (s : State) : State :=
  s.updCl n (fun c => { c with
    s := { c.s with trans := c.s.trans.map (fun t => { t with phase := .rampDone }) }
    w := { c.w with ramping := false, lateOnly := false }
    v := { c.v with sp := { c.v.sp with every := 250, moving := false } } })

/-- A wake is admitted at a slope: its cells regulate, its ramp starts, and the feed starts towards its end voltage (R98,
R148, R150). -/
def admitWake (n slope : Nat) (late : Bool) (s : State) : State :=
  let c := s.cluster n
  match c.s.trans with
  | none => s
  | some t =>
    let e := wakeEnd s c t.target
    let v0 := if c.s.st == .dormant then measuredCode s n else c.v.sp.cur
    let s := s.updCl n (fun c => { c with
      s := { c.s with trans := some { t with phase := .wakeRamp } }
      w := { c.w with pending := false, ramping := true, stepped := false, slope, late := late, lateOnly := late }
      v := { c.v with sp := { c.v.sp.hold v0 with every := 250 * 2 ^ slope } } })
    let s := setCells n .regulate s
    let s := s.updCl n (aimCluster e s.clk.now)
    let s := if (s.cluster n).v.sp.moving then s else wakeComplete n s
    commandCluster n (feedUpdate s)

/-- The first slope whose draw fits, fastest first (R150). -/
def fitSlope (c : Cluster) (room : Int) : Option Nat :=
  [0, 1, 2, 3].find? (fun k => decide (250 * (wakeDraw c k : Int) ≤ room))

/-- A late wake proceeds: the lowest of its segment always, one whose own draw exceeds A_x even so, and each further one when
the draws of those in progress and its own fit A_x (R151). -/
def lateFits (s : State) (n : Nat) : Bool :=
  let a := (s.segs.get (n % 12)).wakeAllow
  let own := wakeDraw (s.cluster n) 3
  (s.cl.places (fun m c => decide (m < n) && m % 12 == n % 12 && c.w.lateOnly)).isEmpty || decide (a < own)
    || decide (drawsOf s (n % 12) true + own ≤ a)

/-- A pending wake whose admission test of this pace is still to come (R150). -/
def Cluster.untested (paceNo : Nat) (c : Cluster) : Bool :=
  match c.s.trans with
  | some t => t.phase == .unadmitted && c.w.testedAt != some paceNo
  | none => false

/-- The test of cluster `n` is the next of its segment: at cycle 0 of the pace, with every lower index tested (R150). -/
def testTurn (s : State) (n : Nat) : Bool :=
  s.clk.now == s.clk.paceStart && !s.clk.p0Pending && (s.cluster n).untested s.clk.paceNo &&
    (s.cl.places (fun m c => decide (m < n) && m % 12 == n % 12 && c.untested s.clk.paceNo)).isEmpty

/-- A pending wake is tested at cycle 0 of a pace and admitted at the fastest slope that fits (R150); one past its
deadline is tested against the wake allowance (R151). -/
def execWakeAdmission (n : ClusterId) (s : State) : Host.Outcome State Fault Refusal :=
  if !testTurn s n then idle s
  else
    let c := s.cluster n
    let x := n.val % 12
    let fail (s : State) : State := s.updCl n (fun c => { c with w :=
      let f := c.w.firstTest.getD s.clk.paceNo
      let st := if c.w.firstTest.isNone then s.clk.stage else c.w.firstStage
      { c.w with testedAt := some s.clk.paceNo, firstTest := some f, firstStage := st, waited := min 255 (s.clk.stage - st) } })
    if c.w.lateOnly then
      if lateFits s n then done (admitWake n 3 true s) else done (fail s)
    else
      match fitSlope c ((s.segs.get x).head - 250 * (drawsOf s x false : Int)) with
      | some k => done (admitWake n k false s)
      | none => done (fail s)

/-- The deadline test of a pending wake has failed: FLT_WAKE_LATE, and the wake proceeds at the slowest slope on the wake
allowance, or waits for it (R151). -/
def execWakeDeadlineExpiry (n : ClusterId) (s : State) : Host.Outcome State Fault Refusal :=
  let c := s.cluster n
  match c.s.trans, c.w.firstTest with
  | some t, some f =>
    if t.phase == .unadmitted && !c.w.lateOnly && c.w.testedAt == some s.clk.paceNo && decide (f + 16 * c.w.deadline ≤ s.clk.paceNo) then
      let sg := s.segs.get (n % 12)
      let data := [BitVec.ofNat 8 c.w.waited, 3] ++ leBytes 2 (code2 16 (sg.head / 250)) ++ leBytes 2 (wakeDraw c 3)
        ++ leBytes 2 sg.wakeAllow ++ [BitVec.ofNat 8 c.w.leak]
      let s := dlSet 7 (raiseMiss 0x0310 n data s)
      if lateFits s n then done (admitWake n 3 true s)
      else done (s.updCl n (fun c => { c with w := { c.w with late := true, lateOnly := true } }))
    else idle s
  | _, _ => idle s

/-- The sentinel's self-test at a wake from Dormant (R215 cause 1). -/
def sentinelTest (n : Nat) (ok : Bool) (s : State) : State :=
  let s := s.updCl n (fun c => { c with t := { c.t with selftestFail := !ok } })
  if ok then s else raise 0x0316 n [1, 0, 0, BitVec.ofNat 8 (s.cluster n).t.thresh] s

/-- The 200 ns self-tests of a Dormant exit end: failing cells begin their isolation, the sentinel's result is recorded, and
the wake goes on to its admission (R144, R215, R278). -/
def execWakeSelfTestEnd (n : ClusterId) (badCells : List Nat) (sentinelOk : Bool) (s : State) :
    Host.Outcome State Fault Refusal :=
  match (s.cluster n).s.trans with
  | some t =>
    if t.phase == .selfTest then
      atTime t.due (fun s =>
        let s := forEach ((cellsOf n).filter (fun i => badCells.contains (i % 12))) (fun i s =>
          if (s.cell i).mode == .isolated then s else s.updCell i (fun x => { x with isoAt := some .selfTest })) s
        let s := sentinelTest n sentinelOk s
        s.updCl n (fun c => { c with s := { c.s with trans := some { t with phase := .unadmitted } } })) s
    else idle s
  | none => idle s

/-- A rising edge on brx_cl_wake_i sets the wake latch, in every chip state but Cold; one that finds it set is merged
(R66). -/
def execClusterWakeEdge (n : ClusterId) (s : State) : Host.Outcome State Fault Refusal :=
  if s.sys.chip == .cold then idle s
  else done (s.updCl n (fun c => { c with s :=
    if c.s.latch then { c.s with edgeAgain := some s.clk.now } else { c.s with latch := true, latchStage := s.clk.stage, edgeAgain := none } }))

/-- The first accepted wake ends the request for SA retention (R279). -/
def saRelease (s : State) : State := { s with sys := { s.sys with saReq := Tab.replicate 64 false } }

/-- The latch of a cluster is replayed in this cycle: a cycle 0 of a pace in which the cluster is free (R280). -/
def replayDue (s : State) (c : Cluster) : Bool :=
  c.s.latch && s.clk.now == s.clk.paceStart && !s.clk.p0Pending && !c.inProgress && !c.s.hsFault && !c.s.inRechar
    && gridUp s && s.sys.descent == .none

/-- The result of a replay: 0 in Active, 2 held or where CLUSTER_SET_STATE would refuse the wake, for want of a live cell or
under a thermal trip; else the wake starts (R277, R280, R347). -/
def replayResult (s : State) (c : Cluster) : Nat :=
  if c.s.held then 2 else if c.s.st == .active then 0
  else if c.s.st == .dormant && (c.k.live == 0 || s.thermHold) then 2 else 1

/-- A set wake latch is replayed at cycle 0 of a pace once the cluster is free; an edge of the same cycle that met the latch set
leaves it set (R280, R281). -/
def execWakeLatchReplay (n : ClusterId) (s : State) : Host.Outcome State Fault Refusal :=
  let c := s.cluster n
  if replayDue s c then
    let res := replayResult s c
    let again := c.s.edgeAgain == some s.clk.now
    let s := s.updCl n (fun c => { c with s := { c.s with
      latch := again, latchStage := if again then s.clk.stage else c.s.latchStage, edgeAgain := none } })
    let s := if res = 1 then
        (startTrans n .active 4 (saRelease s)).updCl n (fun c => { c with s := { c.s with replayed := true } })
      else s
    done (raisePeriod 0x0325 n ([BitVec.ofNat 8 res, BitVec.ofNat 8 c.s.st.code] ++ leBytes 4 c.s.latchStage) s)
  else idle s

/-! ### Holds (R101 to R103, R410, R411) -/

/-- FLT_CLUSTER_LOST with its cause and the drone requirement it reports, 0 for causes 1 and 4 (R409). -/
def lostEvent (n cause d : Nat) (s : State) : State :=
  raise 0x0312 n ([BitVec.ofNat 8 cause, BitVec.ofNat 8 (s.cluster n).k.live] ++ leBytes 2 d) s

/-- The hold in Retain of a cluster in Active or Rest: its steps to Retain begin once the echo of the code before has matched;
after a handshake fault the cluster stays as it is until the host's request (R65, R101, R102). -/
def holdRetain (n cause d : Nat) (s : State) : State :=
  let s := lostEvent n cause d s
  let s := s.updCl n (fun c => { c with
    s := { c.s with held := true }
    d := if c.d.st == .exiting then { st := .none, req := 0 } else c.d })
  if (s.cluster n).s.hsFault then s else driveCode false n { target := .retain, phase := .echo } s

/-- Drone entry begins at cycle 0 of a pace: D_n enters F and the ramp starts. A requirement above 1.050 V cannot be met: the
cluster is held in Retain and enters no drone mode (R102, R103). -/
def droneStart (n : Nat) (s : State) : State :=
  let c := s.cluster n
  let d := droneReq c (fvFor s c)
  if 420 < d then holdRetain n 2 d s else s.updCl n (fun c => { c with d := { st := .entering, req := d } })

/-- A cluster in drone mode whose requirement has risen above 1.050 V is held (R102). -/
def droneJudge (n : Nat) (s : State) : State :=
  let c := s.cluster n
  if c.droneOut && !c.s.held && decide (420 < c.d.req) then holdRetain n 2 c.d.req s else s

/-- What a loss of cells that leaves fewer than 8 does at cycle 0 of a pace (R101, R103, R152). -/
def cellLoss (n : Nat) (s : State) : State :=
  let c := s.cluster n
  let m := c.k.live
  if 8 ≤ m then s
  else if m = 0 then
    (lostEvent n 3 c.d.req s).updCl n (fun c => { c with k := { c.k with dead := true } })
  else if c.s.held || c.droneOut then s
  else if c.inActiveRest then
    if c.k.armDrone then droneStart n s else holdRetain n 1 0 s
  else
    let s := lostEvent n 4 0 s
    let s := s.updCl n (fun c => { c with s := { c.s with held := true, trans := c.s.trans.map (fun t => { t with lost := true }) } })
    match c.s.trans.map (fun t => { t with lost := true }) with
    | some t =>
      match t.phase with
      | .wakeRamp =>
        let s := s.updCl n (fun c => { aimCluster 120 s.clk.now c with s := { c.s with trans := some { t with target := .retain } } })
        if (s.cluster n).v.sp.moving then s else wakeComplete n s
      | .selfTest | .unadmitted | .rampDone | .resetDone =>
        if c.s.st == .retain && t.phase == .unadmitted then
          s.updCl n (fun c => { c with s := { c.s with trans := none }, w := { c.w with pending := false } })
        else
          let s := s.updCl n (fun c => { c with s := { c.s with trans := some { t with target := .retain } } })
          if t.phase == .rampDone || t.phase == .resetDone then s.updCl n (aimCluster 120 s.clk.now) else s
      | _ => s
    | none => s

/-- A cluster with no live cell is turned off: Dormant driven without a handshake, reset low, held (R103). -/
def deadOff (n : Nat) (s : State) : State :=
  let c := s.cluster n
  if c.k.dead then
    (powerOff n s).updCl n (fun c => { c with
      k := { c.k with dead := false }
      s := { c.s with st := .dormant, req := .dormant, ack := .dormant, trans := none, hsFault := false, hsEdge := none, held := true }
      w := { c.w with pending := false, ramping := false } })
  else s

/-- The isolations of the pace at cycle 0, cluster by cluster: account, and what a loss below 8 does (R101, R145). -/
def paceCells (n : Nat) (s : State) : State :=
  let lost := !(s.cluster n).k.isolated.isEmpty
  let s := deadOff n s
  let s := accountIsolations n s
  if lost then cellLoss n s else s

/-! ### Drone mode (R103 to R105, R398) -/

/-- The pace-timed steps of drone mode: a completed ramp latches the cells, and in chip drone mode a cluster whose wake is
complete joins (R103 step 4, R105, R152). -/
def paceDrone (n : Nat) (s : State) : State :=
  let c := s.cluster n
  match c.d.st with
  | .latchWait =>
    let s := setCells n .switch (s.updCl n (fun c => { c with d := { c.d with st := .on } }))
    raise 0x0322 n ([BitVec.ofNat 8 c.k.live] ++ leBytes 2 c.d.req) s
  | .none =>
    if s.feed.chipDrone && c.k.mode == .regulate && !c.s.held &&
        (c.inActiveRest || (match c.s.trans with
          | some t => (t.phase == .rampDone || t.phase == .resetDone || t.phase == .finalEcho) && t.target != .retain
          | none => false)) then droneStart n s
    else s
  | _ => s

/-- Drone exit begins: the cells regulate from the measured voltage, D_n leaves F, and the set-point ramps to T_n (R104). -/
def droneLeave (n : Nat) (s : State) : State :=
  let s := leaveDrone n .exiting s
  s.updCl n (fun c => aimCluster (targetOf s c) s.clk.now c)

/-- The end of a drone exit (R104 step 3). -/
def droneExitDone (n : Nat) (s : State) : State :=
  raise 0x0323 n [] (s.updCl n (fun c => { c with d := { st := .none, req := 0 } }))

/-- What follows when a cluster's set-point reaches its target (R103, R104, R152, R278). -/
def rampReached (n : Nat) (s : State) : State :=
  let c := s.cluster n
  let s := match c.d.st with
    | .entering => s.updCl n (fun c => { c with d := { c.d with st := .latchWait } })
    | .exiting => droneExitDone n s
    | _ => s
  let s := match c.s.trans with
    | some t =>
      match t.phase with
      | .downRamp => settle n .retain s
      | .wakeRamp => if c.s.st == .retain && t.target == .retain then settle n .retain (wakeComplete n s) else wakeComplete n s
      | _ => s
    | none => s
  if (s.cluster n).v.calWait then soonIn 1 (.calSettle n) s else s

/-- A step of a cluster's set-point; the first of a wake wakes its sentinel (R123, R148, R198). -/
def stepCluster (n : Nat) (s : State) : State :=
  let s := s.updCl n (fun c => { c with v := { c.v with sp := c.v.sp.step s.clk.now }, w := { c.w with stepped := true } })
  if (s.cluster n).v.sp.moving then s else rampReached n s

/-- A ramp of a wake or towards Retain is under way (R148, R278). -/
def Cluster.ramps (c : Cluster) : Bool :=
  match c.s.trans with
  | some t => t.phase == .wakeRamp || t.phase == .downRamp
  | none => false

/-- A drone entry or exit, a wake or a descent to Retain whose new target stands at the set-point has reached it (R103, R104,
R124, R152). -/
def emptyRamp (n : Nat) (s : State) : State :=
  let c := s.cluster n
  if (c.d.st == .entering || c.d.st == .exiting || c.ramps) && !c.v.sp.moving then rampReached n s else s

/-- An entry or exit is in progress (R398). -/
def Cluster.droneBusy (c : Cluster) : Bool :=
  match c.d.st with
  | .entering | .latchWait | .exiting => true
  | _ => false

/-- The checks of DRONE_ENTER for one cluster (R101, R398). -/
def droneEnterBad (c : Cluster) : Bool := c.d.st != .none || !c.inActiveRest

/-- The checks of DRONE_EXIT for one cluster (R104, R398). -/
def droneExitBad (s : State) (c : Cluster) : Bool := c.d.st == .none || s.feed.chipDrone || decide (c.k.live < 8)

/-- The checks of DRONE_ENTER on the state (R398). -/
def droneEnterChecks (s : State) (n : Nat) : List (Bool × Status) :=
  if n = 0xFF then
    [(s.cl.any Cluster.droneBusy, .badState), (!s.sys.armChipDrone, .notArmed), (s.feed.chipDrone, .badState)]
  else [((s.cluster n).droneBusy, .badState), (droneEnterBad (s.cluster n), .badState)]

/-- The checks of DRONE_EXIT on the state (R398). -/
def droneExitChecks (s : State) (n : Nat) : List (Bool × Status) :=
  if n = 0xFF then [(s.cl.any Cluster.droneBusy, .badState), (!s.feed.chipDrone, .badState)]
  else [((s.cluster n).droneBusy, .badState), (droneExitBad s (s.cluster n), .badState)]

/-- The acts of a drone command: one for each cluster named, all for 0xFF (R246, R398). -/
def droneActs (enter : Bool) (n : Nat) : List Act :=
  let one := fun chip k => if enter then Act.droneEnter k chip else Act.droneExit k chip
  if n = 0xFF then (List.range 144).map (one true) else [one false n]

/-- CLUSTER of a drone command is legal (R398). -/
def droneArgOk (l : List Byte) : Bool := field l 0 1 < 144 || field l 0 1 == 0xFF

/-- DRONE_ENTER; chip drone mode is in force from this pace (R105, R398). -/
def execDroneEnter (p : Packet) (s : State) : Host.Outcome State Fault Refusal :=
  inTurn p s fun s =>
  let n := field p.payload 0 1
  command p 0x0304 ([(p.payload.length != 1, .badLength), (!droneArgOk p.payload, .badParam)] ++ droneEnterChecks s n)
    (fun s => defer p 0x0304 (droneActs true n) (if n = 0xFF then { s with feed := { s.feed with chipDrone := true } } else s)) s

/-- DRONE_EXIT; chip drone mode ends in this pace (R105, R398). -/
def execDroneExit (p : Packet) (s : State) : Host.Outcome State Fault Refusal :=
  inTurn p s fun s =>
  let n := field p.payload 0 1
  command p 0x0305 ([(p.payload.length != 1, .badLength), (!droneArgOk p.payload, .badParam)] ++ droneExitChecks s n)
    (fun s => defer p 0x0305 (droneActs false n) (if n = 0xFF then { s with feed := { s.feed with chipDrone := false } } else s)) s

/-- One cluster of a drone entry at step 1; in chip drone mode every cluster in Active or Rest takes it (R105). -/
def applyDroneEnter (n : Nat) (chip : Bool) (s : State) : State :=
  let s := if chip then { s with feed := { s.feed with chipDrone := true } } else s
  if droneEnterBad (s.cluster n) then s else droneStart n s

/-- One cluster of a drone exit at step 1; the end of chip drone mode returns the clusters with at least 8 live cells
(R105). -/
def applyDroneExit (n : Nat) (chip : Bool) (s : State) : State :=
  let s := if chip then { s with feed := { s.feed with chipDrone := false } } else s
  let c := s.cluster n
  if c.d.st == .on && decide (8 ≤ c.k.live) then droneLeave n s else s

/-- The mask of a list of clusters as 18 bytes, with their count (R398). -/
def maskCount (l : List Nat) : List Byte := leBytes 18 (bitsMask l) ++ [BitVec.ofNat 8 l.length]

/-- Reply data of DRONE_ENTER and DRONE_EXIT: the clusters named that are entering, or those that remain in drone mode
(R398). -/
def droneData (enter : Bool) (n : Nat) (s : State) : List Byte :=
  maskCount (s.cl.places (fun k c => if enter then (n == 0xFF || k == n) && c.d.st == .entering else c.droneOut))

/-! ### CLUSTER_SET_STATE (R277) -/

/-- The clusters of an 18-byte mask. -/
def clustersOf (l : List Byte) (at_ : Nat) : List Nat := maskBits 144 (field l at_ 18)

/-- The payload of CLUSTER_SET_STATE is legal (R277). -/
def setStateLegal (l : List Byte) : Bool := field l 0 18 != 0 && field l 18 1 ≤ 3 && field l 19 1 ≤ 64 && zeros l 20 4

/-- The request would wake the cluster (R148). -/
def wakes (c : Cluster) (t : CState) : Bool :=
  match c.s.st with
  | .dormant => t != .dormant
  | .retain => t == .active || t == .rest
  | _ => false

/-- A request meets a transition in progress, a recharacterisation window, or a replay of this cycle that starts a wake and goes
before it (R277, R281). -/
def stateBusy (s : State) (c : Cluster) : Bool := c.inProgress || c.s.inRechar || (replayDue s c && replayResult s c == 1)

/-- The state checks of CLUSTER_SET_STATE for its clusters, in order (R277). -/
def setStateChecks (s : State) (ns : List Nat) (t : CState) : List (Bool × Status) :=
  let cs := ns.map s.cluster
  [ (cs.any (fun c => wakes c t) && (!gridUp s || s.thermHold), .badState),
    ((t == .active || t == .rest) && cs.any (fun c => c.s.held), .badState),
    (cs.any (fun c => wakes c t && c.k.live == 0), .badState),
    (s.sys.descent != .none && t != .dormant, .badState),
    (cs.any (stateBusy s), .busyRetry) ]

/-- The changes that a legal CLUSTER_SET_STATE makes. -/
def setStateActs (l : List Byte) : List Act :=
  let t := CState.ofCode (field l 18 1)
  let d := if field l 19 1 = 0 then 4 else field l 19 1
  (clustersOf l 0).map (fun n => .setState n t d)

/-- CLUSTER_SET_STATE: the transitions start at the next cycle 0 of a pace, where the reply is written; the first wake accepted
ends the requests for SA retention (R277 to R279). -/
def execClusterSetState (p : Packet) (s : State) : Host.Outcome State Fault Refusal :=
  inTurn p s fun s =>
  let l := p.payload
  command p 0x0301
    ([(l.length != 24, .badLength), (!setStateLegal l, .badParam)]
      ++ setStateChecks s (clustersOf l 0) (CState.ofCode (field l 18 1)))
    (fun s => defer p 0x0301 (setStateActs l)
      (if (clustersOf l 0).any (fun n => wakes (s.cluster n) (CState.ofCode (field l 18 1))) then saRelease s else s)) s

/-- The transition of one cluster starts; a cluster with no live cell, already Dormant, leaves its hold at once (R277,
R411). -/
def applySetState (n : Nat) (t : CState) (d : Nat) (s : State) : State :=
  let c := s.cluster n
  if t == .dormant && c.s.st == .dormant && c.s.held then s.updCl n (fun c => { c with s := { c.s with held := false } })
  else
    let s := if wakes c t then saRelease s else s
    startTrans n t d s

/-- The clusters of the acts whose transition starts in the state before them, as an 18-byte mask (R277). -/
def setStateData (acts : List Act) (s : State) : List Byte :=
  leBytes 18 (bitsMask (acts.filterMap (fun a =>
    match a with
    | .setState n t _ => if (s.cluster n).starts t then some n else none
    | _ => none)))

/-! ### CLUSTER_SET_OFFSET (R396) -/

/-- Entry `i` of CLUSTER_SET_OFFSET is legal (R396). -/
def offsetEntryOk (l : List Byte) (i : Nat) : Bool :=
  let b := 4 + 4 * i
  let sel := field l (b + 1) 1
  field l b 1 < 144 && 1 ≤ sel && sel ≤ 3 && (sel.testBit 0 || field l (b + 2) 1 == 0)
    && (if sel.testBit 1 then field l (b + 3) 1 ≤ 28 else field l (b + 3) 1 == 0)

/-- No element of a list appears twice. -/
def noRepeat : List Nat → Bool
  | [] => true
  | a :: as => !as.contains a && noRepeat as

/-- The payload of CLUSTER_SET_OFFSET is legal (R396). -/
def offsetLegal (l : List Byte) : Bool :=
  let k := field l 0 1
  1 ≤ k && k ≤ 144 && zeros l 1 3 && (List.range k).all (offsetEntryOk l)
    && noRepeat ((List.range k).map (fun i => field l (4 + 4 * i) 1))

/-- The changes that a legal CLUSTER_SET_OFFSET makes. -/
def offsetActs (l : List Byte) : List Act :=
  (List.range (field l 0 1)).map (fun i =>
    let b := 4 + 4 * i
    .offset (field l b 1) (field l (b + 1) 1) (signed 8 (field l (b + 2) 1)) (field l (b + 3) 1))

/-- CLUSTER_SET_OFFSET: host offsets and sentinel thresholds change at the next cycle 0 of a pace (R396). -/
def execClusterSetOffset (p : Packet) (s : State) : Host.Outcome State Fault Refusal :=
  inTurn p s fun s =>
  let l := p.payload
  command p 0x0302
    [ (l.length != 4 + 4 * field l 0 1, .badLength), (!offsetLegal l, .badParam) ]
    (defer p 0x0302 (offsetActs l)) s

/-- The offset and threshold of one cluster change (R96, R197, R396). -/
def applyOffset (n sel : Nat) (ofs : Int) (thresh : Nat) (s : State) : State :=
  s.updCl n (fun c => { c with
    v := { c.v with offset := if sel.testBit 0 then ofs else c.v.offset }
    t := { c.t with thresh := if sel.testBit 1 then thresh else c.t.thresh } })

/-! ### SA retention (R76, R279) -/

/-- EV_BANK_PINNED, once per bank and period (R76). -/
def bankPinned (b : Nat) (s : State) : State := raisePeriod 0x0321 b [] s

/-- SA retention is requested for every bank in Standby-Ready that has no request yet; a pinned bank stays awake (R76,
R279). -/
def saRequest (s : State) : State :=
  let s := forEach ((List.range 64).filter (fun b => s.sys.saPinned.get b && !s.sys.saReq.get b)) bankPinned s
  { s with sys := { s.sys with saReq := s.sys.saReq.mapI (fun b r => r || !s.sys.saPinned.get b) } }

/-- The retention acknowledges are sampled; an exit step that waits for them follows at a cycle 0 (R279). -/
def execSaRetentionAck (banks : List Nat) (s : State) : Host.Outcome State Fault Refusal :=
  done { s with sys := { s.sys with saAck := Tab.ofFn 64 (fun b => banks.contains b) } }

/-- A pinned indication is sampled: one that rises under an unacknowledged request drops it (R76). -/
def execSaBankPinned (b : Nat) (pinned : Bool) (s : State) : Host.Outcome State Fault Refusal :=
  let s := { s with sys := { s.sys with saPinned := s.sys.saPinned.set b pinned } }
  if pinned && s.sys.saReq.get b && !s.sys.saAck.get b then
    done (bankPinned b { s with sys := { s.sys with saReq := s.sys.saReq.set b false } })
  else done s

end Sys2Proof.Machine
end

