-- ==== Sys2Proof/Machine/Levels.lean ====
section
/-! DEFINITION. The level table, the level sequencer and its interlock, fixed-frequency mode, curve and calibration tiles
as they are read, and recharacterisation (R63, R64, R138 to R141, R211, R263 to R275, R285 to R291). -/

namespace Sys2Proof.Machine

/-! ### The level table (R263 to R265) -/

/-- Codes rise strictly (R263). -/
def rising : List LvlEnt → Bool
  | a :: b :: rest => decide (a.code < b.code) && rising (b :: rest)
  | _ => true

/-- Boost entries are contiguous at the top (R263). -/
def boostTop : List LvlEnt → Bool
  | a :: b :: rest => (!a.boost || b.boost) && boostTop (b :: rest)
  | _ => true

/-- A table that meets R263 and the bounds of the grade in R264. -/
def tableOk (f : Fuses) (t : Tab 16 LvlEnt) : Bool :=
  rising t.val && boostTop t.val && !(t.val.getD 0 ⟨0, false⟩).boost
    && (List.range 16).all (fun k =>
      let e := t.val.getD k ⟨0, false⟩
      decide (e.code ≤ (if e.boost then f.boostCeil else f.gf.get k)) && decide (e.code ≤ 80))

/-- ENTRY of SET_LEVEL OP 0x00 for entry `k` (R265). -/
def lvlEntry (l : List Byte) (k : Nat) : LvlEnt := ⟨field l (4 + k) 1 % 128, decide (128 ≤ field l (4 + k) 1)⟩

/-- The payload of SET_LEVEL OP 0x00 alone is legal (R265). -/
def levelLegal (l : List Byte) : Bool :=
  field l 0 1 == 0 && field l 1 1 == 0 && field l 2 2 != 0 && zeros l 20 12
    && (List.range 16).all (fun k => if (field l 2 2).testBit k then decide ((lvlEntry l k).code ≤ 80) else field l (4 + k) 1 == 0)

/-- The changes that a legal SET_LEVEL OP 0x00 makes. -/
def levelActs (l : List Byte) : List Act :=
  (maskBits 16 (field l 2 2)).map (fun k => .level k (lvlEntry l k).code (lvlEntry l k).boost)

/-- The table with the entries of a list of changes. -/
def editTable (t : Tab 16 LvlEnt) (acts : List Act) : Tab 16 LvlEnt :=
  acts.foldl (fun t a => match a with
    | .level k code boost => t.set k ⟨code, boost⟩
    | _ => t) t

/-- The level that fixed-frequency mode by level holds. -/
def fixedLevel (s : State) : Option Nat :=
  match s.seq.fixed with
  | .level k => some k
  | _ => none

/-- The state checks of SET_LEVEL OP 0x00 (R265). -/
def levelChecks (s : State) (acts : List Act) : List (Bool × Status) :=
  [ (s.inConvoy, .badState),
    (acts.any (fun a => match a with
      | .level k _ _ => fixedLevel s == some k
      | _ => false), .badState) ]

/-- The ENTRY bytes in force (R265). -/
def levelData (s : State) : List Byte := s.seq.table.val.map (fun e => BitVec.ofNat 8 (e.code + if e.boost then 128 else 0))

/-- The table once the changes that wait for the next cycle 0 have been made (R263, R265). -/
def pendingTable (s : State) : Tab 16 LvlEnt := editTable s.seq.table (s.cmd.next.flatMap (fun d => d.acts))

/-- SET_LEVEL OP 0x00: the table that would result counts the edits that still wait (R265). -/
def execSetLevelTable (p : Packet) (s : State) : Host.Outcome State Fault Refusal :=
  inTurn p s fun s =>
  let l := p.payload
  command p 0x0601
    ([ (l.length != 32, .badLength),
       (!levelLegal l || !tableOk s.fuses (editTable (pendingTable s) (levelActs l)), .badParam) ] ++ levelChecks s (levelActs l))
    (defer p 0x0601 (levelActs l)) s

/-! ### Posting (R266, R267) -/

/-- The first stage whose deadline under R42 a posting in this cycle meets (R48, R267). -/
def postFirst (s : State) : Nat := if s.clk.now = s.clk.stageStart then s.clk.stage + 1 else s.clk.stage + 2

/-- A change is posted for a stage; one equal to the code in force clears the pending change, and a stage whose deadline is
missed moves to the first that is met (R42, R266). -/
def post (code level stage : Nat) (src : PendSource) (s : State) : State :=
  { s with
    seq := { s.seq with pend := if code = s.seq.code then none else some {
      code, level, stage := max stage (postFirst s), source := src, rises := s.risePace, moment := s.clk.now } }
    gov := { s.gov with postedUp := src == .governor && decide (s.seq.code < code) } }

/-- The targets and the feed as they will stand once a code is pending: the longest rise in ns (R267). -/
def riseTime (code : Nat) (s : State) : Nat :=
  let h := droneRecalc (retargetAll s.clk.now { s with seq := { s.seq with
    pend := some { code, level := 0, stage := 0, source := .governor } } })
  let up := (listMapFrom (fun _ c => c) 0 h.cl.val).foldl (fun m c =>
    if (c.s.st == .active || c.s.st == .rest) && !c.droneOut then max m ((c.v.target : Int) - c.v.sp.cur) else m) 0
  let feed : Int := (min (feedPick h).f (feedCeil h) : Nat) - (s.rail 0).sp.cur
  250 * (max up feed).toNat

/-- The stages that a rise needs: ⌈t_r ÷ 10.24 µs⌉ (R267). -/
def riseStages (code : Nat) (s : State) : Nat := ceilDiv (riseTime code s) 10240

/-- The sequencer posts for a source that names no stage; none is taken in a convoy (R266, R267). -/
def hostPost (code level : Nat) (src : PendSource) (s : State) : State :=
  if s.inConvoy then s
  else if code < s.seq.code then post code level (s.clk.stage + 2) src s
  else post code level (s.clk.stage + 2 + riseStages code s) src s

/-- The highest non-boost level whose code is at or below `code`; none below PL0 (R275). -/
def derivedLevel (s : State) (code : Nat) : Option Nat :=
  (List.range 16).foldl (fun m k => if !(s.lvl k).boost && decide ((s.lvl k).code ≤ code) then some k else m) none

/-- The level in force follows the code in force under fixed-frequency mode by code (R275). -/
def deriveLevel (s : State) : State :=
  match derivedLevel s s.seq.code with
  | some k => { s with seq := { s.seq with level := k, belowPl0 := false } }
  | none => { s with seq := { s.seq with level := 0, belowPl0 := true } }

/-- The hold of R64 ends; targets fall only once the done signal has been sampled (R64, R268). -/
def endHold (s : State) : State :=
  if !s.seq.noDone then s
  else if s.seq.awaitDone then { s with seq := { s.seq with noDone := false } }
  else { s with seq := { s.seq with noDone := false, fvHold := none, fvFixed := false } }

/-- What follows once the entries of SET_LEVEL OP 0x00 are in force: the hold of R64 ends, and a level in force with a new
code is posted, or derived afresh in fixed-frequency mode by code (R64, R265). -/
def tableEdited (old : Tab 16 LvlEnt) (s : State) : State :=
  let s := endHold s
  match s.seq.fixed with
  | .code _ => deriveLevel s
  | _ =>
    let e := s.lvl s.seq.level
    if e.code = (old.val.getD s.seq.level ⟨0, false⟩).code then s else hostPost e.code s.seq.level .tableEdit s

/-- One entry of the level table changes (R265). -/
def applyLevel (k code : Nat) (boost : Bool) (s : State) : State := { s with seq := { s.seq with table := s.seq.table.set k ⟨code, boost⟩ } }

/-! ### Fixed-frequency mode (R275) -/

/-- The payload of SET_FIXED_FREQUENCY alone is legal (R275). -/
def fixedLegal (s : State) (l : List Byte) : Bool :=
  let k := field l 0 1
  let lv := field l 1 1
  let c := field l 2 1
  zeros l 3 13 && (if k = 0 then lv == 0 && c == 0 else if k = 1 then decide (lv ≤ 15) && c == 0
    else if k = 2 then lv == 0 && decide (c ≤ s.fuses.gf.get 15) else false)

/-- The checks of SET_FIXED_FREQUENCY on the state (R275). -/
def fixedChecks (s : State) (kind lv : Nat) : List (Bool × Status) :=
  [(kind == 1 && (s.lvl lv).boost, .badParam), (kind == 2 && s.inConvoy, .badState)]

/-- The change that a legal SET_FIXED_FREQUENCY makes. -/
def fixedActs (l : List Byte) : List Act := [.fixed (field l 0 1) (field l 1 1) (field l 2 1)]

/-- SET_FIXED_FREQUENCY (R275). -/
def execSetFixedFrequency (p : Packet) (s : State) : Host.Outcome State Fault Refusal :=
  inTurn p s fun s =>
  let l := p.payload
  command p 0x0605
    ([(l.length != 16, .badLength), (!fixedLegal s l, .badParam)] ++ fixedChecks s (field l 0 1) (field l 1 1))
    (defer p 0x0605 (fixedActs l)) s

/-- Fixed-frequency mode changes and its frequency is posted (R64, R275). -/
def applyFixed (kind lv code : Nat) (s : State) : State :=
  let s := endHold s
  if kind = 1 then
    let s := { s with seq := { s.seq with fixed := .level lv, belowPl0 := false } }
    hostPost (s.lvl lv).code lv .fixed s
  else if kind = 2 then
    let s := { s with seq := { s.seq with fixed := .code code } }
    let s := hostPost code 16 .fixed s
    if code = s.seq.code then deriveLevel s else s
  else { s with seq := { s.seq with fixed := .off, belowPl0 := false } }

/-- Reply data of SET_FIXED_FREQUENCY (R275). -/
def fixedData (kind lv code : Nat) (s : State) : List Byte :=
  [BitVec.ofNat 8 kind, BitVec.ofNat 8 lv, BitVec.ofNat 8 code] ++ leBytes 6 ((s.seq.pend.map Pend.stage).getD 0)

/-! ### The interlock (R211, R269 to R271, R273) -/

/-- The clusters that the interlock judges: in Active or Rest, not waking, not in a recharacterisation window (R269). -/
def judged (c : Cluster) : Bool := (c.s.st == .active || c.s.st == .rest) && !c.waking && !c.s.inRechar

/-- The first judged cluster that satisfies a condition. -/
def firstJudged (s : State) (bad : Cluster → Bool) : Option Nat := (s.cl.places (fun _ c => judged c && bad c)).head?

/-- A judged cluster that the feed cannot carry through the step: a drone below its requirement at the new code, or a regulating
one whose target with 25 mV is above the drone cap (R100, R269). -/
def feedFails (s : State) (code : Nat) (c : Cluster) : Bool :=
  (c.droneOut && (decide ((s.rail 0).sp.cur < droneReq c code) || (s.feed.capped && decide (s.feed.follow < droneReq c code))))
    || (anyDrone s && c.regulating && decide (clusterCodeOf droneCap < c.v.target + 20))

/-- The first condition of R269 that an upward step fails, with the first cluster that fails it (0xFF when none applies), judged
on a state with the targets of the edge. -/
def stepReason (s : State) (p : Pend) : Option (Nat × Nat) :=
  if p.level < 16 && (s.lvl p.level).boost && (boostFails s).isSome then some (6, 0xFF)
  else
    match firstJudged s (fun c => c.regulating && decide (c.v.sp.cur < c.v.target)) with
    | some n => some (1, n)
    | none =>
      match firstJudged s (settleStretch s) with
      | some n => some (2, n)
      | none =>
        match firstJudged s (fun c => !c.v.curveDefault && !c.charAt p.code) with
        | some n => some (3, n)
        | none =>
          match firstJudged s (feedFails s p.code) with
          | some n => some (4, n)
          | none => if s.seq.noDone then some (5, 0xFF) else none

/-- A step is held at its edge: the reason is recorded, and the first edge raises FLT_LEVEL_LATE; `gap` is how far the cluster's
target is above its set-point (R45, R270, R271). -/
def holdStep (p : Pend) (reason n : Nat) (gap : Int) (s : State) : State :=
  let s := { s with seq := { s.seq with holdReason := reason, pend := some { p with late := true } } }
  if p.late then s
  else
    dlSet 5 (raiseMiss 0x0610 p.level
      ([BitVec.ofNat 8 reason, BitVec.ofNat 8 n, BitVec.ofNat 8 s.seq.code, BitVec.ofNat 8 p.code] ++ leBytes 2 (code2 16 gap)) s)

/-- TARGET − SETPOINT of the cluster that holds a step; 0 when none applies (R270). -/
def stepGap (s : State) (n : Nat) : Int := if n < 144 then ((s.cluster n).v.target : Int) - (s.cluster n).v.sp.cur else 0

/-- A frequency change applies at a stage edge (R63, R268, R399). -/
def applyStep (p : Pend) (s : State) : State :=
  let old := s.seq.code
  let s := { s with seq := { s.seq with
    code := p.code, level := if p.level < 16 then p.level else s.seq.level, belowPl0 := if p.level < 16 then false else s.seq.belowPl0
    pend := none, freqOut := p.code, applyOld := old, applyStage := s.clk.stage, awaitDone := true, doneLate := false
    fvHold := if p.code < old then some (max old (s.seq.fvHold.getD 0)) else s.seq.fvHold } }
  let s := if p.level < 16 then s else deriveLevel s
  trace 5 0 [BitVec.ofNat 8 old, BitVec.ofNat 8 p.code, BitVec.ofNat 8 p.level, BitVec.ofNat 8 p.source.code] (emit (.freqApply p.code) s)

/-- Step 3 of a stage edge: a change whose stage has come applies, waits, or is dropped; a Lost chip keeps its level in force
(R321). `judge` is the state with the targets
that the commands of this edge leave, which an upward step is held to (R31, R269 to R271). -/
def levelEdge (judge s : State) : State :=
  match s.seq.pend with
  | none => s
  | some p =>
    if s.clk.stage < p.stage || s.cvy.st == .lost then s
    else if s.seq.code < p.code then
      match stepReason judge p with
      | some (6, _) => { s with seq := { s.seq with holdReason := 6, pend := none } }
      | some (r, n) => holdStep p r n (stepGap judge n) s
      | none => applyStep p s
    else if s.seq.noDone then holdStep p 5 0xFF 0 s
    else applyStep p s

/-- The code driven ahead of an apply, from cycle 0 of p15 (R61). -/
def freqDrive (s : State) : State :=
  match s.seq.pend with
  | some p => if s.clk.pace = 15 && decide (p.stage ≤ s.clk.stage + 1) then { s with seq := { s.seq with freqOut := p.code } } else s
  | none => s

/-- brx_freq_done_i is sampled: the wait ends, and f_v and the targets follow from the next cycle (R63, R268). -/
def execFreqDone (s : State) : Host.Outcome State Fault Refusal :=
  let s := { s with seq := { s.seq with awaitDone := false } }
  let s := if s.seq.noDone then s else { s with seq := { s.seq with fvHold := none, fvFixed := false } }
  done (retargetAll (s.clk.now + 1) s)

/-- brx_freq_done_i has not been sampled by cycle 0 of p1 of the stage of the apply: the hold of R64 begins; a
higher code still held for want of a done stays (R64, R268, R403). -/
def execFreqNoDoneTimeout (s : State) : Host.Outcome State Fault Refusal :=
  if !s.seq.awaitDone || s.seq.doneLate || (s.clk.stage == s.seq.applyStage && s.clk.pace == 0) then idle s
  else
    lapse (fun s => raise 0x0611 0 [] { s with seq := { s.seq with
      noDone := true, doneLate := true, fvFixed := true
      fvHold := some (max (s.seq.fvHold.getD 0) (max s.seq.applyOld s.seq.code)) } }) s

/-! ### Curve and calibration tiles (R137 to R141, R272, R285) -/

/-- The sealed tile of curve tile `t` (R285, R426). -/
def curveTile (t : Nat) : Nat := 472 + t

/-- A curve point from its word (R93). -/
def curvePoint (w : Nat) : CurvePt := { freq := w % 128, vmin := (w / 256) % 1024 }

/-- The word of a curve point (R93). -/
def curveWord (p : CurvePt) : Nat := p.freq + 256 * p.vmin

/-- The sixteen points of a curve of 64 bytes (R93, R285). -/
def curveOf (b : List Byte) : Tab 16 CurvePt := Tab.ofFn 16 (fun p => curvePoint (field b (4 * p) 4))

/-- At cycle 0 of a pace: the ROM default curve stands for a cluster whose curve or calibration tile is bad, or for which the
code in force is uncharacterised (R96, R140, R272). -/
def judgeCurves (s : State) : State :=
  { s with cl := s.cl.mapI (fun n c =>
      let bad := tileBad s (curveTile (n / 16)) || calBad s n
      let unch := !c.charAt s.seq.code
      { c with v := { c.v with curveDefault := if c.s.st == .dormant && c.s.trans.isNone then bad || (c.v.curveDefault && unch) else bad || unch } }) }

/-- A read of curve tile `t` completes: its curves are taken, or the tile is marked bad and reported once (R285, R408). -/
def execCurveTileReadDone (t : Nat) (upset : Bool) (s : State) : Host.Outcome State Fault Refusal :=
  if 9 ≤ t || tileBad s (curveTile t) then idle s
  else if tilePasses s (curveTile t) upset then
    let b := tileBytes s (curveTile t)
    done { s with cl := s.cl.mapI (fun n c => if n / 16 = t then { c with v := { c.v with curve := curveOf (slice b (64 * (n % 16)) 64) } } else c) }
  else done (raise 0x0A11 (256 + t) [] (markBad (curveTile t) s))

/-- The clusters with a cell in calibration tile `t` (R137). -/
def calClusters (t : Nat) : List Nat := if 8 * t / 12 = (8 * t + 7) / 12 then [8 * t / 12] else [8 * t / 12, (8 * t + 7) / 12]

/-- The sixteen points of a cell of 128 bytes. -/
def calTable (b : List Byte) : List CalPt := (List.range 16).map (fun p => calPoint (slice b (8 * p) 8))

/-- The brackets of the cells of a calibration tile from its bytes (R139). -/
def takeBrackets (t : Nat) (b : List Byte) (s : State) : State :=
  forEach (List.range 8) (fun k s =>
    let c := 8 * t + k
    let v := (s.cluster (c / 12)).v.sp.cur
    s.updCell c (fun x => { x with pts := bracket v (usedCal (calTable (slice b (128 * k) 128))), ptsAt := v })) s

/-- The calibration tile whose read on slot B completes next: bracket reads, oldest first, go before the scrub, which goes
through the table in ascending order (R139). -/
def calNext (l : Led) : Nat := l.calReq.headD l.scrubNext

/-- The reads that remain once the next has completed (R139). -/
def calAdvance (s : State) : State :=
  { s with led := match s.led.calReq with
      | _ :: l => { s.led with calReq := l }
      | [] => { s.led with scrubNext := (s.led.scrubNext + 1) % 216 } }

/-- A bracket or scrub read of a calibration tile completes and is checked: a bracket read gives the cells their brackets, and
a tile that fails is marked bad and holds its cells' trims; a bad tile is never used (R139, R140). -/
def execCalTileReadDone (t : Nat) (upset : Bool) (s : State) : Host.Outcome State Fault Refusal :=
  if t != calNext s.led then idle s
  else
    let wanted := !s.led.calReq.isEmpty
    let s := calAdvance s
    if tileBad s (256 + t) then done s
    else if tilePasses s (256 + t) upset then done (if wanted then takeBrackets t (tileBytes s (256 + t)) s else s)
    else
      let s := forEach (calClusters t) (fun n s => s.updCl n (fun c => { c with v := { c.v with calWait := true } })) (markBad (256 + t) s)
      done (raise 0x0A11 t [] s)

/-! ### Recharacterisation (R286 to R291) -/

/-- The clusters of a window. -/
def Rechar.clusters (r : Rechar) : List Nat := maskBits 144 r.mask

/-- CELL_RECHARACTERIZE (R286). -/
def execCellRecharacterize (p : Packet) (s : State) : Host.Outcome State Fault Refusal :=
  inTurn p s fun s =>
  let l := p.payload
  let m := field l 0 18
  let fl := field l 18 1
  let w := field l 20 6
  let hn := field l 28 4
  let hl := field l 32 4
  let any := fun (bad : Cluster → Bool) => (maskBits 144 m).any (fun n => bad (s.cluster n))
  command p 0x0A03
    [ (l.length != 48, .badLength),
      (m == 0 || fl == 0 || decide (3 < fl) || !zeros l 19 1 || !zeros l 26 2 || !zeros l 36 12 || decide (w < s.clk.stage + 2)
        || hn == 0xFFFFFFFF || (hl != 0xFFFFFFFF && decide (hn < hl)), .badParam),
      (any (fun c => c.s.st == .dormant), .badState),
      (any (fun c => c.waking || c.inWake || c.s.trans.isSome), .badState),
      (any (fun c => c.d.st != .none), .badState),
      (fl % 2 == 1 && any (fun c => c.s.st == .retain), .badState),
      (s.rech.isSome, .busyRetry) ]
    (fun s => setDue p (w + 112) (markEffect p .hardware
      { s with rech := some { pkt := p, mask := m, curve := fl % 2 == 1, cellsOn := fl / 2 == 1, w, now := hn
                              prev := if hl = 0xFFFFFFFF then none else some hl } })) s

/-- The window opens: Active clusters are requested to Rest (R287). -/
def recharOpen (r : Rechar) (s : State) : State :=
  let s := forEach r.clusters (fun n s =>
    let was := (s.cluster n).s.st == .active
    let s := s.updCl n (fun c => { c with s := { c.s with inRechar := true, recharWas := was } })
    if was then startTrans n .rest 0 s else s) s
  { s with rech := some { r with step := 1 } }

/-- Record what a search or a retest has found for one cluster. -/
def recharNote (n : Nat) (f : RecharRes → RecharRes) (r : Rechar) : Rechar :=
  if r.res.any (fun x => x.n == n) then { r with res := r.res.map (fun x => if x.n == n then f x else x) }
  else { r with res := r.res ++ [f { n }] }

/-- What has been found for a cluster. -/
def Rechar.resOf (r : Rechar) (n : Nat) : RecharRes := (r.res.find? (fun x => x.n == n)).getD { n }

/-- The used points of a curve in ascending FREQ, in which the search takes them (R288). -/
def searchOrder (c : Tab 16 CurvePt) : List Nat :=
  (List.range 81).flatMap (fun f => (List.range 16).filter (fun p => (c.get p).freq == f))

/-- The search of a cluster goes to a point: the set-point is moved to VMIN_p − 8 codes; after the last point it stands (R288
step 1). -/
def searchPoint (n : Nat) (todo : List Nat) (s : State) : State :=
  match s.rech with
  | none => s
  | some r =>
    match todo with
    | [] => { s with rech := some (recharNote n (fun x => { x with todo := [], runFrom := none }) r) }
    | p :: _ =>
      let v : Int := max 0 ((((s.cluster n).v.curve.get p).vmin : Int) - 8)
      let s := { s with rech := some (recharNote n (fun x => { x with begun := true, todo, trial := v, runFrom := none }) r) }
      s.updCl n (fun c => { c with s := { c.s with search := true }, v := { c.v with sp := c.v.sp.aim s.clk.now v } })

/-- The set-point rises one code and the run repeats (R288 step 3). -/
def searchUp (n : Nat) (v : Int) (s : State) : State :=
  match s.rech with
  | none => s
  | some r =>
    { s with rech := some (recharNote n (fun x => { x with trial := v, runFrom := none }) r) }.updCl n
      (fun c => { c with v := { c.v with sp := c.v.sp.aim s.clk.now v } })

/-- The result of a point is kept, and the search goes on (R288). -/
def searchResult (n : Nat) (q : RecharPoint) (rest : List Nat) (s : State) : State :=
  match s.rech with
  | none => s
  | some r => searchPoint n rest { s with rech := some (recharNote n (fun x => { x with pts := x.pts ++ [q] }) r) }

/-- The monitors of a cluster report the run of a pace: a pass ends the point, a failure at VMIN_p + 24 ends it with
FLT_RECHAR_POINT, and any other raises the set-point (R288). -/
def searchRun (n : Nat) (pass : Bool) (x : RecharRes) (s : State) : State :=
  match x.todo with
  | [] => s
  | p :: rest =>
    if pass then searchResult n { point := p, pass := some x.trial.toNat } rest s
    else if ((((s.cluster n).v.curve.get p).vmin : Int) + 24 ≤ x.trial) then
      raise 0x0A14 n [BitVec.ofNat 8 p] (searchResult n { point := p, pass := none } rest s)
    else searchUp n (x.trial + 1) s

/-- A cluster settled in Rest, whose curve can be searched. -/
def searchable (c : Cluster) : Bool := c.s.st == .rest && c.s.trans.isNone && !c.droneOut

/-- The cells of a cluster that a retest takes: isolated, but not for a short, and not failing its self-test (R289). -/
def retestCells (s : State) (n : Nat) (bad : List Nat) : List Nat :=
  (List.range 12).filter (fun k =>
    let c := s.cell (12 * n + k)
    c.mode == .isolated && c.cause != .short && !bad.contains k)

/-- The retest of a cluster's cells begins after their self-test: they regulate, out of LIVE_MASK, from SHARE0 (R289). -/
def retestBegin (n : Nat) (bad : List Nat) (r : Rechar) (s : State) : State :=
  let ks := retestCells s n bad
  let v := (s.cluster n).v.sp.cur
  let s := forEach ks (fun k s => s.updCell (12 * n + k) (fun c =>
    { c with mode := .regulate, retest := true, share := calShare v c.pts, openRun := 0, shareRun := 0 })) s
  { s with rech := some (recharNote n (fun x => { x with cells := ks, retestFrom := some (s.clk.paceNo + 1) }) r) }

/-- I_c of a cell stays within ±20 % of the mean over the cells of its cluster that carry current (R289). -/
def inBand (s : State) (n i : Nat) : Bool :=
  let l := (cellsOf n).filter (fun j => (s.cell j).carried)
  let sum : Int := l.foldl (fun a j => a + ((s.cell j).curr : Int)) 0
  let d : Int := sum - l.length * ((s.cell i).curr : Int)
  decide (5 * d ≤ sum) && decide (-(5 * d) ≤ sum)

/-- A cell fails its retest: it stays isolated, its CAUSE unchanged (R289). -/
def retestFail (i : Nat) (s : State) : State :=
  s.updCell i (fun c => { c with mode := .isolated, retest := false, isoAt := none, drive := 0, openRun := 0, shareRun := 0 })

/-- A cell is out of the retest of its cluster. -/
def retestDrop (n k : Nat) (s : State) : State :=
  match s.rech with
  | some r => { s with rech := some (recharNote n (fun x => { x with cells := x.cells.filter (fun j => j != k) }) r) }
  | none => s

/-- The pace that ends judges the cells of a retest, for 64 paces (R289). -/
def retestPace (x : RecharRes) (s : State) : State :=
  match x.retestFrom with
  | none => s
  | some f =>
    if f < s.clk.paceNo && s.clk.paceNo ≤ f + 64 then
      forEach (x.cells.filter (fun k => !inBand s x.n (12 * x.n + k))) (fun k s => retestDrop x.n k (retestFail (12 * x.n + k) s)) s
    else s

/-- The monitors run in the pace that begins, once the set-point stands where the search moved it (R288 step 2). -/
def runBegins (s : State) (x : RecharRes) : RecharRes :=
  let p := (s.cluster x.n).v.sp
  if x.begun && !x.todo.isEmpty && x.runFrom.isNone && !p.moving && p.cur == x.trial then { x with runFrom := some s.clk.paceNo } else x

/-- A recharacterisation window at cycle 0 of a pace: searches begin on the clusters that have settled in Rest, runs begin, and
retests are judged (R287 to R289). -/
def recharPace (s : State) : State :=
  match s.rech with
  | none => s
  | some r =>
    if r.step != 1 then s
    else
      let s := r.res.foldl (fun s x => retestPace x s) s
      let s := if r.curve && decide (s.clk.stage < r.w + 80) then
          forEach (r.clusters.filter (fun n => searchable (s.cluster n) && !(r.resOf n).begun))
            (fun n s => searchPoint n (searchOrder (s.cluster n).v.curve) s) s
        else s
      { s with rech := s.rech.map (fun r => { r with res := r.res.map (runBegins s) }) }

/-- A point of the curve after its search: the new VMIN, and whether it passed at no voltage (R288). -/
def newVmin (p : CurvePt) (q : RecharPoint) : Nat × Bool :=
  match q.pass with
  | some v => if v ≤ p.vmin + 24 then (max p.vmin (v + 8), false) else (p.vmin + 32, true)
  | none => (p.vmin + 32, true)

/-- The curve after a search. -/
def searchedCurve (c : Tab 16 CurvePt) (pts : List RecharPoint) : Tab 16 CurvePt :=
  pts.foldl (fun c q => c.modify q.point (fun p => if p.freq ≤ 80 then { p with vmin := min 1023 (newVmin p q).1 } else p)) c

/-- The points of a search that name a used point of the curve. -/
def usedPoints (c : Tab 16 CurvePt) (pts : List RecharPoint) : List RecharPoint :=
  pts.filter (fun q => decide (q.point < 16) && decide ((c.get q.point).freq ≤ 80))

/-- Every used point of the curve has been reached (R288). -/
def allReached (c : Tab 16 CurvePt) (pts : List RecharPoint) : Bool :=
  (List.range 16).all (fun p => decide (80 < (c.get p).freq) || pts.any (fun q => q.point == p))

/-- A bad tile may be written: the run covers every cluster in it (R287). -/
def mayWrite (s : State) (r : Rechar) (tile : Nat) (ns : List Nat) : Bool := !tileBad s tile || ns.all (fun n => r.mask.testBit n)

/-- Write the curve of one cluster into its tile; a bad tile is written from the curves held for all its clusters (R285,
R287). -/
def writeCurve (n : Nat) (s : State) : State :=
  let t := n / 16
  let bs := if tileBad s (curveTile t) then
      (List.range 16).flatMap (fun k => (s.cluster (16 * t + k)).v.curve.val.flatMap (fun p => leBytes 4 (curveWord p)))
    else
      let b := tileBytes s (curveTile t)
      b.take (64 * (n % 16)) ++ (s.cluster n).v.curve.val.flatMap (fun p => leBytes 4 (curveWord p)) ++ b.drop (64 * (n % 16) + 64)
  sealTile (curveTile t) bs s

/-- The measured calibration point of a cell at a new point of the curve: its VPT, and free values for what the manager
measures (R288 step 5). -/
def measuredPoint (c p vmin k : Nat) : List Byte :=
  leBytes 8 (vmin % 1024 + 1024 * ((Config.calMeasured c p k).toNat % 2 ^ 50))

/-- Write the calibration points that a search has measured for one live cell, and read its bracket again (R139, R288). -/
def writeCal (r : Rechar) (c : Nat) (pts : List (Nat × Nat)) (s : State) : State :=
  let t := c / 8
  if !mayWrite s r (256 + t) (calClusters t) then s
  else
    let k := s.freeCount
    let s := { s with freeCount := k + 1 }
    let b := tileBytes s (256 + t)
    let at_ := 128 * (c % 8)
    let b := pts.foldl (fun b q => b.take (at_ + 8 * q.1) ++ measuredPoint c q.1 q.2 k ++ b.drop (at_ + 8 * q.1 + 8)) b
    let s := sealTile (256 + t) b s
    takeBrackets t b s

/-- The predicted hours to the grade limit (R291). -/
def remaining (r : Rechar) (vOld vNew : Nat) : Option Nat :=
  match r.prev with
  | some h =>
    if 100 ≤ r.now - h && vOld < vNew then some (if 512 < vNew then 0 else (512 - vNew) * (r.now - h) / (vNew - vOld)) else none
  | none => none

/-- What the table write has counted so far (R290). -/
structure RecharSum where
  raised : Nat := 0
  failed : Nat := 0
  back : Nat := 0
  rise : Option (Nat × Nat) := none
  least : Option (Nat × Nat) := none
  notAll : Bool := false
  notWritten : Bool := false
  deriving DecidableEq, Repr, Inhabited

/-- The curve of one searched cluster is written. C_n(GF_15) before and after the run is the ROM default curve's while the tile is
bad, or where the curve does not reach that code (R96, R272, R287, R288, R290, R291). -/
def writeSearched (r : Rechar) (n : Nat) (x : RecharSum × State) : RecharSum × State :=
  let (a, s) := x
  let c := s.cluster n
  let old := c.v.curve
  let pts := usedPoints old (r.resOf n).pts
  let a := if allReached old pts then a else { a with notAll := true }
  if !mayWrite s r (curveTile (n / 16)) ((List.range 16).map (fun k => 16 * (n / 16) + k)) then ({ a with notWritten := true }, s)
  else
    let new := searchedCurve old pts
    let gf := s.fuses.gf.get 15
    let vo := if tileBad s (curveTile (n / 16)) then romCurve gf else (evalCurve old gf).getD (romCurve gf)
    let raised := (pts.filter (fun q => decide ((old.get q.point).vmin < (new.get q.point).vmin))).length
    let fails := pts.filter (fun q => (newVmin (old.get q.point) q).2)
    let s := s.updCl n (fun c => { c with v := { c.v with curve := new } })
    let s := writeCurve n s
    let live := (cellsOf n).filter (fun i => (c.k.liveMask).getLsbD (i % 12))
    let good := pts.filterMap (fun q => if (newVmin (old.get q.point) q).2 then none else some (q.point, (new.get q.point).vmin))
    let a := if live.all (fun i => mayWrite s r (256 + i / 8) (calClusters (i / 8))) then a else { a with notWritten := true }
    let s := if good.isEmpty then s else forEach live (fun i s => writeCal r i good s) s
    let a := { a with raised := a.raised + raised, failed := a.failed + fails.length }
    let vn := (evalCurve new gf).getD (romCurve gf)
    let rem := remaining r vo vn
    let s := s.updCl n (fun c => { c with a := {
      ref := vn, raise := min 63 (vn - vo), ptFail := !fails.isEmpty
      remain := match rem with | some h => min 32767 (h / 10) | none => 32767 } })
    let s := match rem with
      | some h => if h < 1500 then raise 0x0A15 n (leBytes 4 h) s else s
      | none => s
    let a := match a.rise with
      | some (_, d) => if d < vn - vo then { a with rise := some (n, vn - vo) } else a
      | none => if vo < vn then { a with rise := some (n, vn - vo) } else a
    let a := match rem, a.least with
      | some h, some (_, d) => if h < d then { a with least := some (n, h) } else a
      | some h, none => { a with least := some (n, h) }
      | none, _ => a
    (a, s)

/-- The cells of one cluster that passed the retest return to service; a hold below 8 live cells ends with the eighth (R289,
R410). -/
def returnCells (r : Rechar) (n : Nat) (x : RecharSum × State) : RecharSum × State :=
  let (a, s) := x
  let ks := (List.range 12).filter (fun k => (s.cell (12 * n + k)).retest)
  let good := fun k => (r.resOf n).cells.contains k
    && decide ((s.cell (12 * n + k)).openRun < 4) && decide ((s.cell (12 * n + k)).shareRun < 64) && (s.cell (12 * n + k)).isoAt.isNone
  let ok := ks.filter good
  let s := forEach (ks.filter (fun k => !good k)) (fun k s => retestFail (12 * n + k) s) s
  let v := (s.cluster n).v.sp.cur
  let s := forEach ok (fun k s =>
    let s := s.updCell (12 * n + k) (fun c => { c with
      mode := (s.cluster n).k.mode, retest := false, cause := .none, share := calShare v c.pts, isoAt := none, openRun := 0, shareRun := 0 })
    s.updCl n (fun c => { c with k := { c.k with liveMask := c.k.liveMask ||| BitVec.ofNat 12 (2 ^ k) } })) s
  let s := recountCells n s
  let s := if 8 ≤ (s.cluster n).k.live then s.updCl n (fun c => { c with s := { c.s with held := false } }) else s
  ({ a with back := a.back + ok.length }, s)

/-- Reply data of CELL_RECHARACTERIZE (R290). -/
def recharData (r : Rechar) (a : RecharSum) : List Byte :=
  let result := if a.notWritten then 2 else if a.notAll then 1 else 0
  let searched := if r.curve then (r.clusters.filter (fun n => (r.resOf n).begun)).length else 0
  let rise := a.rise.getD (0xFF, 0)
  let least := a.least.getD (0xFF, 0xFFFFFFFF)
  [BitVec.ofNat 8 result, BitVec.ofNat 8 searched] ++ leBytes 2 a.raised
    ++ [BitVec.ofNat 8 a.failed, BitVec.ofNat 8 a.back, BitVec.ofNat 8 rise.1, BitVec.ofNat 8 rise.2]
    ++ leBytes 4 least.2 ++ [BitVec.ofNat 8 least.1]

/-- The edge opening W + 90: curves and calibration points are written, cells return, and the set-points ramp to their
targets (R287 to R291). -/
def recharWrite (r : Rechar) (s : State) : State :=
  let x := if r.curve then r.clusters.foldl (fun x n => writeSearched r n x) ({}, s) else ({}, s)
  let x := if r.cellsOn then r.clusters.foldl (fun x n => returnCells r n x) x else x
  let s := forEach r.clusters (fun n s => s.updCl n (fun c => { c with s := { c.s with search := false } })) x.2
  { s with rech := some { r with step := 3, data := recharData r x.1 } }

/-- The return to Active begins, once every set-point has reached its target (R287). -/
def recharReturn (r : Rechar) (s : State) : State :=
  let s := forEach r.clusters (fun n s => if (s.cluster n).s.recharWas then startTrans n .active 0 s else s) s
  { s with rech := some { r with step := 4 } }

/-- The window ends: its clusters are released and the command is answered (R287, R290). -/
def recharEnd (r : Rechar) (s : State) : State :=
  let s := forEach r.clusters (fun n s => s.updCl n (fun c => { c with s := { c.s with inRechar := false, recharWas := false } })) s
  reply r.pkt 0x0A03 .ok r.data { s with rech := none }

/-- A step of a window in progress up to W + 89: up to W + 79 the monitors of cluster `n` report the run of a pace, and from W + 80
its cells have had their self-test (R288, R289). -/
def recharReport (r : Rechar) (n : Nat) (pass : Bool) (bad : List Nat) (s : State) : State :=
  let x := r.resOf n
  if !r.mask.testBit n then s
  else if s.clk.stage < r.w + 80 then
    match x.runFrom with
    | some k => if k < s.clk.paceNo && searchable (s.cluster n) then searchRun n pass x s else s
    | none => s
  else if r.cellsOn && x.retestFrom.isNone then retestBegin n bad r s
  else s

/-- A recharacterisation window reaches its next stage (R287): it opens at W; the monitors of a cluster report a run up to W + 79,
and its cells their self-test from W + 80 to W + 89; the tables are written at W + 90; the clusters return from W + 96; the reply
follows when all have echoed. -/
def execRecharWindowStep (n : ClusterId) (pass : Bool) (bad : List Nat) (s : State) : Host.Outcome State Fault Refusal :=
  match s.rech with
  | none => idle s
  | some r =>
    let st := s.clk.stage
    if st < r.w then idle s
    else if r.step = 0 then done (recharOpen r s)
    else if r.step = 1 && decide (st < r.w + 90) then done (recharReport r n pass bad s)
    else if r.step = 1 then done (recharWrite r s)
    else if r.step = 3 then
      if decide (r.w + 96 ≤ st) && r.clusters.all (fun n => decide ((s.cluster n).v.sp.cur = (s.cluster n).v.target) || (s.cluster n).s.st == .dormant)
      then done (recharReturn r s) else idle s
    else if r.clusters.all (fun n => (s.cluster n).s.trans.isNone || (s.cluster n).s.hsFault) then done (recharEnd r s) else idle s

end Sys2Proof.Machine
end

