-- ==== Sys2Proof/Machine/Rails.lean ====
section
/-! DEFINITION. Rails: windows and power-good, tracking starts and stops, the rail commands and sense-line loss (R86 to
R89, R118 to R122, R125 to R128, R394). -/

namespace Sys2Proof.Machine

/-! ### Measured rails (R88, R89, R128, R160, R177) -/

/-- The default code of a rail (R86). -/
def railDefault (r : Nat) : Nat := [240, 300, 320, 720].getD r 0

/-- The legal codes of a rail (R86). -/
def railLegal (r c : Nat) : Bool :=
  let lo := [240, 260, 280, 699].getD r 0
  let hi := [420, 360, 340, 741].getD r 0
  lo ≤ c && c ≤ hi

/-- The highest legal code of a rail (R86). -/
def railTop (r : Nat) : Nat := [420, 360, 340, 741].getD r 0

/-- Measured voltage of SA, FB or AX in 0.25 mV: the board sense, or the corrected plane sense after a sense loss (R88,
R128). -/
def railVolt (s : State) (r : Nat) : Int :=
  let g := s.group (r + 11)
  if g.fallback then (s.chans.get (288 + r)).snap + g.senseOffs else (s.chans.get (284 + r)).snap

/-- Measured voltage of a CF segment in 0.25 mV (R88). -/
def segVolt (s : State) (x : Nat) : Int := (s.chans.get (272 + x)).snap

/-- A measured voltage in 0.25 mV lies within `pct` percent of a rail code (R88). -/
def within (pct : Int) (v : Int) (code : Nat) : Bool :=
  decide (100 * v ≤ (1000 + 10 * pct) * code) && decide ((1000 - 10 * pct) * code ≤ 100 * v)

/-- AX is in its window: the fixed band, or ±3 % of its set-point while it tracks or slews (R88). -/
def axWindow (s : State) : Bool :=
  let r := s.rail 3
  let v := railVolt s 3
  if r.tracking || r.sp.isMoving s.clk.now then within 3 v r.sp.cur.toNat else decide (6984 ≤ v) && decide (v ≤ 7416)

/-- The converters judge AX: they have written channels 287 and 291, and AX is not in a tracking stop (R126). -/
def axByAdc (s : State) : Bool :=
  (s.chans.get 287).seen && (s.chans.get 291).seen && !(s.stops.any (fun t => t.mask.testBit 3 && t.begun))

/-- A rail's own window at a snapshot (R88). -/
def railWindow (s : State) (r : Nat) (axComp : Bool) : Bool :=
  if r = 0 then (List.range 12).all (fun x => within 4 (segVolt s x) (s.rail 0).sp.cur.toNat)
  else if r = 3 then (if axByAdc s then axWindow s else axComp)
  else within 4 (railVolt s r) (s.rail r).sp.cur.toNat

/-- A measured voltage in 0.25 mV as a rail code, to the nearest (R89). -/
def voltCode (v : Int) : Nat := clampN 0 1023 (roundDiv v 10).toNat

/-- The lowest segment voltage (R89). -/
def lowestSeg (s : State) : Int := (List.range 12).foldl (fun m x => min m (segVolt s x)) (segVolt s 0)

/-- Mirrors of the snapshot: VOLT and CURR of each rail, LOAD of each segment (R89, R92, R160). -/
def railMirrors (s : State) : State :=
  let segs := s.segs.mapI (fun x sg => { sg with load := (s.group x).curr })
  let cf := (List.range 12).foldl (fun a g => a + (s.group g).curr) 0
  { s with
    segs := segs
    rails := s.rails.mapI (fun r ra =>
      { ra with volt := if r = 0 then voltCode (lowestSeg s) else voltCode (railVolt s r)
                curr := if r = 0 then cf else (s.group (r + 11)).curr }) }

/-- Event data of FLT_RAIL_WINDOW (R409). -/
def windowData (v : Int) (set : Int) : List Byte := leBytes 2 (voltCode v) ++ leBytes 2 set.toNat

/-- The window of one CF segment at a snapshot (R88, R89). -/
def segWindowAt (s0 : State) (x : Nat) (s : State) : State :=
  let ok := within 4 (segVolt s0 x) (s0.rail 0).sp.cur.toNat
  let sg := s.segs.get x
  let run := if ok then 0 else min 4 (sg.outRun + 1)
  let s := s.updSeg x (fun sg => { sg with inWin := ok, outRun := run })
  if 4 ≤ run && !sg.windowFault then
    raise 0x0210 (16 + x) (windowData (segVolt s0 x) (s0.rail 0).sp.cur)
      ((s.updSeg x (fun sg => { sg with windowFault := true })).updRail 0 (fun r => { r with windowFault := true, faultAcked := false }))
  else s

/-- CF has been out of window for `run` snapshots and no one segment accounts for it: the fault is the rail's, reported with the
lowest segment, which VOLT gives (R89). -/
def railWindowAcross (run : Nat) (s : State) : State :=
  if 4 ≤ run && !(s.rail 0).windowFault then
    raise 0x0210 0 (windowData (lowestSeg s) (s.rail 0).sp.cur)
      (s.updRail 0 (fun ra => { ra with windowFault := true, faultAcked := false }))
  else s

/-- The window of one rail at a snapshot: four consecutive snapshots out raise FLT_RAIL_WINDOW (R89). -/
def railWindowAt (axComp : Bool) (s0 : State) (r : Nat) (s : State) : State :=
  let ra := s0.rail r
  if !ra.enabled then s.updRail r (fun ra => { ra with inWindow := false, outRun := 0, wholeStage := false })
  else
    let ok := railWindow s0 r axComp
    let run := if ok then 0 else min 4 (ra.outRun + 1)
    let s := s.updRail r (fun ra => { ra with inWindow := ok, outRun := run, wholeStage := ra.wholeStage && ok })
    if r = 0 then railWindowAcross run (forEach (List.range 12) (segWindowAt s0) s)
    else if 4 ≤ run && !ra.windowFault then
      raise 0x0210 r (windowData (railVolt s0 r) ra.sp.cur)
        (s.updRail r (fun ra => { ra with windowFault := true, faultAcked := false }))
    else s

/-- Every rail's window at cycle 0 of a pace (R88, R89). -/
def railWindows (axComp : Bool) (s : State) : State := forEach [0, 1, 2, 3] (railWindowAt axComp s) s

/-- The clearing of window faults at a stage edge: in window for the whole stage and the cause cleared by the host
(R89). -/
def windowClear (s : State) : State :=
  let clears (r : Rail) : Bool := r.windowFault && r.wholeStage && r.faultAcked
  let cf := clears (s.rail 0)
  { s with
    rails := s.rails.map (fun r => { r with windowFault := r.windowFault && !clears r, wholeStage := true })
    segs := if cf then s.segs.map (fun sg => { sg with windowFault := false }) else s.segs }

/-- brx_pwr_good_o at a stage edge: some rail enabled, every enabled rail in window with no window fault, no start still
tracking and no descent (R79, R81, R89, R119, R284). -/
def powerGoodAt (s : State) : Bool :=
  s.rails.any Rail.enabled && s.rails.all (fun r => !r.enabled || (r.inWindow && !r.windowFault))
    && s.starts.isEmpty && s.sys.descent == .none

/-! ### Joining and leaving (R119, R121) -/

/-- The phases of a rail start switching: those Off and not replaced by a spare in service; spares in reserve stay Off. A fault
flag at 0 tells in the next cycle (R90, R119, R131). -/
def joinPhases (r : Nat) (s : State) : State :=
  let now := s.clk.now
  let s := convsTo now s
  judgeFlags (s.phases.places (fun i _ => railOfGroup (groupOf s i) == r)) <| refreshRail r { s with phases := s.phases.mapI (fun i p =>
    if railOfGroup (groupOf s i) == r && p.st == .off && (decide (i < 124) || p.spareIn) then p.join now else p) }

/-- A rail joins at a set-point: its phases switch and it is enabled (R119). -/
def railJoin (r : Nat) (s : State) : State :=
  let s := joinPhases r (s.updRail r (fun ra => { ra with enabled := true }))
  forEach (groupsOfRail r) (fun g s => s.updGrp g (fun gr => { gr with inService := true })) s

/-- A rail goes Off: its phases go Off unless Disabled, its bias is removed, and its window fault ends; its committed target
stays, as step 4 of R121 names no other register (R49, R89, R121). -/
def railOff (r : Nat) (s : State) : State :=
  let s := if r = 3 then convsStop s else convsTo s.clk.now s
  let s := { s with phases := s.phases.mapI (fun i p =>
    if railOfGroup (groupOf s i) == r then
      (if p.st == .disabled then p else { p.out .off .none with trim := 0 })
    else p) }
  let s := forEach (groupsOfRail r) (fun g s => s.updGrp g (fun gr => { gr with inService := false, swellClamp := false, delta := 0 })) s
  let s := if r = 0 then { s with segs := s.segs.map (fun sg => { sg with windowFault := false, outRun := 0 }) } else s
  let s := if r = 3 then bellowsOff s else s
  s.updRail r (fun ra => { ra with enabled := false, tracking := false, bias := false, windowFault := false, inWindow := false,
                                   outRun := 0, sp := ra.sp.hold 0 })

/-- The spares of a rail in service return to reserve: RAIL_DISABLE ends their replacement, a thermal trip does not (R90). -/
def sparesToReserve (r : Nat) (s : State) : State :=
  { s with phases := s.phases.mapI (fun i p =>
      if railOfGroup (groupOf s i) == r && p.spareIn then { p.out .off .none with spareIn := false, replaces := 127 } else p) }

/-- The mask of enabled rails. -/
def enabledMask (s : State) : Nat := bitsMask ((List.range 4).filter (fun r => (s.rail r).enabled))

/-- Answer the command of a tracking start, if it still waits (R118, R119). -/
def answerStart (t : TrackStart) (st : Status) (pre win : Nat) (s : State) : State :=
  match t.pkt with
  | some p =>
    reply p 0x0201 st
      [BitVec.ofNat 8 (enabledMask s), BitVec.ofNat 8 pre, BitVec.ofNat 8 win] s
  | none => s

/-! ### RAIL_ENABLE (R118 to R120) -/

/-- A rail is in a tracking start, accepted or under way. -/
def starting (s : State) (r : Nat) : Bool := s.starts.any (fun t => t.mask.testBit r && t.phase != .settle)

/-- A rail is in a tracking stop, accepted or under way. -/
def stopping (s : State) (r : Nat) : Bool := s.stops.any (fun t => t.mask.testBit r)

/-- The rails of a mask. -/
def railsIn (m : Nat) : List Nat := maskBits 4 m

/-- RAIL_ENABLE: a tracking start of the masked rails begins at cycle 0 of the next pace (R118, R119). -/
def execRailEnable (p : Packet) (s : State) : Host.Outcome State Fault Refusal :=
  inTurn p s fun s =>
  let l := p.payload
  let m := field l 0 1
  let code := fun r => field l (2 + 2 * r) 2
  let rs := railsIn m
  command p 0x0201
    [ (l.length != 16, .badLength),
      (m == 0 || decide (15 < m) || (m.testBit 3 && m != 8) || decide (1 < field l 1 1) || !zeros l 10 6
        || (List.range 4).any (fun r => if m.testBit r then code r != 0 && !railLegal r (code r) else code r != 0), .badParam),
      (rs.any (fun r => starting s r || stopping s r), .busyRetry),
      (s.sys.descent != .none || s.thermHold, .badState),
      (rs.any (fun r => (s.rail r).enabled), .badState),
      (m != 8 && !(s.rail 3).inWindow, .badState) ]
    (fun s =>
      let goal := (List.range 4).map (fun r => if m.testBit r then (if code r = 0 then railDefault r else code r) else 0)
      markEffect p .hardware
        { s with starts := s.starts ++ [{ mask := m, coincident := field l 1 1 == 1, pkt := some p, goal }] }) s

/-- Step 1 of a tracking start at cycle 0 of a pace: sense bias, TRACKING, and the targets (R119). -/
def beginStart (t : TrackStart) (s : State) : State :=
  let s := forEach (railsIn t.mask) (fun r s => s.updRail r (fun ra =>
    { ra with bias := true, tracking := true, target := t.goal.getD r 0, sp := ra.sp.hold 0 })) s
  if t.mask.testBit 0 then { s with feed := { s.feed with floor := t.goal.getD 0 240 } } else s

/-- The sense pre-check of one measured rail fails (R125). -/
def PreCheck.fails (c : PreCheck) : Bool := decide (30000 < c.pMinusPlane) || decide (c.n < -30000)

/-- The start that the pre-check judges: the one of the first measured rail, its bias applied. -/
def checkedStart (s : State) (meas : List PreCheck) : Option TrackStart :=
  match meas with
  | [] => none
  | m :: _ => s.starts.find? (fun t => t.phase == .bias && t.mask.testBit m.rail)

/-- 10 µs into a tracking start: on any failure no rail starts; otherwise the common ramp begins (R119, R125). -/
def execTrackingPrecheck (meas : List PreCheck) (s : State) : Host.Outcome State Fault Refusal :=
  match checkedStart s meas with
  | none => idle s
  | some t =>
    atTime (t.t0 + 10000) (fun s =>
      let failing := (railsIn t.mask).filter (fun r => meas.any (fun c => c.rail == r && c.fails))
      if failing.isEmpty then
        let s := forEach (railsIn t.mask) (fun r s =>
          forEach (groupsOfRail r) (fun g s => s.updGrp g (fun gr => { gr with fallback := false, senseOffs := 0 })) s) s
        let t' := { t with
          phase := .ramp, r := 0, due := s.clk.now + 250, top := t.goal.foldl max 0
          bias := (List.range 4).map (fun r => if r = 3 then 0 else ((meas.find? (fun c => c.rail == r)).map PreCheck.preBias).getD 0) }
        { s with starts := s.starts.map (fun u => if u == t then t' else u) }
      else
        let s := forEach failing (fun r s => raise 0x0221 r ([1] ++ leBytes 2 (code2 16 (s.group (if r = 0 then 0 else r + 11)).senseOffs)) s) s
        let s := forEach (railsIn t.mask) (fun r s => s.updRail r (fun ra => { ra with bias := false, tracking := false })) s
        answerStart t .badState (bitsMask failing) 0 { s with starts := s.starts.erase t }) s

/-- The set-point of a rail on the common ramp (R120). -/
def rampSet (t : TrackStart) (rr r : Nat) : Nat :=
  let g := t.goal.getD r 0
  if t.coincident then min rr g else g * rr / max 1 t.top

/-- The set-point `v` of a rail exceeds its pre-bias: that measured at the pre-check, or for AX the board sense of this moment,
which the start comparators hold against it (R119, R126). -/
def overBias (t : TrackStart) (axUv : Int) (v r : Nat) : Bool :=
  if r = 3 then decide (axUv < 2500 * (v : Int))
  else t.bias.getD r 0 == 0 || decide (t.bias.getD r 0 < 2500 * v)

/-- One rail follows the common ramp: its set-point moves, and it joins when that first exceeds its pre-bias (R119, R120,
R126); its on-times follow in the next cycle (R109). -/
def rampRail (t : TrackStart) (axUv : Int) (rr r : Nat) (s : State) : State :=
  let v := rampSet t rr r
  let s := s.updRail r (fun ra => { ra with sp := ra.sp.hold v })
  soonIn 1 (.refresh r) (if !(s.rail r).enabled && overBias t axUv v r then railJoin r s else s)

/-- The end of the common ramp for one rail: it stops tracking, and a rail charged above its target joins at its pre-bias
and ramps down (R119 step 5). -/
def rampTopRail (t : TrackStart) (r : Nat) (s : State) : State :=
  let s := s.updRail r (fun ra => { ra with tracking := false })
  if (s.rail r).enabled then s
  else
    let v := if r = 3 then 741 else min (railTop r) (ceilDiv (t.bias.getD r 0) 2500)
    let s := s.updRail r (fun ra => { ra with sp := ra.sp.hold v })
    let s := railJoin r s
    s.updRail r (fun ra => { ra with sp := ra.sp.aim s.clk.now ra.target })

/-- One step of a common ramp; `axUv` is the board sense of AX in µV (R119, R120, R126). -/
def stepStart (t : TrackStart) (axUv : Int) (s : State) : State :=
  let rr := t.r + 1
  let s := forEach (railsIn t.mask) (rampRail t axUv rr) s
  let last := decide (t.top ≤ rr)
  let s := if last then forEach (railsIn t.mask) (rampTopRail t) s else s
  let t' := { t with r := rr, due := t.due + 250, phase := if last then .settle else .ramp }
  { s with starts := s.starts.map (fun u => if u == t then t' else u) }

/-- A tracking start at cycle 0 of a pace: step 1, and the four window snapshots of step 6; a rail that raises
FLT_RAIL_WINDOW first answers the command (R119). -/
def paceStart (t : TrackStart) (s : State) : State :=
  match t.phase with
  | .wait =>
    let s := beginStart t s
    { s with starts := s.starts.map (fun u => if u == t then { t with phase := .bias, t0 := s.clk.now } else u) }
  | .bias => s
  | .ramp | .settle =>
    let flt := (railsIn t.mask).filter (fun r => (s.rail r).windowFault)
    if !flt.isEmpty && t.pkt.isSome then
      let s := answerStart t .badState 0 (bitsMask flt) s
      if t.phase == .settle then { s with starts := s.starts.erase t }
      else { s with starts := s.starts.map (fun u => if u == t then { t with pkt := none } else u) }
    else if t.phase == .settle then
      let good := if (railsIn t.mask).all (fun r => (s.rail r).inWindow) then t.good + 1 else 0
      if 4 ≤ good then answerStart t .ok 0 0 { s with starts := s.starts.erase t }
      else { s with starts := s.starts.map (fun u => if u == t then { t with good } else u) }
    else s

/-! ### RAIL_DISABLE (R121) -/

/-- RAIL_DISABLE: a tracking stop of the masked rails begins at cycle 0 of the next pace (R121). -/
def execRailDisable (p : Packet) (s : State) : Host.Outcome State Fault Refusal :=
  inTurn p s fun s =>
  let l := p.payload
  let m := field l 0 1
  let rs := railsIn m
  command p 0x0202
    [ (l.length != 16, .badLength),
      (m == 0 || decide (15 < m) || (m.testBit 3 && m != 8) || decide (1 < field l 1 1) || !zeros l 2 14, .badParam),
      (m.testBit 0 && s.cl.any (fun c => c.s.st != .dormant || c.s.trans.isSome), .badState),
      (m.testBit 3 && [0, 1, 2].any (fun r => (s.rail r).enabled || starting s r), .badState),
      (rs.any (fun r => !(s.rail r).enabled && !starting s r), .badState),
      (rs.any (fun r => stopping s r), .badState) ]
    (fun s =>
      let s := forEach rs (fun r s => forEach (groupsOfRail r) (fun g s => soonIn 1 (.unpark g) s) s) s
      markEffect p .hardware
        { s with stops := s.stops ++ [{ mask := m, coincident := field l 1 1 == 1, pkt := some p }] }) s

/-- A tracking start ends because a stop of one of its rails begins: its command is answered OK; its other rails leave the
common ramp (R121). -/
def endStartFor (m : Nat) (t : TrackStart) (s : State) : State :=
  if t.mask &&& m = 0 then s
  else
    let rest := (railsIn t.mask).filter (fun r => !m.testBit r)
    let s := forEach rest (fun r s => s.updRail r (fun ra =>
      if ra.enabled then { ra with tracking := false, sp := ra.sp.aim s.clk.now ra.target }
      else { ra with tracking := false, bias := false, sp := ra.sp.hold 0 })) s
    answerStart t .ok 0 0 { s with starts := s.starts.erase t }

/-- The stop of one rail is complete; when the last rail of the stop is Off the command is answered (R121 step 4). -/
def stopRailOff (r : Nat) (s : State) : State :=
  let s := railOff r s
  match s.stops.find? (fun t => t.mask.testBit r && t.begun) with
  | none => s
  | some t =>
    let s := if t.pkt.isSome then sparesToReserve r s else s
    let s := { s with stops := s.stops.map (fun u => if u == t then { t with low := t.low.filter (fun x => x.1 != r) } else u) }
    if (railsIn t.mask).all (fun r => !(s.rail r).enabled && !(s.rail r).tracking) then
      let s := { s with stops := s.stops.filter (fun u => !(u.mask == t.mask && u.begun)) }
      match t.pkt with
      | some p => reply p 0x0202 .ok [] s
      | none => s
    else s

/-- A rail's set-point has reached 0: its live phases hold the low side on, and their pulses end (R121 step 3). -/
def holdLow (r : Nat) (s : State) : State :=
  let mine (i : Nat) : Bool := railOfGroup (groupOf s i) == r
  let s := forEach (s.phases.places (fun i p => mine i && p.pwm)) endPulse s
  { s with phases := s.phases.mapI (fun i p => if mine i && p.live then { p with en := true } else p) }

/-- Step 1 of a tracking stop at cycle 0 of a pace (R121). -/
def beginStop (t : TrackStop) (s : State) : State :=
  let s := s.starts.foldl (fun s u => endStartFor t.mask u s) s
  let rs := railsIn t.mask
  let s := forEach rs (fun r s => forEach (groupsOfRail r) (fun g s =>
    unparkAll g (s.updGrp g (fun gr => { gr with inService := false }))) s) s
  let v0 := (List.range 4).map (fun r => (s.rail r).sp.cur.toNat)
  let r0 := rs.foldl (fun m r => if (s.rail r).enabled then max m (v0.getD r 0) else m) 0
  let s := forEach rs (fun r s => s.updRail r (fun ra => { ra with tracking := true, sp := { ra.sp with moving := false } })) s
  let t' := { t with begun := true, v0, r0, r := r0, due := s.clk.now + 250 }
  let s := { s with stops := s.stops.map (fun u => if u == t then t' else u) }
  forEach (rs.filter (fun r => !(s.rail r).enabled)) stopRailOff s

/-- The set-point of a rail on a falling common ramp (R121). -/
def fallSet (t : TrackStop) (rr r : Nat) : Nat :=
  let v := t.v0.getD r 0
  if t.coincident then min v rr else v * rr / max 1 t.r0

/-- One step of a falling common ramp (R121). -/
def stepStop (t : TrackStop) (s : State) : State :=
  let rr := t.r - 1
  let rs := (railsIn t.mask).filter (fun r => (s.rail r).enabled)
  let s := forEach rs (fun r s => soonIn 1 (.refresh r) (s.updRail r (fun ra => { ra with sp := ra.sp.hold (fallSet t rr r) }))) s
  let fresh := rs.filter (fun r => (s.rail r).sp.cur == 0 && !(t.low.any (fun x => x.1 == r)))
  let s := forEach fresh holdLow s
  let t' := { t with r := rr, due := t.due + 250, low := t.low ++ fresh.map (fun r => (r, s.clk.now + 20000)) }
  { s with stops := s.stops.map (fun u => if u == t then t' else u) }

/-- The low-side hold of a stopping rail ends below 50 mV or after 20 µs (R121). -/
def execTrackingStopLowSideEnd (r : Nat) (below : Bool) (s : State) : Host.Outcome State Fault Refusal :=
  match s.stops.find? (fun t => t.low.any (fun x => x.1 == r)) with
  | none => idle s
  | some t =>
    let due := ((t.low.find? (fun x => x.1 == r)).map Prod.snd).getD 0
    if below then done (stopRailOff r s) else atTime due (stopRailOff r) s

/-- Tracking at cycle 0 of a pace: stops begin, then starts move on (R119, R121). -/
def paceTracking (s : State) : State :=
  let s := s.stops.foldl (fun s t => if t.begun then s else beginStop t s) s
  s.starts.foldl (fun s t => paceStart t s) s

/-! ### RAIL_SET_TARGET (R122, R394) -/

/-- The codes in force: CF floor, SA, FB and AX (R394). -/
def railCodes (s : State) : List Byte :=
  leBytes 2 s.feed.floor ++ leBytes 2 (s.rail 1).target ++ leBytes 2 (s.rail 2).target ++ leBytes 2 (s.rail 3).target

/-- The payload of RAIL_SET_TARGET is legal (R394). -/
def railTargetLegal (l : List Byte) : Bool :=
  let m := field l 0 1
  m != 0 && m ≤ 15 && field l 1 1 == 0 && zeros l 10 6
    && (List.range 4).all (fun r => if m.testBit r then railLegal r (field l (2 + 2 * r) 2) else field l (2 + 2 * r) 2 == 0)

/-- The changes that a legal RAIL_SET_TARGET makes. -/
def railTargetActs (l : List Byte) : List Act :=
  (railsIn (field l 0 1)).map (fun r => .railTarget r (field l (2 + 2 * r) 2))

/-- A rail may take a new target: enabled and not tracking (R122, R394). -/
def railReady (s : State) (r : Nat) : Bool := (s.rail r).enabled && !(s.rail r).tracking

/-- RAIL_SET_TARGET: new targets, or the feed floor, at the next cycle 0 of a pace (R394). -/
def execRailSetTarget (p : Packet) (s : State) : Host.Outcome State Fault Refusal :=
  inTurn p s fun s =>
  let l := p.payload
  command p 0x0203
    [ (l.length != 16, .badLength), (!railTargetLegal l, .badParam),
      (!(railsIn (field l 0 1)).all (railReady s), .badState) ]
    (defer p 0x0203 (railTargetActs l)) s

/-- A rail's new target takes effect (R87, R124). -/
def applyRailTarget (r code : Nat) (s : State) : State :=
  if r = 0 then { s with feed := { s.feed with floor := code } }
  else s.updRail r (fun ra => { ra with target := code, sp := ra.sp.aim s.clk.now code })

/-! ### Sense-line loss (R127, R128) -/

/-- The group that stands for a rail in the report of its sense. -/
def senseGroup (r : Nat) : Nat := if r = 0 then 0 else r + 11

/-- The loss conditions of a rail's lines, p before n, with V_sense, V_plane and V_n in µV (R127). -/
def lineOpen (s : State) (r : Nat) (sense plane n : Int) : Option Nat :=
  let v : Int := 2500 * (s.rail r).sp.cur
  if decide (v + 60000 < sense) && decide (plane ≤ v + 20000) then some 2
  else if n < -60000 then some 3
  else none

/-- The correction of a loss whose condition began at `since`: the mean of the last pace that was complete then (R128). -/
def lossOffset (s : State) (g since : Nat) : Int :=
  if s.clk.paceStart ≤ since then (s.group g).offsMean else (s.group g).offsPrev

/-- A rail's groups go to the plane sense (R128). -/
def senseFallback (r line since : Nat) (s : State) : State :=
  let s := forEach (groupsOfRail r) (fun g s =>
    s.updGrp g (fun gr => { gr with fallback := true, senseOffs := lossOffset s g since })) s
  raise 0x0221 r ([BitVec.ofNat 8 line] ++ leBytes 2 (code2 16 (s.group (senseGroup r)).senseOffs)) s

/-- The running check of an enabled rail's sense: a loss condition that has held since `x.since` is found after the 500 ns filter,
and the rail goes to the plane sense in the next cycle (R127, R128). -/
def execSenseLineLoss (r : Nat) (x : SenseIn) (s : State) : Host.Outcome State Fault Refusal :=
  if r < 4 && (s.rail r).enabled && !(s.group (senseGroup r)).fallback && decide (x.since ≤ s.clk.now) then
    match lineOpen s r x.sense x.plane x.n with
    | some line => atTime (x.since + 501) (senseFallback r line x.since) s
    | none => idle s
  else idle s

/-- The mean of V_sense − V_plane over the pace that ends, per group; a pace without a result of both lines leaves the last
snapshots to give it (R128). -/
def senseOffsets (s : State) : State :=
  { s with groups := s.groups.mapI (fun g gr =>
      let r := railOfGroup g
      let mean (sum : Int) (cnt ch : Nat) : Int := if cnt = 0 then (s.chans.get ch).snap else roundDiv sum cnt
      { gr with offsPrev := gr.offsMean
                offsMean := mean gr.senseSum gr.senseCnt (284 + r) - mean gr.planeSum gr.planeCnt (288 + r)
                senseSum := 0, senseCnt := 0, planeSum := 0, planeCnt := 0 }) }

end Sys2Proof.Machine
end

