-- ==== Sys2Proof/Machine/Governor.lean ====
section
/-! DEFINITION. The governor: window integrators, limits, the stage decision, swell and guarantees (R292 to R315). -/

namespace Sys2Proof.Machine

/-! ### Fractions -/

/-- The sum of two fractions. -/
def Frac.add (a b : Frac) : Frac := ⟨a.num * b.den + b.num * a.den, a.den * b.den⟩

/-- A fraction times a number. -/
def Frac.scale (a : Frac) (k : Int) : Frac := ⟨a.num * k, a.den⟩

/-- Order of fractions. -/
def Frac.le (a b : Frac) : Bool := decide (a.num * b.den ≤ b.num * a.den)

/-- The larger of two fractions. -/
def Frac.max (a b : Frac) : Frac := if a.le b then b else a

/-- A number as a fraction. -/
def Frac.ofInt (n : Int) : Frac := ⟨n, 1⟩

/-- A fraction to the nearest number, at least 0. -/
def Frac.near (a : Frac) : Nat := (roundDiv a.num a.den).toNat

/-- Λ + max(0, Ī − Λ) × f_k ÷ f_c, frequencies in units of 25 MHz (R300). -/
def estimate (lam ibar : Frac) (fk fc : Nat) : Frac :=
  let d := max 0 (ibar.num * lam.den - lam.num * ibar.den)
  ⟨lam.num * ibar.den * fc + d * fk, lam.den * ibar.den * fc⟩

/-! ### Integrators (R294, R295, R297) -/

/-- CURR of a rail in codes of 0.25 A (R89, R294). -/
def railCode (s : State) (r : Nat) : Int := quarterAmps (s.rail r).curr

/-- Σ V_r × I_r of the pace, in 1/12 of 0.25 mV × 0.25 A; CF at the mean of the segment sense points (R294). -/
def pacePower (s : State) : Int :=
  let cf := (List.range 12).foldl (fun a x => a + segVolt s x) 0
  cf * railCode s 0 + 12 * ([1, 2, 3].foldl (fun a r => a + railVolt s r * railCode s r) 0)

/-- The values of the pace that has ended join the sums of the stage (R294). -/
def addPace (s : State) : State :=
  { s with
    gov := { s.gov with railSum := s.gov.railSum.mapI (fun r a => a + railCode s r), powSum := s.gov.powSum + pacePower s }
    segs := s.segs.map (fun g => { g with curSum := g.curSum + g.load })
    cl := s.cl.map (fun c => { c with g := { c.g with curSum := c.g.curSum + c.g.cur } }) }

/-- Event data of FLT_LIMIT_EXCEEDED (R295). -/
def limitData (id kind measure limit window : Nat) : List Byte :=
  leBytes 2 id ++ [BitVec.ofNat 8 kind, 0] ++ leBytes 4 measure ++ leBytes 4 limit ++ leBytes 2 window

/-- Compare a measure with its limit (R295). -/
def checkLimit (id kind : Nat) (m : Frac) (limit window : Nat) (s : State) : State :=
  if m.le (Frac.ofInt limit) then s else raiseMiss 0x0612 id (limitData id kind m.near limit window) s

/-- The ceilings that bound a cluster's committed limits: those of R146, or in drone mode those of R102 (R298). -/
def ceilingsOf (c : Cluster) : Nat × Nat :=
  if c.droneOut then (1250 * c.k.live / 12, 1800 * c.k.live / 12) else (c.k.limSus, c.k.limOne)

/-- The effective sustained limit of a cluster in 10 mA (R298). -/
def effSus (c : Cluster) : Nat := min c.g.sus (ceilingsOf c).1

/-- The effective one-stage limit of a cluster in 10 mA (R298). -/
def effOne (c : Cluster) : Nat := min c.g.one (ceilingsOf c).2

/-- Sum of a list. -/
def sumInt (l : List Int) : Int := l.foldl (· + ·) 0

/-- The stage-window mean of a rail in 0.25 A: over its window, or over the stages since the write (R294, R297). -/
def winMeasure (s : State) (r : Nat) : Frac :=
  let l := s.gov.win.get r
  let w := min l.len l.since
  if w = 0 then ⟨0, 1⟩ else ⟨sumInt ((s.gov.railStages.get r).take w), 16 * w⟩

/-- A window limit applies: its window has filled since it was written (R297). -/
def Lim.winFull (l : Lim) : Bool := decide (l.len ≤ l.since)

/-- A millisecond limit applies: its window has filled with whole periods since it was written (R297). -/
def Lim.msFull (l : Lim) : Bool := decide (l.len < l.since)

/-- The millisecond-window mean of a rail in 0.25 A, weighted by stage count; until its window has filled it covers every
stage since the write, those of the running period too (R294, R297). -/
def msMeasure (s : State) (r : Nat) : Frac :=
  let l := s.gov.ms.get r
  let p := (s.gov.railPers.get r).take l.len
  let p := if l.msFull then p else (s.gov.railPer.get r, s.gov.perStages.get r) :: p
  let n := p.foldl (fun a x => a + x.2) 0
  if n = 0 then ⟨0, 1⟩ else ⟨sumInt (p.map Prod.fst), 16 * n⟩

/-- The stage closes: stage sums, window means and the energy of the stage (R294). -/
def closeSums (s : State) : State :=
  let g := s.gov
  let e := g.powSum * s.clk.lastLen
  let s := { s with
    gov := { g with
      railStages := g.railStages.mapI (fun r l => (g.railSum.get r :: l).take 64)
      railPer := g.railPer.mapI (fun r a => if (g.ms.get r).fresh then 0 else a + g.railSum.get r)
      perStages := g.perStages.mapI (fun r a => if (g.ms.get r).fresh then 0 else a + 1)
      railSum := Tab.replicate 4 0, powSum := 0
      win := g.win.map (fun l => { l with since := if l.fresh then 0 else min 64 (l.since + 1), fresh := false })
      ms := g.ms.map (fun l => { l with fresh := false })
      perEnergy := g.perEnergy + e, bucket := g.bucket + e
      meas := { valid := true, labels := g.labels }, labels := 0 }
    segs := s.segs.map (fun x => { x with
      means := (x.curSum :: x.means).take 16, curSum := 0, headClosed := x.headMin, headMin := none })
    cl := s.cl.map (fun c => { c with g := { c.g with
      means := (c.g.curSum :: c.g.means).take 64, curSum := 0, pkSum := max c.g.pkSum c.g.curSum
      oneFail := decide (16 * effOne c < c.g.curSum) } }) }
  { s with gov := { s.gov with winMean := Tab.ofFn 4 (fun r => (winMeasure s r).near) } }

/-- The comparisons at a stage edge: rail windows that have filled, and each cluster's sustained and one-stage limits
(R295, R297). -/
def stageLimits (s : State) : State :=
  let s := forEach (List.range 4) (fun r s =>
    let l := s.gov.win.get r
    if !l.winFull then s else checkLimit r 0 (winMeasure s r) l.limit l.len s) s
  forEach (List.range 144) (fun n s =>
    let c := s.cluster n
    let s := checkLimit (0x100 + n) 0 ⟨(c.g.means.foldl (· + ·) 0 : Nat), 1024⟩ (effSus c) 64 s
    checkLimit (0x100 + n) 1 ⟨(c.g.means.headD 0 : Nat), 16⟩ (effOne c) 1 s) s

/-- The integrators at cycle 0 of a pace; the boundary of p0 closes the stage before (R294, R295). -/
def integrate (s : State) : State :=
  if s.en.pacesSince = 0 then s
  else
    let s := addPace s
    if s.clk.pace = 0 then stageLimits (closeSums s) else s

/-- Units of 1/12 of 0.25 mV × 0.25 A ÷ 16 × 1 ns in a millijoule. -/
def perMilliJoule : Int := 3072000000000

/-- The governor at a period close: millisecond means and limits, the excess over an unreachable cap, and the bucket (R294,
R295, R297, R315). -/
def governPeriod (len : Nat) (s : State) : State :=
  let g := s.gov
  let s := { s with gov := { g with
    railPers := g.railPers.mapI (fun r l =>
      if g.perStages.get r = 0 then l else ((g.railPer.get r, g.perStages.get r) :: l).take 64)
    railPer := Tab.replicate 4 0, perStages := Tab.replicate 4 0
    ms := g.ms.map (fun l => { l with since := min 65 (l.since + 1) }) } }
  let s := { s with gov := { s.gov with msMean := Tab.ofFn 4 (fun r => (msMeasure s r).near) } }
  let s := forEach (List.range 4) (fun r s =>
    let l := s.gov.ms.get r
    if !l.msFull then s else checkLimit (0x10 + r) 0 (msMeasure s r) l.limit l.len s) s
  let excess := max 0 (s.gov.perEnergy - 3072000 * s.gov.cap * len)
  let s := if s.gov.last.unreach && decide (0 < excess) then
      let o := s.gov.overFrac + excess
      let overMj := min (2 ^ 32 - 1) (o / perMilliJoule).toNat
      raise 0x0613 0 (leBytes 4 (excess / perMilliJoule).toNat ++ leBytes 4 overMj
          ++ [BitVec.ofNat 8 s.gov.last.l, if s.gov.last.floorAny && decide (0 < s.gov.last.floorLvl) then 1 else 0])
        { s with gov := { s.gov with overFrac := o, overMj } }
    else s
  let n := s.gov.bucketPers + 1
  let s := if n = 100 then { s with gov := { s.gov with buckets := (s.gov.bucket :: s.gov.buckets).take 100, bucket := 0, bucketPers := 0 } }
    else { s with gov := { s.gov with bucketPers := n } }
  { s with gov := { s.gov with perEnergy := 0 } }

/-! ### Estimates (R300) -/

/-- The sum over the paces of the stage `k` stages ahead of a cluster's forecast in 25 mA; none without a forecast, its served
state now holding for every pace (R230, R300). -/
def horizonStage (s : State) (c : Cluster) (k : Nat) : Option Nat :=
  if servedNow s c && forecastStage s c k then some ((List.range 16).foldl (fun a p => a + forecastAt s c k p) 0) else none

/-- The forecasts of a cluster in the horizon: the next stage and the one after (R300). -/
def horizon (s : State) (c : Cluster) : List Nat := [1, 2].filterMap (horizonStage s c)

/-- The mean of a list of stage sums as sum and count. -/
def meanForecast (l : List Nat) : Frac := if l.isEmpty then ⟨0, 1⟩ else ⟨(l.foldl (· + ·) 0 : Nat), l.length⟩

/-- The forecasts of a set of clusters, stage by stage of the horizon: stages with no forecast at all are left out. -/
def groupHorizon (s : State) (pick : Nat → Bool) : List Nat :=
  [1, 2].filterMap (fun k =>
    let l := (listMapFrom (fun n c => if pick n then horizonStage s c k else none) 0 s.cl.val).filterMap id
    if l.isEmpty then none else some (l.foldl (· + ·) 0))

/-- The largest element of a list, 0 for none. -/
def maxNat (l : List Nat) : Nat := l.foldl max 0

/-- The largest element of a list, 0 for none. -/
def maxInt (l : List Int) : Int := l.foldl max 0

/-- Word of the corner table at a byte offset (R310). -/
def cornerWord (s : State) (off : Nat) : Nat := leNat (ramLoad s (0x9FC00 + off) 4)

/-- The corner tile is bad: its check fails or it is marked (R310). -/
def cornerBad (s : State) : Bool := tileBad s 511 || !tilePasses s 511 false

/-- SA_BASE in 0.25 A: the corner table's, or while the tile is bad what the last evaluation used, so that admitted guarantees
keep their amounts (R310). -/
def saBase (s : State) : Nat := if cornerBad s then s.gov.last.saBase else cornerWord s 64 % 65536

/-- The currents on which an evaluation rests, from the measures of the last closed stage and the forecast horizon (R300). -/
def govInputs (s : State) (v : GovEval) : GovEval :=
  let cf := groupHorizon s (fun _ => true)
  { v with
    freq := 16 + s.seq.code
    clSus := Tab.ofFn 144 (fun n =>
      let c := s.cluster n
      let f := horizon s c
      max (c.g.means.foldl (· + ·) 0) (160 * (f.foldl (· + ·) 0) / max 1 f.length))
    clPeak := Tab.ofFn 144 (fun n =>
      let c := s.cluster n
      max (2 * maxNat (c.g.means.take 16)) (5 * maxNat (horizon s c)))
    segPeak := Tab.ofFn 12 (fun x => max (2 * maxInt (s.segs.get x).means) (5 * (maxNat (groupHorizon s (fun n => n % 12 == x)) : Nat)))
    rails := Tab.ofFn 4 (fun r =>
      let st := s.gov.railStages.get r
      let mean := if r = 0 then let m := meanForecast cf; (⟨m.num, 160 * m.den⟩ : Frac) else ⟨0, 1⟩
      let peak : Frac := if r = 0 then ⟨(maxNat cf : Nat), 160⟩ else ⟨0, 1⟩
      { win := if (s.gov.win.get r).len = 1 then Frac.max ⟨maxInt (st.take 16), 16⟩ peak else Frac.max (winMeasure s r) mean
        ms := Frac.max (msMeasure s r) mean
        stage := st.headD 0 })
    segLim := Tab.ofFn 12 (fun x => limitA s x)
    leak := s.cl.map (fun c => if c.s.st == .dormant then 0 else c.w.leak)
    judged := s.cl.map (fun c => c.s.st == .active || c.s.st == .rest)
    ceil := s.cl.map ceilingsOf
    levF := Tab.ofFn 16 (fun k => 16 + (s.lvl k).code)
    saBase := saBase s }

/-- Λ of a set of clusters in 0.05 A: the leakage of those that are not Dormant (R300). -/
def leakSum (v : GovEval) (pick : Nat → Bool) : Nat := (v.leak.sumI (fun n w => if pick n then (w : Int) else 0)).toNat

/-- Λ of a rail in 0.25 A (R300). -/
def railLambda (v : GovEval) (r : Nat) (ibar : Frac) : Frac :=
  if r = 0 then ⟨leakSum v (fun _ => true), 5⟩ else ⟨ibar.num, 2 * ibar.den⟩

/-- The sustained and one-stage checks of a cluster at a level, under the committed limits in force (R298, R301). -/
def clusterFits (s : State) (v : GovEval) (k n : Nat) : Bool :=
  let c := s.cluster n
  let lam : Frac := ⟨5 * v.leak.get n, 1⟩
  let fk := v.levF.get k
  !v.judged.get n
    || ((estimate lam ⟨v.clSus.get n, 1024⟩ fk v.freq).le (Frac.ofInt (min c.g.sus (v.ceil.get n).1))
      && (estimate lam ⟨v.clPeak.get n, 32⟩ fk v.freq).le (Frac.ofInt (min c.g.one (v.ceil.get n).2)))

/-- The peak check of a segment at a level: within L_x − A_x (R301). -/
def segFits (v : GovEval) (k x : Nat) : Bool :=
  let l := v.segLim.get x
  let room : Frac := ⟨100 * (l : Int) - 25 * (wakeAllowOf x l : Int), 1⟩
  (estimate ⟨5 * leakSum v (fun n => n % 12 == x), 1⟩ ⟨v.segPeak.get x, 32⟩ (v.levF.get k) v.freq).le room

/-- The window or millisecond check of a rail at a level; a limit whose window has not filled applies only where `all` says so
(R297, R301). -/
def railFits (s : State) (v : GovEval) (all : Bool) (k r : Nat) (ms : Bool) : Bool :=
  let e := v.rails.get r
  let i := if ms then e.ms else e.win
  let l := if ms then s.gov.ms.get r else s.gov.win.get r
  !(all || (if ms then l.msFull else l.winFull))
    || (estimate (railLambda v r i) i (v.levF.get k) v.freq).le (Frac.ofInt l.limit)

/-- Every electrical condition of R301 holds at a level. -/
def elecFits (s : State) (v : GovEval) (all : Bool) (k : Nat) : Bool :=
  (List.range 144).all (clusterFits s v k) && (List.range 12).all (segFits v k)
    && (List.range 4).all (fun r => railFits s v all k r false && railFits s v all k r true)

/-- The highest level that satisfies a condition. -/
def highest (f : Nat → Bool) : Option Nat := ((List.range 16).reverse).find? f

/-- The electrical ceiling E; PL0 when no level meets the conditions (R301). -/
def elecCeil (s : State) (v : GovEval) (all : Bool) : Nat := (highest (elecFits s v all)).getD 0

/-- The limit ID of the check that fails one level above E; where R296 gives the check no ID, the open value of the
configuration (R312). -/
def elecLimitId (s : State) (v : GovEval) (e : Nat) : Nat :=
  let k := min 15 (e + 1)
  match (List.range 144).find? (fun n => !clusterFits s v k n) with
  | some n => 0x100 + n
  | none =>
    if (List.range 12).any (fun x => !segFits v k x) then Config.noLimitId.toNat
    else
      match (List.range 4).find? (fun r => !railFits s v false k r false) with
      | some r => r
      | none => (((List.range 4).find? (fun r => !railFits s v false k r true)).map (· + 0x10)).getD Config.noLimitId.toNat

/-- V_CF at a frequency code: the result of R98 with every target at that code (R300). -/
def feedAt (s : State) (code : Nat) : Nat :=
  let f := (listMapFrom (fun _ c => c) 0 s.cl.val).foldl (fun m c =>
    if c.droneOut then max m (droneReq c code)
    else if c.regulating then
      let t := (wantAt (clampI 0 560 (c.rawTarget code + c.m.lift)).toNat c).getD c.v.target
      max m (feedFor (max c.v.sp.cur.toNat t))
    else m) s.feed.floor
  min f (feedCeil s)

/-- V_r(k) as a rail code (R300). -/
def railAt (s : State) (k r : Nat) : Nat := if r = 0 then feedAt s (s.lvl k).code else (s.rail r).target

/-- Π(k) in W (R300): codes of 2.5 mV × 0.25 A are 1/1,600 W. -/
def powerAt (s : State) (v : GovEval) (k : Nat) : Frac :=
  let p := (List.range 4).foldl (fun (a : Frac) r =>
    let i : Frac := ⟨(v.rails.get r).stage, 16⟩
    a.add ((estimate (railLambda v r i) i (v.levF.get k) v.freq).scale (railAt s k r))) ⟨0, 1⟩
  ⟨p.num, 1600 * p.den⟩

/-- The energy of the newest `n` buckets, the one in progress included. -/
def bucketEnergy (s : State) (n : Nat) : Int := s.gov.bucket + sumInt (s.gov.buckets.take (n - 1))

/-- P_allow in W (R302). -/
def powerAllow (s : State) : Frac :=
  let e := bucketEnergy s (10 * s.gov.seconds - 1)
  ⟨max 0 (1000 * perMilliJoule * (s.gov.cap * s.gov.seconds : Nat) - e), 100 * perMilliJoule.toNat⟩

/-- P_WIN in W: the energy of the cap window over its length (R302). -/
def powerWindow (s : State) : Nat :=
  min 65535 (roundDiv (bucketEnergy s (10 * s.gov.seconds)) (1000 * perMilliJoule.toNat * s.gov.seconds)).toNat

/-! ### Choice (R303, R305, R312) -/

/-- The highest non-boost level at or below `k`. -/
def nonBoost (s : State) (k : Nat) : Nat := (List.range (k + 1)).foldl (fun m j => if (s.lvl j).boost then m else j) 0

/-- X of R303. -/
def preferred (s : State) (c : Option Nat) (h : Nat) : Nat :=
  match s.seq.fixed with
  | .level k => k
  | .code f => (derivedLevel s f).getD 0
  | .off =>
    if !s.cl.any (fun c => c.s.st == .active || c.s.st == .rest) then s.seq.level
    else
      let ps := (maskBits 64 s.gov.meas.labels.toNat).filterMap (fun l => s.gov.prefs.get l)
      if ps.isEmpty then topLevel s
      else
        let x := maxNat ps
        if (s.lvl x).boost && !((match c with | some c => decide (x ≤ c) | none => false) && decide (x ≤ h) && (boostFails s).isNone)
        then nonBoost s x else x

/-- B_SA in 0.25 A from the SA limits and 200 A (R311). -/
def saBudget (s : State) : Nat := min (min (s.gov.win.get 1).limit (s.gov.ms.get 1).limit) 800

/-- Guarantee `i` of the table. -/
def State.guarantee (s : State) (i : Nat) : Guarantee := s.gov.guar.get i

/-- The slots that hold a guarantee in effect. -/
def activeSlots (s : State) : List Nat := s.gov.guar.places (fun _ g => g.gid != 0 && g.active)

/-- B_SA of R312 in 0.25 A: the SA limits in force and the SA live phases × 40 A. -/
def saKept (s : State) : Nat := min (saBudget s) (160 * liveCount s 12)

/-- The limit ID of the limit that sets B_SA; where the live phases set it, which R296 gives no ID, the open value of the
configuration (R312). -/
def saLimitId (s : State) : Nat :=
  if saKept s = (s.gov.win.get 1).limit then 1 else if saKept s = (s.gov.ms.get 1).limit then 0x11 else Config.noLimitId.toNat

/-- The kept amounts of bandwidth guarantees, precedence by precedence while the budget lasts (R312). -/
def keepBand (s : State) : Nat → Nat → List Nat → List (Nat × Nat)
  | 0, _, _ => []
  | fuel + 1, left, slots =>
    match slots with
    | [] => []
    | i0 :: rest0 =>
      let p := (i0 :: rest0).foldl (fun m i => min m (s.guarantee i).prec) 63
      let here := (i0 :: rest0).filter (fun i => (s.guarantee i).prec == p)
      let rest := (i0 :: rest0).filter (fun i => (s.guarantee i).prec != p)
      let want := here.foldl (fun a i => a + (s.guarantee i).req) 0
      if want ≤ left then here.map (fun i => (i, (s.guarantee i).req)) ++ keepBand s fuel (left - want) rest
      else here.map (fun i => (i, left * (s.guarantee i).req / max 1 want)) ++ rest.map (fun i => (i, 0))

/-- The kept amount of every guarantee in effect at a hard ceiling (R312). -/
def keptAll (s : State) (h : Nat) : List (Nat × Nat) :=
  let fl := (activeSlots s).filter (fun i => (s.guarantee i).kind == 1)
  let bw := (activeSlots s).filter (fun i => (s.guarantee i).kind == 2)
  fl.map (fun i => (i, min (s.guarantee i).req h))
    ++ keepBand s 64 (saKept s - saBase s) bw

/-- A governor evaluation (R299 to R305, R307, R312). -/
def evaluate (s : State) : GovEval × List (Nat × Nat) :=
  let v := govInputs s s.gov.last
  let e := elecCeil s v false
  let t := s.therm.ceil
  let h := min e t
  let allow := powerAllow s
  let c := highest (fun k => (powerAt s v k).le allow)
  let x := preferred s c h
  let kept := keptAll s h
  let floors := kept.filter (fun q => (s.guarantee q.1).kind == 1)
  let f := maxNat (floors.map Prod.snd)
  let l := min h (max f (min (c.getD 0) x))
  ({ v with
     e, t, floorLvl := f, floorAny := !floors.isEmpty, c, x, l
     unreach := match c with | none => true | some c => decide (c < f)
     pAllow := min 65535 (allow.num / allow.den).toNat, pWin := powerWindow s
     pi := Tab.ofFn 16 (powerAt s v), limId := elecLimitId s v e, bwId := saLimitId s
     g := Tab.ofFn 144 (fun n =>
       let sg := s.segs.get (n % 12)
       let lim := limitA s (n % 12)
       if (s.cluster n).g.oneFail then 0
       else
         match sg.headClosed with
         | none => 15
         | some hm => if lim = 0 then 0 else if (1000 * lim : Int) ≤ 4 * hm then 15 else ((64 * hm) / (1000 * lim : Int) - 1).toNat) },
   kept)

/-! ### The latch of the policy shadow (R44, R299, R305 to R307, R311 to R314) -/

/-- Event data of FLT_GUARANTEE_DEGRADED, from the evaluation that found it (R312). -/
def degradedData (v : GovEval) (g : Guarantee) (kept : Nat) : List Byte :=
  let thermal := g.kind == 1 && decide (v.t < v.e)
  leBytes 2 g.gid ++ [BitVec.ofNat 8 g.kind, if thermal then 2 else 1] ++ leBytes 2 g.req ++ leBytes 2 kept
    ++ leBytes 2 (if thermal then 0xFFFF else if g.kind = 1 then v.limId else v.bwId)

/-- One guarantee takes its kept amount: a fall below the request or below what was kept is reported, and a return to the
request too (R312, R313). -/
def keepOne (v : GovEval) (q : Nat × Nat) (s : State) : State :=
  let g := s.guarantee q.1
  let bad := decide (q.2 < g.req)
  let s' := { s with gov := { s.gov with guar := s.gov.guar.modify q.1 (fun g => { g with kept := q.2, degraded := bad }) } }
  if bad && (!g.degraded || decide (q.2 < g.kept)) then raiseMiss 0x0614 q.1 (degradedData v g q.2) s'
  else if !bad && g.degraded then raise 0x0621 q.1 [] s'
  else s'

/-- The code that the governor posts for an output level: the fixed code at or above its level, else the level's own (R275,
R305). -/
def govCode (s : State) (l : Nat) : Nat × Nat :=
  match s.seq.fixed with
  | .code c => if (derivedLevel s c).getD 0 ≤ l then (c, 16) else ((s.lvl l).code, l)
  | _ => ((s.lvl l).code, l)

/-- The output level stands below, at or above the level in force (R305). -/
def govCompare (s : State) (l : Nat) : Ordering :=
  match s.seq.fixed with
  | .code _ => compare (govCode s l).1 s.seq.code
  | _ => compare l s.seq.level

/-- The governor posts a level for the first stage its posting may name (R267, R299, R305). -/
def govPost (l : Nat) (s : State) : State :=
  let (code, lvl) := govCode s l
  if (s.seq.pend.map Pend.code) == some code then s
  else if code ≤ s.seq.code then post code lvl (postFirst s) .governor s
  else post code lvl (postFirst s + riseStages code s) .governor s

/-- The governor's postings after an evaluation outside a convoy (R305, R306). -/
def govDecide (l : Nat) (s : State) : State :=
  if s.inConvoy then { s with gov := { s.gov with ups := [] } }
  else
    match govCompare s l with
    | .lt => govPost l { s with gov := { s.gov with ups := [] } }
    | .eq => 
      let s := { s with gov := { s.gov with ups := [] } }
      if s.gov.postedUp && s.seq.pend.isSome then { s with seq := { s.seq with pend := none }, gov := { s.gov with postedUp := false } } else s
    | .gt =>
      let ups := (l :: s.gov.ups).take 8
      let s := { s with gov := { s.gov with ups } }
      let own := s.gov.postedUp && s.seq.pend.isSome
      let under := own && decide ((govCode s l).1 < (s.seq.pend.map Pend.code).getD 0)
      if under then govPost l s
      else if ups.length = 8 && !own then govPost (ups.foldl min 15) s
      else s

/-- A word that the core has written into the policy shadow replaces the firmware's own result: a swell code, or the output
level (R417). -/
def shadowWrite (x : Nat × BitVec 32) (v : GovEval) : GovEval :=
  let f := fun lo w => (x.2.toNat / 2 ^ lo) % 2 ^ w
  if 0x1A000 ≤ x.1 && x.1 < 0x1A240 then { v with g := v.g.set ((x.1 - 0x1A000) / 4) (f 4 4) }
  else if x.1 = 0x200 then
    { v with e := f 0 4, t := f 4 4, floorLvl := f 8 4, c := some (f 12 4), x := f 16 4, l := f 20 4, unreach := x.2.getLsbD 24 }
  else if x.1 = 0x208 then { v with pWin := f 0 16, pAllow := f 16 16 }
  else v

/-- One limit takes effect (R296, R297). -/
def applyLimit (id param value : Nat) (s : State) : State :=
  let g := s.gov
  if id < 4 then { s with gov := { g with win := g.win.set id { limit := value, len := param, fresh := true } } }
  else if id < 0x14 then
    { s with gov := { g with
        ms := g.ms.set (id - 0x10) { limit := value, len := param, fresh := true }, railPers := g.railPers.set (id - 0x10) [] } }
  else if id = 0x20 then { s with gov := { g with cap := value, seconds := param, buckets := [], overMj := 0, overFrac := 0 } }
  else if id = 0x21 then { s with blwCfg := { s.blwCfg with settle := value } }
  else if id = 0x22 then { s with gov := { g with boostEn := value == 1 } }
  else s.updCl (id - 0x100) (fun c => { c with g := { c.g with sus := value % 65536, one := value / 65536 } })

/-- One preference takes effect; it ends the hold of R64 (R64, R304). -/
def applyPref (label : Nat) (lvl : Option Nat) (s : State) : State :=
  endHold { s with gov := { s.gov with prefs := s.gov.prefs.set label lvl } }

/-- The slot of the guarantee table whose words lie at an offset. -/
def guarSlot (off : Nat) : Nat := (off - 0x300) / 8

/-- A word of the policy shadow that sets what the governor's task works with: limits, means, preferences and guarantees, and
HOST of a swell register (R44, R417). -/
def shadowSet (x : Nat × BitVec 32) (s : State) : State :=
  let f := fun lo w => (x.2.toNat / 2 ^ lo) % 2 ^ w
  let k := (x.1 % 256) / 4
  if 0x1A000 ≤ x.1 && x.1 < 0x1A240 then s.updCl ((x.1 - 0x1A000) / 4) (fun c => { c with g := { c.g with host := f 0 4 } })
  else if x.1 = 0x200 then { s with gov := { s.gov with boostEn := x.2.getLsbD 25 } }
  else if x.1 = 0x204 then applyLimit 0x20 (f 16 4) (f 0 16) s
  else if x.1 = 0x20C then { s with gov := { s.gov with overMj := x.2.toNat, overFrac := x.2.toNat * perMilliJoule } }
  else if 0x210 ≤ x.1 && x.1 < 0x220 then applyLimit (k - 4) (f 16 6 + 1) (f 0 16) s
  else if 0x220 ≤ x.1 && x.1 < 0x230 then applyLimit (0x10 + (k - 8)) (f 16 6 + 1) (f 0 16) s
  else if 0x230 ≤ x.1 && x.1 < 0x240 then
    { s with gov := { s.gov with winMean := s.gov.winMean.set (k - 12) (f 0 16), msMean := s.gov.msMean.set (k - 12) (f 16 16) } }
  else if 0x280 ≤ x.1 && x.1 < 0x2C0 then
    forEach (List.range 4) (fun j s => applyPref (4 * (k - 32) + j) (if f (8 * j) 8 ≤ 15 then some (f (8 * j) 8) else none) s) s
  else if 0x300 ≤ x.1 && x.1 < 0x400 then
    { s with gov := { s.gov with guar := s.gov.guar.modify (guarSlot x.1) (fun g =>
        if x.1 % 8 = 0 then { g with gid := f 0 16, kind := f 16 2, prec := f 18 6, label := f 24 7, degraded := x.2.getLsbD 31, active := true }
        else { g with req := f 0 16, kept := f 16 16 }) } }
  else s

/-- Step 4 of a stage edge: the results of the last evaluation are latched, guarantees enter and leave the table, and the
output is posted (R31, R44, R299, R311, R314). -/
def govLatch (x : GovEval × List (Nat × Nat)) (s : State) : State :=
  let words := s.gov.shadowW
  let v := words.foldl (fun v w => shadowWrite w v) x.1
  let s := { s with
    gov := { s.gov with last := v, shadowW := [] }
    cl := s.cl.mapI (fun n c => { c with g := { c.g with gov := v.g.get n } }) }
  let s := forEach x.2 (keepOne v) s
  let s := { s with gov := { s.gov with guar := s.gov.guar.map (fun g =>
    if g.leaving then {} else if g.told then { g with active := true } else g) } }
  govDecide v.l (forEach words shadowSet s)

/-- The release of swell clamps at a stage edge (R132). -/
def clampRelease (s : State) : State :=
  { s with groups := s.groups.mapI (fun g gr =>
      if gr.swellClamp && g < 12 && (s.gov.last.segLim.get g == limitA s g || !overSegment s g) then { gr with swellClamp := false } else gr) }

/-- The driven swell allowances at cycle 0 of a pace (R61, R307). -/
def driveSwell (s : State) : State :=
  { s with cl := s.cl.mapI (fun n c =>
      let on := (c.s.st == .active || c.s.st == .rest)
      { c with g := { c.g with driven := if !on || (s.group (n % 12)).swellClamp then 0 else min c.g.host c.g.gov } }) }

/-! ### SET_LIMITS (R296, R297, R313, R315) -/

/-- The continuous limit of a rail in 0.25 A (R18). -/
def contLimit (r : Nat) : Nat := [7200, 800, 480, 120].getD r 0

/-- One entry of SET_LIMITS is in range (R296). -/
def limitOk (id param value : Nat) : Bool :=
  if id < 4 then
    1 ≤ param && param ≤ 64 && 4 ≤ value && decide (value ≤ (if id = 0 && param = 1 then 10400 else contLimit id))
  else if 0x10 ≤ id && id < 0x14 then 1 ≤ param && param ≤ 64 && 4 ≤ value && decide (value ≤ contLimit (id - 0x10))
  else if id = 0x20 then 1 ≤ param && param ≤ 10 && 100 ≤ value && value ≤ 2000
  else if id = 0x21 then param == 0 && value ≤ 15
  else if id = 0x22 then param == 0 && value ≤ 1
  else if 0x100 ≤ id && id < 0x100 + 144 then
    param == 0 && 25 ≤ value % 65536 && value % 65536 ≤ 1250 && decide (value % 65536 ≤ value / 65536) && decide (value / 65536 ≤ 1800)
  else false

/-- ID, PARAM and VALUE of entry `e` (R296). -/
def limitEntry (l : List Byte) (e : Nat) : Nat × Nat × Nat := (field l (8 + 8 * e) 2, field l (10 + 8 * e) 2, field l (12 + 8 * e) 4)

/-- The payload of SET_LIMITS is legal (R296). -/
def limitsLegal (l : List Byte) : Bool :=
  let k := field l 0 1
  1 ≤ k && k ≤ 5 && zeros l 1 7 && noRepeat ((List.range k).map (fun e => (limitEntry l e).1))
    && (List.range 5).all (fun e =>
      let (id, pa, v) := limitEntry l e
      if e < k then limitOk id pa v else zeros l (8 + 8 * e) 8)

/-- The changes that a legal SET_LIMITS makes. -/
def limitActs (l : List Byte) : List Act :=
  (List.range (field l 0 1)).map (fun e => let (id, pa, v) := limitEntry l e; .limit id pa v)

/-- The limits of a list of changes are in force. -/
def withLimits (acts : List Act) (s : State) : State :=
  forEach acts (fun a s => match a with
    | .limit id pa v => applyLimit id pa v s
    | _ => s) s

/-- The estimates of the latest evaluation leave a guarantee degraded under the limits in force, each taken as if its window
had filled (R313). -/
def leavesDegraded (s : State) : Bool :=
  let h := min (elecCeil s s.gov.last true) s.gov.last.t
  (keptAll s h).any (fun q => decide (q.2 < (s.guarantee q.1).req))

/-- The cap that a list of changes writes. -/
def capWritten (acts : List Act) : Option Nat :=
  acts.findSome? (fun a => match a with
    | .limit 0x20 _ v => some v
    | _ => none)

/-- SET_LIMITS: answered when it takes effect, in force from the next stage edge (R296, R313, R315). -/
def execSetLimits (p : Packet) (s : State) : Host.Outcome State Fault Refusal :=
  inTurn p s fun s =>
  let l := p.payload
  command p 0x0602 [(l.length != 48, .badLength), (!limitsLegal l, .badParam)]
    (fun s =>
      let acts := limitActs l
      let pi := s.gov.last.pi.get s.gov.last.floorLvl
      let cap := match capWritten acts with | some c => !pi.le (Frac.ofInt c) | none => false
      let deg := leavesDegraded (withLimits acts s)
      let s := { s with cmd := { s.cmd with quiet := s.cmd.quiet ++ acts } }
      reply p 0x0602 (if cap || deg then .acceptedUnreachable else .ok)
        ([BitVec.ofNat 8 ((if cap then 1 else 0) + if deg then 2 else 0), BitVec.ofNat 8 acts.length] ++ leBytes 2 (min 65535 pi.near)) s) s

/-! ### Preferences and swell (R304, R308) -/

/-- The payload of SET_LEVEL OP 0x01 is legal (R304). -/
def prefLegal (l : List Byte) : Bool :=
  let k := field l 1 1
  field l 0 1 == 1 && 1 ≤ k && k ≤ 15 && noRepeat ((List.range k).map (fun i => field l (2 + 2 * i) 1))
    && (List.range 15).all (fun i =>
      let lv := field l (3 + 2 * i) 1
      if i < k then decide (field l (2 + 2 * i) 1 ≤ 63) && (decide (lv ≤ 15) || lv == 0xFF) else zeros l (2 + 2 * i) 2)

/-- The changes that a legal SET_LEVEL OP 0x01 makes. -/
def prefActs (l : List Byte) : List Act :=
  (List.range (field l 1 1)).map (fun i =>
    .pref (field l (2 + 2 * i) 1) (if field l (3 + 2 * i) 1 = 0xFF then none else some (field l (3 + 2 * i) 1)))

/-- The preferences once a list of changes is in force. -/
def withPrefs (acts : List Act) (t : Tab 64 (Option Nat)) : Tab 64 (Option Nat) :=
  acts.foldl (fun t a => match a with
    | .pref label lvl => t.set label lvl
    | _ => t) t

/-- Reply data of SET_LEVEL OP 0x01: the labels with a preference once the changes accepted so far are in force (R304). -/
def prefData (s : State) : List Byte := [BitVec.ofNat 8 ((withPrefs s.cmd.quiet s.gov.prefs).count Option.isSome)]

/-- SET_LEVEL OP 0x01: answered when it is accepted, the preferences in force from the next stage edge, as SET_LIMITS entries
are (R304). -/
def execSetLevelPreference (p : Packet) (s : State) : Host.Outcome State Fault Refusal :=
  inTurn p s fun s =>
  let l := p.payload
  command p 0x0601 [(l.length != 32, .badLength), (!prefLegal l, .badParam)]
    (fun s =>
      let s := { s with cmd := { s.cmd with quiet := s.cmd.quiet ++ prefActs l } }
      reply p 0x0601 .ok (prefData s) s) s

/-- The payload of SET_SWELL is legal (R308). -/
def swellLegal (l : List Byte) : Bool := field l 0 18 != 0 && decide (field l 18 1 ≤ 15) && zeros l 19 5

/-- The changes that a legal SET_SWELL makes. -/
def swellActs (l : List Byte) : List Act := (maskBits 144 (field l 0 18)).map (fun n => .swell n (field l 18 1))

/-- SET_SWELL (R308). -/
def execSetSwell (p : Packet) (s : State) : Host.Outcome State Fault Refusal :=
  inTurn p s fun s =>
  let l := p.payload
  command p 0x0606 [(l.length != 24, .badLength), (!swellLegal l, .badParam)] (defer p 0x0606 (swellActs l)) s

/-- HOST_n of one cluster (R308). -/
def applySwell (n code : Nat) (s : State) : State := s.updCl n (fun c => { c with g := { c.g with host := code } })

/-! ### Guarantees (R309 to R314) -/

/-- The payload of ADMIT_GUARANTEE is legal; a floor names a non-boost level (R309). -/
def admitLegal (s : State) (l : List Byte) : Bool :=
  let gid := field l 0 2
  let k := field l 2 1
  let lb := field l 4 1
  gid != 0 && gid != 0xFFFF && decide (field l 3 1 ≤ 63) && (decide (lb ≤ 63) || lb == 0xFF) && zeros l 6 2 && zeros l 16 16
    && (if k = 1 then decide (field l 5 1 ≤ 14) && !(s.lvl (field l 5 1)).boost && zeros l 8 8
        else if k = 2 then field l 5 1 == 0 && field l 8 4 != 0 && decide (1000 ≤ field l 12 4) && decide (field l 12 4 ≤ 10000000)
        else false)

/-- I_g in 0.25 A: ⌈0.02 × AMOUNT ÷ WINDOW_NS⌉ (R309). -/
def bandCurrent (amount window : Nat) : Nat := ceilDiv amount (50 * window)

/-- The outcome of the admission tests: RESULT, required and available (R309 to R311). -/
def admission (s : State) (l : List Byte) : Nat × Nat × Nat :=
  if s.gov.guar.all (fun g => g.gid != 0) then (4, 0, 0)
  else if cornerBad s then (5, 0, 0)
  else if field l 2 1 = 1 then
    let f := maxNat (field l 5 1 :: (s.gov.guar.val.filterMap (fun g => if g.gid != 0 && g.kind == 1 then some g.req else none)))
    let w := cornerWord s (4 * f)
    let need := 4 * (w % 65536)
    if s.gov.cap < w / 65536 then (3, w / 65536, s.gov.cap)
    else if (s.gov.ms.get 0).limit < need then (2, need, (s.gov.ms.get 0).limit)
    else (0, 0, 0)
  else
    let sum := saBase s + bandCurrent (field l 8 4) (field l 12 4)
      + (s.gov.guar.val.foldl (fun a g => if g.gid != 0 && g.kind == 2 then a + g.req else a) 0)
    if saBudget s < sum then (1, sum, saBudget s) else (0, 0, 0)

/-- Reply data of ADMIT_GUARANTEE (R311). -/
def admitData (l : List Byte) (r : Nat × Nat × Nat) : List Byte :=
  let short := r.2.1 - r.2.2
  leBytes 2 (field l 0 2) ++ [BitVec.ofNat 8 r.1, 0] ++ leBytes 4 r.2.1 ++ leBytes 4 r.2.2 ++ leBytes 4 short
    ++ leBytes 4 (if r.1 = 1 then short * 50 * field l 12 4 else 0)

/-- ADMIT_GUARANTEE (R309 to R311). -/
def execAdmitGuarantee (p : Packet) (s : State) : Host.Outcome State Fault Refusal :=
  inTurn p s fun s =>
  let l := p.payload
  command p 0x0603
    [ (l.length != 32, .badLength), (!admitLegal s l, .badParam), (s.gov.guar.any (fun g => g.gid == field l 0 2), .badState) ]
    (fun s =>
      let r := admission s l
      if r.1 = 0 then
        let i := ((s.gov.guar.places (fun _ g => g.gid == 0)).head?).getD 0
        let g : Guarantee :=
          { gid := field l 0 2, kind := field l 2 1, prec := field l 3 1, label := if field l 4 1 = 0xFF then 127 else field l 4 1
            req := if field l 2 1 = 1 then field l 5 1 else bandCurrent (field l 8 4) (field l 12 4), amount := field l 8 4 }
        defer p 0x0603 [.takeGuarantee i] { s with gov := { s.gov with guar := s.gov.guar.set i g } }
      else reply p 0x0603 (if r.1 = 5 then .checksumFail else .admissionDenied) (admitData l r) s) s

/-- The reply to an admission is written: the guarantee takes effect at the latch edge that follows (R311). -/
def applyAdmit (i : Nat) (s : State) : State := { s with gov := { s.gov with guar := s.gov.guar.modify i (fun g => { g with told := true }) } }

/-- REVOKE_GUARANTEE: the guarantee leaves at the next latch edge and is in the table until then; the reserved code
0xFFFF of GID is rejected under R8 (R8, R309, R314). -/
def execRevokeGuarantee (p : Packet) (s : State) : Host.Outcome State Fault Refusal :=
  inTurn p s fun s =>
  let l := p.payload
  let gid := field l 0 2
  command p 0x0604
    [ (l.length != 16, .badLength), (gid == 0xFFFF || !zeros l 2 14, .badParam),
      (gid == 0 || !s.gov.guar.any (fun g => g.gid == gid), .badState) ]
    (defer p 0x0604 [.revoke gid]) s

/-- A guarantee is marked to leave (R314). -/
def applyRevoke (gid : Nat) (s : State) : State :=
  { s with gov := { s.gov with guar := s.gov.guar.map (fun g => if g.gid == gid then { g with leaving := true } else g) } }

/-- Reply data of REVOKE_GUARANTEE (R314). -/
def revokeData (gid : Nat) (s : State) : List Byte :=
  leBytes 2 gid ++ [BitVec.ofNat 8 (s.gov.guar.count (fun g => g.gid != 0 && !g.leaving))]

end Sys2Proof.Machine
end

