-- ==== Sys2Proof/Machine/Convoy.lean ====
section
/-! DEFINITION. Convoy lockstep: messages, alignment and joining, the window agreement, priority requests, skew, leaving and
the convoy commands (R72, R316 to R338). -/

namespace Sys2Proof.Machine

/-! ### Messages (R72, R317, R318) -/

/-- Change the convoy link unit. -/
def State.updCvy (s : State) (f : Cvy → Cvy) : State := { s with cvy := f s.cvy }

/-- The 32 bytes of a message (R317). -/
def cvyMsg (s : State) (type flags stage : Nat) (body : List Byte) : List Byte :=
  let m := leBytes 2 s.cvy.id ++ [BitVec.ofNat 8 type, BitVec.ofNat 8 flags] ++ leBytes 6 stage ++ (padTo 18 body).take 18
  m ++ leBytes 4 (crc32c m).toNat

/-- Send a message to a port. -/
def cvySend (port : Nat) (prio : Bool) (m : List Byte) (s : State) : State := emit (.chiene port prio m) s

/-- The ports of a mask of children. -/
def portsOf (m : BitVec 8) : List Nat := (List.range 8).filterMap (fun i => if m.getLsbD i then some (i + 1) else none)

/-- Send a down message to every configured child port (R317). -/
def cvyDown (prio : Bool) (m : List Byte) (s : State) : State := forEach (portsOf s.cvy.children) (fun p s => cvySend p prio m s) s

/-- Forward a received down message unchanged (R317). -/
def cvyForward (m : ConvoyMsg) (s : State) : State := cvyDown m.prio m.bytes s

/-- The joined set with a port put in or taken out. -/
def setKid (m : BitVec 8) (port : Nat) (on : Bool) : BitVec 8 :=
  if on then m ||| BitVec.ofNat 8 (2 ^ (port - 1)) else m &&& ~~~(BitVec.ofNat 8 (2 ^ (port - 1)))

/-- The joined ports. -/
def kidsOf (s : State) : List Nat := portsOf s.cvy.kids

/-- TYPE of a message. -/
def ConvoyMsg.type (m : ConvoyMsg) : Nat := field m.bytes 2 1
/-- FLAGS of a message. -/
def ConvoyMsg.flags (m : ConvoyMsg) : Nat := field m.bytes 3 1
/-- STAGE of a message. -/
def ConvoyMsg.stage (m : ConvoyMsg) : Nat := field m.bytes 4 6
/-- A field of the body of a message. -/
def ConvoyMsg.body (m : ConvoyMsg) (a k : Nat) : Nat := field m.bytes a k

/-- The message types that travel down (R317). -/
def goesDown (type : Nat) : Bool := [0x01, 0x03, 0x07, 0x09, 0x0B].contains type

/-- The message is discarded (R318). -/
def cvyBad (s : State) (m : ConvoyMsg) : Bool :=
  m.bytes.length != 32 || (crc32c (m.bytes.take 28)).toNat != field m.bytes 28 4 || field m.bytes 0 2 != s.cvy.id
    || m.type == 0 || decide (0x0C ≤ m.type)
    || (if goesDown m.type then m.port != 0 || s.cvy.role == 0 else !(portsOf s.cvy.children).contains m.port)

/-- A message is discarded: counted, and reported once in a period (R318). -/
def cvyDiscard (port : Nat) (s : State) : State :=
  let s' := s.updCvy (fun c => { c with discarded := min 65535 (c.discarded + 1) })
  if s.cvy.discarded = 0 then raise 0x0721 port [] s' else s'

/-- A message of one type arrives: lost while the link unit is unpowered or a warm reset is low (R335); discarded under R318;
else it has its effect, which a Lost chip lets no down message have (R321). -/
def cvyReceive (type : Nat) (m : ConvoyMsg) (f : State → State) (s : State) : Host.Outcome State Fault Refusal :=
  if !s.islandUp || s.sys.warmLow || decide (8 < m.port) then idle s
  else if cvyBad s m then done (cvyDiscard m.port s)
  else if m.type != type || (s.cvy.st == .lost && goesDown type) then idle s
  else done (f s)

/-- The chip acts on the agreement: Joined or Skewed, or loaded and on its way to Joined (R323). -/
def cvyActs (s : State) : Bool :=
  match s.cvy.st with
  | .joined | .skewed => true
  | .aligning => decide (4 ≤ s.cvy.step)
  | _ => false

/-- The chip is Joined or Skewed. -/
def cvyIn (s : State) : Bool := s.cvy.st == .joined || s.cvy.st == .skewed

/-! ### Convoy postings (R266, R267, R323) -/

/-- The convoy posts a level for a stage. -/
def cvyPost (lvl stage : Nat) (s : State) : State := post (s.lvl lvl).code lvl stage .convoy s

/-- The convoy agrees a level and posts it; one other than the level in force ends the hold of R64 (R64, R334). -/
def cvyAgree (lvl stage : Nat) (s : State) : State := cvyPost lvl stage (if lvl = s.seq.level then s else endHold s)

/-- The pending change is the convoy's and for stage `t`. -/
def convoyPend (s : State) (t : Nat) : Bool :=
  match s.seq.pend with
  | some p => p.source == .convoy && p.stage == t
  | none => false

/-- The pending change, if any, is the convoy's. -/
def convoyChange (s : State) : Bool :=
  match s.seq.pend with
  | some p => p.source == .convoy
  | none => false

/-- Clear the pending change; the targets follow under R97 and R268. -/
def clearPend (s : State) : State := { s with seq := { s.seq with pend := none } }

/-- The convoy has agreed on a level for a stage: what is expected there, in place of what was expected from that stage on
(R331). -/
def expectAt (stage lvl : Nat) (s : State) : State :=
  s.updCvy (fun c => { c with expNext := c.expNext.filter (fun e => decide (e.1 < stage)) ++ [(stage, lvl)] })

/-! ### Alignment (R319, R320, R323) -/

/-- The chip's own edges about a moment: the one that opened the present stage, and the next. -/
def nextEdge (s : State) : Nat :=
  s.clk.stageStart + (match s.clk.trim with | .none => 10240 | .longer => 10250 | .shorter => 10230)

/-- δ and whether the nearest own edge is the next one, for an estimated root edge (R319). -/
def offsetOf (s : State) (root : Int) : Int × Bool :=
  let a := (s.clk.stageStart : Int) - root
  let b := (nextEdge s : Int) - root
  if a.natAbs ≤ b.natAbs then (a, false) else (b, true)

/-- SYNC: the offset is measured and the message forwarded at once with the time that has passed (R319). -/
def execSync (m : ConvoyMsg) (s : State) : Host.Outcome State Fault Refusal :=
  cvyReceive 0x01 m (fun s =>
    if s.cvy.st == .aligning && decide (s.cvy.step < 2) then s
    else
      let elapsed := m.body 10 4 + s.cvy.lat
      let (d, ahead) := offsetOf s ((s.clk.now : Int) - elapsed)
      let pl := m.body 15 1
      let fwd := cvyMsg s 0x01 m.flags m.stage (leBytes 4 elapsed ++ slice m.bytes 14 14)
      let s := s.updCvy (fun c => { c with
        gotSync := true, delta := clampI (-32768) 32767 d, hasDelta := true
        syncLevel := m.body 14 1, syncPend := if pl = 0xFF then none else some (pl, m.body 16 6)
        loadStage := if c.step < 3 then (if ahead then m.stage else m.stage + 1) else c.loadStage })
      cvyDown true fwd s) s

/-- ECHO_REQ: the parent answers at once, so that RESIDENCE is 0 (R323). -/
def execEchoReq (m : ConvoyMsg) (s : State) : Host.Outcome State Fault Refusal :=
  cvyReceive 0x02 m (fun s =>
    if s.cvy.st == .lost then s
    else cvySend m.port true (cvyMsg s 0x03 0 0 (slice m.bytes 10 2 ++ leBytes 4 0)) s) s

/-- ECHO_RSP: the round trip less its residence; sixteen of them give λ (R323 step 1). -/
def execEchoRsp (m : ConvoyMsg) (s : State) : Host.Outcome State Fault Refusal :=
  cvyReceive 0x03 m (fun s =>
    match s.cvy.echoAt.find? (fun e => e.1 == m.body 10 2) with
    | none => s
    | some e =>
      if s.cvy.st != .aligning || s.cvy.step != 1 then s
      else
        let sum := s.cvy.echoSum + ((s.clk.now : Int) - (e.2 : Nat)) - (m.body 12 4 : Nat)
        let s := s.updCvy (fun c => { c with
          echoSum := sum, echoGot := c.echoGot + 1, echoAt := c.echoAt.filter (fun x => x.1 != e.1) })
        if s.cvy.echoGot = 16 then
          s.updCvy (fun c => { c with step := 2, lat := min 65535 (roundDiv sum 32).toNat, hasDelta := false, alignStages := 0 })
        else s) s

/-- One ECHO_REQ in each pace until sixteen are sent (R323 step 1). -/
def cvyPace (s : State) : State :=
  if s.cvy.st == .aligning && s.cvy.step == 1 && decide (s.cvy.echoSent < 16) then
    let k := s.cvy.echoSent
    cvySend 0 true (cvyMsg s 0x02 0 0 (leBytes 2 k))
      (s.updCvy (fun c => { c with echoSent := k + 1, echoAt := c.echoAt ++ [(k, s.clk.now)] }))
  else s

/-- Cycle 0 of p15: the stage is trimmed towards the root (R36, R320, R323 step 2). -/
def execStageTrimDecision (s : State) : Host.Outcome State Fault Refusal :=
  let c := s.cvy
  let band : Option Int :=
    match c.st with
    | .joined | .skewed => some 5
    | .aligning => if c.step = 2 && decide (20 < c.delta.natAbs) then some 0 else if c.step = 4 then some 5 else none
    | _ => none
  match band with
  | none => idle s
  | some b =>
    if !s.clk.running || s.clk.pace != 15 || s.clk.p0Pending || c.role == 0 || !c.hasDelta || s.clk.trimmedLast || s.clk.trim != .none then idle s
    else if b < c.delta then done { s with clk := { s.clk with trim := .shorter } }
    else if c.delta < -b then done { s with clk := { s.clk with trim := .longer } }
    else idle s

/-- The counter is to be loaded at the coming edge: the offset lies within 20 ns (R323 step 3). -/
def cvyLoads (s : State) : Bool := s.cvy.st == .aligning && s.cvy.step == 2 && s.cvy.hasDelta && decide (s.cvy.delta.natAbs ≤ 20)

/-- The number of the stage that the coming edge opens (R38, R323). -/
def stageAfter (s : State) : Nat := if cvyLoads s then s.cvy.loadStage % 2 ^ 48 else (s.clk.stage + 1) % 2 ^ 48

/-- The first window edge at least 16 stages after a stage (R323 step 5). -/
def windowAfter (stage : Nat) : Nat := 64 * ceilDiv (stage + 16) 64

/-- The level table of the convoy takes the place of the chip's (R323 step 4). -/
def takeTable (s : State) : State :=
  { s with
    cvy := { s.cvy with oldTable := some s.seq.table, step := 4 }
    seq := { s.seq with table := s.seq.table.mapI (fun k _ => ⟨s.cvy.codes.getD k 0, false⟩) } }

/-- Steps 3 and 4 of a join at the edge that loads the counter (R323). -/
def cvyLoaded (s : State) : State :=
  let j := windowAfter s.clk.stage
  let s := takeTable (s.updCvy (fun c => { c with loadDelta := c.delta, loadStage := s.clk.stage, joinStage := j }))
  let s := cvySend 0 false (cvyMsg s 0x04 0 s.clk.stage []) s
  match s.cvy.syncPend with
  | some (l, t) => cvyPost (if t = j then l else s.cvy.syncLevel) j s
  | none => cvyPost s.cvy.syncLevel j s

/-! ### Reports and acknowledgements (R325 to R329) -/

/-- LVCHK of a level, a code and the table (R331). -/
def lvchk (s : State) (level code : Nat) : Nat :=
  (crc32c ([BitVec.ofNat 8 level, BitVec.ofNat 8 code] ++ s.seq.table.val.map (fun e => BitVec.ofNat 8 e.code))).toNat % 65536

/-- LVCHK_EXP: the check of the level expected, or the own one before any has applied (R331). -/
def expChk (s : State) : Nat :=
  match s.cvy.expLevel with
  | some k => lvchk s k (s.lvl k).code
  | none => s.cvy.own

/-- The highest level whose code every cluster in Active or Rest is characterised for (R95, R326). -/
def charLevel (s : State) : Nat :=
  (highest (fun k => s.cl.all (fun c =>
    !(c.s.st == .active || c.s.st == .rest) || c.v.curveDefault || c.charAt (s.lvl k).code))).getD 0

/-- P of R326; without a latched shadow the previous one stands. -/
def proposal (s : State) : Nat :=
  if s.gov.latched then min s.gov.last.l (min (s.cvy.hostProp.getD 15) (charLevel s)) else s.cvy.prop

/-- What the chip reports of itself and of the joined children heard (R327). -/
def cvyReport (s : State) (short : Bool) : CvyUp :=
  let own : CvyUp := {
    prop := s.cvy.prop, lmin := s.seq.level, lmax := s.seq.level, cmin := s.cvy.own, cmax := s.cvy.own, count := 1
    skewed := if s.cvy.st == .skewed then 1 else 0, short }
  s.cvy.reports.foldl (fun a r =>
    let u := r.2
    { prop := min a.prop u.prop, lmin := min a.lmin u.lmin, lmax := max a.lmax u.lmax, cmin := min a.cmin u.cmin
      cmax := max a.cmax u.cmax, count := (a.count + u.count) % 65536, skewed := (a.skewed + u.skewed) % 65536, short := a.short || u.short }) own

/-- The joined ports without a report. -/
def silentKids (s : State) : List Nat := (kidsOf s).filter (fun p => !s.cvy.reports.any (fun r => r.1 == p))

/-- Missing children are noted; the first window of each raises FLT_CONVOY_MEMBER (R327). -/
def noteMissing (s : State) : State :=
  let gone := silentKids s
  let was := s.cvy.missing
  let s := s.updCvy (fun c => { c with missing := BitVec.ofNat 8 (bitsMask (gone.map (· - 1))) })
  forEach (gone.filter (fun p => !was.getLsbD (p - 1))) (fun p s => raise 0x0712 p (leBytes 6 s.cvy.skewT) s) s

/-- Send UP for the window (R325, R327). -/
def sendUp (s : State) : State :=
  let s := noteMissing s
  let u := cvyReport s (!(silentKids s).isEmpty)
  let s := s.updCvy (fun c => { c with checked := false, short := u.short, count := u.count })
  cvySend 0 false (cvyMsg s 0x06 (if u.short then 1 else 0) s.cvy.skewT
    ([BitVec.ofNat 8 u.prop, BitVec.ofNat 8 u.lmin, BitVec.ofNat 8 u.lmax, 0] ++ leBytes 2 u.cmin ++ leBytes 2 u.cmax
      ++ leBytes 2 u.count ++ leBytes 2 u.skewed)) s

/-- A node that is not the root sends UP once itself and every joined child have reported (R325). -/
def tryUp (s : State) : State :=
  if s.cvy.checked && s.cvy.role != 0 && cvyIn s && (silentKids s).isEmpty then sendUp s else s

/-- A member that is not the root forwards ACK once itself and every joined child have acknowledged (R325). -/
def tryAck (s : State) : State :=
  if s.cvy.ackOpen && s.cvy.role != 0 && cvyActs s && (kidsOf s).all (fun p => s.cvy.acks.any (fun a => a.1 == p)) then
    let n := (s.cvy.acks.foldl (fun a x => a + x.2) 1) % 65536
    let s := s.updCvy (fun c => { c with ackOpen := false, count := n })
    cvySend 0 false (cvyMsg s 0x08 0 (s.cvy.annFor.getD 0) (leBytes 2 n)) s
  else s

/-- Stage 8 of a window: the checkpoint, the proposal, and UP of a leaf (R325, R326, R331). -/
def execConvoyCheckpoint (s : State) : Host.Outcome State Fault Refusal :=
  if !cvyIn s || s.clk.stage % 64 != 8 || s.cvy.cpDone then idle s
  else
    let due := s.cvy.expNext.filter (fun e => decide (e.1 ≤ s.clk.stage))
    let s := s.updCvy (fun c => { c with
      cpDone := true, checked := true, skewT := s.clk.stage - 8, own := lvchk s s.seq.level s.seq.code, prop := proposal s
      expLevel := (due.getLast?.map Prod.snd).orElse (fun _ => c.expLevel)
      expNext := c.expNext.filter (fun e => decide (s.clk.stage < e.1)) })
    done (tryUp s)

/-- The moment `ns` after the edge that opened stage 8 of the window (R325). -/
def cvyDeadline (s : State) (ns : Nat) : Nat :=
  (if s.clk.stage % 64 = 8 then s.clk.stageStart else s.clk.stageStart - s.clk.lastLen) + ns

/-- The reporting deadline of a node that is not the root (R325, R327). -/
def execConvoyUpDeadline (s : State) : Host.Outcome State Fault Refusal :=
  if !s.cvy.checked || s.cvy.role == 0 || !cvyIn s then idle s
  else if 9 < s.clk.stage % 64 then lapse sendUp s
  else lapseAt (cvyDeadline s ((6 - s.cvy.depth) * 2560)) sendUp s

/-- UP: the report of a joined child for the window (R325, R327). -/
def execUp (m : ConvoyMsg) (s : State) : Host.Outcome State Fault Refusal :=
  cvyReceive 0x06 m (fun s =>
    if !cvyIn s || !(kidsOf s).contains m.port || m.stage != s.clk.stage - s.clk.stage % 64 || s.cvy.reports.any (fun r => r.1 == m.port) then s
    else
      let u : CvyUp := {
        prop := m.body 10 1, lmin := m.body 11 1, lmax := m.body 12 1, cmin := m.body 14 2, cmax := m.body 16 2
        count := m.body 18 2, skewed := m.body 20 2, short := m.flags % 2 == 1 }
      tryUp (s.updCvy (fun c => { c with reports := c.reports ++ [(m.port, u)] }))) s

/-- Event data of FLT_CONVOY_SKEW (R331). -/
def skewData (s : State) (cause exp : Nat) : List Byte :=
  [BitVec.ofNat 8 cause, BitVec.ofNat 8 s.seq.level, BitVec.ofNat 8 (s.cvy.expLevel.getD s.seq.level)] ++ leBytes 2 s.cvy.own
    ++ leBytes 2 exp ++ leBytes 6 s.cvy.skewT

/-- The chip enters Skewed: its pending convoy change is cleared (R331). -/
def enterSkewed (s : State) : State :=
  let s := s.updCvy (fun c => { c with st := .skewed })
  if convoyChange s then clearPend s else s

/-- What an ANNOUNCE does at a member that hears it: the record, skew, and else the posting (R325, R328, R331, R332). -/
def hearAnnounce (level t exp : Nat) (skew : Bool) (s : State) : State :=
  let s := expectAt t level (s.updCvy (fun c => { c with annLevel := level % 16, annT := t, annExp := exp, annFor := some t, acks := [], ackOpen := false }))
  if s.cvy.st == .skewed then s
  else if skew && s.cvy.st == .joined && s.cvy.own != exp then
    let s := enterSkewed s
    if s.cvy.role = 0 then s else raise 0x0710 0 (skewData s 1 exp) s
  else (cvyAgree level t s).updCvy (fun c => { c with ackOpen := true })

/-- The root sends ANNOUNCE (R325, R327, R328, R331). -/
def sendAnnounce (s : State) : State :=
  let s := noteMissing s
  let u := cvyReport s (!(silentKids s).isEmpty)
  let exp := expChk s
  let hold := u.short || u.skewed != 0
  let skew := u.cmin != u.cmax || u.cmin != exp
  let level := if hold then s.seq.level else u.prop % 16
  let t := s.cvy.skewT + 64
  let s := s.updCvy (fun c => { c with checked := false, count := u.count, short := u.short })
  let s := if skew then raise 0x0710 0 (skewData s 2 exp) s else s
  let m := cvyMsg s 0x07 ((if hold then 1 else 0) + if skew then 2 else 0) t ([BitVec.ofNat 8 level, 0] ++ leBytes 2 exp ++ leBytes 2 u.count)
  hearAnnounce level t exp skew (cvyDown false m s)

/-- The root announces once every joined child has reported, or at p8 cycle 0 of stage 9 (R325, R328). -/
def execRootAnnounce (s : State) : Host.Outcome State Fault Refusal :=
  if !s.cvy.checked || s.cvy.role != 0 || !cvyIn s then idle s
  else if (silentKids s).isEmpty then done (sendAnnounce s)
  else if 9 < s.clk.stage % 64 then lapse sendAnnounce s
  else lapseAt (cvyDeadline s (6 * 2560)) sendAnnounce s

/-- ANNOUNCE (R325, R328, R331). -/
def execAnnounce (m : ConvoyMsg) (s : State) : Host.Outcome State Fault Refusal :=
  cvyReceive 0x07 m (fun s =>
    let s := cvyForward m s
    if !cvyActs s then s
    else tryAck (hearAnnounce (m.body 10 1) m.stage (m.body 12 2) (m.flags / 2 % 2 == 1) s)) s

/-- ACK of a joined child for the agreement in progress (R325). -/
def execAck (m : ConvoyMsg) (s : State) : Host.Outcome State Fault Refusal :=
  cvyReceive 0x08 m (fun s =>
    if s.cvy.annFor != some m.stage || !(kidsOf s).contains m.port || s.cvy.acks.any (fun a => a.1 == m.port) then s
    else tryAck (s.updCvy (fun c => { c with acks := c.acks ++ [(m.port, m.body 10 2)] }))) s

/-- A CANCEL for stage `t` takes effect: the change for `t` is cleared, unless a priority change has taken its place; a chip on
its way to Joined goes back to the level of the latest SYNC (R323, R329, R334). -/
def cancelAt (t acked source : Nat) (s : State) : State :=
  let prio := match s.cvy.prioNext with | some (p, _, _) => p == t | none => false
  let clear := convoyPend s t && !prio
  let heard := s.cvy.annT == t && s.cvy.annFor.isSome
  let s := if clear then clearPend s else s
  let s := if clear && s.cvy.st == .aligning then cvyPost s.cvy.syncLevel s.cvy.joinStage s else s
  raise 0x0720 source
    (leBytes 6 t ++ leBytes 2 acked ++ [if heard then BitVec.ofNat 8 s.cvy.annLevel else 0xFF, if clear then 1 else 0])
    (s.updCvy (fun c => { c with
      annFor := none, ackOpen := false, cancels := min 65535 (c.cancels + 1)
      expNext := if prio then c.expNext else c.expNext.filter (fun e => e.1 != t) }))

/-- The edge opening T − 8: a root without every ACK cancels (R329). -/
def execConvoyAckDeadline (s : State) : Host.Outcome State Fault Refusal :=
  match s.cvy.annFor with
  | none => idle s
  | some t =>
    if s.cvy.role != 0 || !cvyIn s || decide (s.clk.stage + 8 < t) then idle s
    else
      match (kidsOf s).find? (fun p => !s.cvy.acks.any (fun a => a.1 == p)) with
      | none => idle s
      | some port =>
        let acked := (s.cvy.acks.foldl (fun a x => a + x.2) 1) % 65536
        lapse (fun s => cancelAt t acked port (cvyDown true (cvyMsg s 0x09 0 t (leBytes 2 acked)) s)) s

/-- CANCEL (R329). -/
def execCancel (m : ConvoyMsg) (s : State) : Host.Outcome State Fault Refusal :=
  cvyReceive 0x09 m (fun s =>
    let s := cvyForward m s
    if !cvyActs s then s else cancelAt m.stage (m.body 10 2) 0 s) s

/-! ### Priority requests (R330) -/

/-- H as last latched (R301). -/
def hardCeil (s : State) : Nat := min s.gov.last.e s.gov.last.t

/-- CAUSE of the own condition: 1 thermal, 2 electrical (R317). -/
def prioCauseOf (s : State) : Nat := if s.gov.last.t < s.gov.last.e then 1 else 2

/-- The level in force, or the pending level, exceeds H (R330). -/
def aboveCeil (s : State) : Bool :=
  decide (hardCeil s < s.seq.level) || (match s.seq.pend with | some p => decide (p.level < 16) && decide (hardCeil s < p.level) | none => false)

/-- A member that is not the root requests at this edge: when its condition begins, and every 8 stages while it holds
(R330). -/
def prioCounts (s : State) : Bool :=
  cvyIn s && aboveCeil s && (match s.cvy.prioSent with | some t => decide (t + 8 ≤ s.clk.stage) | none => true)

/-- The priority change that is already pending brings the level to `level`: announcing it again would only put it off. -/
def prioStands (s : State) (level : Nat) : Bool := match s.cvy.prioNext with | some (_, l, _) => l == level | none => false

/-- The own condition of the stage that closes: the root keeps it at every edge while it holds, another member requests
(R330). -/
def prioNote (s : State) : State :=
  if !cvyIn s || !aboveCeil s then s.updCvy (fun c => { c with prioSent := none, prioOwn := none })
  else if s.cvy.role = 0 then s.updCvy (fun c => { c with prioOwn := some (hardCeil s, prioCauseOf s) })
  else if !prioCounts s then s
  else
    cvySend 0 true (cvyMsg s 0x0A 0 s.clk.stage [BitVec.ofNat 8 (hardCeil s), BitVec.ofNat 8 (prioCauseOf s)])
      (s.updCvy (fun c => { c with prioSent := some s.clk.stage }))

/-- PRIO_REQ: the root keeps it for the coming edge; an interior chip forwards it at once (R330). -/
def execPrioReq (m : ConvoyMsg) (s : State) : Host.Outcome State Fault Refusal :=
  cvyReceive 0x0A m (fun s =>
    if s.cvy.st == .lost then s
    else if s.cvy.role = 0 then s.updCvy (fun c => { c with prioReqs := c.prioReqs ++ [(m.body 10 1, m.body 11 1)] })
    else cvySend 0 true m.bytes s) s

/-- A priority change is posted at a member (R330). -/
def hearPrio (t level cause : Nat) (s : State) : State :=
  cvyAgree level t (expectAt t level (s.updCvy (fun c => { c with prioNext := some (t, level, cause) })))

/-- The root's answer to the requests of the stage that closes and to its own condition in it (R330). An own condition alone
announces no second time the level that its pending announcement brings (DESIGN CHOICE log 90). -/
def rootPrio (s : State) : State :=
  let own := match s.cvy.prioOwn with | some o => [o] | none => []
  match s.cvy.prioReqs ++ own with
  | [] => s
  | r :: rs =>
    let best := rs.foldl (fun (b : Nat × Nat) x => if x.1 < b.1 then x else b) r
    let pendAnn := if s.cvy.annFor.isSome then [s.cvy.annLevel] else []
    let pendPrio := match s.cvy.prioNext with | some (_, l, _) => [l] | none => []
    let level := (pendAnn ++ pendPrio ++ [hardCeil s]).foldl min best.1
    let alone := s.cvy.prioReqs.isEmpty
    let s := s.updCvy (fun c => { c with prioReqs := [], prioOwn := none })
    if s.seq.level ≤ level || !cvyIn s || (alone && prioStands s level) then s
    else
      let t := s.clk.stage + 3
      let m := cvyMsg s 0x0B 0 t [BitVec.ofNat 8 level, BitVec.ofNat 8 best.2]
      hearPrio t level best.2 ((cvyDown true m s).updCvy (fun c => { c with annFor := none }))

/-- PRIO_ANNOUNCE (R330, R332, R334). -/
def execPrioAnnounce (m : ConvoyMsg) (s : State) : Host.Outcome State Fault Refusal :=
  cvyReceive 0x0B m (fun s =>
    let s := cvyForward m s
    if cvyActs s then hearPrio m.stage (m.body 10 1) (m.body 11 1) s else s) s

/-- EV_CONVOY_PRIORITY when the announced level applies (R330). -/
def prioApplied (s : State) : State :=
  match s.cvy.prioNext with
  | none => s
  | some (t, l, c) =>
    let waits := match s.seq.pend with | some p => decide (p.stage ≤ s.clk.stage) | none => false
    if s.clk.stage < t || waits then s
    else raise 0x0722 0 [BitVec.ofNat 8 c, BitVec.ofNat 8 l] (s.updCvy (fun c => { c with prioNext := none }))

/-! ### Membership (R317, R321, R323, R336) -/

/-- JOINED: the port enters the joined set (R317). -/
def execJoined (m : ConvoyMsg) (s : State) : Host.Outcome State Fault Refusal :=
  cvyReceive 0x04 m (fun s => s.updCvy (fun c => { c with kids := setKid c.kids m.port true })) s

/-- A port leaves the joined set; what waited for it goes on (R317, R325). -/
def dropKid (port : Nat) (s : State) : State :=
  tryAck (tryUp (s.updCvy (fun c => { c with
    kids := setKid c.kids port false, missing := setKid c.missing port false, reports := c.reports.filter (fun r => r.1 != port)
    acks := c.acks.filter (fun a => a.1 != port) })))

/-- LEFT: the port leaves the joined set (R317). -/
def execLeft (m : ConvoyMsg) (s : State) : Host.Outcome State Fault Refusal := cvyReceive 0x05 m (dropKid m.port) s

/-- Four stages without a valid SYNC, and none in the edge cycle that ends them, or an offset beyond 100 ns: the chip is Lost
(R46, R321). -/
def execConvoySyncLoss (s : State) : Host.Outcome State Fault Refusal :=
  let c := s.cvy
  if !cvyIn s || c.role == 0 || !((decide (4 ≤ c.noSync) && !c.gotSync) || (c.hasDelta && decide (100 < c.delta.natAbs))) then idle s
  else lapse (fun s => raise 0x0711 0 [BitVec.ofNat 8 c.st.code] (s.updCvy (fun c => { c with st := .lost, checked := false, ackOpen := false }))) s

/-- Reply data of CONVOY_JOIN (R323). -/
def joinData (s : State) (result first stage : Nat) : List Byte :=
  let c := s.cvy
  leBytes 2 c.id ++ [BitVec.ofNat 8 result, BitVec.ofNat 8 first] ++ leBytes 6 stage ++ leBytes 2 c.lat
    ++ leBytes 2 (code2 16 c.loadDelta) ++ leBytes 2 c.alignStages ++ [BitVec.ofNat 8 s.seq.level]

/-- The chip is out of the convoy: role, tree and agreement are gone, and counts, measures and the record of the last ANNOUNCE
stay. -/
def cvyOut (s : State) : State :=
  (if convoyChange s then clearPend s else s).updCvy (fun c => { c with
    st := .notJoined, id := 0, role := 3, depth := 0, children := 0, kids := 0, join := none, step := 0, oldTable := none, hasDelta := false
    noSync := 0, gotSync := false, annFor := none, ackOpen := false, checked := false, cpDone := false, reports := [], acks := []
    missing := 0, prioReqs := [], prioSent := none, prioOwn := none, prioNext := none, expLevel := none, expNext := [], clearSkew := false, dropPorts := 0 })

/-- A join ends without its step 5: it is answered with DEADLINE_MISSED (R323). -/
def joinAnswered (s : State) : State :=
  match s.cvy.join with
  | some p => reply p 0x0701 .deadlineMissed (joinData s 2 0xFF 0) s
  | none => s

/-- The chip is not loaded by the deadline of its join: it returns to Not joined and restores its level table (R323). -/
def joinFails (s : State) : State :=
  let s := joinAnswered s
  cvyOut (match s.cvy.oldTable with
    | some t => { s with seq := { s.seq with table := t } }
    | none => s)

/-- The deadline of a join passes before the load (R323). -/
def execConvoyJoinTimeout (s : State) : Host.Outcome State Fault Refusal :=
  if s.cvy.st != .aligning || decide (4 ≤ s.cvy.step) || decide (s.clk.stage < s.cvy.joinDue) then idle s
  else lapse joinFails s

/-- Step 5 of a join at its window edge (R323). -/
def joinDone (s : State) : State :=
  let s := s.updCvy (fun c => { c with st := .joined, step := 5, noSync := 0 })
  let data := joinData s 0 0xFF (if s.cvy.role = 0 then s.clk.stage else s.cvy.loadStage)
  let s := match s.cvy.join with
    | some p => reply p 0x0701 .ok data s
    | none => s
  s.updCvy (fun c => { c with join := none, oldTable := none })

/-- The chip leaves, the level table keeping the convoy's codes; a join that is still outstanding is answered (R323, R336). -/
def cvyLeaves (s : State) : State :=
  let ps := s.cvy.leave
  let s := if s.cvy.st == .lost then s else cvySend 0 false (cvyMsg s 0x05 0 s.clk.stage []) s
  let s := cvyOut (joinAnswered s)
  forEach ps (fun p s => reply p 0x0702 .ok (leBytes 6 s.clk.stage ++ [BitVec.ofNat 8 s.seq.level]) s)
    (s.updCvy (fun c => { c with leave := [] }))

/-- What a window edge does: the end of a join, of skew, and of dropped ports, and the opening of the window (R323, R325,
R337). -/
def windowEdge (s : State) : State :=
  let s := if s.cvy.st == .aligning && s.cvy.step == 4 && decide (s.cvy.joinStage ≤ s.clk.stage) then joinDone s else s
  let s := if s.cvy.clearSkew then
      s.updCvy (fun c => { c with st := if c.st == .skewed then .joined else c.st, clearSkew := false })
    else s
  let s := s.updCvy (fun c => { c with
    reports := [], acks := [], checked := false, cpDone := false, ackOpen := false
    annFor := match c.annFor with | some t => if t ≤ s.clk.stage then none else some t | none => none })
  forEach (portsOf s.cvy.dropPorts) dropKid (s.updCvy (fun c => { c with dropPorts := 0 }))

/-- SYNC of the root for the edge just passed (R317, R319). -/
def rootSync (s : State) : State :=
  if s.cvy.role = 0 && cvyActs s then
    let (pl, pt) := match s.seq.pend with
      | some p => if p.source == .convoy then (p.level, p.stage) else (0xFF, 0)
      | none => (0xFF, 0)
    cvyDown true (cvyMsg s 0x01 0 s.clk.stage (leBytes 4 0 ++ [BitVec.ofNat 8 s.seq.level, BitVec.ofNat 8 pl] ++ leBytes 6 pt)) s
  else s

/-- The stages without SYNC, and those spent in step 2, at an edge (R321, R323). -/
def cvyCounts (s : State) : State :=
  s.updCvy (fun c => { c with
    noSync := if c.gotSync then 0 else min 4 (c.noSync + 1), gotSync := false
    alignStages := if c.st == .aligning && c.step == 2 && c.hasDelta then min 65535 (c.alignStages + 1) else c.alignStages
    loadStage := if c.st == .aligning && c.step == 2 then c.loadStage + 1 else c.loadStage })

/-- The convoy link unit in the edge cycle, after step 3 and the governor's latch; `loads` says that the counter has been
loaded at this edge. -/
def cvyEdge (loads : Bool) (s : State) : State :=
  if s.cvy.st == .notJoined then s
  else
    let s := cvyCounts s
    let s := if loads then cvyLoaded s else s
    let s := if s.clk.stage % 64 = 0 then windowEdge s else s
    let s := prioApplied s
    let s := if !s.cvy.leave.isEmpty && (s.clk.stage % 64 == 0 || s.cvy.st == .lost) then cvyLeaves s else s
    rootSync (if s.cvy.role = 0 then rootPrio s else s)

/-! ### Commands (R322, R323, R336 to R338) -/

/-- The codes of a CONVOY_JOIN rise strictly from 0 to 80 (R322). -/
def joinCodes (l : List Byte) : List Nat := (List.range 16).map (fun k => field l (6 + k) 1)

/-- The fields of a CONVOY_JOIN are legal (R322). -/
def joinLegal (l : List Byte) : Bool :=
  let role := field l 2 1
  let d := field l 3 1
  let ch := field l 4 1
  let cs := joinCodes l
  field l 0 2 != 0 && field l 0 2 != 0xFFFF && zeros l 5 1 && zeros l 22 26
    && (if role = 0 then d == 0 && ch != 0 else if role = 1 then decide (1 ≤ d) && decide (d ≤ 5) && ch != 0
        else role == 2 && decide (1 ≤ d) && decide (d ≤ 6) && ch == 0)
    && cs.all (fun c => decide (c ≤ 80)) && (List.range 15).all (fun k => decide (cs.getD k 0 < cs.getD (k + 1) 0))

/-- The first level whose code exceeds GF_k (R322). -/
def joinGrade (s : State) (l : List Byte) : Option Nat := (List.range 16).find? (fun k => decide (s.fuses.gf.get k < field l (6 + k) 1))

/-- A caravan record is Open or Committed (R262). -/
def caravanHeld (s : State) : Bool := s.cvn.recs.any (fun r => r.st == .open_ || r.st == .committed)

/-- CONVOY_JOIN (R322, R323). -/
def execConvoyJoin (p : Packet) (s : State) : Host.Outcome State Fault Refusal :=
  inTurn p s fun s =>
  let l := p.payload
  if s.fwRuns && l.length == 48 && joinLegal l && (joinGrade s l).isSome then
    done (reply p 0x0701 .admissionDenied (leBytes 2 (field l 0 2) ++ [1, BitVec.ofNat 8 ((joinGrade s l).getD 0)]) s)
  else
    command p 0x0701
      [ (l.length != 48, .badLength), (!joinLegal l, .badParam),
        (s.cvy.st != .notJoined || s.seq.pend.isSome || (s.lvl s.seq.level).boost
          || (match s.seq.fixed with | .code _ => true | _ => false) || s.man.st == .running, .badState),
        (caravanHeld s, .busyRetry) ]
      (fun s =>
        let role := field l 2 1
        let s := markEffect p .hardware (s.updCvy (fun c => { c with
          st := .aligning, id := field l 0 2, role, depth := field l 3 1, children := BitVec.ofNat 8 (field l 4 1), kids := 0
          join := some p, joinDue := replyDue p 1200 s, codes := joinCodes l, step := 1, echoSent := 0, echoAt := [], echoSum := 0
          echoGot := 0, alignStages := 0, hasDelta := false, gotSync := false, noSync := 0, loadDelta := 0, prop := 0, hostProp := none
          delta := 0, lat := 0 }))
        if role = 0 then takeTable (s.updCvy (fun c => { c with joinStage := windowAfter s.clk.stage })) else s) s

/-- CONVOY_LEAVE: the chip leaves at the next window edge, a Lost one at the next stage edge (R336). -/
def execConvoyLeave (p : Packet) (s : State) : Host.Outcome State Fault Refusal :=
  inTurn p s fun s =>
  command p 0x0702 [(p.payload.length != 0, .badLength), (s.cvy.st == .notJoined || s.cvy.kids != 0, .badState)]
    (fun s => markEffect p .hardware (s.updCvy (fun c => { c with leave := c.leave ++ [p] }))) s

/-- Reply data of CONVOY_PROPOSE_LEVEL (R337). -/
def proposeData (s : State) : List Byte := [BitVec.ofNat 8 (s.cvy.hostProp.getD 0xFF), BitVec.ofNat 8 s.cvy.kids.toNat]

/-- CONVOY_PROPOSE_LEVEL OP 0x00: HOSTPROP from the next latched proposal (R337). -/
def execConvoyHostProposal (p : Packet) (s : State) : Host.Outcome State Fault Refusal :=
  inTurn p s fun s =>
  let l := p.payload
  let v := field l 1 1
  command p 0x0703
    [ (l.length != 16, .badLength), (field l 0 1 != 0 || (decide (15 < v) && v != 0xFF) || !zeros l 2 14, .badParam), (!cvyIn s, .badState) ]
    (fun s =>
      let s := s.updCvy (fun c => { c with hostProp := if v = 0xFF then none else some v })
      reply p 0x0703 .ok (proposeData s) s) s

/-- CONVOY_PROPOSE_LEVEL OP 0x01: Skewed ends at the next window edge (R337). -/
def execConvoyClearSkew (p : Packet) (s : State) : Host.Outcome State Fault Refusal :=
  inTurn p s fun s =>
  let l := p.payload
  command p 0x0703
    [(l.length != 16, .badLength), (field l 0 1 != 1 || !zeros l 1 15, .badParam), (s.cvy.st != .skewed, .badState)]
    (fun s => reply p 0x0703 .ok (proposeData s) (s.updCvy (fun c => { c with clearSkew := true }))) s

/-- CONVOY_PROPOSE_LEVEL OP 0x02: a port leaves the joined set at the next window edge (R337). -/
def execConvoyDropPort (p : Packet) (s : State) : Host.Outcome State Fault Refusal :=
  inTurn p s fun s =>
  let l := p.payload
  let v := field l 1 1
  command p 0x0703
    [ (l.length != 16, .badLength), (field l 0 1 != 2 || v == 0 || decide (8 < v) || !zeros l 2 14, .badParam),
      (!cvyIn s || !(kidsOf s).contains v, .badState) ]
    (fun s => reply p 0x0703 .ok (proposeData s) (s.updCvy (fun c => { c with dropPorts := setKid c.dropPorts v true }))) s

/-- CONVOY_STATUS (R338). -/
def execConvoyStatus (p : Packet) (s : State) : Host.Outcome State Fault Refusal :=
  inTurn p s fun s =>
  command p 0x0704 [(p.payload.length != 0, .badLength)]
    (fun s =>
      let c := s.cvy
      reply p 0x0704 .ok
        (leBytes 2 c.id ++ [BitVec.ofNat 8 c.st.code, BitVec.ofNat 8 (if c.role = 3 then 0xFF else c.role), BitVec.ofNat 8 c.kids.toNat,
           BitVec.ofNat 8 c.prop, BitVec.ofNat 8 c.annLevel] ++ leBytes 6 c.annT ++ leBytes 2 (code2 16 c.delta) ++ leBytes 2 c.count
          ++ leBytes 2 c.own) s) s

/-! ### Registers of the convoy link unit -/

/-- BRX_CVY_STATUS. -/
def cvyStatusWord (s : State) : Nat :=
  let c := s.cvy
  c.st.code + 8 * c.role + 32 * c.depth + 256 * c.kids.toNat + 65536 * c.prop + 2 ^ 20 * c.annLevel
    + (if convoyChange s then 2 ^ 24 else 0) + if c.short then 2 ^ 25 else 0

/-- The counters of the convoy link unit return at a period close. -/
def cvyPeriod (s : State) : State := s.updCvy (fun c => { c with discarded := 0, cancels := 0 })

end Sys2Proof.Machine
end

