-- ==== Sys2Proof/Machine/Energy.lean ====
section
/-! DEFINITION. Energy accounting: activity records, accumulation, reconciliation, the ledger, telemetry frames and their
commands (R67, R68, R352 to R368). -/

namespace Sys2Proof.Machine

/-! ### The model (R354) -/

/-- The ROM default energy model (R354). -/
def romModel : List Byte :=
  let e := fun r k => if r = 1 && k = 4 then 1500 else if r = 2 && k = 4 then 300 else if r = 2 && k = 5 then 1000
    else if r = 3 && k = 7 then 200 else 0
  ([1, 2, 3].flatMap (fun r => (List.range 8).flatMap (fun k => leBytes 2 (e r k))))
    ++ leBytes 2 3000 ++ leBytes 2 2000 ++ leBytes 2 1000 ++ [1] ++ List.replicate 9 0

/-- The address of the model in Ledger RAM (R354). -/
def modelAddr : Nat := 0xC0000

/-- E_r,k of a model (R354). -/
def modelCoef (m : List Byte) (r k : Nat) : Nat := field m (16 * (r - 1) + 2 * k) 2

/-- B_r of a model in 0.01 W (R354). -/
def modelBase (m : List Byte) (r : Nat) : Nat := field m (48 + 2 * (r - 1)) 2

/-! ### Activity records (R67, R68) -/

/-- EV_ACT_RECORD, once per cluster and period (R68). -/
def actEvent (n : Nat) (s : State) : State := raisePeriod 0x0911 n [] s

/-- A field of an activity record (R67). -/
def actField (r : BitVec 128) (lo len : Nat) : Nat := (r.toNat / 2 ^ lo) % 2 ^ len

/-- The record is out of range: its cluster or a reserved bit (R67, R68). -/
def actBad (r : BitVec 128) : Bool := decide (144 ≤ actField r 0 8) || actField r 15 1 != 0 || actField r 116 12 != 0

/-- A record is accepted for its cluster and the pace before the present one, or discarded with an event (R68). Its label
counts among those of the stage it was taken in (R303). -/
def execActivityRecord (rec : BitVec 128) (s : State) : Host.Outcome State Fault Refusal :=
  if !s.clk.running then idle s
  else
    let n := actField rec 0 8
    if actBad rec || s.en.pacesSince == 0 || actField rec 112 4 != (s.clk.pace + 15) % 16 || (s.cluster n).e.got then
      done (actEvent n s)
    else
      let l := actField rec 8 6
      let bit := BitVec.ofNat 64 (2 ^ l)
      let s := s.updCl n (fun c => { c with e := { c.e with
        label := l, counts := Tab.ofFn 8 (fun k => actField rec (16 + 12 * k) 12), got := true } })
      done { s with gov :=
        if s.clk.pace = 0 then { s.gov with meas := { s.gov.meas with labels := s.gov.meas.labels ||| bit } }
        else { s.gov with labels := s.gov.labels ||| bit } }

/-! ### Accumulation (R353) -/

/-- The last period closed still awaits contributions of its last paces. -/
def openPer (s : State) : Option EnPer :=
  match s.en.pers.getLast? with
  | some p => if p.accDone then none else some p
  | none => none

/-- The model that governs the period whose contributions are being added (R355). -/
def accModel (s : State) : List Byte :=
  match openPer s with
  | some p => p.model
  | none => s.en.model

/-- Modelled energy of one record on one rail: four times the counts times the coefficients times the square of VOLT
(R353). -/
def modelTerm (m : List Byte) (e : CEn) (r volt : Nat) : Nat :=
  (List.range 8).foldl (fun a k => a + 4 * e.counts.get k * modelCoef m r k) 0 * volt * volt

/-- The contribution of one cluster for a pace of length `t` (R353). -/
def addCluster (s : State) (m : List Byte) (t n : Nat) (a : EnAcc) : EnAcc :=
  let c := s.cluster n
  let w := segVolt s (n % 12) * (c.g.cur : Nat) * (t : Nat)
  let a := { a with clI := a.clI.modify n (· + c.g.cur) }
  if c.e.got || c.e.has then
    let put := fun (md : List Byte) (tab : Tab 192 Nat) => [1, 2, 3].foldl (fun (tab : Tab 192 Nat) r =>
      tab.modify (3 * c.e.label + r - 1) (· + modelTerm md c.e r (s.rail r).volt)) tab
    { a with cf := a.cf.modify c.e.label (· + w), model := put m a.model, rom := put romModel a.rom, missing := a.missing || !c.e.got }
  else { a with cfNone := a.cfNone + w }

/-- The measured values of a pace of length `t`: rail energies, CF segment by segment, and the sums of the frame (R353,
R365). -/
def addRails (s : State) (t : Nat) (a : EnAcc) : EnAcc :=
  let cf := (List.range 12).foldl (fun b x => b + segVolt s x * (s.segs.get x).load) 0
  let cfv := (List.range 12).foldl (fun b x => b + segVolt s x) 0
  { a with
    meas := a.meas.mapI (fun r e => e + (if r = 0 then cf else 10 * ((s.rail r).volt : Nat) * 25 * railCode s r) * (t : Nat))
    paces := a.paces + 1, railI := a.railI.mapI (fun r v => v + railCode s r)
    railV := a.railV.mapI (fun r v => v + if r = 0 then cfv else 12 * railVolt s r)
    segI := a.segI.mapI (fun x v => v + (s.segs.get x).load) }

/-- The contributions of the pace two before the one that begins, from its records, status words and measurements (R353); a
missing record is reported and its cluster's last one stands for it (R68). -/
def enContribute (s : State) : State :=
  let m := accModel s
  let t := s.en.prevLen
  let a := (List.range 144).foldl (fun a n => addCluster s m t n a) s.en.acc
  let s' := { s with en := { s.en with acc := addRails s t a } }
  forEach (s.cl.places (fun _ c => c.e.has && !c.e.got)) actEvent s'

/-- The contributions of a period are complete: its sums leave the accumulators (R353). -/
def enHandOver (s : State) : State :=
  match openPer s with
  | none => s
  | some _ =>
    let p := s.en.pers.getLastD {}
    { s with en := { s.en with pers := s.en.pers.dropLast ++ [{ p with acc := s.en.acc, accDone := true }], acc := {} } }

/-- The accountant at the boundary of a pace, before the snapshot (R353): the pace that ends lasted `len`. -/
def enPace (len : Nat) (s : State) : State :=
  let s := if s.en.pacesSince < 2 then s else enContribute s
  let s := if s.clk.pace = 1 then enHandOver s else s
  { s with
    en := { s.en with prevLen := len }
    cl := s.cl.map (fun c => { c with e := { c.e with
      got := false, has := c.e.hasNext, hasNext := c.s.st == .active || c.s.st == .rest } }) }

/-! ### The close of a period (R33, R355, R365, R366) -/

/-- What the frame and the post of a period need from the edge that closes it, before that edge changes anything else. -/
def enCapture (s : State) : State :=
  let p : EnPer := {
    seq := s.clk.periodSeq, first := s.clk.periodFirst, last := s.clk.stage, elapsed := 10 * s.clk.periodCycles
    due := s.clk.stage + 9, level := s.seq.level, code := s.seq.code, stretch := s.cl.val.map (fun c => c.t.periodNs)
    model := s.en.model, addr := s.en.addr, ringAddr := s.en.ringAddr, ringCount := s.en.ringCount
    fbOut := !s.fbOk, dflt := s.en.modelDefault }
  { s with en := { s.en with pers := s.en.pers ++ [p] } }

/-- Keep HEAD and TAIL of the ring in force for the frames that are still to be delivered under it (R366). -/
def keepRing (e : En) (p : EnPer) : EnPer := if p.ring.isSome then p else { p with ring := some (e.head, e.tail) }

/-- The temperatures and stage peaks of the period closed last (R365). -/
def lastMeasures (s : State) : List EnPer :=
  let peaks := s.cl.val.map (fun c => c.g.pkSum)
  match s.en.pers.getLast? with
  | some p => s.en.pers.dropLast ++ [{ p with peaks, temp := s.therm.temp, hot := s.therm.hot }]
  | none => []

/-- The accountant at a period close: the model and the settings of the next period take effect (R355, R366). -/
def enPeriod (s : State) : State :=
  let s := { s with
    en := { s.en with
      pers := lastMeasures s
      model := ramLoad s modelAddr 64
      modelDefault := s.en.modelDefault && !s.en.modelNew, modelNew := false }
    cl := s.cl.map (fun c => { c with g := { c.g with pkSum := 0 } }) }
  let s := match s.en.addrNext with
    | some (a, zero) => { s with en := { s.en with
        addr := a, addrNext := none, mirrors := if zero then Tab.replicate 264 0 else s.en.mirrors } }
    | none => s
  match s.en.ringNext with
  | some (a, n) => { s with en := { s.en with
      pers := s.en.pers.map (keepRing s.en), ringAddr := a, ringCount := n, ringNext := none, head := 0, tail := 0 } }
  | none => s

/-! ### Reconciliation (R356 to R358) -/

/-- The bases of the labels and the unattributed basis of a rail, in one unit, and the factor that makes nJ of that unit:
numerator and denominator (R357). -/
def bases (p : EnPer) (r : Nat) : List Nat × Nat × Nat × Nat :=
  if r = 0 then (p.acc.cf.val.map Int.toNat, p.acc.cfNone.toNat, 25, 10 ^ 7)
  else
    let d := railDefault r
    let m := if p.dflt then romModel else p.model
    let t := if p.dflt then p.acc.rom else p.acc.model
    ((List.range 64).map (fun l => 4 * t.get (3 * l + r - 1)), modelBase m r * p.elapsed * 100 * d * d, 1, 10000 * d * d)

/-- The measured energy of a rail in nJ (R353). -/
def measuredNj (p : EnPer) (r : Nat) : Nat := (p.acc.meas.get r).toNat * 25 / 10 ^ 7

/-- The attribution of a rail: the shares of the labels, the unattributed share, and ρ (R357). -/
def attributeRail (p : EnPer) (r : Nat) : List Nat × Nat × Nat :=
  let e := measuredNj p r
  let (m, u, num, den) := bases p r
  let d := m.foldl (· + ·) 0 + u
  if d = 0 then (List.replicate 64 0, e, 0xFFFF)
  else
    let a := m.map (fun x => e * x / d)
    (a, e - a.foldl (· + ·) 0, min 0xFFFE ((2 * 16384 * e * den + d * num) / (2 * d * num)))

/-- The ratio lies outside 0.75 to 1.25 (R358). -/
def ratioOut (c : Nat) : Bool := decide (c < 12288) || decide (20480 < c)

/-- A word of the model reads with a parity error (R356). -/
def modelParity (s : State) : Bool := s.led.parityBad.any (fun a => decide (modelAddr ≤ a) && decide (a < modelAddr + 64))

/-- The lanes of a period: shares in label order, unattributed, measured (R360). -/
def lanesOf (at_ : List (List Nat × Nat × Nat)) (p : EnPer) : List Nat :=
  ((List.range 64).flatMap (fun l => at_.map (fun x => x.1.getD l 0))) ++ at_.map (fun x => x.2.1) ++ (List.range 4).map (measuredNj p)

/-- Add two lists of lanes; an empty list adds nothing. -/
def addLanes (a b : List Nat) : List Nat := (List.range 264).map (fun i => (a.getD i 0 + b.getD i 0) % 2 ^ 64)

/-! ### Frames (R364, R365) -/

/-- A mean of a sum over paces, to the nearest. -/
def meanOver (sum : Int) (den : Nat) : Nat := code2 16 (if den = 0 then 0 else roundDiv sum den)

/-- The 2,368 bytes of a telemetry frame (R365). -/
def frameBytes (p : EnPer) (dropped : Nat) : List Byte :=
  let a := p.acc
  let n := a.paces
  let e := fun i => p.shares.getD i 0
  let flags := (if p.late then 1 else 0) + (if p.dflt then 2 else 0) + (if p.rho.any ratioOut then 4 else 0)
    + (if a.missing then 8 else 0) + if p.carried then 16 else 0
  let total := (List.range 4).foldl (fun t r => t + e (260 + r)) 0
  let power := if p.elapsed = 0 then 0 else (roundDiv (1000 * total : Nat) p.elapsed).toNat
  let head := leBytes 2 1 ++ [BitVec.ofNat 8 flags, BitVec.ofNat 8 dropped] ++ leBytes 6 p.first ++ leBytes 6 p.last
    ++ leBytes 4 p.seq ++ leBytes 4 p.elapsed ++ (List.range 4).flatMap (fun r => leBytes 2 (p.rho.getD r 0))
    ++ leBytes 2 (code2 16 p.temp) ++ leBytes 2 (code2 16 p.hot) ++ [BitVec.ofNat 8 p.level, BitVec.ofNat 8 p.code, 0, 0]
    ++ leBytes 4 power ++ List.replicate 16 0
  let body := ((List.range 4).flatMap (fun r =>
      leBytes 2 (meanOver (a.railI.get r) n) ++ leBytes 2 (meanOver (a.railV.get r) (12 * n)) ++ leBytes 4 (e (260 + r) / 1000)))
    ++ ((List.range 4).flatMap (fun r => leBytes 4 (e (256 + r) / 1000)))
    ++ ((List.range 12).flatMap (fun x => leBytes 2 (meanOver (a.segI.get x) (25 * n)))) ++ List.replicate 56 0
    ++ ((List.range 144).flatMap (fun k => leBytes 2 (meanOver (a.clI.get k : Nat) n)
      ++ leBytes 2 (meanOver (p.peaks.getD k 0 : Nat) 16) ++ leBytes 4 (p.stretch.getD k 0)))
    ++ ((List.range 256).flatMap (fun i => leBytes 4 (e i / 1000)))
  head ++ leBytes 4 (crc32c (head ++ List.replicate 4 0 ++ body)).toNat ++ body

/-- Change the first period that satisfies a condition. -/
def updPer (c : EnPer → Bool) (f : EnPer → EnPer) : List EnPer → List EnPer
  | [] => []
  | p :: ps => if c p then f p :: ps else p :: updPer c f ps

/-- Periods whose post and frame are done leave the list. -/
def retirePers (s : State) : State :=
  { s with en := { s.en with pers := s.en.pers.filter (fun p => !p.taken || p.postOpen || p.frameOpen || p.frameHeld) } }

/-- A frame is dropped: the first drop after a delivered frame raises EV_FRAME_DROPPED (R365). -/
def dropFrame (cause : Nat) (s : State) : State :=
  let s' := { s with en := { s.en with dropped := min 255 (s.en.dropped + 1) } }
  if s.en.dropped = 0 then raise 0x0920 0 [BitVec.ofNat 8 cause] s' else s'

/-- HEAD and TAIL of the ring that a period's frame goes to. -/
def ringOf (s : State) (p : EnPer) : Nat × Nat := p.ring.getD (s.en.head, s.en.tail)

/-- The next frame that waits is written, once the frame before it is complete and FB is in window, or dropped (R364,
R365). -/
def issueFrame (s : State) : State :=
  if s.en.pers.any (fun p => p.frameOpen) then s
  else
    match s.en.pers.find? (fun p => p.frameHeld) with
    | none => s
    | some p =>
      let drop := fun cause => dropFrame cause
        { s with en := { s.en with pers := updPer (fun q => q.frameHeld) (fun q => { q with frameHeld := false }) s.en.pers } }
      let (h, t) := ringOf s p
      if p.ringAddr = 0 || p.ringCount = 0 then drop 4
      else if (h + 1) % p.ringCount = t % p.ringCount then drop 1
      else if !s.fbOk then s
      else
        dma { op := .write, addr := p.ringAddr + 4096 * h, beats := 37, deadline := dueCode 0 (some (p.due, 0)) s, data := frameBytes p s.en.dropped }
          { s with en := { s.en with pers := updPer (fun q => q.frameHeld) (fun q => { q with frameHeld := false, frameOpen := true }) s.en.pers } }

/-- Frames that wait are written or dropped, as far as the port and the ring allow. -/
def issueFrames (s : State) : State := forEach s.en.pers (fun _ s => issueFrame s) s

/-- Post a period's lanes and what was carried, or carry them on while FB was out of window at its close (R361, R362). -/
def postLanes (p : EnPer) (s : State) : EnPer × State :=
  if p.addr = 0 then (p, s)
  else
    let lanes := addLanes p.shares s.en.carry
    if p.fbOut then (p, { s with en := { s.en with carry := lanes } })
    else
      ({ p with lanes, postOpen := true, carried := !s.en.carry.isEmpty },
       dma { op := .add, addr := p.addr, beats := 33, laneMask := 0xFF, deadline := dueCode p.addr (some (p.due, 0)) s, data := lanes.flatMap (leBytes 8) }
         { s with en := { s.en with carry := [] } })

/-- Events of the ratios of a period (R358). -/
def rangeEvents (p : EnPer) (s : State) : State :=
  let out := p.rho.any ratioOut
  let s' := if out && !s.en.rangeWas then
      forEach ((List.range 4).filter (fun r => ratioOut (p.rho.getD r 0))) (fun r s => raise 0x0921 r (leBytes 2 (p.rho.getD r 0)) s) s
    else s
  { s' with en := { s'.en with rangeWas := out } }

/-- Firmware computes the shares of the oldest period whose contributions are complete (R356 to R358); they take effect at the
next stage edge that latches the results of firmware (R44, R359). -/
def execEnergyReconcile (s : State) : Host.Outcome State Fault Refusal :=
  match s.en.pers.find? (fun p => p.accDone && !p.reconciled) with
  | none => idle s
  | some p =>
    if !s.fwRuns then idle s
    else
      let parity := modelParity s && !p.dflt
      let s := if parity then
          raise 0x0913 0 [] { s with en := { s.en with
            modelDefault := true, pers := s.en.pers.map (fun q => if q.reconciled then q else { q with dflt := true }) } }
        else s
      let p := { p with dflt := p.dflt || parity }
      let at_ := (List.range 4).map (attributeRail p)
      let p := { p with reconciled := true, shares := lanesOf at_ p, rho := at_.map (fun x => x.2.2) }
      done (rangeEvents p { s with en := { s.en with pers := updPer (fun q => q.seq == p.seq) (fun _ => p) s.en.pers } })

/-- The shares of a period take effect: its post is issued and its frame waits to be written (R44, R361, R364). -/
def takeShares (p : EnPer) (s : State) : State :=
  let (p, s) := postLanes { p with taken := true, frameHeld := true } s
  { s with en := { s.en with pers := updPer (fun q => q.seq == p.seq) (fun _ => p) s.en.pers } }

/-- Step 4 of a stage edge that latches the results of firmware: the shares computed since take effect (R31, R44). -/
def enLatch (s : State) : State :=
  retirePers (issueFrames (forEach (s.en.pers.filter (fun p => p.reconciled && !p.taken)) takeShares s))

/-- The edge E + 8 of a period: what is not done is late, and a frame that FB still keeps back is dropped (R42, R359, R365). -/
def execFrameDeadlineExpiry (s : State) : Host.Outcome State Fault Refusal :=
  match s.en.pers.find? (fun p => !p.late && decide (p.due ≤ s.clk.stage)) with
  | none => idle s
  | some p =>
    lapse (fun s =>
      let s := { s with en := { s.en with pers := updPer (fun q => q.seq == p.seq) (fun q => { q with late := true }) s.en.pers } }
      let s := dlSet 6 (raiseMiss 0x0910 0 [] s)
      if p.frameHeld && !s.fbOk then
        retirePers (dropFrame 3 { s with en := { s.en with
          pers := updPer (fun q => q.seq == p.seq) (fun q => { q with frameHeld := false }) s.en.pers } })
      else s) s

/-- The oldest post completes: its lanes join the mirrors, or are carried to the next post (R361 to R363). -/
def execLedgerPostAck (st : DmaStatus) (s : State) : Host.Outcome State Fault Refusal :=
  match s.en.pers.find? (fun p => p.postOpen) with
  | none => idle s
  | some p =>
    let s := { s with en := { s.en with pers := updPer (fun q => q.postOpen) (fun q => { q with postOpen := false }) s.en.pers } }
    if st = .error then
      let total := (p.lanes.take 260).foldl (· + ·) 0
      done (retirePers (raise 0x0912 0 (leBytes 4 p.seq ++ leBytes 8 total)
        { s with en := { s.en with carry := addLanes p.lanes s.en.carry } }))
    else
      done (retirePers { s with en := { s.en with
        mirrors := s.en.mirrors.mapI (fun i m => (m + p.lanes.getD i 0) % 2 ^ 64), lastAck := p.seq } })

/-- The frame being written completes: HEAD advances and vector 3 is signalled, or it is dropped (R364, R365). -/
def execFrameWriteDone (st : DmaStatus) (s : State) : Host.Outcome State Fault Refusal :=
  match s.en.pers.find? (fun p => p.frameOpen) with
  | none => idle s
  | some p =>
    let (h, t) := ringOf s p
    let next := (h + 1) % max 1 p.ringCount
    let ok := st != .error
    let s := { s with en := { s.en with
      head := if ok && p.ring.isNone then next else s.en.head
      pers := (updPer (fun q => q.frameOpen) (fun q => { q with frameOpen := false }) s.en.pers).map (fun q =>
        if ok && q.ring == some (h, t) && q.ringAddr == p.ringAddr then { q with ring := some (next, t) } else q) } }
    let s := if ok then vector 3 { s with en := { s.en with dropped := 0 } } else dropFrame 2 s
    done (retirePers (issueFrames s))

/-! ### Commands (R355, R366, R367) -/

/-- The number of the first period that a setting written now governs. -/
def nextPeriod (s : State) : List Byte := leBytes 4 (s.clk.periodSeq + 1)

/-- The payload of ENERGY_SET_LEDGER OP 0x00 is legal (R366). -/
def ledgerLegal (l : List Byte) : Bool :=
  field l 0 1 == 0 && decide (field l 1 1 ≤ 1) && zeros l 2 2 && zeros l 4 4 && field l 8 8 % 64 == 0 && zeros l 16 8

/-- A post is in flight (R361, R366). -/
def postsOpen (s : State) : Bool := s.en.pers.any (fun p => p.postOpen)

/-- The setting of the ledger governs from the next period close (R366). -/
def applyLedger (addr : Nat) (zero : Bool) (s : State) : State :=
  { s with en := { s.en with addrNext := some (addr, zero || (match s.en.addrNext with | some (_, z) => z | none => false)) } }

/-- ENERGY_SET_LEDGER OP 0x00 (R360, R366). -/
def execEnergySetLedgerAddr (p : Packet) (s : State) : Host.Outcome State Fault Refusal :=
  inTurn p s fun s =>
  let l := p.payload
  command p 0x0901 [(l.length != 24, .badLength), (!ledgerLegal l, .badParam), (postsOpen s, .busyRetry)]
    (fun s => reply p 0x0901 .ok (nextPeriod s) (applyLedger (field l 8 8) (field l 1 1 == 1) s)) s

/-- The payload of ENERGY_SET_LEDGER OP 0x01 is legal (R366). -/
def ringLegal (l : List Byte) : Bool :=
  field l 0 1 == 1 && zeros l 1 3 && decide (2 ≤ field l 4 4) && decide (field l 4 4 ≤ 1024) && field l 8 8 % 4096 == 0 && zeros l 16 8

/-- The setting of the frame ring governs from the next period close (R366). -/
def applyFrameRing (addr count : Nat) (s : State) : State := { s with en := { s.en with ringNext := some (addr, count) } }

/-- ENERGY_SET_LEDGER OP 0x01 (R364, R366). -/
def execEnergySetFrameRing (p : Packet) (s : State) : Host.Outcome State Fault Refusal :=
  inTurn p s fun s =>
  let l := p.payload
  command p 0x0901 [(l.length != 24, .badLength), (!ringLegal l, .badParam)]
    (fun s => reply p 0x0901 .ok (nextPeriod s) (applyFrameRing (field l 8 8) (field l 4 4) s)) s

/-- The mirrors of a SEL of ENERGY_READ, in rail order (R360, R367). -/
def mirrorsOf (s : State) (sel : Nat) : List Nat := (List.range 4).map (fun r => s.en.mirrors.get (4 * sel + r))

/-- ENERGY_READ (R367). -/
def execEnergyRead (p : Packet) (s : State) : Host.Outcome State Fault Refusal :=
  inTurn p s fun s =>
  let l := p.payload
  command p 0x0902 [(l.length != 1, .badLength), (decide (65 < field l 0 1), .badParam)]
    (fun s =>
      let m := mirrorsOf s (field l 0 1)
      let sum := m.foldl (· + ·) 0
      reply p 0x0902 .ok (m.flatMap (leBytes 4) ++ leBytes 4 s.en.lastAck ++ leBytes 4 (sum / 2 ^ 32)) s) s

/-- The record of an ENERGY_MODEL_LOAD is legal (R354, R355). -/
def modelLegal (l : List Byte) : Bool := field l 54 1 == 1 && zeros l 55 9

/-- ENERGY_MODEL_LOAD: the record is written when accepted and governs from the next period (R355, R356). -/
def execEnergyModelLoad (p : Packet) (s : State) : Host.Outcome State Fault Refusal :=
  inTurn p s fun s =>
  let l := p.payload
  command p 0x0903 [(!p.indirect || l.length != 64, .badLength), (!modelLegal l, .badParam), (!s.fbOk, .badState)]
    (fun s =>
      let s := ramStore modelAddr l s
      reply p 0x0903 .ok (nextPeriod s) { s with
        led := { s.led with parityBad := s.led.parityBad.filter (fun a => decide (a < modelAddr) || decide (modelAddr + 64 ≤ a)) }
        en := { s.en with modelNew := true } }) s

/-! ### Registers of the accountant -/

/-- BRX_EN_STATUS. -/
def enStatusWord (s : State) : Nat :=
  (if s.en.addr != 0 then 1 else 0) + (if postsOpen s then 2 else 0) + (if s.en.modelDefault then 4 else 0)
    + if s.en.carry.isEmpty then 0 else 8

end Sys2Proof.Machine
end

