-- ==== Sys2Proof/Machine/Manifest.lean ====
section
/-! DEFINITION. The manifest engine: the image and its checks, the store and its prefetch, tile reads, the work of each
pace, divergence and the manifest commands (R216 to R240). -/

namespace Sys2Proof.Machine

/-! ### Sequences and slots (R221, R222) -/

/-- The block index of sequence `q`; none once the sequence has ended (R222). -/
def blockOf (m : Man) (q : Nat) : Option Nat :=
  if q < m.nblk then some q else if m.loopEn then some (m.loop + (q - m.nblk) % (m.nblk - m.loop)) else none

/-- Slot `b` of the store. -/
def manSlot (s : State) (b : Nat) : ManSlot := s.man.slots.get b

/-- Change slot `b` of the store. -/
def updSlot (b : Nat) (f : ManSlot → ManSlot) (s : State) : State := { s with man := { s.man with slots := s.man.slots.modify b f } }

/-- The sequence that covers stage `t`, if any (R222). -/
def seqOf (s : State) (t : Nat) : Option Nat :=
  if s.man.st == .running && decide (s.man.s0 ≤ t) then some ((t - s.man.s0) / 16) else none

/-- The first stage of sequence `q` (R222). -/
def firstStageOf (s : State) (q : Nat) : Nat := s.man.s0 + 16 * q

/-- Blocks stored (R239). -/
def blocksStored (s : State) : Nat := s.man.slots.count ManSlot.stored

/-- Fetch sequence `q` into its slot: 9,280 bytes (R216, R222, R223). -/
def fetchSeq (q : Nat) (deadline : Option (Nat × Nat)) (s : State) : State :=
  match blockOf s.man q with
  | none => s
  | some i =>
    dmaRead (s.man.addr + 1024 + 9280 * i) 145 64 deadline (updSlot (q % 14) (fun _ => { seq := some q, block := i }) s)

/-! ### Loading (R236) -/

/-- The store returns to Empty. -/
def manEmpty (s : State) : State :=
  { s with
    man := { s.man with st := .empty, load := none, hdrDone := false, s0 := 0, slots := Tab.replicate 14 {}, nblk := 0, loop := 0,
                        loopEn := false, stepMin := 0, freq := 0, unloadAt := none, endDone := false, lifts := [] }
    cl := s.cl.map (fun c => { c with m := { c.m with
      engaged := false, evs := [], ents := Tab.replicate 3 {} } }) }

/-- Reply data of MANIFEST_LOAD (R236). -/
def loadData (s : State) (result rule nblk block stage pace cluster tile : Nat) : List Byte :=
  [BitVec.ofNat 8 result, BitVec.ofNat 8 rule] ++ leBytes 2 nblk ++ leBytes 2 block
    ++ [BitVec.ofNat 8 stage, BitVec.ofNat 8 pace, BitVec.ofNat 8 cluster, BitVec.ofNat 8 tile, BitVec.ofNat 8 (blocksStored s)]

/-- The status of a RESULT of MANIFEST_LOAD (R236). -/
def loadStatus : Nat → Status
  | 0 => .ok | 1 => .checksumFail | 2 => .badParam | 3 => .badLength | 4 => .checksumFail | 5 => .checksumFail
  | 6 => .checksumFail | 7 => .badParam | 8 => .badParam | _ => .deadlineMissed

/-- A load fails: the store returns to Empty and the command is answered (R236). -/
def loadFail (result rule nblk block stage pace cluster tile : Nat) (s : State) : State :=
  match s.man.load with
  | none => s
  | some p =>
    let d := loadData s result rule nblk block stage pace cluster tile
    reply p 0x0501 (loadStatus result) d (manEmpty s)

/-- A load fails with no fault location but a block. -/
def loadFailAt (result nblk block : Nat) (s : State) : State := loadFail result 0 nblk block 0xFF 0xFF 0xFF 0xFF s

/-- The fields of a header hold accepted values (R216, R217). -/
def headerOk (h : List Byte) : Bool :=
  let nblk := field h 10 2
  let loop := field h 12 2
  let flags := field h 7 1
  field h 0 4 == 0x5A484D46 && field h 4 1 == 1 && field h 5 1 ≤ 80 && 4 ≤ field h 6 1 && field h 6 1 ≤ 32 && flags ≤ 1
    && field h 8 2 == 144 && 1 ≤ nblk && nblk ≤ 65534 && (if flags = 1 then loop < nblk else loop == 0)
    && zeros h 14 2 && zeros h 32 988

/-- MANIFEST_LOAD (R236). -/
def execManifestLoad (p : Packet) (s : State) : Host.Outcome State Fault Refusal :=
  inTurn p s fun s =>
  let l := p.payload
  let addr := field l 0 8
  let len := field l 8 4
  command p 0x0501
    [ (l.length != 16, .badLength), (addr % 64 != 0 || !zeros l 12 4, .badParam),
      (len == 0xFFFFFFFF || decide (len < 10304), .badLength),
      (!s.fbOk, .badState),
      (s.man.st == .loading, .busyRetry), (s.man.st == .running, .badState) ]
    (fun s =>
      let s := manEmpty s
      let s := { s with man := { s.man with st := .loading, addr, len, load := some p, due := replyDue p 64 s } }
      dmaRead addr 16 64 none (markEffect p .hardware s)) s

/-- The header arrives: it is accepted and the sequences to the 14th or the end are fetched, or the load fails (R217,
R236). -/
def execManifestHeaderArrival (data : Option (List Byte)) (s : State) : Host.Outcome State Fault Refusal :=
  if s.man.st != .loading || s.man.hdrDone then idle s
  else
    match data with
    | none => done (loadFailAt 8 0 0xFFFF s)
    | some d =>
      let h := (padTo 1024 d).take 1024
      let nblk := field h 10 2
      if (crc32c (h.take 1020)).toNat != field h 1020 4 then done (loadFailAt 1 0 0xFFFF s)
      else if !headerOk h then done (loadFailAt 2 nblk 0xFFFF s)
      else if s.man.len != 1024 + 9280 * nblk then done (loadFailAt 3 nblk 0xFFFF s)
      else
        let s := { s with man := { s.man with
          hdrDone := true, freq := field h 5 1, stepMin := field h 6 1, loopEn := field h 7 1 == 1, nblk, loop := field h 12 2 } }
        let s := sealTile 639 [] (sealTile 638 h s)
        done (forEach (List.range 14) (fun q => fetchSeq q none) s)

/-! ### Checks of a block (R225 to R227) -/

/-- The entry of cluster 16g + j for stage k of a tile (R216). -/
def tileEntry (tile : List Byte) (j k : Nat) : BitVec 32 := BitVec.ofNat 32 (field tile (4 * (16 * k + j)) 4)

/-- A violation of the ramp rules: rule, stage within the block and pace (R226, R227). -/
structure RampFault where
  rule : Nat
  stage : Nat
  pace : Nat
  deriving DecidableEq, Repr, Inhabited

/-- Rules 3 and 4 at one boundary: from the code before it, and the boundary of the last rise of at least STEP_MIN in a
stage without NOFIRE (R226). -/
def boundaryFault (stepMin : Nat) (prev : Option Nat) (rise : Option Nat) (w : BitVec 32) (cur b : Nat) : Option Nat × Option Nat :=
  match prev with
  | none => (none, rise)
  | some v =>
    let step := !entNoFire w && decide (v + 10 * stepMin ≤ cur)
    let close := match rise with | some r => decide (b - r < 4) | none => false
    if decide (640 < (cur - v) + (v - cur)) then (some 3, rise)
    else if step && close then (some 4, rise)
    else (none, if step then some b else rise)

/-- The paces of one stage under rules 3 and 4, from pace `p` on. -/
def stagePaces (stepMin : Nat) (w : BitVec 32) (k : Nat) : Nat → Nat → Option Nat → Option Nat →
    Option RampFault × Option Nat × Option Nat
  | 0, _, prev, rise => (none, prev, rise)
  | n + 1, p, prev, rise =>
    let cur := entCurrent w p
    match boundaryFault stepMin prev rise w cur (16 * k + p) with
    | (some r, rise) => (some { rule := r, stage := k, pace := p }, prev, rise)
    | (none, rise) => stagePaces stepMin w k n (p + 1) (some cur) rise

/-- The ramp rules over the entries of one cluster, stage by stage: its first violation, and its code at the last p15
(R226). -/
def rampCheck (stepMin : Nat) : Nat → List (BitVec 32) → Option Nat → Option Nat → Option RampFault × Option Nat
  | _, [], prev, _ => (none, prev)
  | k, w :: ws, prev, rise =>
    if entNone w then
      if entMalformed w then (some { rule := 2, stage := k, pace := 0xFF }, none)
      else rampCheck stepMin (k + 1) ws none rise
    else if 720 < entAmp w then (some { rule := 1, stage := k, pace := 0xFF }, none)
    else if entMalformed w then (some { rule := 2, stage := k, pace := 0xFF }, none)
    else
      match stagePaces stepMin w k 16 0 prev rise with
      | (some f, prev, _) => (some f, prev)
      | (none, prev, rise) => rampCheck stepMin (k + 1) ws prev rise

/-- The code of p15 of a cluster's last entry in the sequence before `q`, when that entry is stored and not NONE (R226). -/
def prevCode (s : State) (q n : Nat) : Option Nat :=
  if q = 0 then none
  else
    let b := manSlot s ((q - 1) % 14)
    if b.seq == some (q - 1) && b.stored && b.tileOk.get (n / 16) then b.p15.get n else none

/-- The entries of cluster `n` in a block, stage by stage. -/
def blockEntries (d : List Byte) (n : Nat) : List (BitVec 32) :=
  let tile := slice d (1024 * (n / 16)) 1024
  (List.range 16).map (tileEntry tile (n % 16))

/-- The code of p15 of a cluster's last entry; none for NONE. -/
def lastCode (d : List Byte) (n : Nat) : Option Nat :=
  let w := (blockEntries d n).getD 15 0
  if entNone w then none else some (entCurrent w 15)

/-- The trailer's verdict: the kind of a failure of R225 step 1, 0 when it passes. -/
def trailerKind (d : List Byte) (i : Nat) : Nat :=
  let t := slice d 9216 64
  if (crc32c (t.take 60)).toNat != field t 60 4 || !zeros t 40 20 then 1
  else if field t 36 4 != i then 4
  else 0

/-- Tile `g` of a block matches its TCRC (R225 step 2). -/
def tileCrcOk (d : List Byte) (g : Nat) : Bool := (crc32c (slice d (1024 * g) 1024)).toNat == field d (9216 + 4 * g) 4

/-- The clusters of the tiles given. -/
def clustersOfTiles (gs : List Nat) : List Nat := gs.flatMap (fun g => (List.range 16).map (fun j => 16 * g + j))

/-- Event data of FLT_MANIFEST_TILE (R225). -/
def tileData (kind block stage group : Nat) : List Byte :=
  [BitVec.ofNat 8 kind] ++ leBytes 2 block ++ leBytes 4 stage ++ [BitVec.ofNat 8 group]

/-- The first stage at whose opening edge something stored now stands stored: this stage in its edge cycle, else the next
(R223, R46). -/
def storedStage (s : State) : Nat := if s.clk.now = s.clk.stageStart then s.clk.stage else s.clk.stage + 1

/-- Store the tiles of a block into slot `b` (R221, R225). -/
def storeBlock (b : Nat) (d : List Byte) (good : List Nat) (ramp : List Nat) (s : State) : State :=
  let s := forEach good (fun g => sealTile (512 + 9 * b + g) (slice d (1024 * g) 1024)) s
  updSlot b (fun m => { m with
    stored := true, storedIn := storedStage s, tileOk := Tab.ofFn 9 (fun g => good.contains g), rampBad := ramp
    p15 := Tab.ofFn 144 (lastCode d) }) s

/-- A block arrives during MANIFEST_LOAD (R225, R226, R236). -/
def loadBlock (b q i : Nat) (d : List Byte) (s : State) : State :=
  let nb := s.man.nblk
  match trailerKind d i with
  | 1 => loadFailAt 4 nb i s
  | 4 => loadFailAt 6 nb i s
  | _ =>
    match (List.range 9).find? (fun g => !tileCrcOk d g) with
    | some g => loadFail 5 0 nb i 0xFF 0xFF 0xFF g s
    | none =>
      match (List.range 144).findSome? (fun n =>
          ((rampCheck s.man.stepMin 0 (blockEntries d n) (prevCode s q n) none).1).map (fun f => (n, f))) with
      | some (n, f) => loadFail 7 f.rule nb i f.stage f.pace n (n / 16) s
      | none =>
        let s := storeBlock b d (List.range 9) [] s
        let want := if s.man.loopEn then 14 else min 14 nb
        if blocksStored s = want then
          match s.man.load with
          | some p =>
            reply p 0x0501 .ok (loadData s 0 0 nb 0xFFFF 0xFF 0xFF 0xFF 0xFF) { s with man := { s.man with st := .loaded, load := none } }
          | none => s
        else s

/-- A block arrives while the manifest runs (R224 to R227). -/
def runBlock (b q i : Nat) (d : List Byte) (s : State) : State :=
  let first := firstStageOf s q
  match trailerKind d i with
  | 0 =>
    let good := (List.range 9).filter (tileCrcOk d)
    let s := forEach ((List.range 9).filter (fun g => !good.contains g)) (fun g => raise 0x0512 (9 * b + g) (tileData 2 i first g)) s
    let bad := (clustersOfTiles good).filterMap (fun n =>
      ((rampCheck s.man.stepMin 0 (blockEntries d n) (prevCode s q n) none).1).map (fun f => (n, f)))
    let s := forEach bad (fun x => raisePeriod 0x0520 x.1
      ([BitVec.ofNat 8 x.2.rule] ++ leBytes 2 i ++ [BitVec.ofNat 8 x.2.stage, BitVec.ofNat 8 x.2.pace])) s
    storeBlock b d good (bad.map Prod.fst) s
  | k => raise 0x0512 (9 * b) (tileData k i first 0xFF) (updSlot b (fun m => { m with condemned := true }) s)

/-- The block of a slot arrives and is checked, or its fetch is refused (R224, R225). -/
def execManifestBlockArrival (slot : Nat) (data : Option (List Byte)) (s : State) : Host.Outcome State Fault Refusal :=
  let b := manSlot s slot
  match b.seq with
  | none => idle s
  | some q =>
    if 14 ≤ slot || b.stored || b.refused || b.condemned then idle s
    else if s.man.st == .loading then
      match data with
      | none => done (loadFailAt 8 s.man.nblk b.block s)
      | some d => done (loadBlock slot q b.block (padTo 9280 d) s)
    else
      match data with
      | none =>
        done (raise 0x0513 slot (leBytes 2 b.block ++ leBytes 4 (firstStageOf s q)) (updSlot slot (fun m => { m with refused := true }) s))
      | some d => done (runBlock slot q b.block (padTo 9280 d) s)

/-- The reply deadline of a load passes with fetches incomplete (R236 RESULT 9). -/
def execManifestLoadTimeout (s : State) : Host.Outcome State Fault Refusal :=
  if s.man.st == .loading && decide (s.man.due ≤ s.clk.stage) then lapse (loadFailAt 9 s.man.nblk 0xFFFF) s else idle s

/-- A block is not stored by the edge opening its first stage − 2: FLT_MANIFEST_LATE for each cluster engaged for that stage
(R45, R223). -/
def execManifestLateExpiry (slot : Nat) (s : State) : Host.Outcome State Fault Refusal :=
  let b := manSlot s slot
  match b.seq with
  | none => idle s
  | some q =>
    let f := firstStageOf s q
    if 14 ≤ slot || s.man.st != .running || b.refused || b.lateDone || decide (s.clk.stage + 2 < f)
        || (b.stored && decide (b.storedIn + 2 ≤ f)) then idle s
    else
      lapse (fun s =>
        let s := updSlot slot (fun m => { m with lateDone := true }) s
        forEach (s.cl.places (fun _ c => engagedFor c.m f)) (fun n s => dlSet 4 (raiseMiss 0x0510 n [] s)) s) s

/-! ### Tile reads for S + 2 (R228) -/

/-- Why cluster `n` has no entry for stage `t` before its tile has been read; 0 when the tile can be read (R223, R224, R227,
R229, R240). -/
def entryReason (s : State) (t n : Nat) : Nat :=
  match seqOf s t with
  | none => 1
  | some q =>
    if (blockOf s.man q).isNone then 2
    else
      let b := manSlot s (q % 14)
      if b.seq == some q && b.condemned then 4
      else if b.seq != some q || b.refused || !b.stored || decide (t < b.storedIn + 2) then 3
      else if !b.tileOk.get (n / 16) then 4
      else if b.rampBad.contains n then 5
      else 0

/-- The entries move one stage on at an edge; that of S + 2 awaits its tile (R228). -/
def shiftEntries (s : State) : State :=
  let t := s.clk.stage + 2
  { s with cl := s.cl.mapI (fun n c =>
      let r := entryReason s t n
      { c with m := { c.m with ents := Tab.ofFn 3 (fun k => if k < 2 then c.m.ents.get (k + 1) else { word := none, why := if r = 0 then 3 else r }) } }) }

/-- The entry of a cluster as its tile was read for stage `t`. -/
def readEntry (s : State) (t : Nat) (tile : List Byte) (n : Nat) : ManEnt :=
  let r := entryReason s t n
  if r != 0 then { word := none, why := r }
  else
    let w := tileEntry tile (n % 16) ((t - s.man.s0) % 16)
    { word := some w, why := if entNone w then 2 else 0 }

/-- A read of one of the nine tiles that hold stage S + 2 completes: its sixteen entries are kept, or the tile is marked bad
(R228). -/
def execManifestTileReadDone (t : Nat) (upset : Bool) (s : State) : Host.Outcome State Fault Refusal :=
  let st := s.clk.stage + 2
  match seqOf s st with
  | none => idle s
  | some q =>
    let b := manSlot s (q % 14)
    let g := t % 9
    if 126 ≤ t || t / 9 != q % 14 || b.seq != some q || b.refused || !b.stored || decide (st < b.storedIn + 2) || !b.tileOk.get g then idle s
    else if tilePasses s (512 + t) upset && !tileBad s (512 + t) then
      let tile := tileBytes s (512 + t)
      done { s with cl := s.cl.mapI (fun n c =>
        if n / 16 = g then { c with m := { c.m with ents := c.m.ents.set 2 (readEntry s st tile n) } } else c) }
    else
      let s := updSlot (q % 14) (fun m => { m with tileOk := m.tileOk.set g false }) (markBad (512 + t) s)
      let s := { s with cl := s.cl.mapI (fun n c =>
        if n / 16 = g then { c with m := { c.m with ents := c.m.ents.set 2 { word := none, why := 4 } } } else c) }
      done (raise 0x0512 t (tileData 3 b.block st g) s)

/-! ### Stage edges (R223, R237, R238, R240) -/

/-- The manifest engine at a stage edge, the counter already in the new stage. -/
def manifestEdge (s : State) : State :=
  let st := s.clk.stage
  let s := { s with cl := s.cl.map (fun c =>
    let m := c.m
    let rejoin := (evsDue m st).any EngEv.rejoin
    { c with m := { m with
        engaged := engagedFor m st, evs := m.evs.filter (fun e => !decide (e.stage ≤ st))
        diverged := m.diverged && !rejoin, run := if rejoin then 0 else m.run, hist := if rejoin then [] else m.hist } }) }
  let s : State := { s with man := { s.man with
    liftMax := (s.man.lifts.filter (fun x => decide (x.1 ≤ st))).foldl (fun _ (x : Nat × Nat) => x.2) s.man.liftMax
    lifts := s.man.lifts.filter (fun x => !decide (x.1 ≤ st)) } }
  let due := s.man.rels.filter (fun r => decide (r.edge ≤ st))
  let s := { s with man := { s.man with rels := s.man.rels.filter (fun r => !decide (r.edge ≤ st)) } }
  let s := match s.man.unloadAt with
    | some e => if e ≤ st then manEmpty s else s
    | none => s
  let s := forEach due (fun r s => reply r.pkt 0x0503 .ok (leBytes 18 (bitsMask (s.cl.places (fun _ c => c.m.engaged)))) s) s
  let s := shiftEntries s
  if s.man.st != .running then s
  else
    let s := if decide (s.man.s0 < st) && (st - s.man.s0) % 16 == 0 then
        let q := (st - s.man.s0) / 16 - 1
        let s := updSlot (q % 14) (fun _ => {}) s
        fetchSeq (q + 14) (some (firstStageOf s (q + 14) - 2, 0)) s
      else s
    if !s.man.loopEn && !s.man.endDone && st == firstStageOf s s.man.nblk then
      raise 0x0521 0 (leBytes 4 (st - 1)) { s with man := { s.man with endDone := true } }
    else s

/-! ### The work of each pace (R230 to R234) -/

/-- Pace `p` that ends diverges for the cluster: M differs from F by more than a quarter of F and 0.50 A (R234). -/
def paceDiverges (f m : Nat) : Bool :=
  let d := (25 * f - 10 * m) + (10 * m - 25 * f)
  decide (max (25 * f) 2000 < 4 * d)

/-- The divergence test of the pace that ends (R234). -/
def divergence (n : Nat) (s : State) : State :=
  let c := s.cluster n
  if c.m.diverged then s
  else if !c.m.served || !paceDiverges c.m.fc c.g.cur then
    s.updCl n (fun c => { c with m := { c.m with run := 0, hist := [] } })
  else
    let hist := (c.m.fc, c.g.cur) :: c.m.hist
    let run := c.m.run + 1
    let s := s.updCl n (fun c => { c with m := { c.m with run, hist, divPaces := min 1023 (c.m.divPaces + 1) } })
    if 4 ≤ run then
      let s := s.updCl n (fun c => { c with
        m := { c.m with diverged := true, lift := 0, liftLeft := 0, ff := 0 }
        b := { c.b with fcAt := none } })
      raise 0x0511 n ((hist.reverse.flatMap (fun x => leBytes 2 x.1)) ++ (hist.reverse.flatMap (fun x => leBytes 2 x.2))) s
    else s

/-- NOFIRE of the stage that holds the pace `j` paces after the present one. -/
def noFireAfter (s : State) (c : Cluster) (j : Nat) : Bool :=
  match entryAt c.m ((s.clk.pace + j) / 16) with
  | some w => entNoFire w
  | none => false

/-- A rise from one forecast code to the next is a forecast step (R230). -/
def isStep (s : State) (a b : Nat) : Bool := decide (a + 10 * s.man.stepMin ≤ b)

/-- I_ff of a forecast step, in 25 mA (R233). -/
def fireCurrent (a b : Nat) : Nat := clampN 80 640 (b - a)

/-- The results for one cluster at cycle 0 of a pace, from what was computed in the pace before: served state, FF, the
forecast fire of this boundary, and lift and arming for the next (R230 to R233). -/
def manifestCluster (n : Nat) (s : State) : State :=
  let c := s.cluster n
  let was := c.m.served
  let f0 := c.m.fc
  let on := servedNow s c
  let f1 := if on then c.m.fcNext else 0
  let f2 := c.m.fcAfter
  let fire := was && on && isStep s f0 f1 && !noFireAfter s c 0
  let next := on && forecastStage s c ((s.clk.pace + 1) / 16) && isStep s f1 f2
  let arm := next && !noFireAfter s c 1
  let left := c.m.liftLeft - 1
  let lift0 := if on && decide (0 < left) then c.m.lift else 0
  let l := min s.man.liftMax (ceilDiv (f2 - f1) 100)
  let s := s.updCl n (fun c => { c with
    m := { c.m with
      served := on, fc := f1, ff := if on then min 255 ((2 * f1 + c.k.live) / (2 * max 1 c.k.live)) else 0
      lift := if next then max lift0 l else lift0
      liftLeft := if next then 5 else if on then left else 0 }
    b := { c.b with fcAt := if fire then some (fireCurrent f0 f1) else none } })
  let s := forecastFire n s
  if arm then
    let s := s.updCl n (fun c => { c with b := { c.b with fcAt := some (fireCurrent f1 f2) } })
    if (s.cluster n).b.st == .ready then soonIn 1 (.unpark (n % 12)) s else s
  else s

/-- Clusters that have stopped being served in this cycle lose F, FF, lift and forecast fire in it (R230, R232, R235). -/
def unserve (s : State) : State :=
  { s with cl := s.cl.map (fun c =>
      if c.m.served && !servedNow s c then
        { c with m := { c.m with served := false, fc := 0, ff := 0, lift := 0, liftLeft := 0 }, b := { c.b with fcAt := none } }
      else c) }

/-- F of the two paces ahead, computed in the present pace at the code in force (R220, R230). -/
def computeAhead (s : State) (c : Cluster) : Cluster :=
  let at_ (j : Nat) : Nat := forecastAt s c ((s.clk.pace + j) / 16) ((s.clk.pace + j) % 16)
  { c with m := { c.m with fcNext := at_ 1, fcAfter := at_ 2 } }

/-- The manifest engine at cycle 0 of a pace. -/
def manifestPace (s : State) : State :=
  let s := forEach (List.range 144) divergence s
  let s := forEach (List.range 144) manifestCluster s
  { s with cl := s.cl.map (computeAhead s) }

/-- The guardband terms in force (R96, R204, R229). -/
def guards (s : State) : State :=
  { s with cl := s.cl.map (fun c => { c with v := { c.v with g25 := guardEngaged s c && blwArmed c } }) }

/-! ### MANIFEST_ENGAGE, MANIFEST_RELEASE, MANIFEST_STATUS (R237 to R239) -/

/-- The payload of MANIFEST_ENGAGE is legal, S_e being the stage in which it takes effect (R237). -/
def engageLegal (se : Nat) (l : List Byte) : Bool :=
  let flags := field l 18 1
  let lift := field l 19 1
  field l 0 18 != 0 && flags ≤ 1 && (lift ≤ 2 || (lift == 3 && flags == 0)) && zeros l 20 4 && zeros l 30 2
    && (if flags = 1 then decide (se + 4 ≤ field l 24 6) else field l 24 6 == 0)

/-- The state checks of MANIFEST_ENGAGE (R237). -/
def engageChecks (s : State) (setStart : Bool) : List (Bool × Status) :=
  [ (s.man.st == .empty || s.man.st == .loading, .badState),
    (setStart && s.man.st == .running, .badState), (!setStart && s.man.st == .loaded, .badState) ]

/-- The changes that a legal MANIFEST_ENGAGE makes (R237, R246). -/
def engageActs (l : List Byte) : List Act :=
  (maskBits 144 (field l 0 18)).map (fun n => .engage n (field l 18 1 == 1) (field l 19 1) (field l 24 6))

/-- A value of LIFT_MAX waits for its stage; the one of a list of clusters waits once (R237). -/
def liftAt (stage lift : Nat) (s : State) : State :=
  if (s.man.lifts.filter (fun x => x.1 == stage)).getLast? == some (stage, lift) then s else { s with man := { s.man with lifts := insertAt Prod.fst (stage, lift) s.man.lifts } }

/-- An engagement or release of a cluster waits for its edge (R237, R238). -/
def engageAt (e : EngEv) (n : Nat) (s : State) : State :=
  s.updCl n (fun c => { c with m := { c.m with evs := insertAt EngEv.stage e c.m.evs } })

/-- One cluster is engaged from S0, the first of a start setting S0, or from J (R237). -/
def applyEngage (se n : Nat) (setStart : Bool) (lift start : Nat) (s : State) : State :=
  if setStart then
    let s := if s.man.st == .loaded then
        liftAt start lift { s with man := { s.man with st := .running, s0 := start, endDone := false } }
      else s
    engageAt { stage := start, on := true } n s
  else
    let s := if lift ≤ 2 then liftAt (se + 3) lift s else s
    engageAt { stage := se + 3, on := true, rejoin := true } n s

/-- Reply data of MANIFEST_ENGAGE (R237). -/
def engageData (s : State) : List Byte :=
  leBytes 18 (bitsMask (s.cl.places (fun _ c => c.m.engaged || c.m.evs.any EngEv.on))) ++ leBytes 6 s.man.s0

/-- MANIFEST_ENGAGE: the clusters named are engaged from S0 or J, and the reply is written at once (R237). -/
def execManifestEngage (p : Packet) (s : State) : Host.Outcome State Fault Refusal :=
  inTurn p s fun s =>
  let l := p.payload
  command p 0x0502
    ([(l.length != 32, .badLength), (!engageLegal s.clk.stage l, .badParam)] ++ engageChecks s (field l 18 1 == 1))
    (fun s =>
      let s := forEach (engageActs l) (fun a s => match a with
        | .engage n st lift start => applyEngage s.clk.stage n st lift start s
        | _ => s) s
      reply p 0x0502 .ok (engageData s) s) s

/-- The payload of MANIFEST_RELEASE is legal (R238). -/
def releaseLegal (l : List Byte) : Bool :=
  let flags := field l 18 1
  flags ≤ 1 && zeros l 19 5 && (if flags = 1 then field l 0 18 == 0 else field l 0 18 != 0)

/-- The state checks of MANIFEST_RELEASE (R238). -/
def releaseChecks (s : State) : List (Bool × Status) :=
  [(s.man.st == .empty, .badState), (s.man.st == .loading, .busyRetry)]

/-- The changes that a legal MANIFEST_RELEASE makes: every cluster with UNLOAD (R238, R246). -/
def releaseActs (l : List Byte) : List Act :=
  if field l 18 1 = 1 then (List.range 144).map (fun n => .release n true)
  else (maskBits 144 (field l 0 18)).map (fun n => .release n false)

/-- One cluster is released: from the edge opening S_e + 2 it is not engaged (R238). -/
def applyRelease (se n : Nat) (unload : Bool) (s : State) : State :=
  let e := se + 2
  let s := if unload then { s with man := { s.man with unloadAt := some e } } else s
  engageAt { stage := e } n s

/-- MANIFEST_RELEASE: the reply is written at E (R238). -/
def execManifestRelease (p : Packet) (s : State) : Host.Outcome State Fault Refusal :=
  inTurn p s fun s =>
  let l := p.payload
  command p 0x0503
    ([(l.length != 24, .badLength), (!releaseLegal l, .badParam)] ++ releaseChecks s)
    (fun s =>
      let se := s.clk.stage
      let s := forEach (releaseActs l) (fun a s => match a with
        | .release n u => applyRelease se n u s
        | _ => s) s
      markEffect p .hardware { s with man := { s.man with rels := s.man.rels ++ [{ pkt := p, edge := se + 2 }] } }) s

/-- The block index of the stage in force; 0xFFFF before S0 or beyond the end (R239, R240). -/
def blockInForce (s : State) : Nat :=
  match seqOf s s.clk.stage with
  | some q => (blockOf s.man q).getD 0xFFFF
  | none => 0xFFFF

/-- Reply data of MANIFEST_STATUS (R239). -/
def manifestData (s : State) : List Byte :=
  [BitVec.ofNat 8 s.man.st.code, if s.man.loopEn then 1 else 0] ++ leBytes 2 s.man.nblk ++ leBytes 2 (blockInForce s)
    ++ leBytes 6 s.man.s0
    ++ [BitVec.ofNat 8 (blocksStored s), BitVec.ofNat 8 (s.cl.count (fun c => c.m.engaged)),
        BitVec.ofNat 8 (s.cl.count (fun c => forecastStage s c 0)), BitVec.ofNat 8 (s.cl.count (fun c => c.m.diverged))]

/-- MANIFEST_STATUS (R239). -/
def execManifestStatus (p : Packet) (s : State) : Host.Outcome State Fault Refusal :=
  inTurn p s fun s =>
  command p 0x0504 [(p.payload.length != 0, .badLength)] (fun s => reply p 0x0504 .ok (manifestData s) s) s

end Sys2Proof.Machine
end

