-- ==== Sys2Proof/Machine/Thermal.lean ====
section
/-! DEFINITION. Thermal protection: the diode, the map, warning and throttle, the trip and its restart, and the thermal
commands (R339 to R351). -/

namespace Sys2Proof.Machine

/-! ### The map (R341, R342) -/

/-- The neighbours of a cluster in the grid of twelve by twelve (R3, R342). -/
def neighbours (n : Nat) : List Nat :=
  (if n % 12 = 0 then [] else [n - 1]) ++ (if n % 12 = 11 then [] else [n + 1])
    ++ (if n < 12 then [] else [n - 12]) ++ (if n < 132 then [n + 12] else [])

/-- θ_n in 0.001 °C/W (R341). -/
def ThermModel.thetaOf (m : ThermModel) (n : Nat) : Nat := m.theta.getD n 600

/-- The rise of one cluster after a stage, in 1/65,536 °C: towards θ × p + κ × the neighbours' mean, by 10.24 µs ÷ τ (R342).
The stage mean is a sum over sixteen paces in 10 mA; θ × V × I is then in units of 2.5 × 10^−9 ÷ 16 °C. -/
def riseOf (m : ThermModel) (c : Cluster) (n : Nat) (old : Nat → Int) : Int :=
  let nb := neighbours n
  let k := nb.length
  let p : Int := if c.s.st == .dormant then 0 else (1200 + 5 * c.v.sp.cur) * (c.g.means.headD 0 : Nat)
  let den : Nat := 6400000000 * 256 * k
  let tgt : Int := (m.thetaOf n : Int) * p * 65536 * 256 * k + (m.kappa : Int) * (nb.foldl (fun a j => a + old j) 0) * 6400000000
  old n + roundDiv ((tgt - old n * den) * 1024) (den * 10000 * max 1 m.tau)

/-- The four clusters about the diode (R342). -/
def diodeClusters : List Nat := [65, 66, 77, 78]

/-- Four times ΔT_D in 1/65,536 °C. -/
def riseAtDiode (s : State) : Int := diodeClusters.foldl (fun a n => a + (s.cluster n).rise) 0

/-- T̂_n in 1/16 °C (R342). -/
def mapTemp (s : State) (n : Nat) : Int := s.therm.temp + (4 * (s.cluster n).rise - riseAtDiode s + 8192) / 16384

/-- T_hot and HOT_CLUSTER (R342). -/
def hotOf (s : State) : Int × Nat :=
  (s.cl.places (fun _ c => c.s.st != .dormant)).foldl (fun (b : Int × Nat) n =>
    let t := mapTemp s n
    if b.1 < t then (t, n) else b) (s.therm.temp, 255)

/-- TEMP_d by estimate while the sensor is broken and its trip is not armed: the last good result plus the rise at the diode
since (R349). -/
def estimateTemp (s : State) : State :=
  if s.therm.sensorBad && !s.sys.armSensorTrip then
    { s with therm := { s.therm with temp := s.therm.lastGood + (riseAtDiode s - s.therm.riseGood + 8192) / 16384 } }
  else s

/-- The trip sensor's readings are replaced by an estimate (R349). -/
def onEstimate (s : State) : Bool := s.therm.sensorBad && !s.sys.armSensorTrip

/-! ### Warning and throttle at a stage edge (R343 to R346) -/

/-- WARN at a stage edge (R343, R344, R349). -/
def warnEdge (s : State) : State :=
  let t := s.therm
  let on := onEstimate s || decide ((16 * t.warnC : Int) ≤ t.hot) || (t.warn && decide (16 * ((t.warnC : Int) - 3) ≤ t.hot))
  let s' := { s with therm := { t with warn := on } }
  if on && !t.warn then raisePeriod 0x0820 0 (leBytes 2 (code2 16 t.hot) ++ [BitVec.ofNat 8 t.hotCl]) s' else s'

/-- THROT at a stage edge; its assertion is a throttle request and starts the grace (R343, R345, R346, R349). -/
def throtEdge (s : State) : State :=
  let t := s.therm
  let c : Int := (t.throtC : Int) - if onEstimate s then 10 else 0
  let on := decide (16 * c ≤ t.hot) || (t.throt && decide (16 * (c - 5) ≤ t.hot))
  let s' := { s with therm := { t with throt := on } }
  if on && !t.throt then
    let start := !t.enforcing && t.graceLeft == 0 && t.graceDue.isNone
    raise 0x0811 t.hotCl
      (leBytes 2 (code2 16 t.hot) ++ leBytes 2 (code2 16 t.temp) ++ [BitVec.ofNat 8 t.hotCl, BitVec.ofNat 8 t.ceil] ++ leBytes 2 t.grace)
      (if start then { s' with therm := { s'.therm with graceLeft := t.grace, graceAt := s.clk.stage } } else s')
  else s'

/-- The thermal unit in the edge cycle of a stage: new thresholds, the map, T_hot, WARN and THROT (R342 to R345, R350). -/
def thermalEdge (s : State) : State :=
  let s := match s.therm.edgeCfg with
    | some (w, h) => { s with therm := { s.therm with warnC := w, throtC := h, edgeCfg := none } }
    | none => s
  let old := fun n => (s.cluster n).rise
  let s := { s with cl := s.cl.mapI (fun n c => { c with rise := riseOf s.therm.model c n old }) }
  let s := estimateTemp s
  let (hot, cl) := hotOf s
  throtEdge (warnEdge { s with therm := { s.therm with hot, hotCl := cl } })

/-- The thermal unit at a period close: grace and enforcement count (R345, R346), and so does the time with every cluster
Dormant (R340). A request of the edge cycle itself belongs to the period that opens there (R48). -/
def thermalPeriod (s : State) : State :=
  let t := s.therm
  let dormant := !t.awake && s.cl.all (fun c => c.s.st == .dormant)
  let counts := t.graceAt != s.clk.stage
  { s with therm := { t with
    graceLeft := if counts then t.graceLeft - 1 else t.graceLeft
    graceDue := if t.graceLeft = 1 && counts then some s.clk.stage else t.graceDue
    ceilPers := if t.enforcing then min 10 (t.ceilPers + 1) else 0
    dormantPers := if dormant then min 100 (t.dormantPers + 1) else 0
    awake := false } }

/-- A pace in which a cluster is not Dormant is noted: its period is no period with every cluster Dormant (R340). -/
def noteAwake (s : State) : State :=
  if s.therm.awake || s.cl.all (fun c => c.s.st == .dormant) then s else { s with therm := { s.therm with awake := true } }

/-- The grace expires at the first stage edge after its last period close: enforcement begins if THROT still holds (R345,
R346). -/
def execGraceExpiry (s : State) : Host.Outcome State Fault Refusal :=
  match s.therm.graceDue with
  | none => idle s
  | some e =>
    if s.clk.p0Pending || decide (s.clk.stage ≤ e) then idle s
    else if !s.therm.throt then done { s with therm := { s.therm with graceDue := none } }
    else
      let c := s.seq.level - 1
      done (raise 0x0822 0 [BitVec.ofNat 8 c]
        { s with therm := { s.therm with graceDue := none, ceil := c, enforcing := true, ceilPers := 0 } })

/-- Every 10 periods of enforcement the ceiling moves one level (R346). -/
def execThermalCeilingStep (s : State) : Host.Outcome State Fault Refusal :=
  let t := s.therm
  if !t.enforcing || decide (t.ceilPers < 10) then idle s
  else if t.throt then done { s with therm := { t with ceil := t.ceil - 1, ceilPers := 0 } }
  else if 15 ≤ t.ceil + 1 then
    done (raise 0x0821 0 [] { s with therm := { t with ceil := 15, enforcing := false, ceilPers := 0 } })
  else done { s with therm := { t with ceil := t.ceil + 1, ceilPers := 0 } }

/-! ### Diode results (R339, R340, R347 to R349) -/

/-- TEMP_d without OFS, in 1/16 °C, from D in µV (R339). -/
def rawTemp (gain : Nat) (d : Int) : Int := (d * gain + 2 ^ 18) / 2 ^ 19 - 4370

/-- The pads are forced off as the trip is asserted (R58, R347). -/
def forcePads (s : State) : State := { s with phases := s.phases.map (fun p => { p with pwm := false, en := false }) }

/-- The always-on island asserts the trip (R347). -/
def assertTrip (s : State) : State :=
  if s.therm.trip then s
  else forcePads { s with therm := { s.therm with
    trip := true, tripSeen := false, pinLow := true, trips := min 65535 (s.therm.trips + 1), maxTemp := s.therm.temp
    coolRun := 0, tripRun := 0, release := false, restart := 0 } }

/-- FLT_THERM_SENSOR, once the control island is up (R349). -/
def tellSensor (s : State) : State :=
  if s.islandUp then raise 0x0812 0 [] { s with therm := { s.therm with sensorTell := false } }
  else { s with therm := { s.therm with sensorTell := true } }

/-- The runs of broken results and of good ones (R349). -/
def judgeSensor (broken : Bool) (s : State) : State :=
  let t := s.therm
  let bad := if broken then min 2 (t.badRun + 1) else 0
  let good := if broken then 0 else min 16 (t.goodRun + 1)
  let s := { s with therm := { t with badRun := bad, goodRun := good } }
  if bad = 2 && !t.sensorBad then tellSensor { s with therm := { s.therm with sensorBad := true } }
  else if good = 16 && t.sensorBad then { s with therm := { s.therm with sensorBad := false } }
  else s

/-- A diode result: temperature, calibration, broken sensor, trip and release (R80, R339, R340, R347 to R350). -/
def diodeResult (dUv : Int) (vf : Int) (s : State) : State :=
  let broken := decide (dUv < 40000) || decide (95000 < dUv) || decide (vf < 250) || decide (900 < vf)
  let first := !s.therm.first
  let t := s.therm
  let t := match t.resCfg with
    | some (a, b) => { t with tripC := a, restC := b, resCfg := none }
    | none => t
  let t := match t.ofsNext with
    | some o => { t with ofs := o, ofsNext := none }
    | none => t
  let raw := rawTemp s.fuses.diodeGain dUv
  let t := if broken then t else { t with
    temp := raw + t.ofs, lastGood := raw + t.ofs, riseGood := riseAtDiode s
    cal := t.cal.map (fun k => if k.n < 64 then { k with sum := k.sum + raw, n := k.n + 1 } else k) }
  let t := { t with
    first := true, pinLow := if first then t.trip else t.pinLow
    nextRes := (if first then s.clk.now else t.nextRes) + 100000 }
  let s := estimateTemp (judgeSensor broken { s with therm := t })
  let t := s.therm
  let hotNow := !broken && !onEstimate s && decide ((16 * t.tripC : Int) ≤ t.temp)
  let cool := !broken && decide (t.temp < 16 * t.restC)
  let s := { s with therm := { t with
    tripRun := if hotNow then min 2 (t.tripRun + 1) else 0
    coolRun := if t.trip && cool then min 16 (t.coolRun + 1) else 0
    maxTemp := if t.trip then max t.maxTemp t.temp else t.maxTemp } }
  if !s.therm.trip && (s.therm.tripRun = 2 || (s.therm.sensorBad && s.sys.armSensorTrip)) then assertTrip s
  else if s.therm.trip && s.therm.coolRun = 16 then
    { s with therm := { s.therm with trip := false, tripSeen := false, pinLow := false, coolRun := 0, release := true } }
  else s

/-- DIODE_RESULT: results come every 100 µs from the first on, which comes when the always-on island gives it (R80, R339). -/
def execDiodeResult (dUv : Int) (vf : Int) (s : State) : Host.Outcome State Fault Refusal :=
  if !s.sys.porHigh then idle s
  else if s.therm.first then atTime s.therm.nextRes (diodeResult dUv vf) s
  else done (diodeResult dUv vf s)

/-! ### The trip in the Bruxon domain, and the restart (R347, R348) -/

/-- A cluster is taken to Dormant without retention (R347). -/
def tripCluster (n : Nat) (s : State) : State :=
  (powerOff n s).updCl n (fun c => { c with
    s := { c.s with st := .dormant, req := .dormant, ack := .dormant, trans := none, hsFault := false, hsEdge := none, search := false }
    w := { c.w with pending := false, ramping := false } })

/-- Starts and stops in progress end with BAD_STATE (R347). -/
def endTracking (s : State) : State :=
  let starts := s.starts
  let stops := s.stops
  let s := forEach starts (fun t s => answerStart t .badState 0 0 s) { s with starts := [], stops := [] }
  forEach stops (fun t s => match t.pkt with
    | some p => reply p 0x0202 .badState [] s
    | none => s) s

/-- What Bruxon does in the first cycle that samples the trip (R347). -/
def tripActs (s : State) : State :=
  let lost := s.cl.any (fun c => c.s.st != .dormant)
  let s := endTracking s
  let s := forEach (List.range 144) tripCluster s
  let s := bellowsOff (forEach [0, 1, 2, 3] railOff s)
  let s := { s with
    therm := { s.therm with tripSeen := true, contextLost := s.therm.contextLost || lost }
    feed := { s.feed with chipDrone := false } }
  raise 0x0810 0 [] (if lost then noteSet 0x600 11 s else s)

/-- The target a rail restarts to: the one in force before the trip, or its default where it had none (R348). -/
def restartTarget (s : State) (r : Nat) : Nat :=
  if r = 0 then s.feed.floor else if (s.rail r).target = 0 then railDefault r else (s.rail r).target

/-- A tracking start of the restart (R348). -/
def restartStart (mask : Nat) (s : State) : TrackStart :=
  { mask, coincident := false, pkt := none, restart := true
    goal := (List.range 4).map (fun r => if mask.testBit r then restartTarget s r else 0) }

/-- After release the restart begins with AX, if the control island is powered and power is requested; the ceiling and any
grace are cleared, and WARN and THROT are judged afresh (R348). -/
def execRestartToStandbyReady (s : State) : Host.Outcome State Fault Refusal :=
  if !s.therm.release then idle s
  else if !s.islandUp || !s.sys.pwrReq || s.sys.descent != .none then done { s with therm := { s.therm with release := false } }
  else
    done { s with
      starts := s.starts ++ [restartStart 8 s]
      therm := { s.therm with release := false, restart := 1, ceil := 15, enforcing := false, ceilPers := 0, graceLeft := 0
                              graceDue := none, warn := false, throt := false } }

/-- EV_THERM_RESTARTED ends the restart (R348). -/
def restartEnd (result mask : Nat) (s : State) : State :=
  raise 0x0823 0 [BitVec.ofNat 8 result, BitVec.ofNat 8 mask]
    { s with therm := { s.therm with restart := 0 }, starts := s.starts.filter (fun t => !t.restart) }

/-- The rails that the present step of the restart raises. -/
def restartRails (s : State) : List Nat := if s.therm.restart = 1 then [3] else [0, 1, 2]

/-- The rails at which the present step of the restart has failed: a pre-check has ended it, or a window fault stands
(R348). -/
def restartFailed (s : State) : List Nat :=
  if s.starts.any (fun t => t.restart) then (restartRails s).filter (fun r => (s.rail r).windowFault)
  else (restartRails s).filter (fun r => !(s.rail r).enabled || (s.rail r).windowFault)

/-- AX is in window: CF, SA and FB start; once they are in window the restart ends; a failure stops it at its step (R348). -/
def execRestartCoreRails (s : State) : Host.Outcome State Fault Refusal :=
  if s.therm.restart = 0 then idle s
  else if !(restartFailed s).isEmpty then done (restartEnd 1 (bitsMask (restartFailed s)) s)
  else if s.starts.any (fun t => t.restart && t.phase != .settle) || !(restartRails s).all (fun r => (s.rail r).inWindow) then idle s
  else if s.therm.restart = 1 then
    let s := { s with starts := s.starts.filter (fun t => !t.restart) }
    done { s with starts := s.starts ++ [restartStart 7 s], therm := { s.therm with restart := 2 } }
  else done (restartEnd 0 0 s)

/-! ### Commands (R340, R350) -/

/-- The thresholds as last written: WARN, THROT, TRIP and RESTART. -/
def thermSet (s : State) : Nat × Nat × Nat × Nat :=
  let e := s.therm.edgeCfg.getD (s.therm.warnC, s.therm.throtC)
  let r := s.therm.resCfg.getD (s.therm.tripC, s.therm.restC)
  (e.1, e.2, r.1, r.2)

/-- A field of THERMAL_CONFIG: as written when its mask bit is set, which must be in range, else 0 (R350). -/
def thermField (l : List Byte) (bit at_ k lo hi : Nat) : Bool :=
  if (field l 1 1).testBit bit then decide (lo ≤ field l at_ k) && decide (field l at_ k ≤ hi) else field l at_ k == 0

/-- The set that THERMAL_CONFIG OP 0x00 leaves. -/
def thermNew (s : State) (l : List Byte) : Nat × Nat × Nat × Nat :=
  let (w, h, t, r) := thermSet s
  let m := field l 1 1
  (if m.testBit 0 then field l 2 1 else w, if m.testBit 1 then field l 3 1 else h,
   if m.testBit 2 then field l 4 1 else t, if m.testBit 3 then field l 5 1 else r)

/-- THERMAL_CONFIG OP 0x00 is legal (R343, R350). -/
def thermLegal (s : State) (l : List Byte) : Bool :=
  let (w, h, t, r) := thermNew s l
  field l 0 1 == 0 && field l 1 1 != 0 && decide (field l 1 1 < 32) && thermField l 0 2 1 60 110 && thermField l 1 3 1 70 115
    && thermField l 2 4 1 90 118 && thermField l 3 5 1 40 90 && thermField l 4 6 2 1 1000 && zeros l 8 8
    && decide (w < h) && decide (h < t) && decide (r + 20 ≤ t)

/-- THERMAL_CONFIG OP 0x00: WARN and THROT from the next stage edge, TRIP and RESTART from the
next result, GRACE for graces started after it (R350). -/
def execThermalThresholds (p : Packet) (s : State) : Host.Outcome State Fault Refusal :=
  inTurn p s fun s =>
  let l := p.payload
  command p 0x0801 [(l.length != 16, .badLength), (!thermLegal s l, .badParam)]
    (fun s =>
      let (w, h, t, r) := thermNew s l
      let m := field l 1 1
      let s := { s with therm := { s.therm with
        edgeCfg := if m.testBit 0 || m.testBit 1 then some (w, h) else s.therm.edgeCfg
        resCfg := if m.testBit 2 || m.testBit 3 then some (t, r) else s.therm.resCfg
        grace := if m.testBit 4 then field l 6 2 else s.therm.grace } }
      defer p 0x0801 [] s) s

/-- Reply data of THERMAL_CONFIG OP 0x00 (R350). -/
def thermData (s : State) : List Byte :=
  let (w, h, t, r) := thermSet s
  [BitVec.ofNat 8 w, BitVec.ofNat 8 h, BitVec.ofNat 8 t, BitVec.ofNat 8 r] ++ leBytes 2 s.therm.grace

/-- THERMAL_CONFIG OP 0x01: a system calibration begins, in Standby-Ready with every cluster Dormant for 100 periods (R340,
R350). -/
def execThermalCalibrate (p : Packet) (s : State) : Host.Outcome State Fault Refusal :=
  inTurn p s fun s =>
  let l := p.payload
  let tref := signed 16 (field l 2 2)
  command p 0x0801
    [ (l.length != 16, .badLength),
      (field l 0 1 != 1 || field l 1 1 != 0 || decide (tref < -640) || decide (2000 < tref) || !zeros l 4 12, .badParam),
      (s.sys.chip != .standbyReady || decide (s.therm.dormantPers < 100) || s.therm.cal.isSome, .badState) ]
    (fun s => setDue p (replyDue p 1024 s) (markEffect p .hardware { s with therm := { s.therm with cal := some { pkt := p, tref } } })) s

/-- After 64 results the offset is computed, and applied at the next result or rejected (R340). -/
def execThermalCalDone (s : State) : Host.Outcome State Fault Refusal :=
  match s.therm.cal with
  | none => idle s
  | some k =>
    if k.n < 64 then idle s
    else
      let o := k.tref - (k.sum + 32) / 64
      let ok := decide (-256 ≤ o) && decide (o ≤ 256)
      let s := { s with therm := { s.therm with cal := none, ofsNext := if ok then some o else s.therm.ofsNext } }
      done (reply k.pkt 0x0801 .ok ([if ok then 0 else 1] ++ leBytes 2 (code2 16 (if ok then o else s.therm.ofs))) s)

/-! ### Registers (R351) -/

/-- BRX_THERM_STATUS. -/
def thermStatusWord (s : State) : Nat :=
  let t := s.therm
  bitsMask ((if t.warn then [0] else []) ++ (if t.throt then [1] else []) ++ (if t.trip then [2] else [])
    ++ (if t.restart != 0 then [3] else []) ++ (if t.sensorBad then [4] else []) ++ (if t.mapDefault then [5] else [])
    ++ (if t.enforcing then [10] else []) ++ (if t.contextLost then [11] else [])) + 64 * t.ceil + 65536 * t.hotCl

/-- BRX_THERM_TEMP. -/
def thermTempWord (s : State) : Nat := code2 16 s.therm.temp + 65536 * code2 16 s.therm.hot

/-- BRX_THERM_CFG. -/
def thermCfgWord (s : State) : Nat := s.therm.warnC + 256 * s.therm.throtC + 65536 * s.therm.tripC + 2 ^ 24 * s.therm.restC

/-- BRX_THERM_GRACE. -/
def thermGraceWord (s : State) : Nat := s.therm.grace + 1024 * s.therm.graceLeft

/-- BRX_THERM_TRIPS. -/
def thermTripsWord (s : State) : Nat := s.therm.trips + 65536 * code2 16 s.therm.maxTemp

/-- THERMAL_STATUS (R351). -/
def execThermalStatus (p : Packet) (s : State) : Host.Outcome State Fault Refusal :=
  inTurn p s fun s =>
  command p 0x0802 [(p.payload.length != 0, .badLength)]
    (fun s => reply p 0x0802 .ok
      (leBytes 4 (thermStatusWord s) ++ leBytes 4 (thermTempWord s) ++ leBytes 4 (thermCfgWord s) ++ leBytes 4 (thermGraceWord s)
        ++ leBytes 4 (thermTripsWord s) ++ leBytes 2 (code2 16 s.therm.ofs)) s) s

end Sys2Proof.Machine
end

