-- ==== Sys2Proof/Machine/Acts.lean ====
section
/-! DEFINITION. The state changes of commands as they apply: one by one for a caravan, a deferred command or a stage edge,
with the reply data that they give (R256, R382, R388, R393). -/

namespace Sys2Proof.Machine

/-! ### ARM (R393) -/

/-- An action is armed (R203, R204, R393). -/
def applyArm (action fireWin fireI mask : Nat) (s : State) : State :=
  if action = 1 then
    forEach (maskBits 144 mask) blwArm { s with blwCfg := { s.blwCfg with fireWin, fireI } }
  else if action = 2 then
    { s with cl := s.cl.mapI (fun n c => if mask.testBit n then { c with k := { c.k with armDrone := true } } else c) }
  else if action = 3 then { s with sys := { s.sys with armSensorTrip := true } }
  else { s with sys := { s.sys with armChipDrone := true } }

/-- An action is disarmed (R203, R393). -/
def applyDisarm (action mask : Nat) (s : State) : State :=
  if action = 1 then forEach (maskBits 144 mask) blwDisarm s
  else if action = 2 then
    { s with cl := s.cl.mapI (fun n c => if mask.testBit n then { c with k := { c.k with armDrone := false } } else c) }
  else if action = 3 then { s with sys := { s.sys with armSensorTrip := false } }
  else { s with sys := { s.sys with armChipDrone := false } }

/-- The clusters that have an action armed. -/
def armedMask (s : State) (action : Nat) : Nat :=
  bitsMask (s.cl.places (fun _ c => if action = 1 then c.b.hostArm else if action = 2 then c.k.armDrone else false))

/-- A chip action is armed. -/
def chipArmed (s : State) (action : Nat) : Bool :=
  if action = 3 then s.sys.armSensorTrip else if action = 4 then s.sys.armChipDrone else false

/-- Reply data of ARM (R393). -/
def armData (op action : Nat) (s : State) : List Byte :=
  [BitVec.ofNat 8 action, BitVec.ofNat 8 op, if chipArmed s action then 1 else 0, 0] ++ leBytes 18 (armedMask s action)

/-! ### Changes -/

/-- One change takes effect, `se` being the stage in which its command did (R246, R256, R382). -/
def applyAct (se : Nat) (a : Act) (s : State) : State :=
  match a with
  | .railTarget r c => applyRailTarget r c s
  | .group g e m sh ad ra rt => applyGroup g e m sh ad ra rt s
  | .phaseDisable i => disablePhase i .host s
  | .setState n t d => applySetState n t d s
  | .offset n sel o th => applyOffset n sel o th s
  | .droneEnter n c => applyDroneEnter n c s
  | .droneExit n c => applyDroneExit n c s
  | .engage n st l t => applyEngage se n st l t s
  | .release n u => applyRelease se n u s
  | .level k c b => applyLevel k c b s
  | .pref l v => applyPref l v s
  | .limit id w v => applyLimit id w v s
  | .fixed k l c => applyFixed k l c s
  | .swell n c => applySwell n c s
  | .arm a w i m => applyArm a w i m s
  | .disarm a m => applyDisarm a m s
  | .calMode m c p => applyCalMode m c p s
  | .takeGuarantee i => applyAdmit i s
  | .revoke g => applyRevoke g s

/-- The change writes the level table. -/
def Act.isLevel : Act → Bool
  | .level _ _ _ => true
  | _ => false

/-- A list of changes takes effect in one cycle; an edited level table is followed up once it is whole, and a list that would
leave the table against its rules has no effect (R263, R265). -/
def applyActs (se : Nat) (acts : List Act) (s : State) : State :=
  let old := s.seq.table
  let s' := forEach acts (applyAct se) s
  if !acts.any Act.isLevel then s'
  else if tableOk s.fuses s'.seq.table then tableEdited old s' else s

/-- The changes leave a level table that R263 and R264 allow. -/
def actsOk (acts : List Act) (s : State) : Bool := !acts.any Act.isLevel || tableOk s.fuses (editTable s.seq.table acts)

/-- The reply data of a command whose changes have applied, by opcode, with the state before them (R382). -/
def deferredData (d : Deferred) (before s : State) : List Byte :=
  let l := d.pkt.payload
  let f := fun k => field l k 1
  match d.opcode with
  | 0x0104 => armData (f 0) (f 1) s
  | 0x0203 => railCodes s
  | 0x0205 => phaseData s (if f 0 = 0 then f 1 else groupOf s (f 2)) 0
  | 0x0301 => setStateData d.acts before
  | 0x0302 => [BitVec.ofNat 8 d.acts.length]
  | 0x0304 => droneData true (f 0) s
  | 0x0305 => droneData false (f 0) s
  | 0x0601 => levelData s
  | 0x0603 => admitData l (0, 0, 0)
  | 0x0604 => revokeData (field l 0 2) s
  | 0x0605 => fixedData (f 0) (f 1) (f 2) s
  | 0x0606 => l.take 18
  | 0x0801 => thermData s
  | 0x0A02 => calModeData s
  | _ => []

/-- A request for a cluster state finds a cluster busy in the cycle in which it would take effect (R277, R281). -/
def actsBusy (acts : List Act) (s : State) : Bool :=
  acts.any (fun a =>
    match a with
    | .setState n _ _ => stateBusy s (s.cluster n)
    | _ => false)

/-- The changes of deferred commands take effect in order, and each command is answered; one that finds a cluster busy, or whose
level table an edit of the same edge has come to forbid, is rejected (R265, R281, R382). -/
def applyDeferred (l : List Deferred) (s : State) : State :=
  forEach l (fun d s =>
    if actsBusy d.acts s then reply d.pkt d.opcode .busyRetry [] s
    else if actsOk d.acts s then
      let s' := applyActs d.se d.acts s
      reply d.pkt d.opcode .ok (deferredData d s s') s'
    else reply d.pkt d.opcode .badParam [] s) s

/-- The commands that apply at cycle 0 of a pace (R382). -/
def applyNext (s : State) : State := applyDeferred s.cmd.next { s with cmd := { s.cmd with next := [] } }

/-- The changes that commands already answered leave to a stage edge (R296, R304). -/
def applyEdge (s : State) : State :=
  applyActs s.clk.stage s.cmd.quiet { s with cmd := { s.cmd with quiet := [] } }

end Sys2Proof.Machine
end

