-- ==== Sys2Proof/Machine/Caravan.lean ====
section
/-! DEFINITION. The caravan unit: records, staging, commit, cut-off, edge check and application (R241 to R262). -/

namespace Sys2Proof.Machine

/-! ### What a member packet carries (R246, R247) -/

/-- MANIFEST_ENGAGE with START as late as its legal form asks, for the checks that depend on the packet alone (R237, R247). -/
def engageAlone (l : List Byte) : List Byte :=
  if field l 18 1 = 1 then l.take 24 ++ leBytes 6 (max 4 (field l 24 6)) ++ l.drop 30 else l

/-- The opcode, with OP 0x00 for PHASE_CONFIG, may join a caravan (R246). -/
def mayJoin (opcode : Nat) (l : List Byte) : Bool :=
  [0x0203, 0x0301, 0x0302, 0x0304, 0x0305, 0x0502, 0x0503, 0x0601, 0x0602, 0x0605, 0x0606].contains opcode
    || (opcode == 0x0205 && field l 0 1 == 0)

/-- The checks of a member that depend on the packet alone (R247). -/
def memberChecks (s : State) (opcode : Nat) (l : List Byte) : List (Bool × Status) :=
  let n := l.length
  match opcode with
  | 0x0203 => [(n != 16, .badLength), (!railTargetLegal l, .badParam)]
  | 0x0205 => [(n != 16, .badLength), (!groupLegal l || field l 2 2 != 0 || !zeros l 10 6, .badParam)]
  | 0x0301 => [(n != 24, .badLength), (!setStateLegal l, .badParam)]
  | 0x0302 => [(n != 4 + 4 * field l 0 1, .badLength), (!offsetLegal l, .badParam)]
  | 0x0304 => [(n != 1, .badLength), (!droneArgOk l, .badParam)]
  | 0x0305 => [(n != 1, .badLength), (!droneArgOk l, .badParam)]
  | 0x0502 => [(n != 32, .badLength), (!engageLegal 0 (engageAlone l), .badParam)]
  | 0x0503 => [(n != 24, .badLength), (!releaseLegal l, .badParam)]
  | 0x0601 => [(n != 32, .badLength), (!levelLegal l && !prefLegal l, .badParam)]
  | 0x0602 => [(n != 48, .badLength), (!limitsLegal l, .badParam)]
  | 0x0605 => [(n != 16, .badLength), (!fixedLegal s l, .badParam)]
  | 0x0606 => [(n != 24, .badLength), (!swellLegal l, .badParam)]
  | _ => [(true, .badState)]

/-- The changes of a member that passes (R246). -/
def memberActs (opcode : Nat) (l : List Byte) : List Act :=
  let f := fun k => field l k 1
  match opcode with
  | 0x0203 => railTargetActs l
  | 0x0205 => [.group (f 1) (f 4) (f 5) (f 6) (f 7) (f 8) (f 9)]
  | 0x0301 => setStateActs l
  | 0x0302 => offsetActs l
  | 0x0304 => droneActs true (f 0)
  | 0x0305 => droneActs false (f 0)
  | 0x0502 => engageActs l
  | 0x0503 => releaseActs l
  | 0x0601 => if f 0 = 0 then levelActs l else prefActs l
  | 0x0602 => limitActs l
  | 0x0605 => fixedActs l
  | 0x0606 => swellActs l
  | _ => []

/-- The object of a change, as a number among the changes of its opcode (R246). -/
def Act.object : Act → Nat
  | .railTarget r _ => r
  | .group g _ _ _ _ _ _ => g
  | .phaseDisable i => i
  | .setState n _ _ => n
  | .offset n _ _ _ => n
  | .droneEnter n _ => n
  | .droneExit n _ => n
  | .engage n _ _ _ => n
  | .release n _ => n
  | .level k _ _ => k
  | .pref l _ => 16 + l
  | .limit id _ _ => id
  | .swell n _ => n
  | .revoke g => g
  | .takeGuarantee i => i
  | .fixed _ _ _ | .arm _ _ _ _ | .disarm _ _ | .calMode _ _ _ => 0

/-- OFFSET and THRESH of one cluster are one item: a later entry keeps what it does not select (R246). -/
def mergeItem (old new : Item) : Item :=
  match old.act, new.act with
  | .offset n s1 o1 t1, .offset _ s2 o2 t2 =>
    { new with act := .offset n (s1 ||| s2) (if s2.testBit 0 then o2 else o1) (if s2.testBit 1 then t2 else t1) }
  | _, _ => new

/-- Stage an item: in the place of one on the same object, else at the end (R246, R249). -/
def stageItem (i : Item) : List Item → List Item
  | [] => [i]
  | j :: js => if j.opcode = i.opcode && j.act.object = i.act.object then mergeItem j i :: js else j :: stageItem i js

/-! ### Records (R241 to R244) -/

/-- Change record `k`. -/
def updRec (k : Nat) (f : CvnRec → CvnRec) (s : State) : State := { s with cvn := { s.cvn with recs := s.cvn.recs.modify k f } }

/-- Record `k`. -/
def recAt (s : State) (k : Nat) : CvnRec := s.cvn.recs.get k

/-- The record of the oldest abort, if any (R242). -/
def oldestAborted (s : State) : Option Nat :=
  (s.cvn.recs.places (fun _ r => r.st == .aborted)).foldl (fun (b : Option Nat) k =>
    match b with
    | some j => if (recAt s k).order < (recAt s j).order then some k else b
    | none => some k) none

/-- The record that CARAVAN_OPEN takes (R243). -/
def openRecord (s : State) (id : Nat) : Option Nat :=
  match (s.cvn.recs.places (fun _ r => r.st == .aborted && r.id.toNat == id)).head? with
  | some k => some k
  | none =>
    match (s.cvn.recs.places (fun _ r => r.st == .free)).head? with
    | some k => some k
    | none => oldestAborted s

/-- A record in Open or Committed holds the id. -/
def idHeld (s : State) (id : Nat) : Bool := s.cvn.recs.any (fun r => r.id.toNat == id && (r.st == .open_ || r.st == .committed))

/-- An id that is reserved (R242). -/
def idReserved (id : Nat) : Bool := id == 0 || id == 0xFFFF

/-- The reserved code of an id that is not zero: a packet that carries it is rejected (R8, R242). -/
def idNone : Nat := 0xFFFF

/-- CARAVAN_OPEN (R243). -/
def execCaravanOpen (p : Packet) (s : State) : Host.Outcome State Fault Refusal :=
  inTurn p s fun s =>
  let l := p.payload
  let id := field l 0 2
  command p 0x0401
    [ (l.length != 16, .badLength), (idReserved id || !zeros l 4 12, .badParam), (idHeld s id, .badState),
      ((openRecord s id).isNone, .busyRetry) ]
    (fun s =>
      let s := updRec ((openRecord s id).getD 0) (fun _ => {
        id := BitVec.ofNat 16 id, st := .open_, timeout := if field l 2 2 = 0 then 256 else field l 2 2, lastArr := s.clk.stage }) s
      reply p 0x0401 .ok (leBytes 2 id ++ [BitVec.ofNat 8 (s.cvn.recs.count (fun r => r.st == .free || r.st == .aborted))]) s) s

/-- EV_CARAVAN_ABORT, for an abort that no reply reports (R260). -/
def abortEvent (r : CvnRec) (cause : Nat) (s : State) : State :=
  raise 0x0420 0 (leBytes 2 r.id.toNat ++ [BitVec.ofNat 8 cause] ++ leBytes 2 r.items.length) s

/-- An Open caravan without an arrival for TIMEOUT stages is aborted (R244, R260). -/
def execCaravanOpenTimeout (k : Nat) (s : State) : Host.Outcome State Fault Refusal :=
  let r := recAt s k
  if r.st != .open_ || decide (s.clk.stage < r.lastArr + r.timeout) then idle s
  else lapse (fun s => cvnAbort k 6 (abortEvent r 6 s)) s

/-! ### Staging (R245 to R249) -/

/-- CARAVAN_MEMBER: a packet that passes is staged in its Open caravan; one that fails aborts it (R246 to R248). -/
def execCaravanMember (p : Packet) (opcode id : Nat) (s : State) : Host.Outcome State Fault Refusal :=
  inTurn p s fun s =>
  let l := p.payload
  if !s.fwRuns then idle s
  else if id = idNone then done (reply p opcode .badParam [] s)
  else
    let checks := (!mayJoin opcode l, Status.badState) :: memberChecks s opcode l
    let fail := fun st cause => let (st, s) := memberFails id st cause s; done (reply p opcode st [] s)
    match firstFail checks with
    | some st => fail st 2
    | none =>
      match cvnFind s id with
      | none => fail .badState 2
      | some k =>
        let r := recAt s k
        if r.st != .open_ then fail .badState 2
        else
          let items := (memberActs opcode l).foldl (fun is a => stageItem { opcode, act := a } is) r.items
          if 1024 < items.length then fail .badParam 3
          else
            done (reply p opcode .ok (leBytes 2 id ++ leBytes 2 (items.length - r.items.length) ++ leBytes 2 items.length)
              (updRec k (fun r => { r with items, count := items.length, lastArr := s.clk.stage }) s))

/-! ### The edge check (R252 to R254) -/

/-- The checks of an item on the state before its caravan, with the level table that the caravan leaves (R252). -/
def itemChecks (s : State) (tab : Tab 16 LvlEnt) (a : Act) : List (Bool × Status) :=
  match a with
  | .railTarget r _ => [(!railReady s r, .badState)]
  | .setState n t _ => setStateChecks s [n] t
  | .droneEnter n chip => droneEnterChecks s (if chip then 0xFF else n)
  | .droneExit n chip => droneExitChecks s (if chip then 0xFF else n)
  | .engage _ st _ start => (st && decide (start < s.clk.stage + 5), .badParam) :: engageChecks s st
  | .release _ _ => releaseChecks s
  | .level k c b => (!tableOk s.fuses tab, .badParam) :: levelChecks s [.level k c b]
  | .fixed k l _ => fixedChecks s k l
  | _ => []

/-- The first failing item of a caravan: its index, opcode and status (R253). -/
def failingItem (s : State) (items : List Item) : Option (Nat × Nat × Status) :=
  let tab := editTable s.seq.table (items.map Item.act)
  let rec go : Nat → List Item → Option (Nat × Nat × Status)
    | _, [] => none
    | k, i :: is =>
      match firstFail (itemChecks s tab i.act) with
      | some st => some (k, i.opcode, st)
      | none => go (k + 1) is
  go 0 items

/-- The level scheduled to be in force after the coming edge (R254). -/
def levelAfterEdge (s : State) : Nat :=
  match s.seq.pend with
  | some p => if p.stage ≤ s.clk.stage + 1 then (if p.level < 16 then p.level else (derivedLevel s p.code).getD 0) else s.seq.level
  | none => s.seq.level

/-- Reply data of CARAVAN_COMMIT (R257). -/
def commitData (id result cause stage items : Nat) (fail : Option (Nat × Nat × Status)) (after : Nat) : List Byte :=
  let (i, op, st) := match fail with
    | some (i, op, st) => (i, op, st.code)
    | none => (0xFFFF, 0, 0)
  leBytes 2 id ++ [BitVec.ofNat 8 result, BitVec.ofNat 8 cause] ++ leBytes 6 stage ++ leBytes 2 items ++ leBytes 2 i ++ leBytes 2 op
    ++ [BitVec.ofNat 8 st, BitVec.ofNat 8 after] ++ List.replicate 6 0

/-- The reply to the commit of a caravan, its stage fixed by R257. -/
def commitReply (p : Packet) (st : Status) (data : List Byte) (s : State) : State :=
  putReply { org := p.org, seq := p.seq, status := st, data, opcode := 0x0403, stage := some (s.clk.stage % 2 ^ 32) } s

/-- A Committed caravan is aborted and its commit answered (R257, R259). -/
def abortCommitted (k cause : Nat) (fail : Option (Nat × Nat × Status)) (s : State) : State :=
  let r := recAt s k
  let s' := cvnAbort k cause s
  match r.tag with
  | some p => commitReply p (if cause = 5 then .deadlineMissed else .caravanAborted) (commitData r.id.toNat 1 cause s.clk.stage 0 fail 0xFF) s'
  | none => s'

/-- Insert a record into records in the order of their commits. -/
def insertByOrder (s : State) (k : Nat) : List Nat → List Nat
  | [] => [k]
  | j :: js => if (recAt s k).order < (recAt s j).order then k :: j :: js else j :: insertByOrder s k js

/-- The records Committed for the edge opening `stage` that satisfy a condition, in the order of their commits (R251). -/
def dueRecords (s : State) (stage : Nat) (p : CvnRec → Bool) : List Nat :=
  (s.cvn.recs.places (fun _ r => r.st == .committed && decide (r.edge ≤ stage) && p r)).foldl (fun l k => insertByOrder s k l) []

/-- One caravan of the edge check: `h` is the state that the caravans ahead of it leave (R252 to R254). -/
def checkRecord (k : Nat) (x : State × State) : State × State :=
  let (h, s) := x
  let r := recAt s k
  let level := match r.bind with | some l => l != levelAfterEdge h | none => false
  if level then (h, abortCommitted k 7 none s)
  else
    match failingItem h r.items with
    | some f => (h, abortCommitted k 4 (some f) s)
    | none => (applyActs (s.clk.stage + 1) (r.items.map Item.act) h, updRec k (fun r => { r with passed := true }) s)

/-- The edge check of every caravan due at the coming edge (R252). -/
def edgeCheck (s : State) : State :=
  ((dueRecords s (s.clk.stage + 1) (fun r => !r.passed)).foldl (fun x k => checkRecord k x) (s, s)).2

/-- The edge check, from cycle 1 of p15 (R252). -/
def execCaravanEdgeCheck (s : State) : Host.Outcome State Fault Refusal :=
  if !s.clk.running || s.clk.pace != 15 || s.clk.p0Pending then idle s else atTime (s.clk.paceStart + 1) edgeCheck s

/-- A caravan that has passed its check waits for the coming edge, and the trip would have failed it (R255). -/
def tripWaits (s : State) : Bool :=
  s.cvn.recs.any (fun r => r.st == .committed && r.passed && (failingItem s r.items).isSome)

/-- The Bruxon domain samples the trip; in an edge cycle its consequences follow in the cycle after, and between the edge check
of a caravan that it would have failed and the edge they wait until then (R49, R255, R347, R413). -/
def execThermalTrip (s : State) : Host.Outcome State Fault Refusal :=
  if !s.therm.trip || s.therm.tripSeen || !s.islandUp || tripWaits s then idle s
  else atTime (if s.clk.running && s.clk.now == s.clk.stageStart then s.clk.now + 1 else s.clk.now) tripActs s

/-- The cut-off of the coming edge, cycle 0 of p15, has expired (R46, R251). -/
def cutoffPassed (s : State) : Bool := s.clk.pace == 15 && decide (s.clk.paceStart < s.clk.now)

/-- CARAVAN_CUTOFF: the commit cut-off of the coming edge expires; a commit of this cycle has come before it (R46, R251). -/
def execCaravanCutoff (s : State) : Host.Outcome State Fault Refusal :=
  if !s.clk.running || s.clk.pace != 15 || cutoffPassed s then idle s
  else lapse (fun s => { s with cvn := { s.cvn with cutoffFor := some (s.clk.stage + 1) } }) s

/-! ### Commit and abort (R250, R251, R258) -/

/-- An earlier command in flight is a member of the same caravan (R381). -/
def memberAhead (s : State) (p : Packet) (id : Nat) : Bool :=
  ((s.cmd.inflight.takeWhile (fun f => !(f.org == p.org && f.seq == p.seq))).any (fun f => f.caravan == some id && f.effect == .taken))
    && s.cmd.inflight.any (fun f => f.org == p.org && f.seq == p.seq)

/-- The first edge whose cut-off a commit arriving now meets (R251). -/
def firstEdge (s : State) : Nat := if cutoffPassed s then s.clk.stage + 2 else s.clk.stage + 1

/-- The fields of a CARAVAN_COMMIT are legal (R250). -/
def commitLegal (s : State) (l : List Byte) : Bool :=
  let fl := field l 2 1
  !idReserved (field l 0 2) && decide (fl ≤ 3) && zeros l 10 6
    && (if fl.testBit 1 then decide (field l 3 1 ≤ 15) else field l 3 1 == 0)
    && (if fl.testBit 0 then decide (field l 4 6 ≤ s.clk.stage + 4096) else field l 4 6 == 0)

/-- A commit reaches the caravan unit (R250, R251). -/
def commitRecord (p : Packet) (k : Nat) (s : State) : State :=
  let l := p.payload
  let targeted := (field l 2 1).testBit 0
  let edge := if targeted then field l 4 6 else firstEdge s
  let s := markEffect p .hardware { s with cvn := { s.cvn with order := s.cvn.order + 1 } }
  let s := updRec k (fun r => { r with
    st := .committed, tag := some p, targeted, edge, bind := if (field l 2 1).testBit 1 then some (field l 3 1) else none
    order := s.cvn.order, passed := false }) s
  if targeted && decide (edge < firstEdge s) then abortCommitted k 5 none s
  else setDue p (edge + 1) s

/-- CARAVAN_COMMIT: every earlier slot of the caravan is processed before it (R250, R251, R381). -/
def execCaravanCommit (p : Packet) (s : State) : Host.Outcome State Fault Refusal :=
  inTurn p s fun s =>
  let l := p.payload
  let id := field l 0 2
  if memberAhead s p id then idle s
  else
    let st := (cvnFind s id).map (fun k => (recAt s k).st)
    command p 0x0403
      [ (l.length != 16, .badLength), (!commitLegal s l, .badParam), (st == some .aborted, .caravanAborted), (st != some .open_, .badState) ]
      (fun s => commitRecord p ((cvnFind s id).getD 0) s) s

/-- A Committed caravan can still be aborted: the cut-off of its edge has not expired (R258). -/
def mayAbort (s : State) (r : CvnRec) : Bool := decide (firstEdge s ≤ r.edge)

/-- CARAVAN_ABORT (R258). -/
def execCaravanAbort (p : Packet) (s : State) : Host.Outcome State Fault Refusal :=
  inTurn p s fun s =>
  let l := p.payload
  let id := field l 0 2
  if memberAhead s p id then idle s
  else
    let k := (cvnFind s id).getD 0
    let r := recAt s k
    command p 0x0404
      [ (l.length != 16, .badLength), (id == idNone || !zeros l 2 14, .badParam), ((cvnFind s id).isNone, .badState),
        (r.st == .committed && !mayAbort s r, .badState) ]
      (fun s =>
        let s := match r.st with
          | .open_ => cvnAbort k 1 s
          | .committed => abortCommitted k 1 none s
          | _ => updRec k (fun r => { r with st := .free }) s
        reply p 0x0404 .ok [] s) s

/-- CARAVAN_STATUS (R262). -/
def execCaravanStatus (p : Packet) (s : State) : Host.Outcome State Fault Refusal :=
  inTurn p s fun s =>
  command p 0x0405 [(p.payload.length != 0, .badLength)]
    (fun s => reply p 0x0405 .ok (s.cvn.recs.val.flatMap (fun r =>
      leBytes 2 r.id.toNat ++ [BitVec.ofNat 8 r.st.code, BitVec.ofNat 8 r.cause] ++ leBytes 2 r.count)) s) s

/-! ### The effect edge and the warm reset (R256, R257, R261) -/

/-- Step 2 of a stage edge: one caravan takes effect (R31, R256, R399). -/
def applyCaravan (k : Nat) (s : State) : State :=
  let r := recAt s k
  let s := trace 4 0 (leBytes 2 r.id.toNat ++ [0, 0] ++ leBytes 2 r.items.length) s
  applyActs s.clk.stage (r.items.map Item.act) s

/-- The caravans that have passed and whose edge this is. -/
def passedRecords (s : State) : List Nat := dueRecords s s.clk.stage (fun r => r.passed)

/-- Step 2 of a stage edge: every caravan that passed its check takes effect, in order (R31, R251, R256). -/
def caravanEdge (s : State) : State := forEach (passedRecords s) applyCaravan s

/-- After step 3: the commits are answered and their records become Free (R256, R257). -/
def caravanReplies (s : State) : State :=
  forEach (passedRecords s) (fun k s =>
    let r := recAt s k
    let data := commitData r.id.toNat 0 0 s.clk.stage r.items.length none s.seq.level
    let s := updRec k (fun r => { r with st := .free, items := [], edge := 0, cause := 0, tag := none, passed := false }) s
    match r.tag with
    | some p => commitReply p .ok data s
    | none => s) s

/-- A warm reset aborts every Open and Committed caravan and frees every record (R261). -/
def caravanWarm (s : State) : State :=
  let s := forEach (List.range 4) (fun k s =>
    let r := recAt s k
    match r.st with
    | .open_ => cvnAbort k 8 (abortEvent r 8 s)
    | .committed => abortCommitted k 8 none s
    | _ => s) s
  { s with cvn := { s.cvn with recs := Tab.replicate 4 {}, cutoffFor := none } }

/-- The counters of the caravan unit return at a period close (R262). -/
def caravanPeriod (s : State) : State := { s with cvn := { s.cvn with aborts := 0 } }

end Sys2Proof.Machine
end

