-- ==== Sys2Proof/Machine/Registers.lean ====
section
/-! DEFINITION. The registers of the host window as a read returns them (R447 to R463), block by block in the order of the
complete map. -/

namespace Sys2Proof.Machine

/-! ### Fields -/

/-- A field: its lowest bit, its width and its value; the value is taken modulo its width. -/
abbrev Field := Nat × Nat × Nat

/-- The word of a list of fields that do not overlap. -/
def packFields (l : List Field) : Nat := l.foldl (fun a f => a + f.2.2 % 2 ^ f.2.1 * 2 ^ f.1) 0

/-- The field of one bit. -/
def bit (lo : Nat) (b : Bool) : Field := (lo, 1, b.toNat)

/-- A quantity that saturates at the top of an unsigned field; below 0 it reads 0. -/
def unsignedField (w : Nat) (i : Int) : Nat := min (2 ^ w - 1) i.toNat

/-- The 32 bits of a word of an array of flags: bit j is the flag of object 32k + j. -/
def flagWord (n k : Nat) (p : Nat → Bool) : Nat :=
  bitsMask ((List.range 32).filter (fun j => decide (32 * k + j < n) && p (32 * k + j)))

/-! ### Status words by unit -/

/-- BRX_STAGE_POS (R40). -/
def stagePosWord (s : State) : Nat := packFields [(0, 10, s.cycle), (10, 4, s.clk.pace), (14, 2, s.clk.trim.code)]

/-- BRX_RAIL_STATUS_r (R89). -/
def railStatusWord (s : State) (r : Nat) : Nat :=
  let ra := s.rail r
  packFields [ (0, 10, ra.target), bit 10 ra.enabled, bit 11 ra.inWindow, bit 12 ra.tracking, bit 13 ra.sp.moving,
               (14, 7, ((groupsOfRail r).map (liveCount s)).sum) ]

/-- BRX_RAIL_MEAS_r (R89). -/
def railMeasWord (s : State) (r : Nat) : Nat :=
  packFields [(0, 10, (s.rail r).volt), (16, 16, unsignedField 16 (quarterAmps (s.rail r).curr))]

/-- BRX_SEG_STATUS_x (R92). -/
def segStatusWord (s : State) (x : Nat) : Nat :=
  packFields
    [ (0, 4, liveCount s x),
      bit 4 ((List.range 4).any (fun k => (s.phase (124 + k)).spareIn && groupOf s (124 + k) == x)),
      bit 5 (!(s.cl.places (fun n c => n % 12 == x && c.droneOut)).isEmpty),
      (16, 16, unsignedField 16 (quarterAmps (s.segs.get x).load)) ]

/-- BRX_SEG_HEAD_x (R92). -/
def segHeadWord (s : State) (x : Nat) : Nat :=
  packFields [(0, 16, code2 16 ((s.segs.get x).head / 250)), (16, 16, (s.segs.get x).wakeAllow)]

/-- BRX_FEED_STATUS (R100). -/
def feedWord (s : State) : Nat :=
  packFields [ (0, 10, s.feed.follow), (10, 10, s.feed.floor), (20, 8, s.feed.setter), bit 28 s.feed.droneSet,
               bit 29 s.feed.capped, bit 30 s.feed.chipDrone ]

/-- BRX_PH_STATUS_i (R133). -/
def phStatusWord (s : State) (i : Nat) : Nat :=
  let p := s.phase i
  packFields [ (0, 2, p.st.code), (2, 3, p.cause.code), bit 5 p.spareIn, (6, 7, p.replaces), bit 13 p.ocActive,
               (14, 6, code2 6 p.trim), (20, 12, if p.st == .switching then p.onTime else 0) ]

/-- BRX_PH_MEAS_i (R133). -/
def phMeasWord (s : State) (i : Nat) : Nat :=
  packFields [(0, 16, code2 16 (quarterAmps (s.phase i).curr)), (16, 16, (s.phase i).ocCount)]

/-- BRX_PGRP_STATUS_g (R117, R133). -/
def pgrpStatusWord (s : State) (g : Nat) : Nat :=
  let gr := s.group g
  let lv := liveCount s g
  let sw := swCount s g
  packFields [ (0, 5, sw), (5, 5, lv - sw), (10, 5, lv), bit 15 gr.shedEn, bit 16 gr.fallback, bit 17 gr.swellClamp,
               bit 18 (gr.unparkNow || gr.unparkLast), (19, 5, gr.minSw), (24, 4, gr.ripAmp), (28, 2, gr.ripTau) ]

/-- BRX_PGRP_THR_g (R117, R128). -/
def pgrpThrWord (s : State) (g : Nat) : Nat :=
  let gr := s.group g
  packFields [(0, 8, gr.shedA), (8, 8, gr.addA), (16, 16, code2 16 gr.senseOffs)]

/-- BRX_LOOP_OUT_s (R174). -/
def loopOutWord (s : State) (i : Nat) : Nat :=
  let o := s.eng.slots.get i
  packFields [ (0, 16, code2 16 o.out), bit 16 o.satHi, bit 17 o.satLo, bit 18 o.ss, bit 19 o.held, bit 20 o.off,
               bit 21 o.stepLim ]

/-- BRX_ENG_STATUS (R157). -/
def engStatusWord (s : State) : Nat :=
  let e := s.eng
  packFields [ (0, 10, e.worst), (10, 1, e.bank), bit 11 e.swapPend, bit 12 e.swapFail, (13, 9, e.failSlot),
               (22, 4, e.failReason), bit 26 e.wrDrop ]

/-- MODE of BRX_CL_VOLT_n: drone from step 4 of an entry to step 3 of an exit, not regulated while off or held (R97, R103,
R104). -/
def clMode (c : Cluster) : Nat :=
  match c.d.st with
  | .on | .exiting => 2
  | _ => if c.k.mode != .regulate || c.s.held then 3 else if c.guard = 20 then 1 else 0

/-- BRX_CL_VOLT_n (R97). -/
def clVoltWord (s : State) (n : Nat) : Nat :=
  let c := s.cluster n
  packFields [ (0, 10, c.v.target), (10, 10, unsignedField 10 c.v.sp.cur), (20, 2, clMode c), bit 22 c.v.curveDefault,
               bit 23 c.v.clamped, (24, 8, code2 8 c.v.offset) ]

/-- STEP of BRX_CL_STATE_n (R291). -/
def clStep (c : Cluster) : Nat :=
  match c.s.trans with
  | some t =>
    match t.phase with
    | .ackWait | .echo | .finalEcho => 1
    | .settle | .downRamp => 2
    | .selfTest => 3
    | .unadmitted => 4
    | .wakeRamp => 5
    | .rampDone | .resetDone => 6
  | none => if c.s.inRechar then 7 else 0

/-- BRX_CL_STATE_n (R65, R291). -/
def clStateWord (s : State) (n : Nat) : Nat :=
  let c := (s.cluster n)
  packFields [ (0, 2, c.s.st.code), (2, 2, c.s.req.code), (4, 2, c.s.ack.code), (6, 3, clStep c), bit 9 c.s.held,
               bit 10 c.s.latch, bit 11 c.s.replayed ]

/-- BRX_CL_CELLS_n (R145, R146). -/
def clCellsWord (s : State) (n : Nat) : Nat :=
  let k := (s.cluster n).k
  packFields [(0, 12, k.liveMask.toNat), (12, 4, k.live), (16, 2, if 10 ≤ k.live then 0 else if 8 ≤ k.live then 1 else 2)]

/-- BRX_CL_LIMIT_n (R146). -/
def clLimitWord (s : State) (n : Nat) : Nat := packFields [(0, 16, (s.cluster n).k.limSus), (16, 16, (s.cluster n).k.limOne)]

/-- REASON of BRX_MAN_CL_n (R240). -/
def manReason (s : State) (c : Cluster) : Nat :=
  if forecastStage s c 0 then 0
  else if !engagedFor c.m s.clk.stage then 1
  else if c.m.diverged then 6
  else (c.m.ents.get 0).why

/-- BRX_MAN_CL_n (R240). -/
def manClWord (s : State) (n : Nat) : Nat :=
  let c := s.cluster n
  packFields [ bit 0 c.m.engaged, bit 1 (forecastStage s c 0), bit 2 c.m.diverged, (3, 3, manReason s c), (6, 3, c.m.run),
               (10, 10, if c.m.served then c.m.fc else 0), (20, 2, c.m.lift), (22, 10, c.m.divPaces) ]

/-- BRX_CL_SWELL_n (R307, R308). -/
def clSwellWord (s : State) (n : Nat) : Nat :=
  let g := (s.cluster n).g
  packFields [(0, 4, g.host), (4, 4, g.gov), (8, 4, g.driven), bit 12 (s.group (n % 12)).swellClamp]

/-- BRX_CL_WAKE_n (R151). -/
def clWakeWord (s : State) (n : Nat) : Nat :=
  let w := (s.cluster n).w
  packFields [(0, 8, w.waited), bit 8 w.pending, bit 9 w.ramping, (10, 2, w.slope), bit 12 w.late, (16, 8, w.leak)]

/-- BRX_CELL_STATUS_c (R136, R144). -/
def cellStatusWord (s : State) (c : Nat) : Nat :=
  let k := s.cell c
  packFields [ (0, 2, k.mode.code), (2, 3, k.cause.code), bit 5 k.calDefault, bit 6 k.limiting, (8, 8, code2 8 k.share),
               (16, 8, k.ron), (24, 8, k.vdo) ]

/-- BRX_CELL_MEAS_c (R136). -/
def cellMeasWord (s : State) (c : Nat) : Nat := packFields [(0, 12, (s.cell c).curr), (16, 16, (s.cell c).limitPaces)]

/-- BRX_ADC_RES_c (R181, R194). -/
def adcResWord (s : State) (c : Nat) : Nat :=
  let k := s.chans.get c
  packFields [ (0, 16, code2 16 k.value), bit 16 k.fresh, bit 17 k.stale, bit 18 k.urgent, bit 19 k.alarm, (20, 8, k.age) ]

/-- BRX_ADC_CONV_u (R195). -/
def adcConvWord (s : State) (u : Nat) : Nat :=
  let v := (convTo u s.clk.now s).conv u
  packFields [ bit 0 v.calMode, bit 1 v.auto, bit 2 v.lowPower, bit 3 v.calBusy, bit 4 v.seqFail, bit 5 v.urgDrop,
               (6, 8, v.idleMin), (14, 3, v.urgQ.length), (17, 4, v.calRejects), (21, 4, v.spareStage) ]

/-- BRX_SENT_n (R201, R215). -/
def sentWord (s : State) (n : Nat) : Nat :=
  let c := s.cluster n
  packFields [ (0, 5, c.t.thresh), bit 5 c.t.tripped, bit 6 (sentActive c), bit 7 c.t.selftestFail, bit 8 c.t.stuck,
               (16, 16, c.t.trips) ]

/-- BRX_BLW_n (R202 to R214). -/
def blwWord (s : State) (n : Nat) : Nat :=
  let b := (s.cluster n).b
  packFields [ (0, 3, blwCode b), bit 3 b.hostArm, (4, 2, b.last), (6, 2, b.faultCause), (8, 8, b.skips), (16, 16, b.fires) ]

/-- BRX_BLW_CFG (R203, R211). -/
def blwCfgWord (s : State) : Nat :=
  packFields [ (0, 4, s.blwCfg.fireWin), (4, 4, s.blwCfg.fireI), (8, 4, s.blwCfg.settle), (12, 6, slotsHeld s),
               (18, 8, s.cl.count (fun c => c.b.st == .waiting)) ]

/-- BRX_MAN_STATUS (R240). -/
def manStatusWord (s : State) : Nat :=
  packFields [ (0, 2, s.man.st.code), bit 2 s.man.loopEn, (3, 4, blocksStored s), (8, 16, blockInForce s),
               (24, 2, s.man.liftMax), (26, 6, s.man.stepMin) ]

/-- BRX_CVN_STATUS (R262). -/
def cvnStatusWord (s : State) : Nat :=
  packFields [ (0, 3, s.cvn.recs.count (fun r => r.st == .open_)), (3, 3, s.cvn.recs.count (fun r => r.st == .committed)),
               (6, 4, s.cvn.lastCause), (16, 16, s.cvn.aborts) ]

/-- BRX_CVN_REC_k (R262). -/
def cvnRecWord (s : State) (k : Nat) : Nat :=
  let r := recAt s k
  packFields [(0, 16, r.id.toNat), (16, 3, r.st.code), (19, 11, r.count), bit 30 r.bind.isSome, bit 31 r.targeted]

/-- BRX_CVN_EDGE_k (R262). -/
def cvnEdgeWord (s : State) (k : Nat) : Nat := if (recAt s k).st == .committed then (recAt s k).edge else 0

/-- BRX_LVL_k (R263, R264). -/
def lvlWord (s : State) (k : Nat) : Nat := packFields [(0, 7, (s.lvl k).code), bit 7 (s.lvl k).boost, (8, 7, s.fuses.gf.get k)]

/-- The mode is a fixed code (R275). -/
def Fixed.isCode : Fixed → Bool
  | .code _ => true
  | _ => false

/-- BRX_SEQ_STATUS (R275, R291). -/
def seqStatusWord (s : State) : Nat :=
  let q := s.seq
  packFields [ (0, 7, q.code), (7, 5, q.level), (12, 7, q.fv), bit 19 q.pend.isSome, (20, 3, q.holdReason),
               bit 23 (q.fixed != .off), bit 24 q.fixed.isCode, bit 25 ((s.lvl q.level).boost && !q.belowPl0),
               bit 26 q.noDone, bit 27 q.belowPl0 ]

/-- BRX_SEQ_PEND (R291). -/
def seqPendWord (s : State) : Nat :=
  match s.seq.pend with
  | some p => packFields [(0, 7, p.code), (7, 5, p.level), (12, 3, p.source.code)]
  | none => 0

/-- STATE of BRX_CHIP_STATE (R282). -/
def Chip.code : Chip → Nat
  | .cold => 0 | .powering => 1 | .standbyReady => 2 | .run => 3

/-- BRX_CHIP_STATE (R282, R284). -/
def chipWord (s : State) : Nat :=
  packFields [ (0, 2, if s.sys.chip == .cold then Chip.powering.code else s.sys.chip.code), bit 2 s.sys.pwrReq, bit 3 (s.sys.descent != .none), bit 4 (s.sys.saReq.any id) ]

/-- BRX_CL_AGE_n (R291). -/
def clAgeWord (s : State) (n : Nat) : Nat :=
  let a := (s.cluster n).a
  packFields [(0, 10, a.ref), (10, 6, a.raise), bit 16 a.ptFail, (17, 15, a.remain)]

/-- BRX_GOV_STATUS (R315). -/
def govStatusWord (s : State) : Nat :=
  let e := s.gov.last
  packFields [ (0, 4, e.e), (4, 4, e.t), (8, 4, e.floorLvl), (12, 4, e.c.getD 0), (16, 4, e.x), (20, 4, e.l), bit 24 e.unreach,
               bit 25 s.gov.boostEn, bit 26 s.inConvoy, bit 27 (s.gov.guar.any (fun g => g.degraded)) ]

/-- A limit register: LIMIT and LEN (R296). -/
def limWord (l : Lim) : Nat := packFields [(0, 16, l.limit), (16, 6, l.len - 1)]

/-- BRX_GOV_PREF_k (R304). -/
def prefWord (s : State) (k : Nat) : Nat :=
  packFields ((List.range 4).map (fun j => (8 * j, 8, ((s.gov.prefs.val.getD (4 * k + j) none).getD 0xFF))))

/-- BRX_GUAR_A_k and BRX_GUAR_B_k, in turn (R309, R312). -/
def guarWord (s : State) (i : Nat) : Nat :=
  let g := s.gov.guar.get (i / 2)
  if i % 2 = 0 then packFields [(0, 16, g.gid), (16, 2, g.kind), (18, 6, g.prec), (24, 7, g.label), bit 31 g.degraded]
  else packFields [(0, 16, g.req), (16, 16, g.kept)]

/-- BRX_FW_STATUS (R417, R422, R423). -/
def fwStatusWord (s : State) : Nat :=
  packFields [ bit 0 s.fw.loaded, bit 1 s.fw.valid, bit 2 s.fw.load.isSome, (3, 2, s.fw.fallback), (5, 8, s.fw.result),
               (13, 6, s.fuses.counter) ]

/-- BRX_DBG_STATUS (R446). -/
def dbgStatusWord (s : State) : Nat :=
  let d := s.dbg
  packFields [ bit 0 d.unlocked, bit 1 d.halted, (2, 3, d.cause), (5, 3, d.bpIndex), (8, 8, d.authFails),
               bit 16 d.challenge.isSome, bit 17 (d.withheld != 0) ]

/-- The commands in flight that the ring rules count: the mailbox is not among them (R373, R376). -/
def ringInflight (s : State) : Nat := (s.cmd.inflight.filter (fun f => f.org != .mailbox)).length

/-- BRX_CMD_HEAD (R375). -/
def cmdHeadWord (s : State) : Nat := packFields [(0, 8, s.cmd.cmdHead), (8, 8, s.cmd.cmdTail), (16, 5, ringInflight s)]

/-- Events in the queue, the reserved entry included (R385). -/
def evtDepth (s : State) : Nat := s.evt.queue.length + s.evt.reserved.isSome.toNat

/-- The event ring can be written (R374). -/
def State.evtOpen (s : State) : Bool := s.fbOk && s.cmd.evtEn

/-- BRX_IRQ_STATUS (R460). -/
def irqStatusWord (s : State) : Nat :=
  packFields [ bit 0 (s.cmd.rplHead != s.cmd.rplTail), bit 1 (s.cmd.evtHead != s.cmd.evtTail), bit 2 (s.en.head != s.en.tail),
               bit 3 s.cmd.mbxDone, bit 4 (s.evt.cause != 0),
               bit 5 ((!s.cmd.hold.isEmpty && !s.rplOpen) || (evtDepth s != 0 && !s.evtOpen)) ]

/-- BRX_EVT_MCODE_k (R388). -/
def mcodeWord (s : State) (k : Nat) : Nat := packFields [(0, 16, s.evt.codes.getD (2 * k) 0), (16, 16, s.evt.codes.getD (2 * k + 1) 0)]

/-- BRX_ARM_STATUS (R393). -/
def armStatusWord (s : State) : Nat :=
  packFields [ bit 0 s.sys.armSensorTrip, bit 1 s.sys.armChipDrone, (2, 8, s.cl.count (fun c => c.k.armDrone)),
               (10, 8, s.cl.count (fun c => c.b.hostArm)) ]

/-! ### The complete map (R463) -/

/-- A run of registers: its first offset, how many there are, and the word of each. -/
structure RegBlock where
  base : Nat
  count : Nat
  word : State → Nat → Nat

/-- Identification and capabilities (R456, R457). -/
def regsIdent : List RegBlock :=
  [ ⟨0x0, 4, fun s i => [0x01004B2A + 65536 * s.fuses.stepping, s.fuses.romVersion.toNat, s.fuses.dieId.toNat % 2 ^ 32,
                         s.fuses.dieId.toNat / 2 ^ 32].getD i 0⟩,
    ⟨0x10, 2, fun _ i => [0x00CC0C90, 0x0F8C7C80].getD i 0⟩,
    ⟨0x18, 1, fun s _ => packFields ((List.range 4).map (fun k => (8 * k, 8, s.fuses.spareGroup.get k)))⟩,
    ⟨0x1C, 9, fun _ i => [320 + 2 * 2 ^ 16, 16 + 512 * 2 ^ 16, 16 + 64 * 2 ^ 8 + 20 * 2 ^ 16, 320 + 311 * 2 ^ 16,
                          4 + 1024 * 2 ^ 16, 64 + 64 * 2 ^ 8, 16384 + 8 * 2 ^ 16 + 6 * 2 ^ 20, 40, 0x00D10A88].getD i 0⟩,
    ⟨0x40, 3, fun s i => [s.sys.scratch.toNat, packFields [bit 0 s.sys.powerUp, bit 1 s.sys.warm, (8, 8, s.sys.warmCount)],
                          s.sys.resetStage.toNat].getD i 0⟩ ]

/-- Global and unit status (R463). -/
def regsUnits : List RegBlock :=
  [ ⟨0x100, 3, fun s i => [s.clk.stage % 2 ^ 32, s.clk.hiLatch, stagePosWord s].getD i 0⟩,
    ⟨0x110, 2, fun s i => [s.dl.status.toNat, packFields [(0, 16, s.dl.engineMisses), (16, 16, s.dl.taskMisses)]].getD i 0⟩,
    ⟨0x120, 2, fun s i => [engStatusWord s,
                           packFields [(0, 10, s.eng.lastCycle), (10, 10, s.eng.maxCycle), (20, 9, s.eng.ovrSlot)]].getD i 0⟩,
    ⟨0x130, 3, fun s i => [manStatusWord s, s.man.s0 % 2 ^ 32, packFields [(0, 16, s.man.s0 / 2 ^ 32), (16, 16, s.man.nblk)]].getD i 0⟩,
    ⟨0x140, 1, fun s _ => armStatusWord s⟩,
    ⟨0x150, 1, fun s _ => cvnStatusWord s⟩,
    ⟨0x160, 4, cvnRecWord⟩,
    ⟨0x170, 4, cvnEdgeWord⟩,
    ⟨0x180, 16, lvlWord⟩,
    ⟨0x1C0, 5, fun s i => [seqStatusWord s, ((s.seq.pend.map Pend.stage).getD 0) % 2 ^ 32, seqPendWord s, chipWord s,
                           packFields [(0, 8, s.fuses.grade), (8, 7, s.fuses.boostCeil)]].getD i 0⟩,
    ⟨0x1E0, 5, fun s k => flagWord 144 k (fun n => (s.cluster n).s.latch)⟩,
    ⟨0x200, 4, fun s i => [govStatusWord s, packFields [(0, 16, s.gov.cap), (16, 4, s.gov.seconds)],
                           packFields [(0, 16, s.gov.last.pWin), (16, 16, s.gov.last.pAllow)], s.gov.overMj].getD i 0⟩,
    ⟨0x210, 4, fun s r => limWord (s.gov.win.get r)⟩,
    ⟨0x220, 4, fun s r => limWord (s.gov.ms.get r)⟩,
    ⟨0x230, 4, fun s r => packFields [(0, 16, s.gov.winMean.get r), (16, 16, s.gov.msMean.get r)]⟩,
    ⟨0x280, 16, prefWord⟩,
    ⟨0x300, 128, guarWord⟩,
    ⟨0x500, 5, fun s i => [cvyStatusWord s, packFields [(0, 16, code2 16 s.cvy.delta), (16, 16, s.cvy.lat)], s.cvy.annT % 2 ^ 32,
                           packFields [(0, 16, s.cvy.own), (16, 16, s.cvy.annExp)],
                           packFields [(0, 16, s.cvy.discarded), (16, 16, s.cvy.cancels)]].getD i 0⟩,
    ⟨0x600, 6, fun s i => [thermStatusWord s, thermTempWord s, thermCfgWord s, thermGraceWord s,
                           packFields [(0, 16, s.fuses.diodeGain), (16, 10, code2 10 s.therm.ofs)], thermTripsWord s].getD i 0⟩,
    ⟨0x700, 3, fun s i => [fwStatusWord s, s.fw.version.toNat, s.fw.trapAddr.toNat].getD i 0⟩,
    ⟨0x710, 2, fun s i => [packFields [(0, 16, s.led.parityErrs), (16, 8, s.trc.lost), bit 24 s.led.sealBusy.isSome], s.trc.next].getD i 0⟩,
    ⟨0x720, 20, fun s k => flagWord 640 k (tileBad s)⟩,
    ⟨0x800, 1, fun s _ => dbgStatusWord s⟩,
    ⟨0x810, 12, fun s k => (s.dbg.match_.get k).toNat⟩ ]

/-- Rings, events, interrupts and mailbox (R463). -/
def regsRings : List RegBlock :=
  [ ⟨0x1000, 3, fun s i => [s.cmd.cmdLo.toNat, s.cmd.cmdHi.toNat, cmdHeadWord s].getD i 0⟩,
    ⟨0x1010, 4, fun s i => [s.cmd.rplLo.toNat, s.cmd.rplHi.toNat, s.cmd.rplHead, s.cmd.rplTail].getD i 0⟩,
    ⟨0x1020, 4, fun s i => [s.cmd.evtLo.toNat, s.cmd.evtHi.toNat, s.cmd.evtHead, s.cmd.evtTail].getD i 0⟩,
    ⟨0x1030, 2, fun s i => [packFields [bit 0 s.cmd.cmdEn, bit 1 s.cmd.rplEn, bit 2 s.cmd.evtEn], irqStatusWord s].getD i 0⟩,
    ⟨0x1040, 4, fun s i => [s.evt.cause.toNat, packFields [(0, 7, evtDepth s), (16, 16, s.evt.lost)],
                            packFields [(0, 16, s.evt.catMask.toNat), (16, 6, s.evt.codes.length)], s.evt.masked].getD i 0⟩,
    ⟨0x1050, 4, fun s v => s.evt.irqSent.get v⟩,
    ⟨0x1080, 16, mcodeWord⟩,
    ⟨0x1100, 2, fun s i => [s.en.head, s.en.tail].getD i 0⟩,
    ⟨0x1200, 16, fun s w => (s.cmd.mbxCmd.get w).toNat⟩,
    ⟨0x1240, 1, fun s _ => packFields [bit 1 s.cmd.mbxBusy, bit 2 s.cmd.mbxDone, bit 3 s.cmd.mbxDrop]⟩,
    ⟨0x1260, 8, fun s w => (s.cmd.mbxRpl.get w).toNat⟩ ]

/-- Rail, phase and loop mirrors (R463). -/
def regsRails : List RegBlock :=
  [ ⟨0x2000, 4, railStatusWord⟩, ⟨0x2010, 4, railMeasWord⟩, ⟨0x2020, 12, segStatusWord⟩, ⟨0x2050, 12, segHeadWord⟩,
    ⟨0x2080, 1, fun s _ => feedWord s⟩, ⟨0x2100, 128, phStatusWord⟩, ⟨0x2300, 15, pgrpStatusWord⟩, ⟨0x2340, 15, pgrpThrWord⟩,
    ⟨0x2380, 1, fun s _ => packFields [(0, 16, s.vin.mv), bit 16 s.vin.range]⟩, ⟨0x2400, 128, phMeasWord⟩,
    ⟨0x3000, 320, loopOutWord⟩ ]

/-- Cluster and cell mirrors (R463). -/
def regsClusters : List RegBlock :=
  [ ⟨0x10000, 144, clVoltWord⟩, ⟨0x10400, 144, clCellsWord⟩, ⟨0x10700, 7, fun s k => flagWord 216 k (fun t => tileBad s (256 + t))⟩,
    ⟨0x1071C, 1, fun s _ => flagWord 9 0 (fun t => tileBad s (curveTile t))⟩, ⟨0x10800, 144, clWakeWord⟩, ⟨0x10C00, 144, clLimitWord⟩,
    ⟨0x11000, 1728, cellStatusWord⟩, ⟨0x13000, 1728, cellMeasWord⟩,
    ⟨0x18000, 144, fun s n => packFields [(0, 16, (s.cluster n).t.lastNs), (16, 16, (s.cluster n).t.maxNs)]⟩,
    ⟨0x18400, 144, sentWord⟩, ⟨0x18800, 144, blwWord⟩, ⟨0x18C00, 1, fun s _ => blwCfgWord s⟩, ⟨0x19000, 144, manClWord⟩,
    ⟨0x19400, 144, clStateWord⟩, ⟨0x19800, 144, clAgeWord⟩,
    ⟨0x19C00, 144, fun s n => packFields [(0, 16, (s.cluster n).g.sus), (16, 16, (s.cluster n).g.one)]⟩,
    ⟨0x1A000, 144, clSwellWord⟩,
    ⟨0x1A400, 144, fun s n => packFields [(0, 16, code2 16 (mapTemp s n)), (16, 16, code2 16 (((s.cluster n).rise + 128) / 256))]⟩,
    ⟨0x1A800, 5, fun s k => flagWord 144 k (fun n => (s.cluster n).k.armDrone)⟩ ]

/-- Converters and energy (R463). -/
def regsConverters : List RegBlock :=
  [ ⟨0x20000, 320, adcResWord⟩, ⟨0x20800, 16, adcConvWord⟩,
    ⟨0x20840, 16, fun s u => packFields [(0, 16, code2 16 (s.conv u).ofs), (16, 16, (s.conv u).gain)]⟩,
    ⟨0x21000, 320, fun s c => packFields [(0, 16, (s.chans.get c).lo), (16, 16, (s.chans.get c).hi)]⟩,
    ⟨0x21800, 320, fun s c => packFields [bit 0 (s.chans.get c).en, (1, 4, (s.chans.get c).n), (5, 4, (s.chans.get c).run)]⟩,
    ⟨0x30000, 528, fun s i => if i % 2 = 0 then s.en.mirrors.get (i / 2) % 2 ^ 32 else s.en.hi.get (i / 2)⟩,
    ⟨0x30840, 1, fun s _ => enStatusWord s⟩ ]

/-- Every block of registers of the window (R463). -/
def regMap : List RegBlock := regsIdent ++ regsUnits ++ regsRings ++ regsRails ++ regsClusters ++ regsConverters

/-- The block that holds an offset. -/
def regAt (off : Nat) : Option RegBlock := regMap.find? (fun b => decide (b.base ≤ off) && decide (off < b.base + 4 * b.count))

/-- What a read of the window at an offset returns, its side effects apart: 0 at an undefined or unaligned offset; at the
aperture, the word of Ledger RAM (R69, R447, R449). -/
def regRead (s : State) (off : Nat) : BitVec 32 :=
  if off % 4 != 0 || 0x200000 ≤ off then 0
  else if 0x100000 ≤ off then BitVec.ofNat 32 (leNat (ramLoad s (off - 0x100000) 4))
  else
    match regAt off with
    | some b => BitVec.ofNat 32 (b.word s ((off - b.base) / 4))
    | none => 0

/-- The bytes of the register at an offset. -/
def regBytes (s : State) (off : Nat) : List Byte := leBytes 4 (regRead s off).toNat

end Sys2Proof.Machine
end

