-- ==== Sys2Proof/Machine/Commands.lean ====
section
/-! DEFINITION. The command interface: rings, mailbox and registers as the host writes them, the validation of a slot, the
reply deadline, the event ring, and the system and diagnostic commands (R369 to R399, R452 to R455). -/

namespace Sys2Proof.Machine

/-! ### The opcode reference (R389) -/

/-- An opcode with the least and greatest payload length and the reply deadline in stages; none where the opcode sets the
deadline itself. -/
structure OpRow where
  code : Nat
  least : Nat
  most : Nat
  due : Option Nat := some 8

/-- The opcode reference (R389). -/
def opTable : List OpRow :=
  [ ⟨0x0101, 0, 16, some 8⟩, ⟨0x0102, 1, 1, some 8⟩, ⟨0x0103, 16, 16, some 4096⟩, ⟨0x0104, 32, 32, some 8⟩,
    ⟨0x0105, 48, 48, some 8⟩, ⟨0x0201, 16, 16, some 24⟩, ⟨0x0202, 16, 16, some 24⟩, ⟨0x0203, 16, 16, some 8⟩,
    ⟨0x0204, 1, 1, some 8⟩, ⟨0x0205, 16, 16, some 8⟩, ⟨0x0301, 24, 24, some 8⟩, ⟨0x0302, 4, 1024, some 8⟩,
    ⟨0x0303, 1, 1, some 8⟩, ⟨0x0304, 1, 1, some 8⟩, ⟨0x0305, 1, 1, some 8⟩, ⟨0x0401, 16, 16, some 8⟩,
    ⟨0x0403, 16, 16, none⟩, ⟨0x0404, 16, 16, some 8⟩, ⟨0x0405, 0, 0, some 8⟩, ⟨0x0501, 16, 16, some 64⟩,
    ⟨0x0502, 32, 32, some 8⟩, ⟨0x0503, 24, 24, some 8⟩, ⟨0x0504, 0, 0, some 8⟩, ⟨0x0601, 32, 32, some 8⟩,
    ⟨0x0602, 48, 48, some 8⟩, ⟨0x0603, 32, 32, some 8⟩, ⟨0x0604, 16, 16, some 8⟩, ⟨0x0605, 16, 16, some 8⟩,
    ⟨0x0606, 24, 24, some 8⟩, ⟨0x0701, 48, 48, some 1200⟩, ⟨0x0702, 0, 0, some 66⟩, ⟨0x0703, 16, 16, some 8⟩,
    ⟨0x0704, 0, 0, some 8⟩, ⟨0x0801, 16, 16, some 8⟩, ⟨0x0802, 0, 0, some 8⟩, ⟨0x0901, 24, 24, some 8⟩,
    ⟨0x0902, 1, 1, some 8⟩, ⟨0x0903, 64, 64, some 8⟩, ⟨0x0A01, 16, 16, some 32⟩, ⟨0x0A02, 16, 16, some 8⟩,
    ⟨0x0A03, 48, 48, none⟩, ⟨0x0B01, 16, 16, some 8⟩ ]

/-- The row of an opcode. -/
def opRow (opcode : Nat) : Option OpRow := opTable.find? (fun r => r.code == opcode)

/-- The payload length is one that the opcode allows; an inline count also agrees with it (R377, R378 step 6). -/
def lengthOk (r : OpRow) (indirect : Bool) (n : Nat) (l : List Byte) : Bool :=
  decide (r.least ≤ n) && decide (n ≤ r.most) &&
    (r.code != 0x0302 || (n % 4 == 0 && (indirect || n == 4 + 4 * field l 0 1)))

/-- The stages of the reply deadline, 8 where none is stated (R42, R389). -/
def replyStages (opcode : Nat) (l : List Byte) : Option Nat :=
  if opcode = 0x0801 && field l 0 1 == 1 then some 1024
  else
    match opRow opcode with
    | some r => r.due
    | none => some 8

/-! ### Validation of a slot (R378, steps 2 to 8) -/

/-- FLAGS of a slot: INDIRECT, CARAVAN, URGENT. -/
def slotFlag (b : List Byte) (i : Nat) : Bool := (field b 2 1).testBit i

/-- The inline payload of a slot. -/
def slotPayload (b : List Byte) : List Byte := if slotFlag b 0 then [] else slice b 16 (min 48 (field b 6 2))

/-- The payload length of a slot (R377). -/
def slotLength (b : List Byte) : Nat := if slotFlag b 0 then field b 24 4 else field b 6 2

/-- The checks of steps 3 to 8 that the slot itself decides, in order. -/
def slotChecks (mailbox : Bool) (b : List Byte) : List (Bool × Status) :=
  let ind := slotFlag b 0
  let op := field b 0 2
  let n := slotLength b
  let l := slotPayload b
  [ (field b 3 1 != 1 || decide (8 ≤ field b 2 1) || !zeros b 10 2, .badParam),
    ((opRow op).isNone, .badOpcode),
    (field b 6 2 == 0xFFFF || (if ind then field b 6 2 != 16 || decide (n < 1) || decide (65536 < n) else decide (48 < n) || op == 0x0903),
      .badLength),
    (!(match opRow op with | some r => lengthOk r ind n l | none => false), .badLength),
    ((!slotFlag b 1 && field b 8 2 != 0) || (slotFlag b 1 && field b 8 2 == idNone), .badParam),
    (slotFlag b 1 && !mayJoin op l, .badState),
    (ind && field b 16 8 % 64 != 0, .badParam),
    (ind && mailbox, .badState) ]

/-- HCRC of a slot matches (R378 step 2). -/
def slotCrcOk (b : List Byte) : Bool := (crc32c (b.take 12)).toNat == field b 12 4

/-- The caravan that a slot names; none while its header cannot be trusted, or its id is the reserved one (R8, R245). -/
def slotCaravan (b : List Byte) : Option Nat :=
  if slotFlag b 1 && slotCrcOk b && field b 8 2 != idNone then some (field b 8 2) else none

/-- What fails of a slot that was fetched: a status, and the reply data of step 2 (R378, R380). -/
def slotFails (o : Origin) (b : List Byte) : Option (Status × List Byte) :=
  if !slotCrcOk b then some (.checksumFail, [2, BitVec.ofNat 8 o.byte])
  else (firstFail (slotChecks (o == .mailbox) b)).map (fun st => (st, []))

/-! ### Fetching and taking (R372, R373) -/

/-- Consecutive slots as runs of at most 8 that do not pass slot 255. -/
def slotRuns : List Nat → List (Nat × Nat)
  | [] => []
  | k :: rest =>
    match slotRuns rest with
    | (a, n) :: more => if a = k + 1 && n < 8 then (k, n + 1) :: more else (k, 1) :: (a, n) :: more
    | [] => [(k, 1)]

/-- The base of the command ring. -/
def cmdBase (s : State) : Nat := s.cmd.cmdLo.toNat + 2 ^ 32 * s.cmd.cmdHi.toNat

/-- Read the payload of a command in flight whose read has not been issued (R374, R378). -/
def askPayload (f : InFlight) (s : State) : State :=
  match f.desc with
  | some (addr, n, _) => if f.asked || f.fails.isSome then s else dmaRead addr (ceilDiv n 64) 64 none s
  | none => s

/-- Slots covered by a doorbell and payloads of taken slots are read, while FB is in window and, for slots, the ring is
enabled (R372, R374). -/
def cmdFetch (s : State) : State :=
  if !s.fbOk then s
  else
    let s := forEach s.cmd.inflight askPayload s
    let s := { s with cmd := { s.cmd with inflight := s.cmd.inflight.map (fun f => { f with asked := f.asked || f.desc.isSome }) } }
    if !s.cmd.cmdEn then s
    else
      let runs := slotRuns ((s.cmd.covered.drop s.cmd.asked).map Prod.fst)
      let s := forEach runs (fun r s => dmaRead (cmdBase s + 64 * r.1) r.2 8 none s) s
      { s with cmd := { s.cmd with asked := s.cmd.covered.length } }

/-- The deadline of a covered slot, counted before it is taken: that of its opcode once it is fetched, else the shortest of
all (R42, R372). -/
def coveredDue (since : Nat) (b : Option (Option (List Byte))) : Option Nat :=
  match b with
  | some (some b) => (replyStages (field b 0 2) (slotPayload b)).map (fun k => since + k)
  | _ => some (since + 8)

/-- A covered slot that awaits taking has passed its deadline, and this has not been reported. -/
def slotLate (s : State) (k : Nat) : Bool :=
  !s.cmd.lateSlots.contains k &&
    match s.cmd.covered.zipIdx.find? (fun x => x.1.1 == k) with
    | some ((_, since), i) =>
      (match coveredDue since s.cmd.fetched[i]? with
        | some d => decide (d ≤ s.clk.stage)
        | none => false)
    | none => false

/-- The slots from HEAD on that a TAIL covers. -/
def slotsTo (head tail : Nat) : List Nat := (List.range ((tail + 256 - head) % 256)).map (fun k => (head + k) % 256)

/-- A doorbell: slots not covered before are covered from the present stage, and their fetch follows (R372). -/
def doorbell (tail : Nat) (s : State) : State :=
  let tail := tail % 256
  if tail = s.cmd.cmdTail then s
  else
    let cov := (slotsTo s.cmd.cmdHead tail).map (fun k =>
      (k, ((s.cmd.covered.find? (fun c => c.1 == k)).map Prod.snd).getD s.clk.stage))
    cmdFetch { s with cmd := { s.cmd with
      cmdTail := tail, covered := cov, asked := min s.cmd.asked cov.length, fetched := s.cmd.fetched.take cov.length
      lateSlots := s.cmd.lateSlots.filter (fun k => cov.any (fun c => c.1 == k)) } }

/-- The host writes BRX_CMD_DOORBELL; while the warm reset is low the write is held (R372, R452). -/
def hostDoorbell (tail : Nat) (s : State) : State :=
  if s.sys.warmLow then { s with sys := { s.sys with heldDoorbell := some (tail % 256) } } else doorbell tail s

/-- COMMAND_DOORBELL (R372). -/
def execCommandDoorbell (tail : Nat) (s : State) : Host.Outcome State Fault Refusal :=
  if !s.islandUp then idle s else done (hostDoorbell tail s)

/-- COMMAND_SLOT_FETCH_DONE: the slots asked for await taking (R372). -/
def execCommandSlotFetchDone (slots : List (Option (List Byte))) (s : State) : Host.Outcome State Fault Refusal :=
  if !s.islandUp then idle s
  else
    let new := slots.take (s.cmd.asked - s.cmd.fetched.length)
    done { s with cmd := { s.cmd with fetched := s.cmd.fetched ++ new.map (fun x => x.map (fun b => (padTo 64 b).take 64)) } }

/-- The command in flight that a slot makes, its bytes none after an ERROR (R378, R380). -/
def takenOf (o : Origin) (since : Nat) (slot : Option (List Byte)) : InFlight :=
  match slot with
  | none =>
    { org := o, seq := 0xFFFF, opcode := 0, since, due := some (since + 8),
      fails := some (.checksumFail, [1, BitVec.ofNat 8 o.byte]) }
  | some b =>
    let op := field b 0 2
    let fails := slotFails o b
    { org := o, seq := field b 4 2, opcode := op, urgent := o == .mailbox || slotFlag b 2,
      caravan := slotCaravan b,
      since, due := (replyStages op (slotPayload b)).map (fun k => since + k), fails,
      desc := if slotFlag b 0 && fails.isNone then some (field b 16 8, field b 24 4, field b 28 4) else none,
      payload := slotPayload b }

/-- Take a slot: it is in flight, traced, and firmware is told (R373, R378, R399, R417). -/
def takeSlot (o : Origin) (since : Nat) (slot : Option (List Byte)) (late : Bool) (s : State) : State :=
  let f := { takenOf o since slot with late }
  let s := if slot.isNone then raise 0x0115 o.byte [] s else s
  let flags := (slot.map (fun b => field b 2 1)).getD 0
  let s := trace 1 0 (leBytes 2 f.opcode ++ leBytes 2 f.seq ++ [BitVec.ofNat 8 o.byte, BitVec.ofNat 8 flags]) s
  cmdFetch (fwIrq 2 { s with cmd := { s.cmd with inflight := s.cmd.inflight ++ [f] } })

/-- The conditions of taking: the ring enabled, fewer than 16 in flight, and a reply entry left for it (R371, R373). -/
def mayTake (s : State) : Bool :=
  s.cmd.cmdEn && !s.sys.warmLow && decide (ringInflight s < 16)
    && decide ((s.cmd.rplHead + 256 - s.cmd.rplTail) % 256 + ringInflight s ≤ 254)

/-- COMMAND_SLOT_TAKE (R373). -/
def execCommandSlotTake (s : State) : Host.Outcome State Fault Refusal :=
  match s.cmd.fetched, s.cmd.covered with
  | b :: fetched, (k, since) :: covered =>
    if !mayTake s then idle s
    else
      done (takeSlot (.ring k) since b (s.cmd.lateSlots.contains k)
        { s with cmd := { s.cmd with
            fetched, covered, asked := s.cmd.asked - 1, cmdHead := (k + 1) % 256
            lateSlots := s.cmd.lateSlots.filter (fun x => x != k) } })
  | _, _ => idle s

/-- What the bytes of an indirect payload fail (R378 step 8). -/
def payloadFails (f : InFlight) (pcrc : Nat) (b : List Byte) : Option (Status × List Byte) :=
  if (crc32c b).toNat != pcrc then some (.checksumFail, [])
  else if f.opcode = 0x0302 && b.length != 4 + 4 * field b 0 1 then some (.badLength, [])
  else none

/-- The payload of a command in flight arrives (R378 step 8). -/
def payloadHeld (data : Option (List Byte)) (f : InFlight) : InFlight :=
  match f.desc with
  | none => f
  | some (_, n, pcrc) =>
    let b := (padTo n (data.getD [])).take n
    let fails := if data.isNone then some (.checksumFail, []) else payloadFails f pcrc b
    { f with desc := none, payload := b, fails, due := f.due.bind (fun _ => (replyStages f.opcode b).map (fun k => f.since + k)) }

/-- INDIRECT_PAYLOAD_FETCH_DONE (R378). -/
def execIndirectPayloadFetchDone (o : Origin) (data : Option (List Byte)) (s : State) : Host.Outcome State Fault Refusal :=
  if s.cmd.inflight.any (fun f => f.org == o && f.desc.isSome && f.asked) then
    done { s with cmd := { s.cmd with inflight := s.cmd.inflight.map (fun f => if f.org == o then payloadHeld data f else f) } }
  else idle s

/-! ### The mailbox (R376, R452, R455) -/

/-- GO: the slot is taken in that cycle as an urgent command, or dropped while BUSY (R376). -/
def mailboxTake (s : State) : State :=
  if s.cmd.mbxBusy then noteSet 0x1240 3 { s with cmd := { s.cmd with mbxDrop := true } }
  else takeSlot .mailbox s.clk.stage (some (ofWords s.cmd.mbxCmd.val)) false { s with cmd := { s.cmd with mbxBusy := true } }

/-- The host writes GO; while the warm reset is low it is held (R376, R452). -/
def hostGo (s : State) : State :=
  if s.sys.warmLow then { s with sys := { s.sys with heldGo := true } } else mailboxTake s

/-- MAILBOX_GO (R376). -/
def execMailboxGo (s : State) : Host.Outcome State Fault Refusal := if !s.islandUp then idle s else done (hostGo s)

/-! ### Replies and events (R42, R374, R375, R385) -/

/-- A slot that awaits taking has passed its reply deadline (R42). -/
def slotExpiry (o : Origin) (s : State) : Host.Outcome State Fault Refusal :=
  match o with
  | .ring k =>
    if slotLate s k then
      lapse (fun s => dlSet 2 (raiseMiss 0x0112 o.byte [] { s with cmd := { s.cmd with lateSlots := k :: s.cmd.lateSlots } })) s
    else idle s
  | .mailbox => idle s

/-- REPLY_DEADLINE_EXPIRY: the deadline of a command in flight, or of a slot covered and not yet taken, has passed (R42,
R45, R374, R383). -/
def execReplyDeadlineExpiry (o : Origin) (s : State) : Host.Outcome State Fault Refusal :=
  let late := fun (f : InFlight) => f.org == o && !f.late && (match f.due with | some d => decide (d ≤ s.clk.stage) | none => false)
  if s.cmd.inflight.any late then
    lapse (fun s => dlSet 2 (raiseMiss 0x0112 o.byte []
      { s with cmd := { s.cmd with inflight := s.cmd.inflight.map (fun f => if late f then { f with late := true } else f) } })) s
  else slotExpiry o s

/-- REPLY_HOLD_DRAIN: the oldest held reply is written (R374). -/
def execReplyHoldDrain (s : State) : Host.Outcome State Fault Refusal :=
  match s.cmd.hold with
  | [] => idle s
  | r :: rest => if s.rplOpen then done (ringReply r { s with cmd := { s.cmd with hold := rest } }) else idle s

/-- The oldest event, and the event path without it (R385, R386). -/
def nextEvent (e : Evt) : Option (Event × Evt) :=
  match e.reserved with
  | some r =>
    if e.reservedAfter = 0 then some (r, { e with reserved := none })
    else
      match e.queue with
      | q :: rest => some (q, { e with queue := rest, reservedAfter := e.reservedAfter - 1 })
      | [] => some (r, { e with reserved := none, reservedAfter := 0 })
  | none =>
    match e.queue with
    | q :: rest => some (q, { e with queue := rest })
    | [] => none

/-- An urgent event of the same cycle has yet to enter the ring (R50). -/
def urgentWaits (moment : Nat) (v : Evt) : Bool :=
  (v.reserved.toList ++ v.queue).any (fun q => q.moment == moment && isUrgent q.code)

/-- The vector that an event in the ring signals: 1 for an urgent one; 2 for another, once vector 1 has been signalled for the
urgent events of the same cycle (R50, R375). -/
def eventVector (e : Event) (s : State) : State :=
  let s := if isUrgent e.code then vector 1 s else { s with evt := { s.evt with held2 := s.evt.held2 + 1 } }
  if urgentWaits e.moment s.evt then s
  else forEach (List.range s.evt.held2) (fun _ s => vector 2 s) { s with evt := { s.evt with held2 := 0 } }

/-- EVENT_RING_WRITE: the oldest event enters the ring and its vector is signalled (R375, R385). -/
def execEventRingWrite (s : State) : Host.Outcome State Fault Refusal :=
  if !s.evtOpen || (s.cmd.evtHead + 1) % 1024 == s.cmd.evtTail then idle s
  else
    match nextEvent s.evt with
    | none => idle s
    | some (e, evt) =>
      let b := e.bytes s.clk.stage
      let s := emit (.event s.cmd.evtHead b (ringWrite (evtBase s) s.cmd.evtHead b s))
        { s with evt, cmd := { s.cmd with evtHead := (s.cmd.evtHead + 1) % 1024 } }
      done (reportLost (eventVector e s))

/-! ### Host writes of registers (R371, R387, R454) -/

/-- BRX_RING_CTRL: an enable bit set to 1 from 0 zeroes the indices of its ring (R371). -/
def ringControl (w : BitVec 32) (s : State) : State :=
  let c := s.cmd
  let c := if w.getLsbD 0 && !c.cmdEn then { c with cmdHead := 0, cmdTail := 0, covered := [], asked := 0, fetched := [], lateSlots := [] } else c
  let c := if w.getLsbD 1 && !c.rplEn then { c with rplHead := 0, rplTail := 0 } else c
  let c := if w.getLsbD 2 && !c.evtEn then { c with evtHead := 0, evtTail := 0 } else c
  cmdFetch { s with cmd := { c with cmdEn := w.getLsbD 0, rplEn := w.getLsbD 1, evtEn := w.getLsbD 2 } }

/-- RING_CONTROL_WRITE (R371). -/
def execRingControlWrite (w : BitVec 32) (s : State) : Host.Outcome State Fault Refusal :=
  if !s.islandUp then idle s else done (ringControl w s)

/-- BRX_EVT_CAUSE, write 1 to clear; clearing RAIL acknowledges the outstanding window faults (R9, R89, R387). -/
def causeClear (w : BitVec 32) (s : State) : State :=
  let w := clears s 0x1040 w
  { s with
    evt := { s.evt with cause := s.evt.cause &&& ~~~(w.truncate 12) }
    rails := if w.getLsbD 2 then s.rails.map (fun r => { r with faultAcked := r.faultAcked || r.windowFault }) else s.rails }

/-- EVENT_CAUSE_CLEAR (R387). -/
def execEventCauseClear (w : BitVec 32) (s : State) : Host.Outcome State Fault Refusal :=
  if !s.islandUp then idle s else done (causeClear w s)

/-- A host write to the aperture is discarded and reported once a period (R69). -/
def apertureWrite (s : State) : State := raisePeriod 0x0121 0 [] s

/-- An access of the host has the size and the alignment that the window takes: 32 bits (R69). -/
def accessOk (off size : Nat) : Bool := size == 4 && off % 4 == 0

/-- APERTURE_WRITE (R69). -/
def execApertureWrite (x : Access) (_w : BitVec 32) (s : State) : Host.Outcome State Fault Refusal :=
  if !s.islandUp || !accessOk x.off x.size || 0x100000 ≤ x.off then idle s else done (apertureWrite s)

/-- Write the base registers of a ring that is disabled (R371). -/
def writeBase (i : Nat) (w : BitVec 32) (c : Cmd) : Cmd :=
  let lo := w &&& 0xFFFFF000#32
  match i with
  | 0 => if c.cmdEn then c else { c with cmdLo := lo }
  | 1 => if c.cmdEn then c else { c with cmdHi := w }
  | 4 => if c.rplEn then c else { c with rplLo := lo }
  | 5 => if c.rplEn then c else { c with rplHi := w }
  | 8 => if c.evtEn then c else { c with evtLo := lo }
  | 9 => if c.evtEn then c else { c with evtHi := w }
  | _ => c

/-- BRX_MBX_CTRL: DONE and DROP are cleared by 1, and GO takes the slot (R376, R454). -/
def mailboxCtrl (w : BitVec 32) (s : State) : State :=
  let c := clears s 0x1240 w
  let s := { s with cmd := { s.cmd with mbxDone := s.cmd.mbxDone && !c.getLsbD 2, mbxDrop := s.cmd.mbxDrop && !c.getLsbD 3 } }
  if w.getLsbD 0 then hostGo s else s

/-- A host write of the window at an offset: the fields of R454 and nothing else. -/
def regWrite (off : Nat) (w : BitVec 32) (s : State) : State :=
  let v := w.toNat
  let c := clears s off w
  if off % 4 != 0 then s
  else if 0x100000 ≤ off && off < 0x200000 then apertureWrite s
  else if off = 0x40 then { s with sys := { s.sys with scratch := w } }
  else if off = 0x44 then { s with sys := { s.sys with powerUp := s.sys.powerUp && !c.getLsbD 0, warm := s.sys.warm && !c.getLsbD 1 } }
  else if off = 0x110 then { s with dl := { s.dl with status := s.dl.status &&& ~~~(c.truncate 8) } }
  else if off = 0x120 then
    { s with eng := { s.eng with swapFail := s.eng.swapFail && !c.getLsbD 12, wrDrop := s.eng.wrDrop && !c.getLsbD 26 } }
  else if off = 0x600 then { s with therm := { s.therm with contextLost := s.therm.contextLost && !c.getLsbD 11 } }
  else if off = 0x100C then hostDoorbell (v % 256) s
  else if off = 0x101C then { s with cmd := { s.cmd with rplTail := v % 256 } }
  else if off = 0x102C then { s with cmd := { s.cmd with evtTail := v % 1024 } }
  else if off = 0x1030 then ringControl w s
  else if 0x1000 ≤ off && off < 0x1028 then { s with cmd := writeBase ((off - 0x1000) / 4) w s.cmd }
  else if off = 0x1040 then causeClear w s
  else if off = 0x1104 then { s with en := { s.en with tail := if s.en.ringCount = 0 then v % 1024 else v % 1024 % s.en.ringCount } }
  else if 0x1200 ≤ off && off < 0x1240 then { s with cmd := { s.cmd with mbxCmd := s.cmd.mbxCmd.set ((off - 0x1200) / 4) w } }
  else if off = 0x1240 then mailboxCtrl w s
  else if 0x20000 ≤ off && off < 0x20500 then s.updChan ((off - 0x20000) / 4) (fun k => { k with alarm := k.alarm && !c.getLsbD 19 })
  else if 0x20800 ≤ off && off < 0x20840 then
    s.updConv ((off - 0x20800) / 4) (fun v => { v with seqFail := v.seqFail && !c.getLsbD 4, urgDrop := v.urgDrop && !c.getLsbD 5 })
  else s

/-- REGISTER_WRITE: served while the control island is powered, a warm reset included; one that is not 32 bits
wide and aligned is ignored (R69, R452, R454). -/
def execRegisterWrite (x : Access) (w : BitVec 32) (s : State) : Host.Outcome State Fault Refusal :=
  if !s.islandUp || !accessOk x.off x.size then idle s else done (regWrite x.off w s)

/-! ### Host reads with an effect (R40, R69, R363, R430) -/

/-- An open region of Ledger RAM, whose words carry parity (R426). -/
def openRegion (a : Nat) : Bool := (tileOf a).isNone && decide (a < 0x100000)

/-- A read of a 32-bit word with a parity error is counted, and reported outside the energy model record (R406, R430). -/
def parityRead (a : Nat) (s : State) : State :=
  let w := a / 4 * 4
  if openRegion a && s.led.parityBad.contains w then
    let s := { s with led := { s.led with parityErrs := min 65535 (s.led.parityErrs + 1) } }
    if modelAddr ≤ a && a < modelAddr + 64 then s else raiseMiss 0x0117 (a / 1024) (leBytes 4 a) s
  else s

/-- Words whose parity is found wrong stay so until they are rewritten. -/
def markParity (upset : Bool) (a : Nat) (s : State) : State :=
  let w := a / 4 * 4
  if upset && openRegion a && !s.led.parityBad.contains w then { s with led := { s.led with parityBad := w :: s.led.parityBad } } else s

/-- What a read of the window at an offset does besides returning its word: BRX_STAGE_LO latches STAGE_HI, a ledger LO latches
its HI, and the aperture reads a word with its parity (R40, R69, R363, R430). -/
def readEffect (off : Nat) (s : State) : State :=
  if off = 0x100 then { s with clk := { s.clk with hiLatch := s.clk.stage / 2 ^ 32 % 65536 } }
  else if 0x30000 ≤ off && off < 0x30840 && off % 8 == 0 then
    let k := (off - 0x30000) / 8
    { s with en := { s.en with hi := s.en.hi.set k (s.en.mirrors.get k / 2 ^ 32) } }
  else if 0x100000 ≤ off && off < 0x200000 && off % 4 == 0 then parityRead (off - 0x100000) s
  else s

/-- The host reads the window at an offset; an access that is not 32 bits wide and aligned reads 0 and has no effect (R69). -/
def hostRead (off size : Nat) (s : State) : State :=
  if accessOk off size then
    let w := regRead s off
    let s := readEffect off s
    { s with clk := { s.clk with lastRead := w } }
  else { s with clk := { s.clk with lastRead := 0 } }

/-- STAGE_LO_READ, a read of 32 bits: the upper bits of the counter are latched (R40). -/
def execStageLoRead (s : State) : Host.Outcome State Fault Refusal :=
  if !s.islandUp then idle s else done (hostRead 0x100 4 s)

/-- LEDGER_LO_READ: the upper half of the mirror is latched (R363). -/
def execLedgerLoRead (x : LedgerRead) (s : State) : Host.Outcome State Fault Refusal :=
  if !s.islandUp || 264 ≤ x.k then idle s else done (hostRead (0x30000 + 8 * x.k) x.size s)

/-- APERTURE_READ (R69, R406). -/
def execApertureRead (x : Access) (upset : Bool) (s : State) : Host.Outcome State Fault Refusal :=
  if !s.islandUp || 0x100000 ≤ x.off then idle s
  else done (hostRead (0x100000 + x.off) x.size (if accessOk x.off x.size then markParity upset x.off s else s))

/-! ### System commands (R388, R390, R391, R393) -/

/-- PING (R390). -/
def execPing (p : Packet) (s : State) : Host.Outcome State Fault Refusal :=
  inTurn p s fun s =>
  command p 0x0101 [(decide (16 < p.payload.length), .badLength)]
    (fun s => reply p 0x0101 .ok
      (padTo 16 p.payload ++ leBytes 6 s.clk.stage ++ [BitVec.ofNat 8 s.sys.chip.code, if s.fw.loaded then 1 else 0]) s) s

/-- A page of GET_INFO (R391). -/
def infoPage (s : State) (page : Nat) : List Byte :=
  let f := s.fuses
  let b := fun (l : List Nat) => l.map (BitVec.ofNat 8)
  match page with
  | 0 =>
    leBytes 2 0x4B2A ++ b [f.stepping, f.grade] ++ leBytes 2 144 ++ b [12, 128, 124, 16] ++ leBytes 2 320 ++ leBytes 2 320
      ++ b [16, 4] ++ leBytes 2 1024 ++ b [64, 64] ++ leBytes 2 16384 ++ b [40, 0]
  | 1 => b f.gf.val ++ b [f.boostCeil, f.grade] ++ b f.spareGroup.val ++ b [0, 0]
  | 2 =>
    leBytes 4 f.romVersion.toNat ++ leBytes 4 s.fw.version.toNat ++ leBytes 4 f.counter
      ++ b [if s.fw.loaded then 1 else 0, s.fw.result] ++ List.replicate 10 0
  | _ => leBytes 8 f.dieId.toNat ++ List.replicate 16 0

/-- GET_INFO (R391). -/
def execGetInfo (p : Packet) (s : State) : Host.Outcome State Fault Refusal :=
  inTurn p s fun s =>
  let page := field p.payload 0 1
  command p 0x0102 [(p.payload.length != 1, .badLength), (decide (3 < page), .badParam)]
    (fun s => reply p 0x0102 .ok (infoPage s page) s) s

/-- The fields of an ARM payload are legal for an OP (R205, R393). -/
def armLegal (op : Nat) (l : List Byte) : Bool :=
  let f := fun k => field l k 1
  let action := f 1
  let mask := field l 4 18
  f 0 == op && decide (1 ≤ action) && decide (action ≤ 4)
    && (if op = 0 && action == 1 then decide (1 ≤ f 2) && decide (f 2 ≤ 15) && decide (f 3 ≤ 14) else f 2 == 0 && f 3 == 0)
    && (if action ≤ 2 then mask != 0 else mask == 0) && zeros l 22 10

/-- ARM with OP 0x00 (R393). -/
def execArm (p : Packet) (s : State) : Host.Outcome State Fault Refusal :=
  inTurn p s fun s =>
  let l := p.payload
  command p 0x0104 [(l.length != 32, .badLength), (!armLegal 0 l, .badParam)]
    (defer p 0x0104 [.arm (field l 1 1) (field l 2 1) (field l 3 1) (field l 4 18)]) s

/-- ARM with OP 0x01 (R393). -/
def execDisarm (p : Packet) (s : State) : Host.Outcome State Fault Refusal :=
  inTurn p s fun s =>
  let l := p.payload
  command p 0x0104 [(l.length != 32, .badLength), (!armLegal 1 l, .badParam)]
    (defer p 0x0104 [.disarm (field l 1 1) (field l 4 18)]) s

/-- The codes of a SET_EVENT_MASK payload (R388). -/
def maskCodes (l : List Byte) : List Nat := (List.range (min 16 (field l 1 1))).map (fun i => field l (4 + 2 * i) 2)

/-- The fields of a SET_EVENT_MASK payload are legal (R388). -/
def maskLegal (s : State) (l : List Byte) : Bool :=
  let op := field l 0 1
  let n := field l 1 1
  let codes := maskCodes l
  let listed := op == 1 || op == 2
  decide (op ≤ 3) && (if listed then decide (1 ≤ n) && decide (n ≤ 16) else n == 0)
    && (if op = 0 then field l 2 2 % 2 == 0 && decide (field l 2 2 < 4096) else zeros l 2 2)
    && zeros l (4 + 2 * n) (44 - 2 * n) && codes.all (fun c => infoCodes.contains c) && noRepeat codes
    && (op != 2 || codes.all (fun c => s.evt.codes.contains c))
    && (op != 1 || decide ((s.evt.codes ++ codes.filter (fun c => !s.evt.codes.contains c)).length ≤ 32))

/-- SET_EVENT_MASK: the masks change from the next cycle (R388). -/
def execSetEventMask (p : Packet) (s : State) : Host.Outcome State Fault Refusal :=
  inTurn p s fun s =>
  let l := p.payload
  command p 0x0105 [(l.length != 48, .badLength), (!maskLegal s l, .badParam)]
    (fun s =>
      let e := (applyEventMask (field l 0 1) (field l 2 2) (maskCodes l) s).evt
      reply p 0x0105 .ok (leBytes 2 e.catMask.toNat ++ [BitVec.ofNat 8 e.codes.length])
        (soonIn 1 (.masks (field l 0 1) (field l 2 2) (maskCodes l)) s)) s

/-! ### Status of a rail and of a cluster (R395, R397) -/

/-- The group that RAIL_GET_STATUS shows: for CF the segment with the fewest live phases (R395). -/
def statusGroup (s : State) (r : Nat) : Nat :=
  if r = 0 then (argMin (liveCount s) (List.range 12)).getD 0 else r + 11

/-- Reply data of RAIL_GET_STATUS (R395). -/
def railStatusData (s : State) (r : Nat) : List Byte :=
  let g := statusGroup s r
  regBytes s (0x2000 + 4 * r) ++ regBytes s (0x2010 + 4 * r) ++ regBytes s (0x2300 + 4 * g)
    ++ leBytes 2 (if r = 0 then bitsMask ((List.range 12).filter (fun x => (s.segs.get x).inWin)) else 0)
    ++ [BitVec.ofNat 8 ((s.rail r).windowFault.toNat + 2 * (s.group g).fallback.toNat), BitVec.ofNat 8 g]

/-- RAIL_GET_STATUS (R395). -/
def execRailGetStatus (p : Packet) (s : State) : Host.Outcome State Fault Refusal :=
  inTurn p s fun s =>
  let r := field p.payload 0 1
  command p 0x0204 [(p.payload.length != 1, .badLength), (decide (3 < r), .badParam)]
    (fun s => reply p 0x0204 .ok (railStatusData s r) s) s

/-- Reply data of CLUSTER_GET_STATUS (R397). -/
def clusterStatusData (s : State) (n : Nat) : List Byte :=
  [0x10000, 0x19400, 0x10400, 0x10C00, 0x19000, 0x1A000].flatMap (fun base => regBytes s (base + 4 * n))

/-- CLUSTER_GET_STATUS (R397). -/
def execClusterGetStatus (p : Packet) (s : State) : Host.Outcome State Fault Refusal :=
  inTurn p s fun s =>
  let n := field p.payload 0 1
  command p 0x0303 [(p.payload.length != 1, .badLength), (decide (143 < n), .badParam)]
    (fun s => reply p 0x0303 .ok (clusterStatusData s n) s) s

/-! ### The trace (R399) -/

/-- The first record that DIAG_READ_TRACE copies and how many (R399). -/
def traceSpan (s : State) (first count : Nat) : Nat × Nat :=
  let oldest := s.trc.next - 8192
  let a := if first = 0xFFFFFFFF then oldest else max first oldest
  (a, min count (s.trc.next - a))

/-- The bytes of records from `a` on. -/
def traceBytes (s : State) (a k : Nat) : List Byte :=
  (List.range k).flatMap (fun i => match recordAt s ((a + i) % 8192) with | some r => r.bytes | none => List.replicate 16 0)

/-- Writes of at most 64 beats that cover `n` beats of data from `addr` on. -/
def dmaWrite (addr : Nat) (data : List Byte) (n : Nat) (s : State) : State :=
  forEach (List.range (ceilDiv n 64)) (fun k s =>
    dma { op := .write, addr := addr + 4096 * k, beats := min 64 (n - 64 * k), deadline := dueCode (addr + 4096 * k) none s,
          data := padTo (64 * min 64 (n - 64 * k)) (slice data (4096 * k) 4096) } s) s

/-- Reply data of DIAG_READ_TRACE (R399). -/
def traceReply (a k next : Nat) : List Byte := leBytes 4 a ++ leBytes 2 k ++ leBytes 4 next

/-- DIAG_READ_TRACE: the records are written to the host, and the reply follows their completion; with no record to copy it
is written at once (R399). -/
def execDiagReadTrace (p : Packet) (s : State) : Host.Outcome State Fault Refusal :=
  inTurn p s fun s =>
  let l := p.payload
  let addr := field l 0 8
  let first := field l 8 4
  let count := field l 12 2
  command p 0x0B01
    [ (l.length != 16, .badLength),
      (addr % 64 != 0 || decide (count < 1) || decide (8192 < count) || (first != 0xFFFFFFFF && decide (s.trc.next < first)) || !zeros l 14 2,
        .badParam),
      (!s.fbOk, .badState) ]
    (fun s =>
      let (a, k) := traceSpan s first count
      let next := s.trc.next
      if k = 0 then reply p 0x0B01 .ok (traceReply a 0 next) s
      else
        let s := dmaWrite addr (traceBytes s a k) (ceilDiv (16 * k) 64) s
        markEffect p .hardware { s with cmd := { s.cmd with traceReq := s.cmd.traceReq ++ [{ pkt := p, first := a, count := k, next }] } }) s

/-- TRACE_COPY_DONE: the oldest copy completes (R399). -/
def execTraceCopyDone (s : State) : Host.Outcome State Fault Refusal :=
  match s.cmd.traceReq with
  | [] => idle s
  | t :: rest =>
    done (reply t.pkt 0x0B01 .ok (traceReply t.first t.count t.next) { s with cmd := { s.cmd with traceReq := rest } })

end Sys2Proof.Machine
end

