-- ==== Sys2Proof/Machine/Engine.lean ====
section
/-! DEFINITION. The control engine: descriptors and their validation, the section arithmetic, service and scheduling within
a pace, write-back and the swap of the loop plan (R153 to R175). -/

namespace Sys2Proof.Machine

/-! ### Descriptors (R154, R155) -/

/-- Descriptor `i` of a bank. -/
def descAt (b : Tab 320 Descr) (i : Nat) : Descr := b.val.getD i (Tab.replicate 20 0)

/-- Bank `k` of two. -/
def bankAt (l : Tab 2 (Tab 320 Descr)) (k : Nat) : Tab 320 Descr := l.val.getD k (Tab.replicate 320 (Tab.replicate 20 0))

/-- Bits [lo + len - 1 : lo] of a descriptor word. -/
def dbits (d : Descr) (w lo len : Nat) : Nat := ((d.get w).toNat / 2 ^ lo) % 2 ^ len

/-- EN of a descriptor. -/
def descEn (d : Descr) : Bool := dbits d 0 0 1 == 1
/-- RATE. -/
def descRate (d : Descr) : Nat := dbits d 0 1 3
/-- The divisor of RATE. -/
def descDiv (d : Descr) : Nat := 2 ^ descRate d
/-- PH. -/
def descPh (d : Descr) : Nat := dbits d 0 4 4
/-- Sections in the cascade. -/
def descNsec (d : Descr) : Nat := dbits d 0 8 2 + 1
/-- SRC. -/
def descSrc (d : Descr) : Nat := dbits d 0 10 2
/-- CH. -/
def descCh (d : Descr) : Nat := dbits d 0 12 9
/-- REFK. -/
def descRefk (d : Descr) : Nat := dbits d 0 21 2
/-- RIDX. -/
def descRidx (d : Descr) : Nat := dbits d 0 23 9
/-- DESTK. -/
def descDestk (d : Descr) : Nat := dbits d 1 0 3
/-- DIDX. -/
def descDidx (d : Descr) : Nat := dbits d 1 3 9
/-- ISHIFT. -/
def descIshift (d : Descr) : Nat := dbits d 1 12 4
/-- OSHIFT. -/
def descOshift (d : Descr) : Nat := dbits d 1 16 3
/-- KEEP. -/
def descKeep (d : Descr) : Bool := dbits d 1 19 1 == 1
/-- SS_STEP. -/
def descSsStep (d : Descr) : Nat := dbits d 1 20 8
/-- INTEG of section j. -/
def descInteg (d : Descr) (j : Nat) : Bool := dbits d 1 (28 + j) 1 == 1
/-- The Q1.15 code in half `h` of word `w`. -/
def descQ (d : Descr) (w h : Nat) : Int := signed 16 (dbits d w (16 * h) 16)
/-- K_IN. -/
def descKin (d : Descr) : Int := descQ d 2 0
/-- K_OUT. -/
def descKout (d : Descr) : Int := descQ d 2 1
/-- OMIN. -/
def descOmin (d : Descr) : Int := descQ d 3 0
/-- OMAX. -/
def descOmax (d : Descr) : Int := descQ d 3 1

/-- The coefficients and bounds of one section (R154). -/
structure Section where
  b0 : Int
  b1 : Int
  b2 : Int
  a1h : Int
  a2h : Int
  ymin : Int
  ymax : Int
  integ : Bool
  deriving DecidableEq, Repr, Inhabited

/-- Section `j` of a descriptor. -/
def descSection (d : Descr) (j : Nat) : Section :=
  let w := 4 + 4 * j
  { b0 := descQ d w 0, b1 := descQ d w 1, b2 := descQ d (w + 1) 0, a1h := descQ d (w + 1) 1, a2h := descQ d (w + 2) 0,
    ymin := descQ d (w + 2) 1, ymax := descQ d (w + 3) 0, integ := descInteg d j }

/-! ### Arithmetic (R161 to R167) -/

/-- sat16 (R161). -/
def sat16 (v : Int) : Int := clampI (-32768) 32767 v

/-- round15: Q2.30 to Q1.15, ties towards +∞ (R161). -/
def round15 (a : Int) : Int := (a + 16384) / 32768

/-- Anti-windup of an integrating section: it holds while moving y would push a saturated output further (R164). -/
def windupHold (satHi satLo : Bool) (kout dy : Int) : Bool := (satHi && decide (0 < kout.sign * dy)) || (satLo && decide (kout.sign * dy < 0))

/-- One section (R162, R164, R165): its new state and output. -/
def evalSection (c : Section) (st : SecSt) (satHi satLo : Bool) (kout x : Int) : SecSt × Int :=
  let acc := (if c.integ then st.r else 0) + c.b0 * x + c.b1 * st.x1 + c.b2 * st.x2 - 2 * (c.a1h * st.y1) - 2 * (c.a2h * st.y2)
  let y := round15 acc
  let sat := decide (32767 < y) || decide (y < -32768)
  let r := if sat then 0 else acc - y * 32768
  let y := sat16 y
  let hold := c.integ && windupHold satHi satLo kout (y - st.y1)
  let r := if hold then st.r else r
  let y := if hold then st.y1 else y
  let clipped := decide (y < c.ymin) || decide (c.ymax < y)
  let r := if clipped then 0 else r
  let y := clampI c.ymin c.ymax y
  ({ x1 := x, x2 := st.x1, y1 := y, y2 := st.y1, r := if c.integ then r else 0 }, y)

/-- The cascade from section `j` on, `k` sections long (R162). -/
def evalCascade (d : Descr) (satHi satLo : Bool) : Nat → Nat → Tab 4 SecSt → Int → Tab 4 SecSt × Int
  | 0, _, st, x => (st, x)
  | k + 1, j, st, x =>
    let (n, y) := evalSection (descSection d j) (st.get j) satHi satLo (descKout d) x
    evalCascade d satHi satLo k (j + 1) (st.set j n) y

/-- Soft start: the reference of this evaluation, and whether soft start still runs after it (R168). -/
def softStart (refk ssStep : Nat) (st : SlotSt) (m ref : Int) : Int × Bool :=
  if refk = 0 then (0, false)
  else if st.ssFirst then
    if ssStep = 0 then (ref, false) else (m, decide (m ≠ ref))
  else if st.ss then
    let r := if st.rs ≤ ref then min ref (st.rs + ssStep) else max ref (st.rs - ssStep)
    (r, decide (r ≠ ref))
  else (ref, false)

/-- The hard clamp of a destination (R166). -/
def hardClamp (destk : Nat) (o : Int) : Int :=
  match destk with
  | 0 => clampI (-20) 20 ((o + 512) / 1024)
  | 1 => clampI (-200) 200 ((o + 64) / 128)
  | 2 => clampI (-16384) 16384 o
  | _ => o

/-- The conversion of a destination before its hard clamp (R166). -/
def convert (destk : Nat) (o : Int) : Int :=
  match destk with
  | 0 => (o + 512) / 1024
  | 1 => (o + 64) / 128
  | _ => o

/-- The evaluation of a slot: error, input, cascade, output stage, destination clamps and step limit (R161 to R168). -/
def evalSlot (d : Descr) (i : EngIn) (st : SlotSt) : SlotSt :=
  let refk := descRefk d
  let (rs, ss) := softStart refk (descSsStep d) st i.m i.ref
  let e := if refk = 0 then i.m else rs - i.m
  let x0 := sat16 (e * 2 ^ descIshift d)
  let x := sat16 (round15 (descKin d * x0) + i.outer)
  let (secs, y) := evalCascade d st.satHi st.satLo (descNsec d) 0 st.secs x
  let u := sat16 (round15 (descKout d * y))
  let o := sat16 (u * 2 ^ descOshift d)
  let out := clampI (descOmin d) (descOmax d) o
  let k := descDestk d
  let c := convert k out
  let h := hardClamp k out
  let dst := if k = 0 then clampI (st.dest - 2) (st.dest + 2) h else h
  { st with
    secs, out, dest := dst, ss, ssFirst := false, rs, held := false, off := false, wrote := true
    satHi := decide (out < o) || decide (h < c) || decide (dst < h)
    satLo := decide (o < out) || decide (c < h) || decide (h < dst)
    stepLim := decide (dst ≠ h) }

/-- A slot with its state zeroed and its soft start armed (R157, R159, R168, R169). SS_ACTIVE reads 0 until the first evaluation,
in which soft start begins to run (DEDUCED log 36). -/
def slotZero (off : Bool) : SlotSt := { off, ssFirst := true }

/-! ### Service (R169, R171) -/

/-- The active bank. -/
def activeBank (s : State) : Tab 320 Descr := bankAt s.eng.banks s.eng.bank

/-- The shadow bank. -/
def shadowBank (s : State) : Tab 320 Descr := bankAt s.eng.banks (1 - s.eng.bank)

/-- A cluster is in service: at least one of its cells regulates (R169). -/
def clusterServes (s : State) (n : Nat) : Bool :=
  (s.cluster n).k.mode == .regulate && (List.range 12).any (fun k => (s.cells.get (12 * n + k)).mode == .regulate)

/-- A destination other than an inner slot is in service (R169). -/
def destServes (s : State) (d : Descr) : Bool :=
  match descDestk d with
  | 0 => clusterServes s (descDidx d)
  | 1 => (s.group (descDidx d)).inService
  | _ => true

/-- The reference of a slot is in service (R169). -/
def refServes (s : State) (d : Descr) : Bool :=
  match descRefk d with
  | 1 => clusterServes s (descRidx d)
  | 2 => (s.group (descRidx d)).inService
  | _ => true

/-- A slot is in service (R169). -/
def slotServes (s : State) (b : Tab 320 Descr) (d : Descr) : Bool :=
  refServes s d && (if descDestk d = 2 then destServes s (descAt b (descDidx d)) else destServes s d)

/-- A slot is due in the pace (R171). -/
def slotDue (d : Descr) (pace : Nat) : Bool := pace % descDiv d == descPh d % descDiv d

/-- The slot's measured value (R160). -/
def slotInput (s : State) (d : Descr) : Int :=
  match descSrc d with
  | 0 => (s.chans.get (descCh d)).snap
  | 1 => (s.cluster (descCh d)).g.cur
  | _ => (s.group (descCh d)).curr

/-- A channel's snapshot value holds the loops that read it (R170, R187). -/
def Chan.holds (c : Chan) : Bool := c.stale || c.aged

/-- The slot's input is stale or aged; a group current is when the snapshot of one of its live phases is (R170, R187). -/
def slotStale (s : State) (d : Descr) : Bool :=
  match descSrc d with
  | 0 => (s.chans.get (descCh d)).holds
  | 1 => false
  | _ => (groupPhases s (descCh d) Phase.live).any (fun i => (s.chans.get (144 + i)).holds)

/-- REF of a slot at cycle 0 (R161). In the wake ramp below 0.300 V the code is negative: REF follows the set-point itself, though
SETPOINT reads 0 there (R148; DESIGN CHOICE log 88). -/
def slotRef (s : State) (d : Descr) : Int :=
  match descRefk d with
  | 1 => 5 * (s.cluster (descRidx d)).v.sp.cur + 1200
  | 2 => 10 * (groupSet s (descRidx d) : Int)
  | _ => 0

/-- The output of the enabled outer slot that names slot `t`, as held (R161, R171). -/
def outerOf (b : Tab 320 Descr) (st : Tab 320 SlotSt) (t : Nat) : Int :=
  match b.places (fun _ d => descEn d && descDestk d == 2 && descDidx d == t) with
  | o :: _ => (st.get o).dest
  | [] => 0

/-! ### Scheduling (R172, R173) -/

/-- Multiply-accumulates of a slot (R172). -/
def slotCost (d : Descr) : Nat := 5 * descNsec d + 2

/-- The lane with the smallest total, the lowest on a tie (R172): its number and total, from lane `k` on. -/
def leastLane : Nat → List Nat → Nat × Nat
  | k, [] => (k, 0)
  | k, [t] => (k, t)
  | k, t :: ts => let (j, u) := leastLane (k + 1) ts; if t ≤ u then (k, t) else (j, u)

/-- Add a cost to a lane. -/
def addLane (lanes : List Nat) (k c : Nat) : List Nat := listModify (· + c) lanes k

/-- Sixteen empty lanes. -/
def emptyLanes : List Nat := List.replicate 16 0

/-- The slots due and in service, in ascending order, each with its lane and the cycle of its last multiply-accumulate
(R172). -/
def assignLanes (costs : List (Nat × Nat)) : List (Nat × Nat × Nat) :=
  ((costs.foldl (fun (acc : List Nat × List (Nat × Nat × Nat)) x =>
      let (k, t) := leastLane 0 acc.1
      (addLane acc.1 k x.2, (x.1, k, t + x.2 - 1) :: acc.2)) (emptyLanes, [])).2).reverse

/-- The largest lane total of the slots due in a pace with every enabled slot in service, plus 4 (R172). -/
def paceCost (b : Tab 320 Descr) (pace upTo : Nat) : Nat :=
  let due := b.places (fun i d => decide (i ≤ upTo) && descEn d && slotDue d pace)
  let lanes := due.foldl (fun l i => addLane l (leastLane 0 l).1 (slotCost (descAt b i))) emptyLanes
  lanes.foldl max 0 + 4

/-- The worst-pace cost of a bank (R172). -/
def worstCost (b : Tab 320 Descr) : Nat := (List.range 16).foldl (fun m p => max m (paceCost b p 319)) 0

/-- The cycle of a last multiply-accumulate after the stalls of its lane (R173). -/
def stalled (stalls : List (Nat × Nat)) (lane last : Nat) : Nat :=
  stalls.foldl (fun b x => if x.1 = lane && decide (x.2 ≤ b) then b + 1 else b) last

/-- Stall one lane for a read of the state part of slot `t`: the lane that holds it in this pace, or lane 0 (R173). -/
def engineStall (t : Nat) (s : State) : State :=
  let lane := ((s.eng.inputs.find? (fun i => i.slot == t)).map EngIn.lane).getD 0
  { s with eng := { s.eng with stalls := s.eng.stalls ++ [(lane, s.cycle)] } }

/-! ### Cycle 0 of a pace (R169, R171, R174) -/

/-- A clip of the cell set-point at 0 or 560 counts as a hard clamp of the evaluation that has just taken effect (R167). -/
def setpointClip (s : State) (d : Descr) (st : SlotSt) : SlotSt :=
  if descDestk d = 0 && st.wrote then
    let v := (s.cluster (descDidx d)).v.sp.cur + st.dest
    { st with satHi := st.satHi || decide (560 < v), satLo := st.satLo || decide (v < 0) }
  else st

/-- The value that the enabled slot of a destination holds there, 0 with none (R171, R174). -/
def destValue (s : State) (destk didx : Nat) : Int :=
  match (activeBank s).places (fun _ d => descEn d && descDestk d == destk && descDidx d == didx) with
  | t :: _ => (s.eng.slots.get t).dest
  | [] => 0

/-- The results written in the last pace take effect, and slots out of service are zeroed (R169, R174). -/
def engineApply (s : State) : State :=
  let b := activeBank s
  let slots := s.eng.slots.mapI (fun i st =>
    let d := descAt b i
    if descEn d && slotServes s b d then { setpointClip s d { st with off := false } with wrote := false }
    else slotZero true)
  let s := { s with eng := { s.eng with slots } }
  let s := { s with cl := s.cl.mapI (fun n c => { c with v := { c.v with corr := destValue s 0 n } }) }
  { s with groups := s.groups.mapI (fun g gr => { gr with delta := destValue s 1 g }) }

/-- The slots due and in service are assigned to lanes with the inputs of cycle 0 (R160, R161, R171, R172). -/
def engineLatch (s : State) : State :=
  let b := activeBank s
  let due := b.places (fun _ d => descEn d && slotDue d s.clk.pace && slotServes s b d)
  let lanes := assignLanes (due.map (fun i => (i, slotCost (descAt b i))))
  { s with eng := { s.eng with
      stalls := []
      inputs := lanes.map (fun x =>
        let d := descAt b x.1
        { slot := x.1, m := slotInput s d, ref := slotRef s d, outer := outerOf b s.eng.slots x.1, stale := slotStale s d,
          lane := x.2.1, last := x.2.2 }) } }

/-! ### Cycle 512 (R170, R173, R174) -/

/-- One slot of the pace at cycle 512: evaluated, or held with its state and output unchanged (R170, R173). -/
def engineSlot (b : Tab 320 Descr) (stalls : List (Nat × Nat)) (parity : List Nat) (i : EngIn) (t : Tab 320 SlotSt) :
    Tab 320 SlotSt :=
  if i.stale || parity.contains i.slot || decide (512 < stalled stalls i.lane i.last + 5) then
    t.modify i.slot (fun st => { st with held := true })
  else t.modify i.slot (evalSlot (descAt b i.slot) i)

/-- Cycle 512 of a pace: slots not complete are abandoned with FLT_ENGINE_OVERRUN, the others are written back, and a parity error
holds its slot. A slot held for its input or parity keeps its lane time, and when that ends past cycle 512 it counts among the
abandoned (R170, R173, R174; DESIGN CHOICE log 88). -/
def execEngineEvalDeadline (parity : List Nat) (s : State) : Host.Outcome State Fault Refusal :=
  if !s.clk.running then idle s
  else
    lapseAt (s.clk.paceStart + 512) (fun s =>
      let b := activeBank s
      let ends := s.eng.inputs.map (fun i => (i.slot, stalled s.eng.stalls i.lane i.last + 5))
      let tooLong := ends.filter (fun x => decide (512 < x.2))
      let worst := ends.foldl (fun m x => max m x.2) 0
      let last := if tooLong.isEmpty then worst else 1023
      let slots0 := s.eng.slots.map (fun st => { st with held := false })
      let slots := s.eng.inputs.foldl (fun t i => engineSlot b s.eng.stalls parity i t) slots0
      let s1 := { s with eng := { s.eng with
        slots, inputs := [], lastCycle := last, maxCycle := max s.eng.maxCycle last
        ovrSlot := match tooLong with | x :: _ => x.1 | [] => s.eng.ovrSlot } }
      let s1 := forEach (s.eng.inputs.filter (fun i => parity.contains i.slot)) (fun i => raisePeriod 0x0113 i.slot []) s1
      match tooLong with
      | [] => s1
      | x :: _ =>
        dlSet 0 (raiseMiss 0x0110 x.1 (leBytes 2 tooLong.length ++ leBytes 2 s.eng.stalls.length)
          { s1 with dl := { s1.dl with engineMisses := min 65535 (s1.dl.engineMisses + 1) } })) s

/-! ### Validation and swap (R156 to R158) -/

/-- The reason for which a slot of the shadow bank fails the checks 1 to 10 and 12, in their order; 0 when it passes (R156). Of
a pair of slots that fails a check together, the later one fails 5 and 7, and the outer one, which names the other, 6 and 9
(DESIGN CHOICE log 89). -/
def slotReason (b : Tab 320 Descr) (parity : List Nat) (i : Nat) : Nat :=
  let d := descAt b i
  let destk := descDestk d
  let didx := descDidx d
  let inner := descAt b didx
  let en := descEn d
  let pad := (List.range 4).any (fun j => dbits d (7 + 4 * j) 16 16 != 0)
  let shares := destk ≤ 1 && en && !(b.places (fun k e => decide (k < i) && descEn e && descDestk e == destk && descDidx e == didx)).isEmpty
  let twice := destk == 2 && en && !(b.places (fun k e => decide (k < i) && descEn e && descDestk e == 2 && descDidx e == didx)).isEmpty
  let bounds := (List.range (descNsec d)).any (fun j => let c := descSection d j; decide (c.ymax < c.ymin)) || decide (descOmax d < descOmin d)
  let chMax := match descSrc d with | 0 => 320 | 1 => 144 | _ => 15
  let ridxBad := match descRefk d with
    | 0 => descRidx d != 0
    | 1 => decide (144 ≤ descRidx d)
    | _ => decide (15 ≤ descRidx d)
  let didxBad := match destk with
    | 0 => decide (144 ≤ didx)
    | 1 => decide (15 ≤ didx)
    | 2 => decide (320 ≤ didx) || didx == i
    | _ => didx != 0
  if pad then 1
  else if 4 < descRate d || descSrc d == 3 || descRefk d == 3 || 3 < destk then 2
  else if chMax ≤ descCh d || ridxBad then 3
  else if didxBad then 4
  else if shares then 5
  else if destk == 2 && descDestk inner == 2 then 6
  else if twice then 7
  else if destk == 2 && en && !descEn inner then 8
  else if destk == 2 && (descDiv d % descDiv inner != 0 || descPh d % descDiv inner != descPh inner % descDiv inner) then 9
  else if bounds then 10
  else if parity.contains i then 12
  else 0

/-- The cost check (R156 reason 11) at slot `i`: the first slot at which some pace costs more than 512 cycles. -/
def costFails (b : Tab 320 Descr) (i : Nat) : Bool := (List.range 16).any (fun p => decide (512 < paceCost b p i))

/-- The first failing slot of a bank and its reason: the lowest that applies, but 11 before 12; slot `i` fails 11 when it is the
first with which some pace costs more than 512 cycles (R156; DESIGN CHOICE log 89). -/
def planCheck (b : Tab 320 Descr) (parity : List Nat) : Option (Nat × Nat) :=
  let tooLong := decide (512 < worstCost b)
  (List.range 320).findSome? (fun i =>
    let r := slotReason b parity i
    if r != 0 && r != 12 then some (i, r)
    else if tooLong && costFails b i then some (i, 11)
    else if r == 12 then some (i, 12)
    else none)

/-- SWAP is written: the validation of the shadow bank starts. A second SWAP has no effect, but one in the cycle in which the
validation rejects the bank starts another (R10, R156, R158). -/
def swapRequest (s : State) : State :=
  if s.eng.swapPend then { s with eng := { s.eng with swapAgain := some s.clk.now } }
  else { s with eng := { s.eng with swapPend := true, swapAge := 0, swapEdge := none, swapAgain := none } }

/-- A core write of SWAP (R156). -/
def execSwap (s : State) : Host.Outcome State Fault Refusal :=
  if !s.fwRuns then idle s else done (swapRequest s)

/-- The shadow bank is rejected (R156, R157); a SWAP of the same cycle stands (R10). -/
def planReject (slot reason : Nat) (s : State) : State :=
  noteSet 0x120 12 (raise 0x0122 slot [BitVec.ofNat 8 reason]
    { s with eng := { s.eng with swapPend := s.eng.swapAgain == some s.clk.now, swapAge := 0, swapAgain := none
                                 swapFail := true, failSlot := slot, failReason := reason } })

/-- The validation of the shadow bank ends: the swap is set for an edge, counted from the SWAP, or the bank is rejected (R156,
R157). -/
def execPlanValidationDone (parity : List Nat) (s : State) : Host.Outcome State Fault Refusal :=
  if !s.eng.swapPend || s.eng.swapEdge.isSome then idle s
  else
    match planCheck (shadowBank s) parity with
    | some (slot, reason) => done (planReject slot reason s)
    | none =>
      let inTime := s.eng.swapAge == 0 && (decide (s.clk.pace < 15) || s.cycle == 0)
      done { s with eng := { s.eng with swapEdge := some (if inTime then 1 else 2) } }

/-- The slot keeps its state across a swap: KEEP is that of the new bank (R157; DESIGN CHOICE log 89). -/
def keepsState (o d : Descr) : Bool :=
  descKeep d && descEn o && descEn d && descNsec o == descNsec d && descSrc o == descSrc d && descCh o == descCh d
    && descDestk o == descDestk d && descDidx o == descDidx d

/-- The shadow bank comes into force, and the active bank becomes the shadow (R157). -/
def bankSwap (s : State) : State :=
  let o := activeBank s
  let n := shadowBank s
  { s with eng := { s.eng with
      bank := 1 - s.eng.bank, swapPend := false, swapAge := 0, swapEdge := none, swapAgain := none, worst := worstCost n, inputs := []
      slots := s.eng.slots.mapI (fun i st => if keepsState (descAt o i) (descAt n i) then st else slotZero st.off) } }

/-- A validated shadow bank comes into force in its edge cycle; its edges are counted from the SWAP, also where a convoy join loads
another stage number (R157; DESIGN CHOICE log 89). -/
def engineSwap (s : State) : State :=
  if !s.eng.swapPend then s
  else
    let s := { s with eng := { s.eng with swapAge := s.eng.swapAge + 1 } }
    match s.eng.swapEdge with
    | some e => if e ≤ s.eng.swapAge then bankSwap s else s
    | none => s

/-- A write to the descriptor banks: into the shadow, or discarded with WR_DROP (R153, R158). Words past the last descriptor
of a bank are not storage. -/
def bankWrite (addr : Nat) (w : BitVec 32) (s : State) : State :=
  let bank := (addr - 0x200000) / 0x10000
  let k := ((addr - 0x200000) % 0x10000) / 4
  if bank = s.eng.bank || s.eng.swapPend then noteSet 0x120 26 { s with eng := { s.eng with wrDrop := true } }
  else if 6400 ≤ k then s
  else { s with eng := { s.eng with banks := s.eng.banks.modify bank (fun b => b.modify (k / 20) (fun d => d.set (k % 20) w)) } }

/-- A core write to the descriptor banks (R158). -/
def execEngineBankWrite (addr : Nat) (w : BitVec 32) (s : State) : Host.Outcome State Fault Refusal :=
  if !s.fwRuns || addr < 0x200000 || 0x220000 ≤ addr then idle s else done (bankWrite addr w s)

/-- A warm reset keeps both banks, zeroes every slot's state and arms soft start; a pending swap stays pending (R159). The
evaluation in progress is dropped, and its pace reports completion cycle 0 (DESIGN CHOICE log 88). -/
def engineWarm (s : State) : State :=
  { s with eng := { s.eng with inputs := [], stalls := [], slots := s.eng.slots.map (fun st => slotZero st.off) } }

end Sys2Proof.Machine
end

