-- ==== Sys2Proof/Machine/Bus.lean ====
section
/-! DEFINITION. What the firmware core and the debug port see: the core address map with its reads and writes, and the tile
buffer (R415 to R417, R426 to R432, R443). -/

namespace Sys2Proof.Machine

/-! ### Tiles as the core reads them (R408, R431, R432) -/

/-- The source index of FLT_CAL_TILE for a sealed tile of the tables (R408). -/
def tileSource (t : Nat) : Option Nat :=
  if 256 ≤ t && t < 472 then some (t - 256)
  else if 472 ≤ t && t < 481 then some (256 + (t - 472))
  else if 481 ≤ t && t < 510 then some (514 + (t - 481))
  else if t = 510 then some 512
  else if t = 511 then some 513
  else none

/-- A tile has failed a check: it is marked bad and reported, and its readers go to their defaults (R140, R285, R341, R431).
A tile that was bad already is not reported again. -/
def failTile (t : Nat) (s : State) : State :=
  if tileBad s t then s
  else
    let s := markBad t s
    let s := if 256 ≤ t && t < 472 then
        forEach (calClusters (t - 256)) (fun n s => s.updCl n (fun c => { c with v := { c.v with calWait := true } })) s
      else if t = 510 then { s with therm := { s.therm with mapDefault := true, model := { tau := 20, kappa := 64, theta := [] } } }
      else s
    match tileSource t with
    | some src => raise 0x0A11 src [] s
    | none => s

/-- The thermal model of a tile, none where a value makes the tile bad (R341). -/
def thermTile (b : List Byte) : Option ThermModel :=
  if field b 0 1 = 0 || 192 < field b 1 1 then none
  else some { tau := field b 0 1, kappa := field b 1 1, theta := (List.range 144).map (fun n => field b (16 + 4 * n) 2) }

/-- A tile of the tables has been written with a new check: its readers return to it (R141, R285, R341). -/
def tileWritten (t : Nat) (s : State) : State :=
  if 256 ≤ t && t < 472 then takeBrackets (t - 256) (tileBytes s t) s
  else if 472 ≤ t && t < 481 then
    let b := tileBytes s t
    { s with cl := s.cl.mapI (fun n c =>
        if n / 16 = t - 472 then { c with v := { c.v with curve := curveOf (slice b (64 * (n % 16)) 64) } } else c) }
  else if t = 510 then
    match thermTile (tileBytes s t) with
    | some m => { s with therm := { s.therm with model := m, mapDefault := false } }
    | none => failTile t s
  else s

/-- A tile is wanted through the tile buffer: held there, or read and checked; the buffer keeps the 8 last used (R431,
R432). -/
def bufferTile (t : Nat) (upset : Bool) (s : State) : Bool × State :=
  if tileBad s t then (false, s)
  else if s.led.tileBuf.contains t || tilePasses s t upset then
    (true, { s with led := { s.led with tileBuf := (t :: s.led.tileBuf.filter (fun x => x != t)).take 8 } })
  else (false, s)

/-! ### Reads (R416, R417, R443) -/

/-- A word of the converter block; the word of an urgent result has no layout in the spec, nor a value before there is one (R185,
R416; DESIGN CHOICE log 32). -/
def converterRead (s : State) (off : Nat) : BitVec 32 :=
  if off < 0x1000 then (s.conv (off / 0x100)).shadow.get (off % 0x100 / 4)
  else if 0x1040 ≤ off && off < 0x1080 then
    match (s.conv ((off - 0x1040) / 4)).urgRes with
    | some (c, v, t) => Config.urgentResult c v t
    | none => Config.urgentResult 0 0 0
  else if off = 0x1080 then BitVec.ofNat 32 (flagWord 16 0 (fun u => (s.conv u).swapReq))
  else if 0x2000 ≤ off && off < 0x2500 then regRead s (0x21000 + (off - 0x2000))
  else if 0x3000 ≤ off && off < 0x3500 then regRead s (0x21800 + (off - 0x3000))
  else 0

/-- A word of the core control registers (R417). -/
def controlRead (s : State) (off : Nat) : BitVec 32 :=
  match off with
  | 0x00 => s.fw.done.zeroExtend 32
  | 0x04 => s.fw.irq.zeroExtend 32
  | 0x08 => s.fw.irqEn.zeroExtend 32
  | 0x10 => BitVec.ofNat 32 (packFields [(0, 10, s.led.sealTile), bit 11 s.led.sealBusy.isSome, bit 12 s.led.sealRefused])
  | _ => 0

/-- A word of the slot-state map: x1, x2, y1, y2 and r of a section, then 0 (R443). -/
def slotStateRead (s : State) (off : Nat) : BitVec 32 :=
  let sec := (s.eng.slots.get (off / 64)).secs.get (off % 64 / 16)
  let two := fun (a b : Int) => BitVec.ofNat 32 (code2 16 a + 65536 * code2 16 b)
  match off % 16 / 4 with
  | 0 => two sec.x1 sec.x2
  | 1 => two sec.y1 sec.y2
  | 2 => two sec.r 0
  | _ => 0

/-- An aligned word of the core address map as the core or the port reads it; none for an address outside the map or a tile
that fails (R416, R431). -/
def busRead (a : Nat) (s : State) : Option (BitVec 32) × State :=
  if a < 0x100000 then
    match tileOf a with
    | some t =>
      let (ok, s') := bufferTile t false s
      if ok then (some (BitVec.ofNat 32 (leNat (ramLoad s a 4))), s') else (none, failTile t s')
    | none => (some (BitVec.ofNat 32 (leNat (ramLoad s a 4))), parityRead a s)
  else if a < 0x120000 then (some (BitVec.ofNat 32 (leNat ((List.range 4).map (fun i => Config.romByte (a - 0x100000 + i))))), s)
  else if 0x200000 ≤ a && a < 0x220000 then
    let k := ((a - 0x200000) % 0x10000) / 4
    (some (if k < 6400 then (descAt (bankAt s.eng.banks ((a - 0x200000) / 0x10000)) (k / 20)).get (k % 20) else 0), s)
  else if 0x220000 ≤ a && a < 0x221000 then (some (if a = 0x220000 && s.eng.swapPend then 1 else 0), s)
  else if 0x230000 ≤ a && a < 0x234000 then (some (converterRead s (a - 0x230000)), s)
  else if 0x240000 ≤ a && a < 0x240100 then (some (controlRead s (a - 0x240000)), s)
  else if 0x240400 ≤ a && a < 0x240800 then (some (BitVec.ofNat 32 (field s.led.sealBuf (a - 0x240400) 4)), s)
  else if 0x280000 ≤ a && a < 0x285000 then (some (slotStateRead s (a - 0x280000)), engineStall ((a - 0x280000) / 64) s)
  else if 0x300000 ≤ a && a < 0x500000 then (some (regRead s (a - 0x300000)), readEffect (a - 0x300000) s)
  else (none, s)

/-! ### Writes (R417, R426, R432, R443) -/

/-- How a write ends: done, a store access fault of the core, or refused at the port. -/
inductive BusRes where
  | ok | fault | refused
  deriving DecidableEq, Repr

/-- A word with the bytes of `w` that a lane mask names in place of the old ones. -/
def mergeWord (old w : BitVec 32) (lanes : Nat) : BitVec 32 :=
  let m := (List.range 4).foldl (fun (m : BitVec 32) k => if lanes.testBit k then m ||| BitVec.ofNat 32 (255 * 2 ^ (8 * k)) else m) 0
  (old &&& ~~~m) ||| (w &&& m)

/-- A seal write is started by GO: discarded while one runs, refused for a tile that firmware may not write (R432). -/
def sealGo (tile : Nat) (s : State) : State :=
  if s.led.sealBusy.isSome then s
  else
    let s := { s with led := { s.led with sealTile := tile % 1024 } }
    if 256 ≤ tile % 1024 && tile % 1024 < 512 then { s with led := { s.led with sealBusy := some (tile % 1024) } }
    else noteSet 0x240010 12 { s with led := { s.led with sealRefused := true } }

/-- A write of the core control registers (R417). -/
def controlWrite (off : Nat) (w : BitVec 32) (s : State) : State :=
  match off with
  | 0x00 => { s with fw := { s.fw with done := w.truncate 16 } }
  | 0x04 => { s with fw := { s.fw with irq := s.fw.irq &&& ~~~((clears s 0x240004 w).truncate 5) } }
  | 0x08 => { s with fw := { s.fw with irqEn := w.truncate 5 } }
  | 0x10 =>
    let s := if (clears s 0x240010 w).getLsbD 12 then { s with led := { s.led with sealRefused := false } } else s
    if w.getLsbD 10 then sealGo (w.toNat % 1024) s else { s with led := { s.led with sealTile := w.toNat % 1024 } }
  | _ => s

/-- A write of the converter block (R179, R183, R194, R416). -/
def converterWrite (off : Nat) (w : BitVec 32) (s : State) : State :=
  let v := w.toNat
  if off < 0x1000 then s.updConv (off / 0x100) (fun c => { c with shadow := c.shadow.set (off % 0x100 / 4) w })
  else if off = 0x1000 then urgentRequest v s
  else if off = 0x1080 then seqSwapRequest (v % 65536) s
  else if 0x2000 ≤ off && off < 0x2500 then s.updChan ((off - 0x2000) / 4) (fun c => { c with lo := v % 65536, hi := v / 65536 })
  else if 0x3000 ≤ off && off < 0x3500 then
    s.updChan ((off - 0x3000) / 4) (fun c => { c with en := w.getLsbD 0, n := v / 2 % 16 })
  else s

/-- A core or port write to the host window: governor and swell registers reach the policy shadow, all else is discarded
(R417). -/
def windowWrite (off : Nat) (w : BitVec 32) (s : State) : State :=
  if (0x200 ≤ off && off < 0x400) || (0x1A000 ≤ off && off < 0x1A240) then
    { s with gov := { s.gov with shadowW := s.gov.shadowW ++ [(off, w)] } }
  else s

/-- Store bytes in an open region: the parity of the words touched is rewritten (R430). -/
def openStore (a : Nat) (w : BitVec 32) (lanes : Nat) (s : State) : State :=
  let old := BitVec.ofNat 32 (leNat (ramLoad s a 4))
  let s := ramStore a (leBytes 4 (mergeWord old w lanes).toNat) s
  { s with led := { s.led with parityBad := s.led.parityBad.filter (fun x => x != a) } }

/-- Whether the core may store at an aligned word of Ledger RAM; the port is refused where a region is sealed (R419, R426,
R432, R443). -/
def ledgerMay (port : Bool) (a : Nat) (s : State) : BusRes :=
  if (tileOf a).isSome then (if port then .refused else .fault)
  else if 0xD0000 ≤ a && a < 0xF0000 then .fault
  else if 0x5F000 ≤ a && a < 0x60000 && s.fw.loaded && !port then .fault
  else .ok

/-- Write the lanes of an aligned word of the core address map (R416, R417, R443). -/
def busWrite (port : Bool) (a : Nat) (w : BitVec 32) (lanes : Nat) (s : State) : BusRes × State :=
  let whole := mergeWord 0 w lanes
  if a < 0x100000 then
    match ledgerMay port a s with
    | .ok => (.ok, openStore a w lanes s)
    | r => (r, s)
  else if a < 0x120000 then (if port then .refused else .fault, s)
  else if 0x200000 ≤ a && a < 0x220000 then (.ok, bankWrite a (mergeWord ((busRead a s).1.getD 0) w lanes) s)
  else if 0x220000 ≤ a && a < 0x221000 then (.ok, if a = 0x220000 && whole.getLsbD 0 then swapRequest s else s)
  else if 0x230000 ≤ a && a < 0x234000 then
    let off := a - 0x230000
    (.ok, converterWrite off (if off < 0x1000 || 0x2000 ≤ off then mergeWord (converterRead s off) w lanes else whole) s)
  else if 0x240000 ≤ a && a < 0x240100 then (.ok, controlWrite (a - 0x240000) whole s)
  else if 0x240400 ≤ a && a < 0x240800 then
    let off := a - 0x240400
    let b := s.led.sealBuf
    (.ok, { s with led := { s.led with
      sealBuf := b.take off ++ leBytes 4 (mergeWord (BitVec.ofNat 32 (field b off 4)) w lanes).toNat ++ b.drop (off + 4) } })
  else if 0x280000 ≤ a && a < 0x285000 then (if port then .refused else .fault, s)
  else if 0x300000 ≤ a && a < 0x500000 then (.ok, windowWrite (a - 0x300000) whole s)
  else (.fault, s)

/-! ### Commands of the core (R417, R432) -/

/-- SEAL_GO (R432). -/
def execSealGo (tile : Nat) (s : State) : Host.Outcome State Fault Refusal :=
  if !s.fwRuns then idle s else done (sealGo tile s)

/-- SEAL_WRITE_DONE: the tile and its check are written, and SEAL is set (R432). -/
def execSealWriteDone (s : State) : Host.Outcome State Fault Refusal :=
  match s.led.sealBusy with
  | none => idle s
  | some t =>
    let s := tileWritten t (sealTile t s.led.sealBuf s)
    done (fwIrq 4 { s with led := { s.led with sealBusy := none } })

/-- CORE_HOST_WINDOW_WRITE (R417). -/
def execCoreHostWindowWrite (off : Nat) (w : BitVec 32) (s : State) : Host.Outcome State Fault Refusal :=
  if !s.fwRuns || off % 4 != 0 then idle s else done (windowWrite off w s)

end Sys2Proof.Machine
end

