-- ==== Sys2Proof/Machine/Hart.lean ====
section
/-! DEFINITION. The firmware core: the instructions of RV32I, M, C and Zicsr, its machine-mode registers, traps, and one
instruction as the debug port steps it (R415, R423, R440). PRESUMED: the RISC-V specifications themselves are outside the
spec, which names the parts of them that Bruxon relies on (log entry 14). -/

namespace Sys2Proof.Machine

/-! ### Instructions -/

/-- An instruction of the core, by what it does; offsets and immediates are sign-extended words. -/
inductive HInstr where
  | lui (rd : Nat) (imm : BitVec 32)
  | auipc (rd : Nat) (imm : BitVec 32)
  | jal (rd : Nat) (off : BitVec 32)
  | jalr (rd rs1 : Nat) (imm : BitVec 32)
  | branch (f3 rs1 rs2 : Nat) (off : BitVec 32)
  | load (f3 rd rs1 : Nat) (imm : BitVec 32)
  | store (f3 rs2 rs1 : Nat) (imm : BitVec 32)
  | opImm (f3 : Nat) (alt : Bool) (rd rs1 : Nat) (imm : BitVec 32)
  | op (f3 : Nat) (alt : Bool) (rd rs1 rs2 : Nat)
  | mulDiv (f3 rd rs1 rs2 : Nat)
  | csr (f3 rd rs1 num : Nat)
  | fence
  | ecall
  | ebreak
  | mret
  | wfi
  | illegal
  deriving DecidableEq, Repr

/-- `k` bits of an instruction from bit `lo`. -/
def ibits (w : BitVec 32) (lo k : Nat) : Nat := (w.toNat / 2 ^ lo) % 2 ^ k

/-- A word from the low `k` bits of a number, sign-extended. -/
def sext (k n : Nat) : BitVec 32 := (BitVec.ofNat k n).signExtend 32

/-- A 32-bit instruction. -/
def decode32 (w : BitVec 32) : HInstr :=
  let rd := ibits w 7 5
  let f3 := ibits w 12 3
  let rs1 := ibits w 15 5
  let rs2 := ibits w 20 5
  let f7 := ibits w 25 7
  let immI := sext 12 (ibits w 20 12)
  match ibits w 0 7 with
  | 0x37 => .lui rd (w &&& 0xFFFFF000#32)
  | 0x17 => .auipc rd (w &&& 0xFFFFF000#32)
  | 0x6F => .jal rd (sext 21 (2 * ibits w 21 10 + 2 ^ 11 * ibits w 20 1 + 2 ^ 12 * ibits w 12 8 + 2 ^ 20 * ibits w 31 1))
  | 0x67 => if f3 = 0 then .jalr rd rs1 immI else .illegal
  | 0x63 =>
    if f3 = 2 || f3 = 3 then .illegal
    else .branch f3 rs1 rs2 (sext 13 (2 * ibits w 8 4 + 2 ^ 5 * ibits w 25 6 + 2 ^ 11 * ibits w 7 1 + 2 ^ 12 * ibits w 31 1))
  | 0x03 => if f3 ≤ 2 || f3 = 4 || f3 = 5 then .load f3 rd rs1 immI else .illegal
  | 0x23 => if f3 ≤ 2 then .store f3 rs2 rs1 (sext 12 (rd + 2 ^ 5 * f7)) else .illegal
  | 0x13 =>
    if f3 = 1 then (if f7 = 0 then .opImm 1 false rd rs1 (BitVec.ofNat 32 rs2) else .illegal)
    else if f3 = 5 then (if f7 = 0 || f7 = 32 then .opImm 5 (f7 == 32) rd rs1 (BitVec.ofNat 32 rs2) else .illegal)
    else .opImm f3 false rd rs1 immI
  | 0x33 =>
    if f7 = 1 then .mulDiv f3 rd rs1 rs2
    else if f7 = 0 then .op f3 false rd rs1 rs2
    else if f7 = 32 && (f3 = 0 || f3 = 5) then .op f3 true rd rs1 rs2
    else .illegal
  | 0x0F => if f3 = 0 then .fence else .illegal
  | 0x73 =>
    if f3 = 0 then
      (if w = 0x00000073#32 then .ecall
       else if w = 0x00100073#32 then .ebreak
       else if w = 0x30200073#32 then .mret
       else if w = 0x10500073#32 then .wfi
       else .illegal)
    else if f3 = 4 then .illegal
    else .csr f3 rd rs1 (ibits w 20 12)
  | _ => .illegal

/-- A 16-bit instruction of the C extension (RV32C, integer only). -/
def decode16 (h : Nat) : HInstr :=
  let b := fun lo k => (h / 2 ^ lo) % 2 ^ k
  let rdq := 8 + b 2 3
  let rsq := 8 + b 7 3
  let rd := b 7 5
  let rs2 := b 2 5
  let imm6 := sext 6 (b 2 5 + 32 * b 12 1)
  let offJ := sext 12 (2 * b 3 3 + 16 * b 11 1 + 32 * b 2 1 + 64 * b 7 1 + 128 * b 6 1 + 256 * b 9 2 + 1024 * b 8 1 + 2048 * b 12 1)
  let offB := sext 9 (2 * b 3 2 + 8 * b 10 2 + 32 * b 2 1 + 64 * b 5 2 + 256 * b 12 1)
  let offW := BitVec.ofNat 32 (4 * b 6 1 + 8 * b 10 3 + 64 * b 5 1)
  match b 0 2, b 13 3 with
  | 0, 0 =>
    let imm := 4 * b 6 1 + 8 * b 5 1 + 16 * b 11 2 + 64 * b 7 4
    if imm = 0 then .illegal else .opImm 0 false rdq 2 (BitVec.ofNat 32 imm)
  | 0, 2 => .load 2 rdq rsq offW
  | 0, 6 => .store 2 rdq rsq offW
  | 1, 0 => .opImm 0 false rd rd imm6
  | 1, 1 => .jal 1 offJ
  | 1, 2 => .opImm 0 false rd 0 imm6
  | 1, 3 =>
    if b 2 5 + 32 * b 12 1 = 0 then .illegal
    else if rd = 2 then
      .opImm 0 false 2 2 (sext 10 (16 * b 6 1 + 32 * b 2 1 + 64 * b 5 1 + 128 * b 3 2 + 512 * b 12 1))
    else .lui rd (imm6 <<< 12)
  | 1, 4 =>
    match b 10 2 with
    | 0 => if b 12 1 = 1 then .illegal else .opImm 5 false rsq rsq (BitVec.ofNat 32 (b 2 5))
    | 1 => if b 12 1 = 1 then .illegal else .opImm 5 true rsq rsq (BitVec.ofNat 32 (b 2 5))
    | 2 => .opImm 7 false rsq rsq imm6
    | _ =>
      if b 12 1 = 1 then .illegal
      else
        match b 5 2 with
        | 0 => .op 0 true rsq rsq rdq
        | 1 => .op 4 false rsq rsq rdq
        | 2 => .op 6 false rsq rsq rdq
        | _ => .op 7 false rsq rsq rdq
  | 1, 5 => .jal 0 offJ
  | 1, 6 => .branch 0 rsq 0 offB
  | 1, 7 => .branch 1 rsq 0 offB
  | 2, 0 => if b 12 1 = 1 then .illegal else .opImm 1 false rd rd (BitVec.ofNat 32 (b 2 5))
  | 2, 2 => if rd = 0 then .illegal else .load 2 rd 2 (BitVec.ofNat 32 (4 * b 4 3 + 32 * b 12 1 + 64 * b 2 2))
  | 2, 4 =>
    if b 12 1 = 0 then
      (if rs2 = 0 then (if rd = 0 then .illegal else .jalr 0 rd 0) else .op 0 false rd 0 rs2)
    else if rs2 = 0 then (if rd = 0 then .ebreak else .jalr 1 rd 0)
    else .op 0 false rd rd rs2
  | 2, 6 => .store 2 rs2 2 (BitVec.ofNat 32 (4 * b 9 4 + 64 * b 7 2))
  | _, _ => .illegal

/-! ### Registers and machine-mode registers (R415, R444) -/

/-- Register x`k`; x0 reads 0. -/
def State.xreg (s : State) (k : Nat) : BitVec 32 := if k = 0 then 0 else s.core.regs.get k

/-- Write register x`k`; a write to x0 is ignored. -/
def setX (k : Nat) (v : BitVec 32) (s : State) : State :=
  if k = 0 then s else { s with core := { s.core with regs := s.core.regs.set k v } }

/-- The external interrupt is pending: an enabled bit of BRX_FW_IRQ is 1 (R417). -/
def irqPending (s : State) : Bool := (s.fw.irq &&& s.fw.irqEn) != 0

/-- A machine-mode register of R415 by its number. -/
def csrRead (s : State) (num : Nat) : Option (BitVec 32) :=
  let c := s.core
  match num with
  | 0x300 => some (BitVec.ofNat 32 (packFields [bit 3 c.mie, bit 7 c.mpie]))
  | 0x301 => some 0x40001104#32
  | 0x304 => some (BitVec.ofNat 32 (packFields [bit 11 c.meie]))
  | 0x305 => some c.mtvec
  | 0x340 => some c.mscratch
  | 0x341 => some c.mepc
  | 0x342 => some c.mcause
  | 0x343 => some c.mtval
  | 0x344 => some (BitVec.ofNat 32 (packFields [bit 11 (irqPending s)]))
  | 0xB00 => some (c.mcycle.truncate 32)
  | 0xB02 => some (c.minstret.truncate 32)
  | 0xB80 => some ((c.mcycle >>> 32).truncate 32)
  | 0xB82 => some ((c.minstret >>> 32).truncate 32)
  | 0xF14 => some 0
  | _ => none

/-- Write a machine-mode register; the fields that R415 does not name keep reading 0, and misa, mip and mhartid do not
change. -/
def csrWrite (num : Nat) (v : BitVec 32) (s : State) : State :=
  let c := s.core
  let low := fun (x : BitVec 64) => (x &&& 0xFFFFFFFF00000000#64) ||| v.zeroExtend 64
  let high := fun (x : BitVec 64) => (x &&& 0xFFFFFFFF#64) ||| (v.zeroExtend 64 <<< 32)
  { s with core :=
    match num with
    | 0x300 => { c with mie := v.getLsbD 3, mpie := v.getLsbD 7 }
    | 0x304 => { c with meie := v.getLsbD 11 }
    | 0x305 => { c with mtvec := v &&& 0xFFFFFFFC#32 }
    | 0x340 => { c with mscratch := v }
    | 0x341 => { c with mepc := v &&& 0xFFFFFFFE#32 }
    | 0x342 => { c with mcause := v }
    | 0x343 => { c with mtval := v }
    | 0xB00 => { c with mcycle := low c.mcycle }
    | 0xB02 => { c with minstret := low c.minstret }
    | 0xB80 => { c with mcycle := high c.mcycle }
    | 0xB82 => { c with minstret := high c.minstret }
    | _ => c }

/-! ### Traps and the fallback (R405, R423) -/

/-- A loaded image stops and the ROM personality resumes (R405, R423). -/
def fallback (cause : Nat) (addr : BitVec 32) (s : State) : State :=
  raise 0x0116 0 ([BitVec.ofNat 8 cause] ++ leBytes 4 addr.toNat)
    { s with
      fw := { s.fw with loaded := false, valid := false, fallback := cause, trapAddr := addr }
      core := { s.core with pc := 0x00100000#32, inTrap := false, mie := false } }

/-- An exception is entered (R423). -/
def enterTrap (cause : Nat) (tval : BitVec 32) (s : State) : State :=
  let c := s.core
  { s with core := { c with
      mepc := c.pc, mcause := BitVec.ofNat 32 cause, mtval := tval, mpie := c.mie, mie := false, inTrap := true, pc := c.mtvec } }

/-- A synchronous exception of the running core: unhandled by a loaded image, it ends in the fallback (R423). -/
def coreTrap (cause : Nat) (tval : BitVec 32) (s : State) : State :=
  if s.fw.loaded && (s.core.inTrap || decide (s.fw.codeLen ≤ s.core.mtvec.toNat)) then fallback 2 s.core.pc s
  else enterTrap cause tval s

/-! ### Loads and stores (R416, R429) -/

/-- Load `k` bytes, 1, 2 or 4, at any alignment: the words that hold them, in ascending order (R429). -/
def coreLoad (a k : Nat) (s : State) : Option Nat × State :=
  let w := a / 4 * 4
  let (lo, s) := busRead w s
  if a % 4 + k ≤ 4 then (lo.map (fun l => l.toNat / 2 ^ (8 * (a % 4)) % 2 ^ (8 * k)), s)
  else
    let (hi, s) := busRead (w + 4) s
    (lo.bind (fun l => hi.map (fun h => (l.toNat + 2 ^ 32 * h.toNat) / 2 ^ (8 * (a % 4)) % 2 ^ (8 * k))), s)

/-- Store `k` bytes at any alignment, the lower word first; a fault of the second word leaves the first written (R429). -/
def coreStore (a k v : Nat) (s : State) : Bool × State :=
  let w := a / 4 * 4
  let x := (v % 2 ^ (8 * k)) * 2 ^ (8 * (a % 4))
  let lanes := (2 ^ k - 1) * 2 ^ (a % 4)
  let (r, s) := busWrite false w (BitVec.ofNat 32 x) (lanes % 16) s
  if r != .ok then (false, s)
  else if a % 4 + k ≤ 4 then (true, s)
  else
    let (r, s) := busWrite false (w + 4) (BitVec.ofNat 32 (x / 2 ^ 32)) (lanes / 16) s
    (r == .ok, s)

/-! ### One instruction -/

/-- A shift or arithmetic operation of funct3, with its alternative (SUB, SRA). -/
def aluOp (f3 : Nat) (alt : Bool) (a b : BitVec 32) : BitVec 32 :=
  let sh := b.toNat % 32
  match f3 with
  | 0 => if alt then a - b else a + b
  | 1 => a <<< sh
  | 2 => if a.slt b then 1 else 0
  | 3 => if a.ult b then 1 else 0
  | 4 => a ^^^ b
  | 5 => if alt then a.sshiftRight sh else a >>> sh
  | 6 => a ||| b
  | _ => a &&& b

/-- An operation of the M extension, with its results for division by 0 and overflow. -/
def mulOp (f3 : Nat) (a b : BitVec 32) : BitVec 32 :=
  let high := fun (x y : Int) => BitVec.ofInt 32 (x * y / (2 : Int) ^ 32)
  match f3 with
  | 0 => a * b
  | 1 => high a.toInt b.toInt
  | 2 => high a.toInt b.toNat
  | 3 => high a.toNat b.toNat
  | 4 => if b = 0 then BitVec.allOnes 32 else BitVec.ofInt 32 (a.toInt.tdiv b.toInt)
  | 5 => if b = 0 then BitVec.allOnes 32 else a.udiv b
  | 6 => if b = 0 then a else BitVec.ofInt 32 (a.toInt.tmod b.toInt)
  | _ => if b = 0 then a else a.umod b

/-- A branch condition. -/
def taken (f3 : Nat) (a b : BitVec 32) : Bool :=
  match f3 with
  | 0 => a == b
  | 1 => a != b
  | 4 => a.slt b
  | 5 => !a.slt b
  | 6 => a.ult b
  | _ => !a.ult b

/-- The value that a CSR instruction writes, none when it writes nothing. -/
def csrNew (f3 rs1 : Nat) (old src : BitVec 32) : Option (BitVec 32) :=
  match f3 % 4 with
  | 1 => some src
  | 2 => if rs1 = 0 then none else some (old ||| src)
  | _ => if rs1 = 0 then none else some (old &&& ~~~src)

/-- What an instruction touches in memory: address, bytes and whether it stores. -/
abbrev Touch := Option (Nat × Nat × Bool)

/-- The access of a load or store. -/
def touchOf (s : State) (i : HInstr) : Touch :=
  match i with
  | .load f3 _ rs1 imm => some ((s.xreg rs1 + imm).toNat, 2 ^ (f3 % 4), false)
  | .store f3 _ rs1 imm => some ((s.xreg rs1 + imm).toNat, 2 ^ f3, true)
  | _ => none

/-- The loaded bytes as a register value of funct3. -/
def loadValue (f3 v : Nat) : BitVec 32 :=
  match f3 with
  | 0 => sext 8 v
  | 1 => sext 16 v
  | _ => BitVec.ofNat 32 v

/-- Execute one instruction of `len` bytes; exceptions go to `trap`. -/
def runHart (trap : Nat → BitVec 32 → State → State) (i : HInstr) (raw : BitVec 32) (len : Nat) (s : State) : State :=
  let pc := s.core.pc
  let goto := fun (t : BitVec 32) (s : State) => { s with core := { s.core with pc := t } }
  let next := goto (pc + BitVec.ofNat 32 len)
  let retire := fun (s : State) => { s with core := { s.core with minstret := s.core.minstret + 1 } }
  match i with
  | .lui rd imm => retire (next (setX rd imm s))
  | .auipc rd imm => retire (next (setX rd (pc + imm) s))
  | .jal rd off => retire (goto (pc + off) (setX rd (pc + BitVec.ofNat 32 len) s))
  | .jalr rd rs1 imm =>
    let t := (s.xreg rs1 + imm) &&& 0xFFFFFFFE#32
    retire (goto t (setX rd (pc + BitVec.ofNat 32 len) s))
  | .branch f3 rs1 rs2 off => retire (if taken f3 (s.xreg rs1) (s.xreg rs2) then goto (pc + off) s else next s)
  | .load f3 rd rs1 imm =>
    let a := s.xreg rs1 + imm
    let (v, s) := coreLoad a.toNat (2 ^ (f3 % 4)) s
    match v with
    | some v => retire (next (setX rd (loadValue f3 v) s))
    | none => trap 5 a s
  | .store f3 rs2 rs1 imm =>
    let a := s.xreg rs1 + imm
    let (ok, s) := coreStore a.toNat (2 ^ f3) (s.xreg rs2).toNat s
    if ok then retire (next s) else trap 7 a s
  | .opImm f3 alt rd rs1 imm => retire (next (setX rd (aluOp f3 alt (s.xreg rs1) imm) s))
  | .op f3 alt rd rs1 rs2 => retire (next (setX rd (aluOp f3 alt (s.xreg rs1) (s.xreg rs2)) s))
  | .mulDiv f3 rd rs1 rs2 => retire (next (setX rd (mulOp f3 (s.xreg rs1) (s.xreg rs2)) s))
  | .csr f3 rd rs1 num =>
    match csrRead s num with
    | none => trap 2 raw s
    | some old =>
      match csrNew f3 rs1 old (if 4 ≤ f3 then BitVec.ofNat 32 rs1 else s.xreg rs1) with
      | none => retire (next (setX rd old s))
      | some v => if 0xC00 ≤ num then trap 2 raw s else csrWrite num v (retire (next (setX rd old s)))
  | .fence => retire (next s)
  | .wfi => retire (next s)
  | .ecall => trap 11 0 s
  | .ebreak => trap 3 pc s
  | .mret =>
    let c := s.core
    retire { s with core := { c with mie := c.mpie, mpie := true, pc := c.mepc, inTrap := false } }
  | .illegal => trap 2 raw s

/-- Fetch 16 bits for execution: from Ledger RAM or the boot ROM. -/
def fetchHalf (a : Nat) (s : State) : Option Nat × State := if a < 0x120000 then coreLoad a 2 s else (none, s)

/-- The instruction at the pc: itself, its raw bits and its length; on failure the address whose fetch failed. -/
def fetchHart (s : State) : (HInstr × BitVec 32 × Nat ⊕ Nat) × State :=
  let a := s.core.pc.toNat
  let (lo, s) := fetchHalf a s
  match lo with
  | none => (.inr a, s)
  | some l =>
    if l % 4 ≠ 3 then (.inl (decode16 l, BitVec.ofNat 32 l, 2), s)
    else
      let (hi, s) := fetchHalf (a + 2) s
      match hi with
      | none => (.inr (a + 2), s)
      | some h => let w := BitVec.ofNat 32 (l + 65536 * h); (.inl (decode32 w, w, 4), s)

/-- The fetch at an address has failed: a bad code tile ends a loaded image, and anything else is an instruction access
fault (R423, R431). -/
def fetchFails (trap : Nat → BitVec 32 → State → State) (a : Nat) (s : State) : State :=
  if s.fw.loaded && a < 0x40000 then fallback 1 (BitVec.ofNat 32 a) s else trap 1 (BitVec.ofNat 32 a) s

/-- A tile read for the core completes (R431, R432): the tile is in the buffer; or a loaded image stops on a bad code tile;
or the core takes the access fault of its kind. -/
def execCoreTileReadDone (t : Nat) (upset : Bool) (fetch : Bool) (s : State) : Host.Outcome State Fault Refusal :=
  if 640 ≤ t || !s.core.on then idle s
  else
    let (ok, s') := bufferTile t upset s
    if ok then done s'
    else
      let s := failTile t s'
      let at_ := if tileOf s.core.pc.toNat = some t then s.core.pc else BitVec.ofNat 32 (tileAddr t)
      if s.dbg.halted then done s
      else if fetch then done (fetchFails coreTrap at_.toNat s)
      else done (coreTrap 5 (BitVec.ofNat 32 (tileAddr t)) s)

/-- FIRMWARE_FALLBACK (R423). -/
def execFirmwareFallback (cause : Nat) (addr : BitVec 32) (s : State) : Host.Outcome State Fault Refusal :=
  if !s.fwRuns || !s.fw.loaded || !(cause == 1 || cause == 2) then idle s else done (fallback cause addr s)

end Sys2Proof.Machine
end

