-- ==== Sys2Proof/Machine/Debug.lean ====
section
/-! DEFINITION. The debug port: its operations, the unlock exchange, halting and stepping the core, matchers, and access to
memory and registers (R433 to R446). -/

namespace Sys2Proof.Machine

/-! ### Operations (R433, R434) -/

/-- STATUS of an operation (R434). -/
inductive DbgSt where
  | ok | busy | locked | notHalted | fault | refused | authFail | noChallenge | badOp
  deriving DecidableEq, Repr

/-- The code of a STATUS (R434). -/
def DbgSt.code : DbgSt → Nat
  | .ok => 0 | .busy => 1 | .locked => 2 | .notHalted => 3 | .fault => 4 | .refused => 5 | .authFail => 6 | .noChallenge => 7
  | .badOp => 8

/-- Change the state of the port. -/
def State.updDbg (s : State) (f : Dbg → Dbg) : State := { s with dbg := f s.dbg }

/-- The result of an operation: what the next captures return (R433). -/
def dbgResult (st : DbgSt) (rdata : BitVec 32) (s : State) : State := s.updDbg (fun d => { d with status := st.code, rdata })

/-- What Capture-DR loads into the data register, 72 bits: RDATA, STATUS, UNLOCKED, HALTED, CAUSE, LAST_OP and SIG; an operation in
progress and an update that was discarded show as BUSY (R433, R434). -/
def captureWord (d : Dbg) : Nat :=
  d.rdata.toNat + 2 ^ 32 * (if d.busy || d.busyLost then DbgSt.busy.code else d.status) + 2 ^ 36 * d.unlocked.toNat
    + 2 ^ 37 * d.halted.toNat + 2 ^ 38 * d.cause + 2 ^ 64 * d.lastOp + 2 ^ 68 * 5

/-- An operation is shifted in: discarded while one is in progress, LOCKED where the locked port does not permit it, else
its effect follows (R434, R435). -/
def dbgOp (op : Nat) (whenLocked : Bool) (effect : State → State) (s : State) : Host.Outcome State Fault Refusal :=
  if !s.islandUp then idle s
  else if s.dbg.busy then done (s.updDbg (fun d => { d with busyLost := true }))
  else
    let s := s.updDbg (fun d => { d with lastOp := op, busyLost := false })
    if !whenLocked && !s.dbg.unlocked then done (dbgResult .locked 0 s) else done (effect s)

/-- An operation that takes time: its result waits for its completion (R434). -/
def dbgBusy (s : State) : State := s.updDbg (fun d => { d with busy := true })

/-- The port is locked, the core resumes, and matchers and DCTRL are cleared (R438). -/
def dbgLock (s : State) : State :=
  s.updDbg (fun d => { d with
    unlocked := false, halted := false, haltReq := false, cause := 0, bpIndex := 0, ebreakHalt := false
    match_ := Tab.replicate 12 0 })

/-- NOP (R434). -/
def execNop (s : State) : Host.Outcome State Fault Refusal := dbgOp 0x0 true (dbgResult .ok 0) s

/-! ### Unlock (R436, R437) -/

/-- Word `i` of a challenge. -/
def challengeWord (c : BitVec 128) (i : Nat) : BitVec 32 := (c >>> (32 * i)).truncate 32

/-- CHALLENGE: word 0 draws a new challenge, words 1 to 3 read the one outstanding (R436, R437). -/
def execChallenge (addr : Nat) (s : State) : Host.Outcome State Fault Refusal :=
  dbgOp 0x1 true (fun s =>
    if 3 < addr then dbgResult .badOp 0 s
    else if addr = 0 then
      if s.dbg.withheld != 0 then dbgResult .noChallenge 0 s
      else
        let c := Config.challenge s.freeCount
        dbgResult .ok (challengeWord c 0)
          ({ s with freeCount := s.freeCount + 1 }.updDbg (fun d => { d with challenge := some c, challengeAge := 0 }))
    else
      match s.dbg.challenge with
      | some c => dbgResult .ok (challengeWord c addr) s
      | none => dbgResult .noChallenge 0 s) s

/-- RESPONSE (R437). -/
def execResponse (addr : Nat) (w : BitVec 32) (s : State) : Host.Outcome State Fault Refusal :=
  dbgOp 0x2 true (fun s =>
    if 7 < addr then dbgResult .badOp 0 s
    else dbgResult .ok 0 (s.updDbg (fun d => { d with response := d.response.set addr w }))) s

/-- The response words loaded equal the expected response, word by word (R436, R437). -/
def responseMatches (s : State) (c : BitVec 128) : Bool :=
  let r := Config.response c s.fuses.dieId
  (List.range 8).all (fun i => s.dbg.response.get i == (r >>> (32 * i)).truncate 32)

/-- SUBMIT: the challenge is used up, and the verdict falls when the check completes (R434, R437). -/
def execSubmit (s : State) : Host.Outcome State Fault Refusal :=
  dbgOp 0x3 true (fun s =>
    let st := match s.dbg.challenge with
      | none => DbgSt.noChallenge
      | some c => if responseMatches s c then .ok else .authFail
    dbgBusy (dbgResult st 0 (s.updDbg (fun d => { d with challenge := none, submit := true })))) s

/-- The unlock check completes (R437). -/
def submitDone (s : State) : State :=
  let s := s.updDbg (fun d => { d with submit := false })
  if s.dbg.status = DbgSt.ok.code then raise 0x0B20 0 [] (s.updDbg (fun d => { d with unlocked := true }))
  else if s.dbg.status = DbgSt.authFail.code then
    raise 0x0B10 0 [] (s.updDbg (fun d => { d with authFails := min 255 (d.authFails + 1), withheld := 1001 }))
  else s

/-- DEBUG_OPERATION_DONE: an operation that took time completes (R434). -/
def execDebugOperationDone (s : State) : Host.Outcome State Fault Refusal :=
  if !s.dbg.busy then idle s
  else
    let s := s.updDbg (fun d => { d with busy := false })
    done (if s.dbg.submit then submitDone s else s)

/-- At a period close the outstanding challenge ages and the withholding runs down (R437). -/
def dbgPeriod (s : State) : State :=
  s.updDbg (fun d => { d with
    challengeAge := if d.challenge.isSome then min 100 (d.challengeAge + 1) else d.challengeAge
    withheld := if 1 < d.withheld then d.withheld - 1 else d.withheld })

/-- DEBUG_CHALLENGE_EXPIRY: the 100th period close after the issue; a SUBMIT of this cycle has met the challenge (R46, R437). -/
def execDebugChallengeExpiry (s : State) : Host.Outcome State Fault Refusal :=
  if s.dbg.challenge.isSome && decide (100 ≤ s.dbg.challengeAge) then lapse (fun s => s.updDbg (fun d => { d with challenge := none })) s
  else idle s

/-- DEBUG_WITHHOLD_END: 1,000 period closes after the failure (R437). -/
def execDebugWithholdEnd (s : State) : Host.Outcome State Fault Refusal :=
  if s.dbg.withheld = 1 then done (s.updDbg (fun d => { d with withheld := 0 })) else idle s

/-- LOCK (R438). -/
def execLock (s : State) : Host.Outcome State Fault Refusal := dbgOp 0x4 false (fun s => dbgResult .ok 0 (dbgLock s)) s

/-- TEST_RESET: the port is reset and locked (R84, R435, R438). -/
def execTestReset (s : State) : Host.Outcome State Fault Refusal :=
  done ((dbgLock s).updDbg (fun d => { d with
    busy := false, busyLost := false, submit := false, rdata := 0, status := 0, lastOp := 0, response := Tab.replicate 8 0 }))

/-! ### Halt, resume and step (R439 to R442) -/

/-- HALT: the core is to halt at a boundary; halted already, nothing changes (R439, R440). -/
def execHalt (s : State) : Host.Outcome State Fault Refusal :=
  dbgOp 0x5 false (fun s => dbgResult .ok 0 (if s.dbg.halted then s else s.updDbg (fun d => { d with haltReq := true }))) s

/-- RESUME (R440). -/
def execResume (s : State) : Host.Outcome State Fault Refusal :=
  dbgOp 0x6 false (fun s =>
    if !s.dbg.halted then dbgResult .notHalted 0 s
    else dbgResult .ok 0 (s.updDbg (fun d => { d with halted := false, cause := 0, bpIndex := 0 }))) s

/-- The breakpoint that matches a fetch at an address (R442). -/
def breakAt (s : State) (pc : BitVec 32) : Option Nat :=
  (List.range 8).find? (fun k => (s.dbg.match_.get k).getLsbD 0 && ((s.dbg.match_.get k) &&& 0xFFFFFFFE#32) == pc)

/-- The watchpoint that matches an access (R442). -/
def watchAt (s : State) (t : Touch) : Option Nat :=
  match t with
  | none => none
  | some (a, k, st) =>
    (List.range 4).find? (fun i =>
      let m := s.dbg.match_.get (8 + i)
      let w := m.toNat / 4
      m.getLsbD (if st then 1 else 0) && decide (a / 4 ≤ w) && decide (w ≤ (a + k - 1) / 4))

/-- The instruction at the pc is EBREAK. -/
def atEbreak (s : State) : Bool :=
  match (fetchHart s).1 with
  | .inl (i, _, _) => i == .ebreak
  | .inr _ => false

/-- The core halts with a cause and its matcher (R439). -/
def haltWith (cause index : Nat) (s : State) : State :=
  s.updDbg (fun d => { d with halted := true, haltReq := false, cause, bpIndex := index })

/-- The boundary after a stepped instruction: the first cause of R439 that holds there. -/
def stepHalt (t : Touch) (s : State) : State :=
  match breakAt s s.core.pc, watchAt s t with
  | some k, _ => haltWith 2 k s
  | none, some k => haltWith 3 k s
  | none, none => if s.dbg.ebreakHalt && atEbreak s then haltWith 5 0 s else haltWith 4 0 s

/-- Execute one instruction of the halted core and halt again (R440). -/
def stepHart (s : State) : State :=
  let (f, s) := fetchHart s
  let count := fun (s : State) => { s with core := { s.core with mcycle := s.core.mcycle + 1 } }
  match f with
  | .inr a => haltWith 4 0 (count (fetchFails enterTrap a s))
  | .inl (i, raw, len) =>
    if i == .ebreak && s.dbg.ebreakHalt then haltWith 5 0 s
    else stepHalt (touchOf s i) (count (runHart enterTrap i raw len s))

/-- STEP (R440). -/
def execStep (s : State) : Host.Outcome State Fault Refusal :=
  dbgOp 0x7 false (fun s => if !s.dbg.halted then dbgResult .notHalted 0 s else dbgResult .ok 0 (stepHart s)) s

/-- The condition of a halt cause holds at the boundary, and none before it in the order of R439 does (R439, R442). -/
def haltHolds (s : State) (cause index : Nat) (pc : BitVec 32) : Bool :=
  let atBreak := breakAt s pc
  let onEbreak := s.dbg.ebreakHalt && atEbreak { s with core := { s.core with pc } }
  match cause with
  | 2 => atBreak == some index
  | 3 => atBreak.isNone && decide (index < 4) && (s.dbg.match_.get (8 + index)).toNat % 4 != 0
  | 5 => atBreak.isNone && onEbreak
  | 1 => atBreak.isNone && !onEbreak && s.dbg.haltReq
  | _ => false

/-- CORE_HALT: the running core reaches a boundary with a halt cause (R439). -/
def execCoreHalt (cause : Nat) (index : Nat) (ctx : CoreCtx) (s : State) : Host.Outcome State Fault Refusal :=
  if !s.fwRuns || !haltHolds s cause index ctx.pc then idle s
  else
    let regs := Tab.ofFn 32 (fun k => if k = 0 then 0 else ctx.regs.getD k 0)
    let s := { s with core := { s.core with pc := ctx.pc &&& 0xFFFFFFFE#32, regs } }
    done (raise 0x0B21 0 [] (haltWith cause (if cause = 2 || cause = 3 then index else 0) s))

/-- SET_MATCH (R442). -/
def execSetMatch (addr : Nat) (w : BitVec 32) (s : State) : Host.Outcome State Fault Refusal :=
  dbgOp 0xC false (fun s =>
    if 11 < addr then dbgResult .badOp 0 s else dbgResult .ok 0 (s.updDbg (fun d => { d with match_ := d.match_.set addr w }))) s

/-! ### Memory and registers (R443 to R445) -/

/-- READ_MEM (R443). -/
def execReadMem (addr : BitVec 32) (s : State) : Host.Outcome State Fault Refusal :=
  dbgOp 0x8 false (fun s =>
    if addr.toNat % 4 != 0 then dbgResult .badOp 0 s
    else
      let (v, s) := busRead addr.toNat s
      dbgBusy (match v with | some w => dbgResult .ok w s | none => dbgResult .fault 0 s)) s

/-- WRITE_MEM (R443). -/
def execWriteMem (addr : BitVec 32) (w : BitVec 32) (s : State) : Host.Outcome State Fault Refusal :=
  dbgOp 0x9 false (fun s =>
    if addr.toNat % 4 != 0 then dbgResult .badOp 0 s
    else
      let (r, s) := busWrite true addr.toNat w 15 s
      dbgBusy (match r with | .ok => dbgResult .ok 0 s | .fault => dbgResult .fault 0 s | .refused => dbgResult .refused 0 s)) s

/-- READ_REG (R444). -/
def execReadReg (num : BitVec 32) (s : State) : Host.Outcome State Fault Refusal :=
  let n := num.toNat
  dbgOp 0xA false (fun s =>
    if !s.dbg.halted then dbgResult .notHalted 0 s
    else if n < 32 then dbgResult .ok (s.xreg n) s
    else if n = 0x20 then dbgResult .ok s.core.pc s
    else if n = 0x800 then dbgResult .ok (if s.dbg.ebreakHalt then 1 else 0) s
    else if 0x1000 ≤ n && n < 0x2000 then
      match csrRead s (n - 0x1000) with
      | some v => dbgResult .ok v s
      | none => dbgResult .fault 0 s
    else dbgResult .badOp 0 s) s

/-- WRITE_REG (R444). -/
def execWriteReg (num : BitVec 32) (w : BitVec 32) (s : State) : Host.Outcome State Fault Refusal :=
  let n := num.toNat
  dbgOp 0xB false (fun s =>
    if !s.dbg.halted then dbgResult .notHalted 0 s
    else if n < 32 then dbgResult .ok 0 (setX n w s)
    else if n = 0x20 then (if w.getLsbD 0 then dbgResult .badOp 0 s else dbgResult .ok 0 { s with core := { s.core with pc := w } })
    else if n = 0x800 then dbgResult .ok 0 (s.updDbg (fun d => { d with ebreakHalt := w.getLsbD 0 }))
    else if 0x1000 ≤ n && n < 0x2000 then
      (if (csrRead s (n - 0x1000)).isSome then dbgResult .ok 0 (csrWrite (n - 0x1000) w s) else dbgResult .fault 0 s)
    else dbgResult .badOp 0 s) s

/-- CONVERT (R445). -/
def execConvert (chan : Nat) (s : State) : Host.Outcome State Fault Refusal :=
  dbgOp 0xD false (fun s => if 319 < chan then dbgResult .badOp 0 s else dbgResult .ok 0 (urgentRequest chan s)) s

end Sys2Proof.Machine
end

