-- ==== Sys2Proof/Machine/Firmware.lean ====
section
/-! DEFINITION. Loading a firmware image or a part record (R392, R418 to R425). -/

namespace Sys2Proof.Machine

/-! ### The header (R420) -/

/-- KIND of a header (R420). -/
def imgKind (h : List Byte) : Nat := field h 5 1
/-- VERSION of a header. -/
def imgVersion (h : List Byte) : Nat := field h 8 4
/-- EPOCH of a header. -/
def imgEpoch (h : List Byte) : Nat := imgVersion h / 2 ^ 24
/-- CODE_LEN of a header. -/
def imgCode (h : List Byte) : Nat := field h 12 4
/-- DATA_LEN of a header. -/
def imgData (h : List Byte) : Nat := field h 16 4
/-- TABLE_LEN of a header. -/
def imgTable (h : List Byte) : Nat := field h 20 4
/-- ENTRY of a header. -/
def imgEntry (h : List Byte) : Nat := field h 24 4

/-- What a header of either kind holds (R420). -/
def headCommon (h : List Byte) : Bool :=
  field h 0 4 == 0x42584657 && field h 4 1 == 1 && decide (field h 6 1 ≤ 1) && zeros h 7 1 && decide (imgEpoch h ≤ 63)
    && zeros h 32 96 && zeros h 225 703

/-- A firmware header and the IMAGE_LEN of its command (R420). -/
def headFirmware (h : List Byte) (len : Nat) : Bool :=
  let c := imgCode h
  let d := imgData h
  let t := imgTable h
  c % 1024 == 0 && decide (1024 ≤ c) && decide (c ≤ 262144) && d % 64 == 0 && decide (d ≤ 126976)
    && t % 1024 == 0 && decide (t ≤ 29696) && imgEntry h % 2 == 0 && decide (imgEntry h < c) && zeros h 28 4
    && field h 128 1 == 4 && len == 1024 + c + d + t

/-- A part record's header and the IMAGE_LEN of its command (R420, R425). -/
def headRecord (h : List Byte) (len : Nat) : Bool := zeros h 12 16 && zeros h 128 97 && zeros h 928 96 && len == 235520

/-- The header is accepted (R420). -/
def headOk (h : List Byte) (len : Nat) : Bool :=
  headCommon h && (if imgKind h = 0 then headFirmware h len else imgKind h == 1 && headRecord h len)

/-! ### The end of a load (R392, R422) -/

/-- The status of a RESULT (R392). -/
def resultStatus : Nat → Status
  | 0 => .ok
  | 1 => .checksumFail
  | 5 => .deadlineMissed
  | _ => .badParam

/-- Reply data of LOAD_FIRMWARE (R392). -/
def loadReply (s : State) (result version : Nat) : List Byte :=
  [BitVec.ofNat 8 result, 0, 0, 0] ++ leBytes 4 version ++ leBytes 4 s.fuses.counter ++ [if s.fw.loaded then 1 else 0]

/-- The load ends with a RESULT and its reply; after a failure the ROM personality continues (R392, R422). -/
def loadEnd (result : Nat) (s : State) : State :=
  match s.fw.load with
  | none => s
  | some f =>
    let s := { s with fw := { s.fw with load := none, result } }
    reply f.pkt 0x0103 (resultStatus result) (loadReply s result (imgVersion f.header)) s

/-- LOAD_FIRMWARE (R392). -/
def execLoadFirmware (p : Packet) (s : State) : Host.Outcome State Fault Refusal :=
  inTurn p s fun s =>
  let l := p.payload
  let addr := field l 0 8
  let len := field l 8 4
  command p 0x0103
    [ (l.length != 16, .badLength), (decide (len < 1024) || decide (524288 < len), .badLength),
      (addr % 64 != 0 || !zeros l 12 4, .badParam), (!s.fbOk, .badState), (s.dbg.unlocked, .locked),
      (s.fw.load.isSome || caravanHeld s, .busyRetry) ]
    (fun s => markEffect p .firmware { s with fw := { s.fw with load := some { pkt := p, addr, len, due := replyDue p 4096 s } } }) s

/-- Change the load in progress. -/
def updLoad (f : FwLoad → FwLoad) (s : State) : State := { s with fw := { s.fw with load := s.fw.load.map f } }

/-- Steps 1 and 5 of a load, in the edge cycle (R422): a running image stops and the header is fetched; or the image that
passed starts. -/
def loadEdge (s : State) : State :=
  match s.fw.load with
  | none => s
  | some f =>
    match f.step with
    | .accepted =>
      let s := updLoad (fun f => { f with wasLoaded := s.fw.loaded, wasValid := s.fw.valid }) s
      let s := { s with
        core := if s.fw.loaded then { s.core with pc := 0x00100000#32, inTrap := false, mie := false } else s.core
        fw := { s.fw with loaded := false, valid := false }
        led := { s.led with tileBuf := [] } }
      dmaRead f.addr 16 64 none (updLoad (fun f => { f with step := .header }) s)
    | .passed =>
      let h := f.header
      let burn := (field h 6 1 == 1) && decide (s.fuses.counter < imgEpoch h)
      let s := { s with
        fuses := { s.fuses with counter := if burn then imgEpoch h else s.fuses.counter }
        fw := { s.fw with valid := true, loaded := true, version := BitVec.ofNat 32 (imgVersion h), entry := imgEntry h, codeLen := imgCode h }
        core := { s.core with pc := BitVec.ofNat 32 (imgEntry h), inTrap := false, mie := false } }
      loadEnd 0 s
    | _ => s

/-! ### The body (R422, R425) -/

/-- Seal consecutive tiles from `t` on with the bytes of a body. -/
def sealTiles (t : Nat) (b : List Byte) (s : State) : State :=
  forEach (List.range (b.length / 1024)) (fun k s => tileWritten (t + k) (sealTile (t + k) (slice b (1024 * k) 1024) s)) s

/-- The body of a firmware image is sealed and stored (R422 step 3). -/
def storeImage (h b : List Byte) (s : State) : State :=
  let c := imgCode h
  let d := imgData h
  let s := sealTiles 0 (b.take c) { s with fw := { s.fw with version := 0 } }
  let s := ramStore 0x40000 (slice b c d) s
  let s := { s with led := { s.led with parityBad := s.led.parityBad.filter (fun a => decide (a < 0x40000) || decide (0x40000 + d ≤ a)) } }
  sealTiles 481 (b.drop (c + d)) s

/-- The factory curve point of a cluster, where the factory record has its tile (R418). -/
def factoryPoint (s : State) (n p : Nat) : Option CurvePt :=
  match s.fuses.curves.val.getD (n / 16) none with
  | some t => (t.val[n % 16]?).map (fun c => c.get p)
  | none => none

/-- A curve of a part record, each VMIN the larger of the record's and the factory's (R425). -/
def restoredCurve (s : State) (n : Nat) (b : List Byte) : List Byte :=
  (curveOf b).val.zipIdx.flatMap (fun (q, p) =>
    leBytes 4 (curveWord (match factoryPoint s n p with | some f => { q with vmin := max q.vmin f.vmin } | none => q)))

/-- The cause of an isolated cell from its code (R144). -/
def CellCause.ofCode (k : Nat) : CellCause := [.none, .currentSense, .short, .openPath, .share, .selfTest].getD k .none

/-- The cells of a cluster and its ageing record as the service trailer gives them (R425). -/
def restoreCluster (tr : List Byte) (n : Nat) (s : State) : State :=
  let live := field tr (8 + 2 * n) 2
  let gone := (List.range 12).filter (fun k => !live.testBit k)
  let s := forEach gone (fun k s => s.updCell (12 * n + k) (fun c => { c with
    mode := .isolated, cause := CellCause.ofCode (field tr (296 + 12 * n + k) 1), isoAt := none, curr := 0, openRun := 0, shareRun := 0 })) s
  let mask := BitVec.ofNat 12 live
  recountCells n (s.updCl n (fun c => { c with
    k := { c.k with liveMask := c.k.liveMask &&& mask }
    a := { c.a with ref := field tr (2024 + 2 * n) 2 % 1024 } }))

/-- A part record is applied: its tables are sealed, its isolated cells and ageing references restored (R425). -/
def applyRecord (b : List Byte) (s : State) : State :=
  let s := sealTiles 256 (b.take 221184) s
  let curves := (List.range 144).flatMap (fun n => restoredCurve s n (slice b (221184 + 64 * n) 64))
  let s := sealTiles 472 curves s
  forEach (List.range 144) (restoreCluster (b.drop 230400)) s

/-- The part record is the part's own and whole (R425). -/
def recordOk (s : State) (h b : List Byte) : Bool :=
  (crc32c b).toNat == field h 28 4 && field b 230400 8 == s.fuses.dieId.toNat

/-- A part record waits for every cluster to be Dormant (R425). -/
def allDormant (s : State) : Bool := s.cl.all (fun c => c.s.st == .dormant && c.s.trans.isNone)

/-- The header is a part record's: the personality in force before step 1 goes on (R425). -/
def recordResumes (f : FwLoad) (s : State) : State :=
  { s with
    fw := { s.fw with loaded := f.wasLoaded, valid := f.wasValid }
    core := if f.wasLoaded then { s.core with pc := BitVec.ofNat 32 s.fw.entry } else s.core }

/-- FIRMWARE_FETCH_DONE: the header, then the body (R420, R422, R425). -/
def execFirmwareFetchDone (data : Option (List Byte)) (s : State) : Host.Outcome State Fault Refusal :=
  match s.fw.load with
  | none => idle s
  | some f =>
    match f.step, data with
    | .header, none => done (loadEnd 4 s)
    | .body, none => done (loadEnd 4 s)
    | .header, some d =>
      let h := (padTo 1024 d).take 1024
      let s := updLoad (fun f => { f with header := h }) s
      let s := if headOk h f.len && imgKind h == 1 then recordResumes f s else s
      if !headOk h f.len then done (loadEnd 3 s)
      else if imgKind h = 1 && !allDormant s then
        done (reply f.pkt 0x0103 .badState [] { s with fw := { s.fw with load := none } })
      else done (dmaRead (f.addr + 1024) (ceilDiv (f.len - 1024) 64) 64 none (updLoad (fun f => { f with step := .body }) s))
    | .body, some d =>
      let b := (padTo (f.len - 1024) d).take (f.len - 1024)
      if imgKind f.header = 1 then
        if recordOk s f.header b then done (loadEnd 0 (applyRecord b s)) else done (loadEnd 3 s)
      else done (updLoad (fun f => { f with step := .auth, authentic := Config.authentic f.header b }) (storeImage f.header b s))
    | _, _ => idle s

/-- FIRMWARE_AUTH_DONE (R421, R422 step 4). -/
def execFirmwareAuthDone (s : State) : Host.Outcome State Fault Refusal :=
  match s.fw.load with
  | none => idle s
  | some f =>
    if f.step != .auth then idle s
    else if !f.authentic then done (loadEnd 1 s)
    else if imgEpoch f.header < s.fuses.counter then done (loadEnd 2 s)
    else done (updLoad (fun f => { f with step := .passed }) s)

/-- FIRMWARE_LOAD_TIMEOUT: the load is incomplete at its reply deadline (R392). -/
def execFirmwareLoadTimeout (s : State) : Host.Outcome State Fault Refusal :=
  match s.fw.load with
  | none => idle s
  | some f => if f.due ≤ s.clk.stage then lapse (loadEnd 5) s else idle s

end Sys2Proof.Machine
end

