-- ==== Sys2Proof/Machine/Power.lean ====
section
/-! DEFINITION. Power-on, bring-up of the control island, the descent to Cold, and warm reset (R17, R79 to R81, R282 to R284,
R418, R424, R448, R452, R453, R459, R464). -/

namespace Sys2Proof.Machine

/-! ### What the always-on island keeps (R17) -/

/-- The thermal trip path through a power-down of the control island: measurements, runs, thresholds and offset stay; the map
and what lies in the Bruxon domain start afresh (R17, R339, R340, R343, R347, R458). -/
def thermKept (t : Therm) : Therm :=
  let d : Therm := {}
  { t with
    hot := d.hot, hotCl := d.hotCl, warn := false, throt := false, tripSeen := false, warnC := d.warnC, throtC := d.throtC
    grace := d.grace, edgeCfg := none, graceLeft := 0, graceDue := none, riseGood := 0, ceil := 15, enforcing := false
    ceilPers := 0, contextLost := false, mapDefault := false, model := d.model, cal := none, dormantPers := 0, awake := false
    restart := 0 }

/-- The machine with the control island unpowered: the always-on island, the fuses and the model's own fields stay (R17). -/
def islandReset (s : State) : State :=
  { State.reset with
    clk := { now := s.clk.now }
    sys := { porHigh := s.sys.porHigh, pwrReq := s.sys.pwrReq, scratch := s.sys.scratch, switchAt := s.sys.switchAt }
    fuses := s.fuses
    therm := thermKept s.therm
    dbg := { authFails := s.dbg.authFails, withheld := s.dbg.withheld }
    freeCount := s.freeCount, out := s.out, pending := s.pending }

/-! ### Power-on and bring-up (R283, R464) -/

/-- The control-island switch closes when power is requested in Cold (R283 step 1). -/
def closeSwitch (s : State) : State :=
  if s.sys.pwrReq && s.sys.porHigh && s.sys.island == .off then
    { s with sys := { s.sys with island := .switched, switchAt := s.clk.now } }
  else s

/-- POWER_ON_RESET: brx_por_n_i is sampled at 1 after a power-on reset, and the request is sampled for the first time; a 1
starts bring-up at once (R79, R80, R464). -/
def execPowerOnReset (req : Bool) (s : State) : Host.Outcome State Fault Refusal :=
  done (closeSwitch { State.reset with
    clk := { now := s.clk.now }
    sys := { porHigh := true, pwrReq := req }
    fuses := s.fuses, freeCount := s.freeCount, out := s.out, pending := s.pending })

/-- POWER_REQUEST_UP: in Cold the switch closes; during a descent the request waits for Cold (R283, R284). -/
def execPowerRequestUp (s : State) : Host.Outcome State Fault Refusal :=
  if !s.sys.porHigh then idle s else done (closeSwitch { s with sys := { s.sys with pwrReq := true } })

/-- CLOCK_GENERATOR_START: 20 µs after the switch (R283 step 2). -/
def execClockGeneratorStart (s : State) : Host.Outcome State Fault Refusal :=
  if s.sys.island != .switched then idle s
  else atTime (s.sys.switchAt + 20000) (fun s => { s with sys := { s.sys with island := .started } }) s

/-- What hardware loads as the control island leaves reset: the fused coefficients, the level table, and the ROM default plan
and sequences (R153, R180, R188, R264). -/
def islandLoads (s : State) : State :=
  let f := s.fuses
  { s with
    seq := { s.seq with table := levelTable f.gf f.boostCeil }
    convs := Tab.ofFn 16 (fun u => { ofs := f.adcOfs.get u, gain := f.adcGain.get u, seq := romSequence u })
    eng := { s.eng with banks := Tab.replicate 2 romBank } }

/-- CLOCK_LOCK: the control island leaves reset, except for the core, and the copier starts (R283 step 3, R418, R459). -/
def execClockLock (s : State) : Host.Outcome State Fault Refusal :=
  if s.sys.island != .started then idle s
  else
    let s := islandLoads (islandReset s)
    done (noteSet 0x44 0 { s with
      sys := { s.sys with island := .copying, powerUp := true }
      clk := { s.clk with stageStart := s.clk.now } })

/-- The tick of an edge: it goes out, and is high for one reference cycle of 10 ns (R31, R35). -/
def stageTick (stage : Nat) (s : State) : State :=
  soonIn 10 .tickLow (emit (.stageTick stage) { s with clk := { s.clk with tick := true } })

/-! ### The copier (R418) -/

/-- The 8 bytes of a calibration point (R137). -/
def calPointBytes (p : CalPt) : List Byte :=
  leBytes 8 (p.vpt + 2 ^ 10 * code2 8 p.vofs + 2 ^ 18 * code2 10 p.igain + 2 ^ 28 * code2 8 p.iofs + 2 ^ 36 * p.ron
    + 2 ^ 44 * code2 8 p.share0 + 2 ^ 52 * p.vdo)

/-- The 128 bytes of a cell's sixteen points, the missing ones unused (R137, R418). -/
def factoryCell (f : Fuses) (c : Nat) : List Byte :=
  let pts := ((f.cells.find? (fun x => x.1 == c)).map Prod.snd).getD []
  (List.range 16).flatMap (fun k => match pts[k]? with | some p => calPointBytes p | none => leBytes 8 1023)

/-- Calibration tile `t` of the factory record. -/
def factoryCal (f : Fuses) (t : Nat) : List Byte := (List.range 8).flatMap (fun k => factoryCell f (8 * t + k))

/-- The bytes of a curve tile of the factory record (R93, R285). -/
def factoryCurves (t : Tab 16 (Tab 16 CurvePt)) : List Byte :=
  t.val.flatMap (fun c => c.val.flatMap (fun p => leBytes 4 (curveWord p)))

/-- The bytes of a thermal model tile (R341). -/
def thermBytes (m : ThermModel) : List Byte :=
  padTo 16 [BitVec.ofNat 8 m.tau, BitVec.ofNat 8 m.kappa]
    ++ (List.range 144).flatMap (fun n => leBytes 2 (m.thetaOf n) ++ [0, 0])

/-- V_k of the ROM default corner table in 1.25 mV above 0.300 V (R310). -/
def cornerVolt (f : Fuses) (code : Nat) : Nat :=
  (min 560 (560 - (7 * ((f.gf.get 15 : Int) - code)) / 2)).toNat

/-- Entry `k` of the ROM default corner table: I_CF,eol and P_eol, each rounded up (R310). -/
def cornerEntry (f : Fuses) (code : Nat) : List Byte :=
  let i16 := 4800 + 250 * (16 + code)
  leBytes 2 (ceilDiv i16 16) ++ leBytes 2 (ceilDiv (i16 * (260 + cornerVolt f code) * 125 + 33762 * 16000) 1600000)

/-- The ROM default corner tile (R310). -/
def romCorner (f : Fuses) : List Byte :=
  (levelTable f.gf f.boostCeil).val.flatMap (fun e => cornerEntry f e.code) ++ leBytes 4 240

/-- Write a tile and let its readers take it. -/
def copyTile (t : Nat) (b : List Byte) (s : State) : State := tileWritten t (sealTile t b s)

/-- The copier fills the calibration, curve, thermal model and corner tiles and writes the ROM default energy model; a section
that the factory record lacks is left as R418 says. -/
def copier (s : State) : State :=
  let f := s.fuses
  let s := forEach (List.range 216) (fun t s => copyTile (256 + t) (factoryCal f t) s) s
  let s := forEach (List.range 9) (fun t s =>
    match f.curves.val.getD t none with
    | some c => copyTile (472 + t) (factoryCurves c) s
    | none => failTile (472 + t) s) s
  let s := match f.therm with
    | some m => copyTile 510 (thermBytes m) s
    | none => failTile 510 s
  let s := copyTile 511 (match f.corner with | some b => b.map (BitVec.ofNat 8) | none => romCorner f) s
  let s := ramStore modelAddr romModel s
  { s with en := { s.en with model := romModel } }

/-! ### Chip state (R282) -/

/-- The chip state at a stage edge (R282, R467). -/
def chipAt (s : State) : Chip :=
  if s.cl.any (fun c => c.s.st != .dormant) then .run
  else if s.rails.all (fun r => r.enabled && r.inWindow) then .standbyReady
  else .powering

/-- The chip state is derived; a change raises EV_CHIP_STATE (R282). -/
def chipEdge (s : State) : State :=
  let c := chipAt s
  if c == s.sys.chip then s
  else raise 0x0123 0 [BitVec.ofNat 8 c.code] { s with sys := { s.sys with chip := c } }

/-! ### The descent (R284) -/

/-- A descent begins, unless one is in progress or the chip is in Cold (R284). -/
def beginDescent (s : State) : State :=
  if s.sys.descent != .none || s.sys.chip == .cold then s else { s with sys := { s.sys with descent := .clusters } }

/-- The cluster is to be requested to Dormant by a descent: it is not in Dormant, or a wake of it waits for admission, and it
is not on its way already. -/
def mustDescend (c : Cluster) : Bool :=
  match c.s.trans with
  | none => c.s.st != .dormant
  | some t => t.target != .dormant && !c.inProgress

/-- Step 2 of a descent at cycle 0 of a pace: clusters are requested to Dormant, those in a transition once it is done
(R278, R284). -/
def paceDescent (s : State) : State :=
  if s.sys.descent != .clusters then s
  else forEach (List.range 144) (fun n s => if mustDescend (s.cluster n) then startTrans n .dormant 0 s else s) s

/-- COPIER_DONE: stage 0 opens, the stage generator runs, the chip state becomes Powering, and the core starts at the ROM (R35,
R39, R282, R283 step 4, R418). A request that has gone begins a descent at once (R284). -/
def execCopierDone (s : State) : Host.Outcome State Fault Refusal :=
  if s.sys.island != .copying then idle s
  else atTime (s.clk.stageStart + 227 * 128) (fun s =>
    let s := copier s
    let s := { s with
      clk := { s.clk with stage := 0, pace := 0, running := true, stageStart := s.clk.now, paceStart := s.clk.now
                          p0Pending := true }
      sys := { s.sys with island := .up }
      core := { s.core with on := true, pc := 0x00100000#32 } }
    let s := chipEdge (stageTick 0 s)
    let s := if s.therm.sensorTell then tellSensor s else s
    if s.sys.pwrReq then s else beginDescent s) s

/-- POWER_REQUEST_DOWN: outside Cold a descent begins (R284). -/
def execPowerRequestDown (s : State) : Host.Outcome State Fault Refusal :=
  if !s.sys.porHigh then idle s else done (beginDescent { s with sys := { s.sys with pwrReq := false } })

/-- A coincident tracking stop of those rails of a mask that are up or rising, and not stopping already (R121, R284 step 3). -/
def descentStop (m : Nat) (s : State) : State :=
  let rs := (railsIn m).filter (fun r => ((s.rail r).enabled || starting s r) && !stopping s r)
  if rs.isEmpty then s
  else
    let s := forEach rs (fun r s => forEach (groupsOfRail r) (fun g s => soonIn 1 (.unpark g) s) s) s
    { s with stops := s.stops ++ [{ mask := bitsMask rs, coincident := true, pkt := none }] }

/-- The rails of a mask are Off, with no start or stop of theirs in progress. -/
def railsDown (m : Nat) (s : State) : Bool :=
  (railsIn m).all (fun r => !(s.rail r).enabled && !starting s r && !stopping s r)

/-- DESCENT_RAILS_STOP: once every cluster is Dormant CF, SA and FB stop together; once they are Off, AX stops (R284
step 3). -/
def execDescentRailsStop (s : State) : Host.Outcome State Fault Refusal :=
  match s.sys.descent with
  | .clusters =>
    if allDormant s then done (descentStop 7 { s with sys := { s.sys with descent := .coreRails } }) else idle s
  | .coreRails => if railsDown 7 s then done (descentStop 8 { s with sys := { s.sys with descent := .axRail } }) else idle s
  | _ => idle s

/-- DESCENT_ISLAND_OFF: with every rail Off the switch opens and the chip is Cold; a request that has returned starts R283
(R284 step 4). -/
def execDescentIslandOff (s : State) : Host.Outcome State Fault Refusal :=
  if s.sys.descent == .axRail && railsDown 15 s then done (closeSwitch (islandReset s)) else idle s

/-! ### Warm reset (R452, R453, R459) -/

/-- Commands taken and not yet taken effect are ended with BUSY_RETRY, in ring order, the mailbox last (R453). -/
def warmCommands (s : State) : State :=
  let l := s.cmd.inflight.filter (fun f => f.effect == .taken)
  let box := fun (f : InFlight) => f.org == .mailbox
  forEach (l.filter (fun f => !box f) ++ l.filter box)
    (fun f s => putReply { org := f.org, seq := f.seq, status := .busyRetry, data := [], opcode := f.opcode } s) s

/-- CELL_RECHARACTERIZE ends: cells in a retest are isolated again, clusters that were Active at the edge opening W are requested
back to it, and the command is answered (R289, R453). -/
def warmRechar (s : State) : State :=
  match s.rech with
  | none => s
  | some r =>
    let s := forEach r.clusters (fun n s =>
      let s := forEach ((List.range 12).filter (fun k => (s.cell (12 * n + k)).retest)) (fun k s => retestFail (12 * n + k) s) s
      let s := if (s.cluster n).s.recharWas && r.step < 4 then startTrans n .active 0 s else s
      s.updCl n (fun c => { c with s := { c.s with inRechar := false, recharWas := false, search := false } })) s
    reply r.pkt 0x0A03 .deadlineMissed [] { s with rech := none }

/-- WARM_RESET_START: brx_warm_rst_n_i is sampled low (R159, R261, R335, R438, R453). -/
def execWarmResetStart (s : State) : Host.Outcome State Fault Refusal :=
  if s.sys.island != .up || s.sys.warmLow then idle s
  else
    let s := warmCommands s
    let s := loadEnd 5 s
    let s := if s.cvy.st == .aligning && decide (s.cvy.step < 4) then joinFails s else s
    let s := engineWarm (caravanWarm (warmRechar s))
    let s := (dbgLock s).updDbg (fun d => { d with busy := false, submit := false })
    done { s with sys := { s.sys with warmLow := true } }

/-- The core restarts at ENTRY of a valid image, else at the ROM (R424). -/
def coreRestart (s : State) : State :=
  { s with
    core := { s.core with pc := if s.fw.valid then BitVec.ofNat 32 s.fw.entry else 0x00100000#32, inTrap := false, mie := false }
    fw := { s.fw with loaded := s.fw.valid } }

/-- WARM_RESET_END: the reset is recorded, the core restarts, and a held doorbell and GO take effect (R424, R452, R459). -/
def execWarmResetEnd (s : State) : Host.Outcome State Fault Refusal :=
  if !s.sys.warmLow then idle s
  else
    let bell := s.sys.heldDoorbell
    let go := s.sys.heldGo
    let s := noteSet 0x44 1 (coreRestart { s with sys := { s.sys with
      warmLow := false, warm := true, warmCount := min 255 (s.sys.warmCount + 1), resetStage := BitVec.ofNat 32 s.clk.stage
      heldDoorbell := none, heldGo := false } })
    let s := match bell with | some t => doorbell t s | none => s
    done (if go then mailboxTake s else s)

end Sys2Proof.Machine
end

