-- ==== Sys2Proof/Machine/Frame.lean ====
section
/-! DEFINITION. The stage frame: stage edges, pace boundaries, set-point steps and period closes, each with everything that
falls in its cycle, in order (R29, R31, R33, R36, R44, R49, R110, R123). -/

namespace Sys2Proof.Machine

/-! ### Period counters (R45, R449) -/

/-- The counters that return to 0 at a period close. -/
def rollPeriod (s : State) : State :=
  let s := cvyPeriod (caravanPeriod (convPeriod s))
  { s with
    evt := { s.evt with irqSent := Tab.replicate 4 0, masked := 0 }
    dl := { s.dl with engineMisses := 0, taskMisses := 0 }
    led := { s.led with parityErrs := 0 }
    trc := { s.trc with lost := 0 }
    eng := { s.eng with maxCycle := 0 }
    cl := s.cl.map (fun c => { c with
      t := { c.t with trips := 0, maxNs := 0, periodNs := 0 }, b := { c.b with fires := 0, skips := 0 }, m := { c.m with divPaces := 0 } })
    cells := s.cells.map (fun c => { c with limitPaces := 0 })
    phases := s.phases.map (fun p => { p with ocCount := 0 }) }

/-- The events of a code and source that a period has raised make room for those of the next, which carry their counts
(R45). -/
def rollEvents (s : State) : State := { s with evt := { s.evt with prev := s.evt.once, once := [] } }

/-! ### STAGE_EDGE (R31, R33, R36, R38, R44) -/

/-- The pace in progress passes to its last cycle: what falls in it falls, and the converters pass its last positions (R29,
R176). -/
def endPace (s : State) : State :=
  let t := s.paceEnd - 1
  passTo t (convsTo t s)

/-- The stage that ends in this cycle: its length, the reference cycles, and a millisecond mark that it has reached (R33,
R36). -/
def closeClock (s : State) : State :=
  let len := 9600 + s.paceLen
  let ref := s.clk.refCount + len / 10
  let due := decide (s.clk.nextMark ≤ ref)
  { s with clk := { s.clk with
      now := s.paceEnd, lastLen := len, refCount := ref, periodCycles := s.clk.periodCycles + len / 10
      periodDue := s.clk.periodDue || due, nextMark := if due then s.clk.nextMark + 100000 else s.clk.nextMark } }

/-- The stage closes: stretch totals, and at a period close what its post and frame need and the counters (R33, R52,
R54). -/
def closeStage (s : State) : State :=
  let close := s.clk.periodDue
  let s := if close then rollEvents s else s
  let s := forEach (List.range 144) stretchClose s
  if close then rollPeriod (enCapture s) else s

/-- Step 1 of R31: the counter takes the number of the new stage and the tick is driven. -/
def openStage (stage : Nat) (s : State) : State :=
  stageTick stage (fwIrq 0 { s with
    clk := { s.clk with stage, pace := 0, trim := .none, trimmedLast := s.clk.trim != .none, stageStart := s.clk.now, paceStart := s.clk.now
                        p0Pending := true } })

/-- The stage-done marker of the stage that closes has been written (R44). -/
def markerMet (s : State) : Bool := s.fw.done == BitVec.ofNat 16 s.clk.stage

/-- The policy shadow is latched with the results of the evaluation and of the accountant, or the miss is reported (R44, R45). -/
def latchPolicy (x : Option (GovEval × List (Nat × Nat))) (s : State) : State :=
  match x with
  | some x => enLatch (govLatch x { s with gov := { s.gov with latched := true } })
  | none =>
    let s := { s with gov := { s.gov with latched := false }, dl := { s.dl with taskMisses := min 65535 (s.dl.taskMisses + 1) } }
    dlSet 1 (raiseMiss 0x0111 0 [] s)

/-- Every group sheds at a stage edge (R115). -/
def shedGroups (s : State) : State :=
  forEach (List.range 15) (fun g s => shedAtEdge g (if g < 12 then segPeak s g 0 else 0) s) s

/-- A change that waits for the next cycle 0 wakes a cluster: its wake has been accepted (R279). -/
def wakesNow (s : State) : Act → Bool
  | .setState n t _ => wakes (s.cluster n) t
  | _ => false

/-- SA retention follows the chip state: requested in Standby-Ready while no wake has been accepted, released elsewhere
(R279). -/
def retentionEdge (s : State) : State :=
  if s.sys.chip != .standbyReady then saRelease s
  else if s.cl.any Cluster.inWake || s.cmd.next.any (fun d => d.acts.any (wakesNow s)) then s
  else saRequest s

/-- What the hardware units do in the edge cycle after the policy (R49, R81, R89, R115, R132, R282, R422). -/
def unitsEdge (loads : Bool) (s : State) : State :=
  let s := cvyEdge loads s
  let s := shedGroups (clampRelease s)
  let s := retentionEdge (chipEdge (windowClear s))
  let s := { s with sys := { s.sys with powerGood := powerGoodAt s } }
  loadEdge s

/-- The built-in protections in an edge cycle: what they owe this cycle, and the domains that cross in it, before any edge effect
(R48, R49, R210, R215). -/
def edgeProtections (crossings : List Crossing) (s : State) : State :=
  forEach (List.range 144) stuckReport (trips crossings (passTo s.clk.now s))

/-- The offsets that commands give their clusters in this cycle are in force: what the interlock judges (R31, R124, R269). -/
def withOffsets (s : State) : State :=
  retargetAll s.clk.now (forEach (s.cmd.next.flatMap (fun d => d.acts)) (fun a s =>
    match a with
    | .offset n sel o th => applyOffset n sel o th s
    | _ => s) s)

/-- The stage opens: steps 1 to 4 of R31 in their order, with what the hardware units do in the edge cycle. `x` is the evaluation
that the marker lets through. -/
def edgeEffects (x : Option (GovEval × List (Nat × Nat))) (loads : Bool) (s : State) : State :=
  let s := engineSwap (guards (manifestEdge s))
  let s := retargetAll s.clk.now (caravanEdge s)
  let s := caravanReplies (levelEdge (withOffsets s) s)
  let s := latchPolicy x (applyEdge s)
  unitsEdge loads (retargetAll s.clk.now s)

/-- STAGE_EDGE: the reference count reaches the stage length. The edge effects fall in the order of R31 after the protections of
the cycle (R49), the interlock acting on targets recomputed from the terms of the new stage (R23, R31); the boundary of p0 follows
in the same cycle. -/
def execStageEdge (x : EdgeIn) (s : State) : Host.Outcome State Fault Refusal :=
  if !s.clk.running || s.clk.p0Pending || s.clk.pace != 15 then idle s
  else
    let s := match x.marker with
      | some m => if s.fwRuns then { s with fw := { s.fw with done := m } } else s
      | none => s
    let s := endPace s
    let v := if markerMet s then some (evaluate s) else none
    let s := prioNote s
    let loads := cvyLoads s
    let stage := stageAfter s
    done (edgeEffects v loads (edgeProtections x.crossings (openStage stage (closeStage (closeClock s)))))

/-! ### PACE_BOUNDARY (R29) -/

/-- The clock at a boundary: the boundary of p0 belongs to the edge cycle, every other one lies a pace after the last; what the
protections owe its cycle 0 comes first (R29, R31, R49). -/
def boundaryClock (s : State) : State :=
  if s.clk.p0Pending then { s with clk := { s.clk with p0Pending := false, paceNo := s.clk.paceNo + 1 } }
  else
    let s := endPace s
    let s := fwIrq 1 { s with
      clk := { s.clk with now := s.paceEnd, paceStart := s.paceEnd, pace := s.clk.pace + 1, paceNo := s.clk.paceNo + 1 } }
    passTo s.clk.now s

/-- V_in from the snapshot: 12.00 V until the first result; four consecutive snapshots out of range are reported once in a
period (R110). -/
def vinPace (s : State) : State :=
  let c := s.chans.get 292
  if !c.seen then s
  else
    let mv := (roundDiv c.snap 4).toNat
    let range := decide (mv < 10800) || decide (13200 < mv)
    let run := if range then min 4 (s.vin.run + 1) else 0
    let s := { s with vin := { mv, range, run, seen := true } }
    if run = 4 then raisePeriod 0x0211 0 (leBytes 2 mv) s else s

/-- What the boundary takes from the pace that ends, of length `len`: energy, the snapshot, currents, windows and
sums (R181, R294, R353). -/
def paceMeasures (len : Nat) (inp : PaceIn) (s : State) : State :=
  let axWas := (s.rail 3).enabled && (s.rail 3).inWindow
  let s := snapshot (boundaryResults inp.codes (enPace len s))
  let s := convApply (idleMin len s)
  let s := senseOffsets (groupCurrents (phaseAverages s))
  let s := railMirrors (cellWords inp.cells s)
  let s := convRun axWas (railWindows inp.axInWindow s)
  integrate (vinPace s)

/-- Tracking, transitions, isolations and drone mode at cycle 0 (R104, R119, R145, R278). -/
def paceUnits (s : State) : State :=
  let s := stretchPace (bellowsWake (paceTracking s))
  let s := paceDescent s
  forEach (List.range 144) (fun n s => paceDrone n (paceCells n (paceTrans n s))) s

/-- The results of the engine and the manifest engine take effect, and their terms are judged (R29, R174, R230, R272). -/
def paceResults (s : State) : State := judgeCurves (guards (manifestPace (engineApply s)))

/-- Targets and feed follow from the terms of the pace (R23, R98, R102, R103). -/
def paceTargets (s : State) : State :=
  let s := droneRecalc (retargetAll s.clk.now (unserve s))
  let s := unserve (forEach (List.range 144) droneJudge s)
  let s := droneRide (feedUpdate s)
  forEach (List.range 144) (fun n s => calSettle n (emptyRamp n s)) s

/-- Headrooms, leakage estimates, balance, health and share trims, and the runs of a recharacterisation (R92, R114, R142, R144,
R149, R288, R289). -/
def paceTrims (s : State) : State :=
  let s := headrooms { s with cl := s.cl.map leakUpdate }
  let s := forEach (List.range 15) trimGroup s
  recharPace (forEach (List.range 144) (fun n s => shareTrims n (healthRuns n s)) s)

/-- The forecast of a group for the pace that begins, in 25 mA (R116). -/
def groupForecast (s : State) (g : Nat) : Nat :=
  (s.cl.sumI (fun n c => if n % 12 == g && c.m.served then (c.m.fc : Int) else 0)).toNat

/-- What the pace drives: phases, swell, frequency code, converters, loop inputs, cell words, messages and reads (R61, R109,
R116, R136, R171, R186, R307). -/
def paceDrives (s : State) : State :=
  let s := forEach (List.range 15) (fun g s => refreshOn g (unparkAtPace g (groupForecast s g) s)) s
  let s := convPower (freqDrive (driveSwell s))
  let s := cellCommands (engineLatch s)
  retirePers (issueFrames (cmdFetch (cvyPace s)))

/-- The settings of a fire that an ARM of this cycle brings: a fire that begins in it takes them (R203). -/
def armNext (s : State) : State :=
  forEach (s.cmd.next.flatMap (fun d => d.acts)) (fun a s =>
    match a with
    | .arm 1 fireWin fireI _ => { s with blwCfg := { s.blwCfg with fireWin, fireI } }
    | _ => s) s

/-- Everything that falls in cycle 0 of a pace: the protections first, then what the pace that ends leaves. Commands that apply here do so after the hardware's updates (R49, R382), and
the targets follow them. -/
def paceWork (len : Nat) (inp : PaceIn) (s : State) : State :=
  let s := paceMeasures len inp (trips inp.trips (armNext s))
  let s := if s.clk.pace = 0 then thermalEdge s else s
  let s := paceTrims (paceResults (paceUnits s))
  let s := noteAwake (paceDrives (paceTargets (applyNext s)))
  { s with en := { s.en with pacesSince := min 2 (s.en.pacesSince + 1) } }

/-- PACE_BOUNDARY: cycle 0 of a pace; that of p0 completes the edge cycle (R29). The pace after p15 begins only with its stage
edge. -/
def execPaceBoundary (inp : PaceIn) (s : State) : Host.Outcome State Fault Refusal :=
  if !s.clk.running then idle s
  else if s.clk.p0Pending then done (paceWork (s.clk.lastLen - 9600) inp (boundaryClock s))
  else if s.clk.pace = 15 then idle s
  else done (paceWork s.paceLen inp (boundaryClock s))

/-! ### SETPOINT_STEP (R123) -/

/-- A rail's set-point moves one code, and its on-times follow in the next cycle (R109, R123). -/
def stepRail (r : Nat) (s : State) : State :=
  soonIn 1 (.refresh r) (s.updRail r (fun ra => { ra with sp := ra.sp.step s.clk.now }))

/-- SETPOINT_STEP: the object's next step falls (R119, R121, R123, R148). -/
def execSetpointStep (o : SpObj) (s : State) : Host.Outcome State Fault Refusal :=
  match o with
  | .rail r => if r < 4 && (s.rail r).sp.moving then atTime (s.rail r).sp.due (stepRail r) s else idle s
  | .cluster n => if n < 144 && (s.cluster n).v.sp.moving then atTime (s.cluster n).v.sp.due (stepCluster n) s else idle s
  | .trackUp r axUv =>
    match s.starts.find? (fun t => t.mask.testBit r && t.phase == .ramp) with
    | some t => atTime t.due (stepStart t axUv) s
    | none => idle s
  | .trackDown r =>
    match s.stops.find? (fun t => t.mask.testBit r && t.begun && t.r != 0) with
    | some t => atTime t.due (stepStop t) s
    | none => idle s

/-! ### PERIOD_CLOSE (R33) -/

/-- The accounting period closes and the next opens with the new stage (R33, R294, R345, R355, R437). -/
def closePeriod (s : State) : State :=
  let s := dbgPeriod (enPeriod (thermalPeriod (governPeriod (10 * s.clk.periodCycles) s)))
  { s with clk := { s.clk with
      periodDue := false, periodSeq := (s.clk.periodSeq + 1) % 2 ^ 32, periodFirst := s.clk.stage, periodCycles := 0 } }

/-- PERIOD_CLOSE: in the edge cycle at or after a millisecond mark, once the boundary of p0 has taken its sums (R33). -/
def execPeriodClose (s : State) : Host.Outcome State Fault Refusal :=
  if s.clk.periodDue && !s.clk.p0Pending then done (closePeriod s) else idle s

end Sys2Proof.Machine
end

