-- ==== Sys2Proof/Machine/Dispatch.lean ====
section
/-! DEFINITION. The dispatcher: one arm per command, each a direct call of its meaning. -/

namespace Sys2Proof.Machine

/-- The effect of a command on everything but the queue. -/
def exec (i : Instr) (s : State) : Host.Outcome State Fault Refusal :=
  match i with
  | .stageEdge e => Sys2Proof.Machine.execStageEdge e s
  | .paceBoundary inp => Sys2Proof.Machine.execPaceBoundary inp s
  | .wakeAdmission n => Sys2Proof.Machine.execWakeAdmission n s
  | .wakeDeadlineExpiry n => Sys2Proof.Machine.execWakeDeadlineExpiry n s
  | .wakeLatchReplay n => Sys2Proof.Machine.execWakeLatchReplay n s
  | .wakeSelfTestEnd n badCells sentinelOk => Sys2Proof.Machine.execWakeSelfTestEnd n badCells sentinelOk s
  | .engineEvalDeadline parity => Sys2Proof.Machine.execEngineEvalDeadline parity s
  | .stageTrimDecision => Sys2Proof.Machine.execStageTrimDecision s
  | .caravanCutoff => Sys2Proof.Machine.execCaravanCutoff s
  | .caravanEdgeCheck => Sys2Proof.Machine.execCaravanEdgeCheck s
  | .caravanOpenTimeout k => Sys2Proof.Machine.execCaravanOpenTimeout k s
  | .setpointStep o => Sys2Proof.Machine.execSetpointStep o s
  | .periodClose => Sys2Proof.Machine.execPeriodClose s
  | .energyReconcile => Sys2Proof.Machine.execEnergyReconcile s
  | .frameDeadlineExpiry => Sys2Proof.Machine.execFrameDeadlineExpiry s
  | .ledgerPostAck st => Sys2Proof.Machine.execLedgerPostAck st s
  | .frameWriteDone st => Sys2Proof.Machine.execFrameWriteDone st s
  | .convoyCheckpoint => Sys2Proof.Machine.execConvoyCheckpoint s
  | .convoyUpDeadline => Sys2Proof.Machine.execConvoyUpDeadline s
  | .rootAnnounce => Sys2Proof.Machine.execRootAnnounce s
  | .convoyAckDeadline => Sys2Proof.Machine.execConvoyAckDeadline s
  | .convoySyncLoss => Sys2Proof.Machine.execConvoySyncLoss s
  | .sync m => Sys2Proof.Machine.execSync m s
  | .echoReq m => Sys2Proof.Machine.execEchoReq m s
  | .echoRsp m => Sys2Proof.Machine.execEchoRsp m s
  | .joined m => Sys2Proof.Machine.execJoined m s
  | .left m => Sys2Proof.Machine.execLeft m s
  | .up m => Sys2Proof.Machine.execUp m s
  | .announce m => Sys2Proof.Machine.execAnnounce m s
  | .ack m => Sys2Proof.Machine.execAck m s
  | .cancel m => Sys2Proof.Machine.execCancel m s
  | .prioReq m => Sys2Proof.Machine.execPrioReq m s
  | .prioAnnounce m => Sys2Proof.Machine.execPrioAnnounce m s
  | .freqDone => Sys2Proof.Machine.execFreqDone s
  | .freqNoDoneTimeout => Sys2Proof.Machine.execFreqNoDoneTimeout s
  | .clusterStateEcho n code => Sys2Proof.Machine.execClusterStateEcho n code s
  | .handshakeTimeout n => Sys2Proof.Machine.execHandshakeTimeout n s
  | .clusterWakeEdge n => Sys2Proof.Machine.execClusterWakeEdge n s
  | .saRetentionAck banks => Sys2Proof.Machine.execSaRetentionAck banks s
  | .saBankPinned b pinned => Sys2Proof.Machine.execSaBankPinned b pinned s
  | .activityRecord rec => Sys2Proof.Machine.execActivityRecord rec s
  | .phasePulseStart g sense => Sys2Proof.Machine.execPhasePulseStart g sense s
  | .phasePulseEnd ph => Sys2Proof.Machine.execPhasePulseEnd ph s
  | .phaseOvercurrent ph below => Sys2Proof.Machine.execPhaseOvercurrent ph below s
  | .phaseFaultFlag ph low => Sys2Proof.Machine.execPhaseFaultFlag ph low s
  | .phaseParkDisable ph amps => Sys2Proof.Machine.execPhaseParkDisable ph amps s
  | .phaseUnparkReady ph => Sys2Proof.Machine.execPhaseUnparkReady ph s
  | .phaseCheckDone ph curr => Sys2Proof.Machine.execPhaseCheckDone ph curr s
  | .senseLineLoss r x => Sys2Proof.Machine.execSenseLineLoss r x s
  | .trackingPrecheck meas => Sys2Proof.Machine.execTrackingPrecheck meas s
  | .trackingStopLowSideEnd r below => Sys2Proof.Machine.execTrackingStopLowSideEnd r below s
  | .cellCurrentLimit x => Sys2Proof.Machine.execCellCurrentLimit x s
  | .cellHealthFault x cause => Sys2Proof.Machine.execCellHealthFault x cause s
  | .cellIsolationComplete c => Sys2Proof.Machine.execCellIsolationComplete c s
  | .sentinelTrip x => Sys2Proof.Machine.execSentinelTrip x s
  | .stretchRelease x => Sys2Proof.Machine.execStretchRelease x s
  | .bellowsFireEnd n low => Sys2Proof.Machine.execBellowsFireEnd n low s
  | .bellowsSlotGrant n => Sys2Proof.Machine.execBellowsSlotGrant n s
  | .bellowsChargeDone n => Sys2Proof.Machine.execBellowsChargeDone n s
  | .bellowsChargeTimeout n => Sys2Proof.Machine.execBellowsChargeTimeout n s
  | .bellowsFlagConflict n => Sys2Proof.Machine.execBellowsFlagConflict n s
  | .adcResult c d urgent => Sys2Proof.Machine.execAdcResult c d urgent s
  | .adcSyscalDone u sz sr => Sys2Proof.Machine.execAdcSyscalDone u sz sr s
  | .adcBgBlockDone u sz sr => Sys2Proof.Machine.execAdcBgBlockDone u sz sr s
  | .adcSpareExchange u w => Sys2Proof.Machine.execAdcSpareExchange u w s
  | .adcUrgentRequest c => Sys2Proof.Machine.execAdcUrgentRequest c s
  | .seqSwap mask => Sys2Proof.Machine.execSeqSwap mask s
  | .seqValidationDone u => Sys2Proof.Machine.execSeqValidationDone u s
  | .swap => Sys2Proof.Machine.execSwap s
  | .planValidationDone parity => Sys2Proof.Machine.execPlanValidationDone parity s
  | .engineBankWrite addr w => Sys2Proof.Machine.execEngineBankWrite addr w s
  | .calTileReadDone t upset => Sys2Proof.Machine.execCalTileReadDone t upset s
  | .curveTileReadDone t upset => Sys2Proof.Machine.execCurveTileReadDone t upset s
  | .manifestTileReadDone t upset => Sys2Proof.Machine.execManifestTileReadDone t upset s
  | .manifestBlockArrival slot data => Sys2Proof.Machine.execManifestBlockArrival slot data s
  | .manifestLateExpiry slot => Sys2Proof.Machine.execManifestLateExpiry slot s
  | .manifestLoadTimeout => Sys2Proof.Machine.execManifestLoadTimeout s
  | .sealGo tile => Sys2Proof.Machine.execSealGo tile s
  | .sealWriteDone => Sys2Proof.Machine.execSealWriteDone s
  | .coreTileReadDone t upset fetch => Sys2Proof.Machine.execCoreTileReadDone t upset fetch s
  | .firmwareFallback cause addr => Sys2Proof.Machine.execFirmwareFallback cause addr s
  | .coreHostWindowWrite off w => Sys2Proof.Machine.execCoreHostWindowWrite off w s
  | .firmwareFetchDone data => Sys2Proof.Machine.execFirmwareFetchDone data s
  | .firmwareAuthDone => Sys2Proof.Machine.execFirmwareAuthDone s
  | .firmwareLoadTimeout => Sys2Proof.Machine.execFirmwareLoadTimeout s
  | .coreHalt cause index ctx => Sys2Proof.Machine.execCoreHalt cause index ctx s
  | .diodeResult dUv vf => Sys2Proof.Machine.execDiodeResult dUv vf s
  | .thermalTrip => Sys2Proof.Machine.execThermalTrip s
  | .restartToStandbyReady => Sys2Proof.Machine.execRestartToStandbyReady s
  | .restartCoreRails => Sys2Proof.Machine.execRestartCoreRails s
  | .thermalCalDone => Sys2Proof.Machine.execThermalCalDone s
  | .graceExpiry => Sys2Proof.Machine.execGraceExpiry s
  | .thermalCeilingStep => Sys2Proof.Machine.execThermalCeilingStep s
  | .powerOnReset req => Sys2Proof.Machine.execPowerOnReset req s
  | .powerRequestUp => Sys2Proof.Machine.execPowerRequestUp s
  | .clockGeneratorStart => Sys2Proof.Machine.execClockGeneratorStart s
  | .clockLock => Sys2Proof.Machine.execClockLock s
  | .copierDone => Sys2Proof.Machine.execCopierDone s
  | .powerRequestDown => Sys2Proof.Machine.execPowerRequestDown s
  | .descentRailsStop => Sys2Proof.Machine.execDescentRailsStop s
  | .descentIslandOff => Sys2Proof.Machine.execDescentIslandOff s
  | .warmResetStart => Sys2Proof.Machine.execWarmResetStart s
  | .warmResetEnd => Sys2Proof.Machine.execWarmResetEnd s
  | .testReset => Sys2Proof.Machine.execTestReset s
  | .commandDoorbell tail => Sys2Proof.Machine.execCommandDoorbell tail s
  | .commandSlotFetchDone slots => Sys2Proof.Machine.execCommandSlotFetchDone slots s
  | .commandSlotTake => Sys2Proof.Machine.execCommandSlotTake s
  | .indirectPayloadFetchDone o data => Sys2Proof.Machine.execIndirectPayloadFetchDone o data s
  | .replyDeadlineExpiry o => Sys2Proof.Machine.execReplyDeadlineExpiry o s
  | .replyHoldDrain => Sys2Proof.Machine.execReplyHoldDrain s
  | .eventRingWrite => Sys2Proof.Machine.execEventRingWrite s
  | .mailboxGo => Sys2Proof.Machine.execMailboxGo s
  | .ringControlWrite w => Sys2Proof.Machine.execRingControlWrite w s
  | .eventCauseClear w => Sys2Proof.Machine.execEventCauseClear w s
  | .stageLoRead => Sys2Proof.Machine.execStageLoRead s
  | .ledgerLoRead x => Sys2Proof.Machine.execLedgerLoRead x s
  | .apertureWrite x w => Sys2Proof.Machine.execApertureWrite x w s
  | .registerWrite x w => Sys2Proof.Machine.execRegisterWrite x w s
  | .ping p => Sys2Proof.Machine.execPing p s
  | .getInfo p => Sys2Proof.Machine.execGetInfo p s
  | .loadFirmware p => Sys2Proof.Machine.execLoadFirmware p s
  | .arm p => Sys2Proof.Machine.execArm p s
  | .disarm p => Sys2Proof.Machine.execDisarm p s
  | .setEventMask p => Sys2Proof.Machine.execSetEventMask p s
  | .railEnable p => Sys2Proof.Machine.execRailEnable p s
  | .railDisable p => Sys2Proof.Machine.execRailDisable p s
  | .railSetTarget p => Sys2Proof.Machine.execRailSetTarget p s
  | .railGetStatus p => Sys2Proof.Machine.execRailGetStatus p s
  | .phaseGroupSettings p => Sys2Proof.Machine.execPhaseGroupSettings p s
  | .phaseDisableByHost p => Sys2Proof.Machine.execPhaseDisableByHost p s
  | .phaseReenable p => Sys2Proof.Machine.execPhaseReenable p s
  | .spareIntoService p => Sys2Proof.Machine.execSpareIntoService p s
  | .spareToReserve p => Sys2Proof.Machine.execSpareToReserve p s
  | .clusterSetState p => Sys2Proof.Machine.execClusterSetState p s
  | .clusterSetOffset p => Sys2Proof.Machine.execClusterSetOffset p s
  | .clusterGetStatus p => Sys2Proof.Machine.execClusterGetStatus p s
  | .droneEnter p => Sys2Proof.Machine.execDroneEnter p s
  | .droneExit p => Sys2Proof.Machine.execDroneExit p s
  | .caravanOpen p => Sys2Proof.Machine.execCaravanOpen p s
  | .caravanMember p opcode id => Sys2Proof.Machine.execCaravanMember p opcode id s
  | .caravanCommit p => Sys2Proof.Machine.execCaravanCommit p s
  | .caravanAbort p => Sys2Proof.Machine.execCaravanAbort p s
  | .caravanStatus p => Sys2Proof.Machine.execCaravanStatus p s
  | .manifestLoad p => Sys2Proof.Machine.execManifestLoad p s
  | .manifestEngage p => Sys2Proof.Machine.execManifestEngage p s
  | .manifestRelease p => Sys2Proof.Machine.execManifestRelease p s
  | .manifestStatus p => Sys2Proof.Machine.execManifestStatus p s
  | .setLevelTable p => Sys2Proof.Machine.execSetLevelTable p s
  | .setLevelPreference p => Sys2Proof.Machine.execSetLevelPreference p s
  | .setLimits p => Sys2Proof.Machine.execSetLimits p s
  | .admitGuarantee p => Sys2Proof.Machine.execAdmitGuarantee p s
  | .revokeGuarantee p => Sys2Proof.Machine.execRevokeGuarantee p s
  | .setFixedFrequency p => Sys2Proof.Machine.execSetFixedFrequency p s
  | .setSwell p => Sys2Proof.Machine.execSetSwell p s
  | .convoyJoin p => Sys2Proof.Machine.execConvoyJoin p s
  | .convoyJoinTimeout => Sys2Proof.Machine.execConvoyJoinTimeout s
  | .convoyLeave p => Sys2Proof.Machine.execConvoyLeave p s
  | .convoyHostProposal p => Sys2Proof.Machine.execConvoyHostProposal p s
  | .convoyClearSkew p => Sys2Proof.Machine.execConvoyClearSkew p s
  | .convoyDropPort p => Sys2Proof.Machine.execConvoyDropPort p s
  | .convoyStatus p => Sys2Proof.Machine.execConvoyStatus p s
  | .thermalThresholds p => Sys2Proof.Machine.execThermalThresholds p s
  | .thermalCalibrate p => Sys2Proof.Machine.execThermalCalibrate p s
  | .thermalStatus p => Sys2Proof.Machine.execThermalStatus p s
  | .energySetLedgerAddr p => Sys2Proof.Machine.execEnergySetLedgerAddr p s
  | .energySetFrameRing p => Sys2Proof.Machine.execEnergySetFrameRing p s
  | .energyRead p => Sys2Proof.Machine.execEnergyRead p s
  | .energyModelLoad p => Sys2Proof.Machine.execEnergyModelLoad p s
  | .adcCalibrateSystem p => Sys2Proof.Machine.execAdcCalibrateSystem p s
  | .adcCalTimeout => Sys2Proof.Machine.execAdcCalTimeout s
  | .adcSetCalMode p => Sys2Proof.Machine.execAdcSetCalMode p s
  | .cellRecharacterize p => Sys2Proof.Machine.execCellRecharacterize p s
  | .recharWindowStep n pass bad => Sys2Proof.Machine.execRecharWindowStep n pass bad s
  | .diagReadTrace p => Sys2Proof.Machine.execDiagReadTrace p s
  | .traceCopyDone => Sys2Proof.Machine.execTraceCopyDone s
  | .nop => Sys2Proof.Machine.execNop s
  | .challenge addr => Sys2Proof.Machine.execChallenge addr s
  | .response addr w => Sys2Proof.Machine.execResponse addr w s
  | .submit => Sys2Proof.Machine.execSubmit s
  | .lock => Sys2Proof.Machine.execLock s
  | .halt => Sys2Proof.Machine.execHalt s
  | .resume => Sys2Proof.Machine.execResume s
  | .step => Sys2Proof.Machine.execStep s
  | .readMem addr => Sys2Proof.Machine.execReadMem addr s
  | .writeMem addr w => Sys2Proof.Machine.execWriteMem addr w s
  | .readReg num => Sys2Proof.Machine.execReadReg num s
  | .writeReg num w => Sys2Proof.Machine.execWriteReg num w s
  | .setMatch addr w => Sys2Proof.Machine.execSetMatch addr w s
  | .convert chan => Sys2Proof.Machine.execConvert chan s
  | .debugChallengeExpiry => Sys2Proof.Machine.execDebugChallengeExpiry s
  | .debugWithholdEnd => Sys2Proof.Machine.execDebugWithholdEnd s
  | .manifestHeaderArrival data => Sys2Proof.Machine.execManifestHeaderArrival data s
  | .debugOperationDone => Sys2Proof.Machine.execDebugOperationDone s
  | .apertureRead x upset => Sys2Proof.Machine.execApertureRead x upset s

end Sys2Proof.Machine
end

