-- ==== Sys2Proof/Safety.lean ====
section
/-! DEFINITION. The words in which statements are made: what a state holds apart from the command interface and the event path,
what it means that a command has been answered, and the invariant of the event path. -/

namespace Sys2Proof.Machine

/-- The command interface without what answering a packet changes: the commands in flight, the reply hold, the head of the
reply ring, the mailbox's reply words with DONE and BUSY, and the cycle in which the command took effect (R373 to R376, R382). -/
def Cmd.apart (c : Cmd) : Cmd :=
  { c with inflight := [], hold := [], rplHead := 0, mbxRpl := Tab.replicate 8 0, mbxDone := false, mbxBusy := false, tookAt := none }

/-- The event path without what raising an event changes: the masks alone (R388). -/
def Evt.apart (e : Evt) : Evt := { catMask := e.catMask, codes := e.codes }

/-- A state without what every command may change as it ends: replies (R379), events (R385), the trace (R399), the ports, the
caravan that a failed member aborts (R248), and the frequency change that the end of boost posts, with the conditions of boost
that hold (R274). Two states with the same rest agree in every other register, buffer, mode and pin. -/
def State.apart (s : State) : State :=
  { s with
    cmd := s.cmd.apart, evt := s.evt.apart, trc := {}, out := [], cvn := {}
    seq := { s.seq with pend := none, boostHeld := 0 } }

/-- A reply has gone out by way of `t`: through the mailbox (R376); at the head of the reply ring, with the request that writes
it there, while that is open and no reply is held; else it is in the hold (R70, R374). -/
def Sent (r : Reply) (s t : State) : Prop :=
  match r.org with
  | .mailbox => Output.mailbox (r.bytes s.clk.stage) ∈ t.out
  | .ring _ =>
    if s.rplOpen && s.cmd.hold.isEmpty then
      ∃ q : DmaReq, q.op = .write ∧ q.addr = rplBase s + 64 * (s.cmd.rplHead / 2) ∧ q.beats = 1 ∧
        q.data = r.bytes s.clk.stage ∧ Output.reply s.cmd.rplHead (r.bytes s.clk.stage) q ∈ t.out
    else r ∈ t.cmd.hold

/-- A packet taken in `s` is answered in `t` with a status and reply data (R379). -/
def Answered (p : Packet) (opcode : Nat) (st : Status) (data : List Byte) (s t : State) : Prop :=
  Sent { org := p.org, seq := p.seq, status := st, data, opcode } s t

/-- `t` is the end of a cycle in which an event of a code and source was raised with its data; the end of the cycle passes it
on to the event path (R50, R385). -/
def Raised (code source : Nat) (data : List Byte) (t : State) : Prop :=
  ∃ u e, e ∈ u.evt.fresh ∧ e.code = code ∧ e.source = source ∧ e.data = data ∧ t = finish u

/-- The changes of a command wait for cycle 0 of the next pace (R382). -/
def State.awaiting (s : State) (p : Packet) (opcode : Nat) (acts : List Act) : State :=
  { s with cmd := { s.cmd with next := s.cmd.next ++ [{ pkt := p, opcode, acts, se := s.clk.stage }] } }

/-- The changes of a command already answered wait for the next stage edge (R296, R304). -/
def State.awaitingEdge (s : State) (acts : List Act) : State := { s with cmd := { s.cmd with quiet := s.cmd.quiet ++ acts } }

/-- No command in flight has failed a check and waits for its rejection (R378, R381). -/
def State.calm (s : State) : Bool := s.cmd.inflight.all (fun f => f.fails.isNone)

/-- A convoy message of a type reaches the convoy unit: the control island is up and not in a warm reset, the message is whole, of
this convoy and from a port that may send it, and the convoy is not lost (R72, R318, R336). -/
def Hears (type : Nat) (m : ConvoyMsg) (s : State) : Prop :=
  s.islandUp = true ∧ s.sys.warmLow = false ∧ m.port ≤ 8 ∧ cvyBad s m = false ∧ m.type = type ∧ s.cvy.st ≠ .lost

/-- Every event of the cycle is in the event path, but between the two halves of an edge cycle (R50, R385). -/
def State.settledEvents (s : State) : Prop := s.clk.p0Pending = false → s.evt.fresh = []

end Sys2Proof.Machine
end

