-- ==== Sys2Proof/Certificates/Slice0/Obligations.lean ====
section
/-! DEFINITION. The statements for the provers. They follow the rules of the spec, each cited with its number; a statement
that rests on a choice of the model says so and names the log entry. `State.apart` is what every command may change as it ends;
`reach c s = some u` says that the moment `c` of a timed command has come or is within the pace, and `u` is the state at it. -/

open Sys2Proof Sys2Proof.Machine

/-! ### The block and its queue -/

/-- With a command at the front of its queue, a step is that command's effect on the state whose queue is the rest. -/
def Obligations.StepTakesTheFront : Prop :=
  ∀ (c : Instr) (rest : List Instr) (s : State),
    step { s with pending := c :: rest } = exec c { s with pending := rest }

/-- The model's choice (log 2): on an empty queue a cycle passes; while the stage generator runs, not beyond the last cycle of the
pace, and not within an edge cycle. Effects that wait for the cycle that comes fall in it; with none the clock alone moves. -/
def Obligations.StepOnEmptyQueue : Prop :=
  ∀ s : State, s.pending = [] →
    (s.clk.running = false ∨ s.clk.p0Pending = false ∧ s.clk.now + 1 < s.paceEnd →
      step s = .next (passTo (s.clk.now + 1) s) ∧
      (s.clk.soon = [] → step s = .next { s with clk := { s.clk with now := s.clk.now + 1 } })) ∧
    (s.clk.running = true → s.clk.p0Pending = true ∨ s.paceEnd ≤ s.clk.now + 1 → step s = .next s)

/-- Every command answers a next state, none a fault or a refusal; what it does, it does to everything but the queue: the commands
waiting are those that waited before. -/
def Obligations.EveryCommandGoesOn : Prop :=
  ∀ (c : Instr) (s : State), ∃ t, exec c s = .next t ∧ t.pending = s.pending

/-- Every step keeps the event path settled: outside the edge cycle no event of a cycle stays behind when its command ends. -/
def Obligations.StepSettlesEvents : Prop :=
  ∀ s t : State, s.settledEvents → step s = .next t → t.settledEvents

/-- Every step keeps Ledger RAM in its canonical form. -/
def Obligations.StepKeepsRam : Prop :=
  ∀ s t : State, Memory.wf s.led.ram = true → step s = .next t → Memory.wf t.led.ram = true

/-- The reset state meets both invariants. It is Cold, before any clock: the control island is off, no rail is enabled, every
cluster is Dormant, the stage counter is 0, no command, reply, event or trace record is held, and no byte of Ledger RAM has been
written. -/
def Obligations.Reset : Prop :=
  State.reset.settledEvents ∧ Memory.wf State.reset.led.ram = true ∧
  State.reset.sys.chip = .cold ∧ State.reset.sys.island = .off ∧ State.reset.clk.running = false ∧ State.reset.clk.stage = 0 ∧
  (∀ r, r < 4 → (State.reset.rail r).enabled = false) ∧ (∀ n, n < 144 → (State.reset.cluster n).s.st = .dormant) ∧
  State.reset.cmd.inflight = [] ∧ State.reset.cmd.hold = [] ∧ State.reset.evt.queue = [] ∧ State.reset.trc.recs = [] ∧
  State.reset.led.ram = [] ∧ State.reset.pending = []

/-! ### Bytes and Ledger RAM -/

/-- Ledger RAM and its sealed tiles. The bytes of a number, least significant first, spell its remainder. A byte of a canonical
memory after a store is the byte stored within the stored bytes, and as before elsewhere. Sealing a tile stores its 1,024 bytes,
leaves every byte outside it, writes its check and clears its bad mark; the tile then passes a read without a disturbance (R431).
-/
def Obligations.LedgerRam : Prop :=
  (∀ k n : Nat, (leBytes k n).length = k ∧ leNat (leBytes k n) = n % 256 ^ k) ∧
  (∀ (m : Memory) (a k : Nat) (bs : List Byte), Memory.wf m = true →
    Memory.read (Memory.store m a bs) k = if a ≤ k ∧ k < a + bs.length then bs.getD (k - a) 0 else Memory.read m k) ∧
  (∀ (t : Nat) (bs : List Byte) (s : State), t < 640 → bs.length = 1024 → Memory.wf s.led.ram = true →
    tileBytes (sealTile t bs s) t = bs ∧ tileBad (sealTile t bs s) t = false ∧ tilePasses (sealTile t bs s) t false = true ∧
    ∀ a, a < tileAddr t ∨ tileAddr t + 1024 ≤ a → Memory.read (sealTile t bs s).led.ram a = Memory.read s.led.ram a)

/-! ### Events and the end of a command -/

/-- The event path. An event raised alone in a cycle that ends outside the edge cycle, with nothing else to report: masked, it is
counted and takes no number; with room in the queue it enters it behind the others with the next number (R384, R385, R388). A
write of 1 to an urgent category bit that hardware has set in the same cycle leaves it set; without that it clears the bit (R9,
R387). -/
def Obligations.EventPath : Prop :=
  (∀ (s : State) (code source : Nat) (data : List Byte),
    s.clk.p0Pending = false → s.evt.fresh = [] → s.evt.lost = 0 → s.calm = true → (s.lvl s.seq.level).boost = false →
      (evMasked s code = true →
        (finish (raise code source data s)).evt.queue = s.evt.queue ∧ (finish (raise code source data s)).evt.seq = s.evt.seq ∧
        (finish (raise code source data s)).evt.masked = min 65535 (s.evt.masked + 1)) ∧
      (evMasked s code = false → s.evt.queue.length < 64 → (∀ f ∈ s.evt.queue, f.moment = s.clk.now → f.code ≤ code) →
        (finish (raise code source data s)).evt.queue =
          s.evt.queue ++ [{ code, source, stage := s.clk.stage, data, seq := s.evt.seq, moment := s.clk.now }] ∧
        (finish (raise code source data s)).evt.seq = (s.evt.seq + 1) % 65536)) ∧
  (∀ (s : State) (c code : Nat), c < 12 → isUrgent code = true → code / 256 = c →
    (causeClear (BitVec.ofNat 32 (2 ^ c)) (causeSet code s)).evt.cause.getLsbD c = true ∧
    (s.evt.setAt ≠ s.clk.now → (causeClear (BitVec.ofNat 32 (2 ^ c)) s).evt.cause.getLsbD c = false))

/-- The end of boost (R274): while a boost level is in force (in a fixed mode too, if the code in force is its code), a condition
of R273 that held ceases to hold, the first by number standing for several: the end of the cycle posts the highest non-boost level
for the edge opening two stages on, and raises EV_BOOST_END with the number of the condition; a change that the host has posted in
that cycle stands in its place (R49, R266). -/
def Obligations.BoostEnds : Prop :=
  ∀ (s : State) (i : Nat), i < 5 →
    (s.lvl s.seq.level).boost = true → (s.seq.fixed ≠ .off → s.seq.code = (s.lvl s.seq.level).code) →
      s.seq.boostHeld.getLsbD i = true → (boostConds s).getD i true = false →
      (∀ j, j < i → s.seq.boostHeld.getLsbD j = true → (boostConds s).getD j true = true) →
      (hostPosted s = false → boostCheck s = raise 0x0620 0 [BitVec.ofNat 8 (i + 1)]
        { s with seq := { s.seq with
            boostHeld := boostMask s
            pend := some { code := (s.lvl (topLevel s)).code, level := topLevel s, stage := s.clk.stage + 2, source := .boostEnd
                           rises := s.risePace, moment := s.clk.now } } }) ∧
      (hostPosted s = true → boostCheck s = raise 0x0620 0 [BitVec.ofNat 8 (i + 1)]
        { s with seq := { s.seq with boostHeld := boostMask s } })

/-! ### Packets (R378 to R383) -/

/-- The command interface's part of every packet. One whose check fails is answered with the status of the first check that fails
and no data, and has no effect (R378, R380); while firmware makes no progress a packet stays where it is (R383). What puts the
deferred commands into effect at cycle 0 of a pace: with none it does nothing; the first applies its changes and is answered, and
the rest follow (R382); a request for a cluster state that finds a cluster busy by then is rejected with BUSY_RETRY, and a level
table that would break the rules by then with BAD_PARAM, both without effect (R263, R265, R277, R281). A packet is processed in
its turn, and not in a cycle in which another has taken effect; an urgent one that no other urgent one has come before is the next
(R381, R382). -/
def Obligations.Packets : Prop :=
  (∀ (p : Packet) (op : Nat) (checks : List (Bool × Status)) (effect : State → State) (st : Status) (s : State),
    s.fwRuns = true → firstFail checks = some st →
      ∃ t, command p op checks effect s = .next t ∧ t.apart = s.apart ∧ Answered p op st [] s t) ∧
  (∀ (p : Packet) (op : Nat) (checks : List (Bool × Status)) (effect : State → State) (s : State),
    s.fwRuns = false → command p op checks effect s = .next s) ∧
  (∀ s : State, s.cmd.next = [] → applyNext s = s) ∧
  (∀ (d : Deferred) (rest : List Deferred) (s : State), s.cmd.next = d :: rest →
    ∀ v, v = ({ s with cmd := { s.cmd with next := [] } } : State) →
      (actsBusy d.acts v = true → applyNext s = applyDeferred rest (reply d.pkt d.opcode .busyRetry [] v)) ∧
      (actsBusy d.acts v = false → d.acts.any Act.isLevel = true → tableOk v.fuses (editTable v.seq.table d.acts) = false →
        applyNext s = applyDeferred rest (reply d.pkt d.opcode .badParam [] v)) ∧
      (actsBusy d.acts v = false → d.acts.any Act.isLevel = true → tableOk v.fuses (editTable v.seq.table d.acts) = true →
        ∀ u, u = applyActs d.se d.acts v →
        applyNext s = applyDeferred rest (reply d.pkt d.opcode .ok (deferredData d v u) u)) ∧
      (actsBusy d.acts v = false → d.acts.any Act.isLevel = false → ∀ u, u = forEach d.acts (applyAct d.se) v →
        applyNext s = applyDeferred rest (reply d.pkt d.opcode .ok (deferredData d v u) u))) ∧
  (∀ (p : Packet) (f : State → Host.Outcome State Fault Refusal) (s : State),
    (s.ready p = true → inTurn p s f = f s) ∧
    (s.fwRuns = false ∨ turn s p = false → inTurn p s f = .next s) ∧
    (s.fwRuns = true → turn s p = true → s.cmd.tookAt = some s.clk.now → (tick s).clk.now ≠ s.clk.now → inTurn p s f = f (tick s))) ∧
  (∀ (s : State) (p : Packet) (f : InFlight), f ∈ s.cmd.inflight → f.org = p.org → f.seq = p.seq → f.effect = .taken → f.urgent = true →
    f.caravan = none → f.desc = none → f.opcode ≠ 0x0403 → f.opcode ≠ 0x0404 →
    (∀ g, g ∈ s.cmd.inflight → g.effect = .taken → g.urgent = true → g = f) → turn s p = true)

/-- PING changes nothing. A payload of up to 16 bytes is answered OK with 24 bytes: the payload padded with 0, the current stage,
the chip state and the personality; any other length is rejected with BAD_LENGTH (R390). -/
def Obligations.Ping : Prop :=
  ∀ (p : Packet) (s : State), s.ready p = true →
    (p.payload.length ≤ 16 →
      ∃ t, exec (.ping p) s = .next t ∧ t.apart = s.apart ∧
        Answered p 0x0101 .ok
          (p.payload ++ List.replicate (16 - p.payload.length) 0 ++ leBytes 6 s.clk.stage
            ++ [BitVec.ofNat 8 s.sys.chip.code, if s.fw.loaded then 1 else 0]) s t) ∧
    (16 < p.payload.length →
      ∃ t, exec (.ping p) s = .next t ∧ t.apart = s.apart ∧ Answered p 0x0101 .badLength [] s t)

/-- The commands that only read change nothing and answer what the registers show; GET_INFO rejects a page above 3 (R239, R262,
R338, R351, R367, R391, R395, R397). -/
def Obligations.StatusReads : Prop :=
  ∀ (p : Packet) (s : State), s.ready p = true →
    (∀ b : Byte, p.payload = [b] → b.toNat ≤ 3 →
      ∃ t, exec (.getInfo p) s = .next t ∧ t.apart = s.apart ∧ Answered p 0x0102 .ok (infoPage s b.toNat) s t) ∧
    (∀ b : Byte, p.payload = [b] → 3 < b.toNat →
      ∃ t, exec (.getInfo p) s = .next t ∧ t.apart = s.apart ∧ Answered p 0x0102 .badParam [] s t) ∧
    (∀ r : Byte, p.payload = [r] → r.toNat < 4 →
      ∃ t, exec (.railGetStatus p) s = .next t ∧ t.apart = s.apart ∧
        Answered p 0x0204 .ok
          (regBytes s (0x2000 + 4 * r.toNat) ++ regBytes s (0x2010 + 4 * r.toNat) ++ regBytes s (0x2300 + 4 * statusGroup s r.toNat)
            ++ leBytes 2 (if r.toNat = 0 then bitsMask ((List.range 12).filter (fun x => (s.segs.get x).inWin)) else 0)
            ++ [BitVec.ofNat 8 ((s.rail r.toNat).windowFault.toNat + 2 * (s.group (statusGroup s r.toNat)).fallback.toNat),
                BitVec.ofNat 8 (statusGroup s r.toNat)]) s t) ∧
    (∀ n : Byte, p.payload = [n] → n.toNat < 144 →
      ∃ t, exec (.clusterGetStatus p) s = .next t ∧ t.apart = s.apart ∧
        Answered p 0x0303 .ok
          (regBytes s (0x10000 + 4 * n.toNat) ++ regBytes s (0x19400 + 4 * n.toNat) ++ regBytes s (0x10400 + 4 * n.toNat)
            ++ regBytes s (0x10C00 + 4 * n.toNat) ++ regBytes s (0x19000 + 4 * n.toNat) ++ regBytes s (0x1A000 + 4 * n.toNat)) s t) ∧
    (p.payload = [] →
      ∃ t, exec (.manifestStatus p) s = .next t ∧ t.apart = s.apart ∧ Answered p 0x0504 .ok (manifestData s) s t) ∧
    (p.payload = [] →
      ∃ t, exec (.thermalStatus p) s = .next t ∧ t.apart = s.apart ∧
        Answered p 0x0802 .ok
          (leBytes 4 (thermStatusWord s) ++ leBytes 4 (thermTempWord s) ++ leBytes 4 (thermCfgWord s) ++ leBytes 4 (thermGraceWord s)
            ++ leBytes 4 (thermTripsWord s) ++ leBytes 2 (code2 16 s.therm.ofs)) s t) ∧
    (∀ b : Byte, p.payload = [b] → b.toNat ≤ 65 →
      ∃ t, exec (.energyRead p) s = .next t ∧ t.apart = s.apart ∧
        Answered p 0x0902 .ok
          ((mirrorsOf s b.toNat).flatMap (leBytes 4) ++ leBytes 4 s.en.lastAck
            ++ leBytes 4 ((mirrorsOf s b.toNat).foldl (· + ·) 0 / 2 ^ 32)) s t) ∧
    (p.payload = [] →
      ∃ t, exec (.caravanStatus p) s = .next t ∧ t.apart = s.apart ∧
        Answered p 0x0405 .ok (s.cvn.recs.val.flatMap (fun r =>
          leBytes 2 r.id.toNat ++ [BitVec.ofNat 8 r.st.code, BitVec.ofNat 8 r.cause] ++ leBytes 2 r.count)) s t) ∧
    (p.payload = [] →
      ∃ t, exec (.convoyStatus p) s = .next t ∧ t.apart = s.apart ∧
        Answered p 0x0704 .ok
          (leBytes 2 s.cvy.id ++ [BitVec.ofNat 8 s.cvy.st.code, BitVec.ofNat 8 (if s.cvy.role = 3 then 0xFF else s.cvy.role),
             BitVec.ofNat 8 s.cvy.kids.toNat, BitVec.ofNat 8 s.cvy.prop, BitVec.ofNat 8 s.cvy.annLevel] ++ leBytes 6 s.cvy.annT
            ++ leBytes 2 (code2 16 s.cvy.delta) ++ leBytes 2 s.cvy.count ++ leBytes 2 s.cvy.own) s t)

/-! ### Power and reset (R79, R80, R283, R284, R424, R435, R438, R452, R453) -/

/-- Power-on and bring-up (R39, R79, R80, R188, R264, R282, R283, R418, R459). POWER_ON_RESET leaves the reset state but for the
model's clock, the fuses and the power request, which is sampled; a request closes the control-island switch at once. A rise of
the request in Cold closes it too, and 20 µs later the clock generator starts. CLOCK_LOCK takes the island out of reset: the fused
level table and converter coefficients are loaded, and POWERUP is set. COPIER_DONE, 29,056 cycles on, opens stage 0: the stage
generator runs, the tick is driven, the chip leaves Cold, which EV_CHIP_STATE reports, and the core starts at the ROM. -/
def Obligations.BringUp : Prop :=
  (∀ (req : Bool) (s : State), ∃ t, exec (.powerOnReset req) s = .next t ∧
    t.apart = ({ State.reset with
      clk := { now := s.clk.now }
      sys := { porHigh := true, pwrReq := req, island := if req then .switched else .off, switchAt := if req then s.clk.now else 0 }
      fuses := s.fuses, freeCount := s.freeCount, pending := s.pending } : State).apart) ∧
  (∀ s : State, s.sys.porHigh = true → ∃ t, exec .powerRequestUp s = .next t ∧
    t.apart = ({ s with sys := if s.sys.island = .off then { s.sys with pwrReq := true, island := .switched, switchAt := s.clk.now }
                               else { s.sys with pwrReq := true } } : State).apart) ∧
  (∀ s u : State, s.sys.island = .switched → reach (s.sys.switchAt + 20000) s = some u → ∃ t, exec .clockGeneratorStart s = .next t ∧
    t.apart = ({ u with sys := { u.sys with island := .started } } : State).apart) ∧
  (∀ s : State, s.sys.island = .started → ∃ t, exec .clockLock s = .next t ∧
    t.apart = ({ State.reset with
      clk := { now := s.clk.now, stageStart := s.clk.now }
      sys := { porHigh := s.sys.porHigh, pwrReq := s.sys.pwrReq, scratch := s.sys.scratch, switchAt := s.sys.switchAt
               island := .copying, powerUp := true }
      fuses := s.fuses, therm := t.therm, eng := { State.reset.eng with banks := t.eng.banks }, convs := t.convs
      seq := { State.reset.seq with table := levelTable s.fuses.gf s.fuses.boostCeil }
      dbg := { authFails := s.dbg.authFails, withheld := s.dbg.withheld }, freeCount := s.freeCount, pending := s.pending } : State).apart ∧
    (∀ u, u < 16 → (t.conv u).ofs = s.fuses.adcOfs.get u ∧ (t.conv u).gain = s.fuses.adcGain.get u) ∧
    t.therm.trip = s.therm.trip ∧ t.therm.temp = s.therm.temp) ∧
  (∀ s u : State, s.sys.island = .copying → reach (s.clk.stageStart + 29056) s = some u → ∃ t, exec .copierDone s = .next t ∧
    t.clk = { u.clk with stage := 0, pace := 0, running := true, stageStart := u.clk.now, paceStart := u.clk.now, p0Pending := true
                         tick := true, soon := u.clk.soon ++ [{ due := u.clk.now + 10, what := .tickLow }] } ∧
    t.sys.island = .up ∧ t.core = { s.core with on := true, pc := 0x00100000#32 } ∧ Output.stageTick 0 ∈ t.out ∧
    t.fuses = s.fuses ∧ t.rails = s.rails ∧ t.phases = u.phases ∧ t.convs = s.convs ∧ t.seq.table = s.seq.table ∧
    ((∀ c ∈ u.cl.val, c.s.st = .dormant) → (s.rail 3).enabled = false → t.sys.chip = .powering ∧
      (s.sys.chip = .cold → u.evt.fresh = [] → Raised 0x0123 0 [BitVec.ofNat 8 Chip.powering.code] t)))

/-- A descent (R284): begun by the fall of the power request outside Cold, unless one is in progress; it stops CF, SA and FB
together once every cluster is Dormant, AX once they are Off, and at last opens the switch: the chip is Cold, and a request that
has returned closes it again. -/
def Obligations.Descent : Prop :=
  ∀ s : State,
    (s.sys.porHigh = true → ∃ t, exec .powerRequestDown s = .next t ∧
      t.apart = ({ s with sys := if s.sys.descent = .none ∧ s.sys.chip ≠ .cold then { s.sys with pwrReq := false, descent := .clusters }
                                 else { s.sys with pwrReq := false } } : State).apart) ∧
    (s.sys.descent = .clusters → allDormant s = true → ∃ t, exec .descentRailsStop s = .next t ∧
      t.apart = ({ s with clk := { s.clk with soon := t.clk.soon }, sys := { s.sys with descent := .coreRails }, stops := t.stops } : State).apart ∧
      (∃ l, t.clk.soon = s.clk.soon ++ l) ∧ ∀ rs, rs = [0, 1, 2].filter (fun r => ((s.rail r).enabled || starting s r) && !stopping s r) →
        t.stops = s.stops ++ (if rs.isEmpty then [] else [{ mask := bitsMask rs, coincident := true, pkt := none }])) ∧
    (s.sys.descent = .coreRails → railsDown 7 s = true → ∃ t, exec .descentRailsStop s = .next t ∧
      t.apart = ({ s with clk := { s.clk with soon := t.clk.soon }, sys := { s.sys with descent := .axRail }, stops := t.stops } : State).apart ∧
      (∃ l, t.clk.soon = s.clk.soon ++ l) ∧ ∀ rs, rs = [3].filter (fun r => ((s.rail r).enabled || starting s r) && !stopping s r) →
        t.stops = s.stops ++ (if rs.isEmpty then [] else [{ mask := bitsMask rs, coincident := true, pkt := none }])) ∧
    (s.sys.descent = .axRail → railsDown 15 s = true → ∃ t, exec .descentIslandOff s = .next t ∧
      t.sys.chip = .cold ∧ t.sys.island = (if s.sys.pwrReq && s.sys.porHigh then .switched else .off) ∧
      t.apart = ({ State.reset with
        clk := { now := s.clk.now }
        sys := { porHigh := s.sys.porHigh, pwrReq := s.sys.pwrReq, scratch := s.sys.scratch, island := t.sys.island, switchAt := t.sys.switchAt }
        fuses := s.fuses, therm := t.therm, dbg := { authFails := s.dbg.authFails, withheld := s.dbg.withheld }
        freeCount := s.freeCount, pending := s.pending } : State).apart)

/-- A warm reset: while it is low firmware makes no progress, no caravan is held, no image is being loaded and the debug port is
locked, and rails and cells stay as they are, but for a recharacterisation, which it ends; the engine keeps its banks and a
pending swap, and starts its slots anew (R159, R261, R438, R452, R453). At its end the reset is recorded and the core restarts, at
the entry of a valid image, else at the ROM (R424, R459). TEST_RESET locks the debug port and clears its registers and results;
nothing else changes (R435, R438). -/
def Obligations.WarmAndTestReset : Prop :=
  ∀ s : State,
    (s.sys.island = .up → s.sys.warmLow = false → ∃ t, exec .warmResetStart s = .next t ∧
      t.apart = ({ s with
        clk := { s.clk with soon := t.clk.soon }, sys := { s.sys with warmLow := true }, cl := t.cl, cells := t.cells, cvy := t.cvy
        dbg := t.dbg, rech := none, seq := { s.seq with table := t.seq.table }
        eng := { s.eng with inputs := [], stalls := [], slots := t.eng.slots }
        fw := { s.fw with load := none, result := t.fw.result } } : State).apart ∧
      (s.rech = none → t.cl = s.cl ∧ t.cells = s.cells ∧ t.clk = s.clk) ∧ (s.cvy.st ≠ .aligning → t.cvy = s.cvy ∧ t.seq.table = s.seq.table) ∧
      t.fwRuns = false ∧ t.dbg.unlocked = false ∧ t.dbg.halted = false ∧
      ∀ k, k < 4 → (t.cvn.recs.get k).st = .free) ∧
    (s.sys.warmLow = true → s.sys.heldDoorbell = none → s.sys.heldGo = false → ∃ t, exec .warmResetEnd s = .next t ∧
      t.apart = ({ s with
        sys := { s.sys with warmLow := false, warm := true, warmCount := min 255 (s.sys.warmCount + 1)
                            resetStage := BitVec.ofNat 32 s.clk.stage }
        core := { s.core with pc := if s.fw.valid then BitVec.ofNat 32 s.fw.entry else 0x00100000#32, inTrap := false, mie := false }
        fw := { s.fw with loaded := s.fw.valid } } : State).apart) ∧
    (∃ t, exec .testReset s = .next t ∧
      t.apart = ({ s with dbg := { s.dbg with
        unlocked := false, halted := false, haltReq := false, cause := 0, bpIndex := 0, ebreakHalt := false, match_ := Tab.replicate 12 0
        busy := false, busyLost := false, submit := false, rdata := 0, status := 0, lastOp := 0, response := Tab.replicate 8 0 } } : State).apart)

/-! ### The stage frame (R29, R31, R33, R36, R320, R345) -/

/-- STAGE_EDGE opens the next stage in the cycle that ends p15: the counter takes the next number, or the one that a convoy loads,
the tick is driven, the trim is spent, and the boundary of p0 is still to come in this cycle. PACE_BOUNDARY: in the edge cycle it
completes the edge; elsewhere it opens the next pace a pace length later, and nothing else of the clock changes but what falls in
a later cycle (R29, R31, R36, R38, R323). PERIOD_CLOSE closes the accounting period once the boundary of p0 has passed: the next
begins with the stage that has opened, its number one higher (R33), and a grace in force has one period less to run, but one that
began at this edge (R345). STAGE_TRIM_DECISION: in a convoy, p15 of a stage whose predecessor was not trimmed is shortened when
the chip lags by more than 5 ns and lengthened when it leads by more; nothing else changes (R36, R320). -/
def Obligations.StageFrame : Prop :=
  (∀ s : State, s.clk.running = true →
     (∀ (m : Option (BitVec 16)) (xs : List Crossing), s.clk.p0Pending = false → s.clk.pace = 15 →
       ∃ t, exec (.stageEdge ⟨m, xs⟩) s = .next t ∧
         t.clk.stage = (if cvyLoads s then s.cvy.loadStage % 2 ^ 48 else (s.clk.stage + 1) % 2 ^ 48) ∧
         t.clk.pace = 0 ∧ t.clk.p0Pending = true ∧ t.clk.now = s.paceEnd ∧ t.clk.stageStart = s.paceEnd ∧ t.clk.paceStart = s.paceEnd ∧
         t.clk.trim = .none ∧ t.clk.tick = true ∧ Output.stageTick t.clk.stage ∈ t.out ∧ t.clk.lastLen = 9600 + s.paceLen ∧
         t.clk.paceNo = s.clk.paceNo ∧ t.clk.running = true ∧ t.fuses = { s.fuses with counter := t.fuses.counter } ∧
         t.chans = s.chans ∧ t.led.ram = s.led.ram ∧ t.core.regs = s.core.regs) ∧
     (∀ inp : PaceIn, s.clk.p0Pending = true → ∃ t, exec (.paceBoundary inp) s = .next t ∧
       t.clk = { s.clk with p0Pending := false, paceNo := s.clk.paceNo + 1, soon := t.clk.soon } ∧
       t.fuses = s.fuses ∧ t.core = s.core) ∧
     (∀ inp : PaceIn, s.clk.p0Pending = false → s.clk.pace < 15 → ∃ t, exec (.paceBoundary inp) s = .next t ∧
       t.clk = { s.clk with
         now := s.paceEnd, paceStart := s.paceEnd, pace := s.clk.pace + 1, paceNo := s.clk.paceNo + 1
         soon := t.clk.soon, tick := t.clk.tick } ∧
       t.fuses = s.fuses ∧ t.core = s.core)) ∧
  (∀ s : State,
     (s.clk.periodDue = true → s.clk.p0Pending = false → ∃ t, exec .periodClose s = .next t ∧
       t.apart = ({ s with
         clk := { s.clk with periodDue := false, periodSeq := (s.clk.periodSeq + 1) % 2 ^ 32, periodFirst := s.clk.stage, periodCycles := 0 }
         cl := t.cl, dbg := t.dbg, en := t.en, gov := t.gov, therm := t.therm } : State).apart ∧
       t.therm.graceLeft = (if s.therm.graceAt = s.clk.stage then s.therm.graceLeft else s.therm.graceLeft - 1)) ∧
     (s.cvy.st = .joined ∨ s.cvy.st = .skewed → s.clk.running = true → s.clk.pace = 15 → s.clk.p0Pending = false →
       s.cvy.role ≠ 0 → s.cvy.hasDelta = true → s.clk.trimmedLast = false → s.clk.trim = .none →
         (5 < s.cvy.delta → ∃ t, exec .stageTrimDecision s = .next t ∧ t.apart = ({ s with clk := { s.clk with trim := .shorter } } : State).apart) ∧
         (s.cvy.delta < -5 → ∃ t, exec .stageTrimDecision s = .next t ∧ t.apart = ({ s with clk := { s.clk with trim := .longer } } : State).apart) ∧
         (-5 ≤ s.cvy.delta → s.cvy.delta ≤ 5 → exec .stageTrimDecision s = .next s)))

/-- A set-point. A new target (R124): at the set-point the ramp stops; otherwise the set-point moves towards it, keeps its step
timer when it moves that way already, and makes its first step one interval later when it does not. SETPOINT_STEP (R123): a moving
set-point moves by one code, its next step falls one interval later, and it comes to rest at its target: of a rail, whose on-times
follow in the next cycle (R109), and nothing else changes; of a cluster, where nothing else changes but what waited for the end of
its ramp: a wake's ramp is then complete, a ramp down to Retain settles there (R278). On the common ramp of a tracking start the
ramp moves by one code and its next step falls 250 cycles later; on that of a stop its enabled rails take the set-points of the
ramp one code lower (R119, R121). -/
def Obligations.SetpointStep : Prop :=
  (∀ (p : SetPoint) (now : Nat) (v : Int),
    (p.aim now v).tgt = v ∧ (p.aim now v).cur = p.cur ∧ ((p.aim now v).moving = true ↔ v ≠ p.cur) ∧
    (v ≠ p.cur → ((p.aim now v).up = true ↔ p.cur < v)) ∧
    (v ≠ p.cur → p.moving = true → (p.up = true ↔ p.cur < v) → (p.aim now v).due = p.due) ∧
    (v ≠ p.cur → ¬ (p.up = true ↔ p.cur < v) → (p.aim now v).due = now + p.every)) ∧
  (∀ s u : State,
    (∀ r, r < 4 → (s.rail r).sp.moving = true → reach (s.rail r).sp.due s = some u → ∃ t, exec (.setpointStep (.rail r)) s = .next t ∧
      (t.rail r).sp.cur = (if (s.rail r).sp.up then (s.rail r).sp.cur + 1 else (s.rail r).sp.cur - 1) ∧
      ((t.rail r).sp.moving = true ↔ (t.rail r).sp.cur ≠ (s.rail r).sp.tgt) ∧ (t.rail r).sp.tgt = (s.rail r).sp.tgt ∧
      (t.rail r).sp.due = (s.rail r).sp.due + (s.rail r).sp.every ∧ t.rail r = { s.rail r with sp := (t.rail r).sp } ∧
      (∀ q, q ≠ r → t.rail q = s.rail q) ∧
      t.apart = ({ u with
        rails := t.rails, clk := { u.clk with soon := u.clk.soon ++ [{ due := u.clk.now + 1, what := .refresh r }] } } : State).apart) ∧
    (∀ n (p q : SetPoint), n < 144 → (s.cluster n).v.sp.moving = true → reach (s.cluster n).v.sp.due s = some u →
      p = (u.cluster n).v.sp →
      q = { p with cur := if p.up then p.cur + 1 else p.cur - 1, stepAt := u.clk.now, due := p.due + p.every
                   moving := decide ((if p.up then p.cur + 1 else p.cur - 1) ≠ p.tgt) } →
      (q.moving = true ∨ ((u.cluster n).s.trans = none ∧ (u.cluster n).d.st = .none ∧ (u.cluster n).v.calWait = false) →
        ∃ t, exec (.setpointStep (.cluster n)) s = .next t ∧
          t.apart = (u.updCl n (fun c => { c with v := { c.v with sp := q }, w := { c.w with stepped := true } })).apart) ∧
      (∀ tr, q.moving = false → (u.cluster n).s.trans = some tr → (u.cluster n).d.st = .none → (u.cluster n).v.calWait = false →
        (tr.phase = .wakeRamp → ¬ ((u.cluster n).s.st = .retain ∧ tr.target = .retain) →
          ∃ t, exec (.setpointStep (.cluster n)) s = .next t ∧
            t.apart = (u.updCl n (fun c => { c with
              s := { c.s with trans := some { tr with phase := .rampDone } }, v := { c.v with sp := { q with every := 250 } }
              w := { c.w with stepped := true, ramping := false, lateOnly := false } })).apart) ∧
        (tr.phase = .downRamp → ∃ t, exec (.setpointStep (.cluster n)) s = .next t ∧
          (t.cluster n).s.st = .retain ∧ (t.cluster n).s.trans = none ∧ (t.cluster n).v.sp = q ∧
          (∀ m, m ≠ n → t.cluster m = u.cluster m) ∧
          t.apart = ({ u with cl := t.cl, clk := { u.clk with soon := t.clk.soon } } : State).apart))) ∧
    (∀ r ax k, s.starts.find? (fun t => t.mask.testBit r && t.phase == .ramp) = some k → reach k.due s = some u →
      ∃ t, exec (.setpointStep (.trackUp r ax)) s = .next t ∧
        t.apart = ({ u with clk := { u.clk with soon := t.clk.soon }, rails := t.rails, phases := t.phases, groups := t.groups
                            convs := t.convs, starts := t.starts } : State).apart ∧
        (k.r + 1 < k.top → ∀ q, q ∈ railsIn k.mask → (t.rail q).sp.cur = rampSet k (k.r + 1) q) ∧
        (∀ q, q ∉ railsIn k.mask → t.rail q = s.rail q) ∧
        t.starts = s.starts.map (fun x => if x == k then
          { k with r := k.r + 1, due := k.due + 250, phase := if k.top ≤ k.r + 1 then .settle else .ramp } else x)) ∧
    (∀ r k, s.stops.find? (fun t => t.mask.testBit r && t.begun && t.r != 0) = some k → reach k.due s = some u →
      ∃ t, exec (.setpointStep (.trackDown r)) s = .next t ∧
        t.apart = ({ u with clk := { u.clk with soon := t.clk.soon }, rails := t.rails, phases := t.phases, groups := t.groups
                            stops := t.stops } : State).apart ∧
        (∀ q, q ∉ railsIn k.mask → t.rail q = s.rail q) ∧
        ∀ q, q ∈ railsIn k.mask → (s.rail q).enabled = true → (t.rail q).sp.cur = fallSet k (k.r - 1) q))

/-! ### Rails (R87, R118 to R128, R394) -/

/-- RAIL_ENABLE and RAIL_DISABLE that pass their checks begin a tracking start or stop, which takes the command to the next cycle
0 of a pace (R118, R119, R121). RAIL_SET_TARGET of enabled rails that do not track waits for the next cycle 0 of a pace; then the
target of CF is the floor of the feed follower, and any other rail's target is written and its set-point aimed at it (R87, R122,
R124, R394). -/
def Obligations.RailCommands : Prop :=
  (∀ (p : Packet) (s : State) (m : Nat), s.ready p = true → p.payload.length = 16 → m = field p.payload 0 1 → m ≠ 0 → m ≤ 15 →
    (m.testBit 3 = true → m = 8) → field p.payload 1 1 ≤ 1 →
    (zeros p.payload 10 6 = true →
      (∀ r, r < 4 → if m.testBit r then field p.payload (2 + 2 * r) 2 = 0 ∨ railLegal r (field p.payload (2 + 2 * r) 2) = true
                    else field p.payload (2 + 2 * r) 2 = 0) →
      (∀ r, r ∈ railsIn m → starting s r = false ∧ stopping s r = false ∧ (s.rail r).enabled = false) →
      s.sys.descent = .none → s.thermHold = false → (m = 8 ∨ (s.rail 3).inWindow = true) →
      ∃ t, exec (.railEnable p) s = .next t ∧
        t.apart = ({ s with starts := s.starts ++ [
          { mask := m, coincident := field p.payload 1 1 == 1, pkt := some p
            goal := (List.range 4).map (fun r => if m.testBit r then
              (if field p.payload (2 + 2 * r) 2 = 0 then railDefault r else field p.payload (2 + 2 * r) 2) else 0) }] } : State).apart) ∧
    (zeros p.payload 2 14 = true →
      (m.testBit 0 = true → ∀ c ∈ s.cl.val, c.s.st = .dormant ∧ c.s.trans = none) →
      (m.testBit 3 = true → ∀ r, r < 3 → (s.rail r).enabled = false ∧ starting s r = false) →
      (∀ r, r ∈ railsIn m → ((s.rail r).enabled = true ∨ starting s r = true) ∧ stopping s r = false) →
      ∃ t, exec (.railDisable p) s = .next t ∧
        (∀ g, g < 15 → m.testBit (railOfGroup g) = true → { due := s.clk.now + 1, what := .unpark g } ∈ t.clk.soon) ∧
        t.apart = ({ s with stops := s.stops ++ [{ mask := m, coincident := field p.payload 1 1 == 1, pkt := some p }]
                            clk := { s.clk with soon := t.clk.soon } } : State).apart)) ∧
  (∀ (p : Packet) (s : State), s.ready p = true → p.payload.length = 16 → railTargetLegal p.payload = true →
    (∀ r, r ∈ railsIn (field p.payload 0 1) → (s.rail r).enabled = true ∧ (s.rail r).tracking = false) →
    ∃ t, exec (.railSetTarget p) s = .next t ∧
      t.apart = (s.awaiting p 0x0203 ((railsIn (field p.payload 0 1)).map
        (fun r => .railTarget r (field p.payload (2 + 2 * r) 2)))).apart) ∧
  (∀ (se c : Nat) (s : State), applyAct se (.railTarget 0 c) s = { s with feed := { s.feed with floor := c } }) ∧
  (∀ (se r c : Nat) (s t : State), 0 < r → r < 4 → t = applyAct se (.railTarget r c) s →
    (t.rail r).target = c ∧ (t.rail r).sp = (s.rail r).sp.aim s.clk.now c ∧ (∀ q, q ≠ r → t.rail q = s.rail q) ∧
    t.apart = ({ s with rails := t.rails } : State).apart)

/-- Tracking and the sense lines. TRACKING_PRECHECK, 10 µs into a start: with no measurement that fails, the common ramp begins
and makes its first step 250 cycles later; with one that fails no rail of the start tracks any more, and its command is answered
BAD_STATE with the failing rails (R119, R125). TRACKING_STOP_LOW_SIDE_END, below 50 mV or at the end of the hold: the rail is Off,
its set-point 0 and its phases Off (R121). SENSE_LINE_LOSS of an enabled rail whose groups use the board sense, its P line more
than 60 mV over the set-point with the plane within 20 mV of it, or its N line below -60 mV, for the 500 ns of the filter: the
groups go on with the plane sense and the correction of the last complete pace before the loss began, and FLT_SENSE_LOSS is raised
(R127, R128). -/
def Obligations.Tracking : Prop :=
  (∀ (meas : List PreCheck) (s u : State) (k : TrackStart) (bad : List Nat), checkedStart s meas = some k →
    bad = (railsIn k.mask).filter (fun r => meas.any (fun c => c.rail == r && c.fails)) → reach (k.t0 + 10000) s = some u →
    (bad = [] → ∃ t, exec (.trackingPrecheck meas) s = .next t ∧
      t.apart = ({ u with groups := t.groups, starts := s.starts.map (fun x => if x == k then
        { k with phase := .ramp, r := 0, due := u.clk.now + 250, top := k.goal.foldl max 0
                 bias := (List.range 4).map (fun r => if r = 3 then 0 else ((meas.find? (fun c => c.rail == r)).map PreCheck.preBias).getD 0) } else x) } : State).apart ∧
      ∀ g, g < 15 → t.group g = if k.mask.testBit (railOfGroup g) then { u.group g with fallback := false, senseOffs := 0 } else u.group g) ∧
    (bad ≠ [] → ∃ t, exec (.trackingPrecheck meas) s = .next t ∧
      t.apart = ({ u with rails := t.rails, starts := s.starts.erase k } : State).apart ∧
      (∀ r, r < 4 → t.rail r = if k.mask.testBit r then { s.rail r with bias := false, tracking := false } else s.rail r) ∧
      (∀ p, k.pkt = some p →
        Answered p 0x0201 .badState [BitVec.ofNat 8 (enabledMask s), BitVec.ofNat 8 (bitsMask bad), 0] s t))) ∧
  (∀ (r : Nat) (below : Bool) (s u : State) (k : TrackStop) (e : Nat), r < 4 →
    s.stops.find? (fun t => t.low.any (fun x => x.1 == r)) = some k →
    e = ((k.low.find? (fun x => x.1 == r)).map Prod.snd).getD 0 → (below = true → u = s) → (below = false → reach e s = some u) →
    ∃ t, exec (.trackingStopLowSideEnd r below) s = .next t ∧ (t.rail r).enabled = false ∧ (t.rail r).sp.cur = 0 ∧
      (t.rail r).tracking = false ∧ (∀ q, q ≠ r → t.rail q = s.rail q) ∧
      (∀ i, i < 128 → railOfGroup (groupOf s i) = r → (t.phase i).st = .off ∨ (t.phase i).st = .disabled) ∧
      (r ≠ 3 → t.chans = s.chans ∧ t.adc = s.adc ∧ t.cl = u.cl) ∧
      t.apart = ({ u with
        rails := t.rails, phases := t.phases, groups := t.groups, segs := t.segs, cl := t.cl, stops := t.stops
        clk := { u.clk with soon := t.clk.soon }, convs := t.convs, chans := t.chans, adc := t.adc } : State).apart) ∧
  (∀ (r : Nat) (sense plane n v : Int) (since : Nat) (line : Byte) (s u : State) (g0 : Nat), r < 4 → g0 = (if r = 0 then 0 else r + 11) →
    (s.rail r).enabled = true → (s.group g0).fallback = false → since ≤ s.clk.now → v = 2500 * (s.rail r).sp.cur →
    (v + 60000 < sense ∧ plane ≤ v + 20000 ∧ line = 2) ∨ (¬ (v + 60000 < sense ∧ plane ≤ v + 20000) ∧ n < -60000 ∧ line = 3) →
    reach (since + 501) s = some u → u.evt.fresh = [] → ∃ t, exec (.senseLineLoss r ⟨sense, plane, n, since⟩) s = .next t ∧
      (∀ g, g < 15 → t.group g = if railOfGroup g = r then { u.group g with
        fallback := true
        senseOffs := if u.clk.paceStart ≤ since then (u.group g).offsMean else (u.group g).offsPrev } else u.group g) ∧
      Raised 0x0221 r ([line] ++ leBytes 2 (code2 16 (t.group g0).senseOffs)) t ∧
      t.apart = ({ u with groups := t.groups } : State).apart)

/-! ### Phases (R107 to R117, R129 to R133) -/

/-- Pulses. PHASE_PULSE_START, 20 cycles after the group's last start: the feedback is the sense voltage, corrected where the
plane sense is used, with the emulated ripple; at or below the reference it begins a pulse of the next ready phase in rotation and
of no other, or waits for the first that is ready; above it nothing happens (R111 to R113, R128). The pulse ends at the end of the
on-time it began with (R109); a phase that was to be parked then parks (R117). PHASE_OVERCURRENT ends it at once, not sooner than
8 cycles after its start, blocks the phase, counts it and unparks its group in the next cycle; the comparator's fall ends the
block (R129). -/
def Obligations.Pulses : Prop :=
  (∀ (g : GroupId) (sense fb : Int) (s : State), (∀ a, (s.group g).lastStart = some a → a + 20 ≤ s.clk.now) → lowHeld s g = false →
    fb = sense + (if 12 ≤ g.val ∧ (s.group g).fallback = true then 250 * (s.group g).senseOffs else 0) + vinj (ripTo g s) g →
    (∀ i : PhaseId, fb ≤ vref s g → nextPhase s g = some i.val → ∃ t, exec (.phasePulseStart g sense) s = .next t ∧
      (t.phase i).pwm = true ∧ (t.phase i).pulseAt = s.clk.now ∧ (t.phase i).pulseOn = (s.phase i).onTime ∧
      (t.phase i).st = (s.phase i).st ∧ (t.phase i).onTime = (s.phase i).onTime ∧
      (∀ j, j ≠ i.val → t.phase j = { s.phase j with ripple := (t.phase j).ripple }) ∧
      (t.group g).lastStart = some s.clk.now ∧ (t.group g).rot = some (rotPos s i) ∧ (t.group g).pulseWait = false ∧
      (∀ h, h ≠ g.val → t.group h = s.group h) ∧ t.apart = ({ s with groups := t.groups, phases := t.phases } : State).apart) ∧
    (fb ≤ vref s g → nextPhase s g = none → ∃ t, exec (.phasePulseStart g sense) s = .next t ∧ (t.group g).pulseWait = true ∧
      (∀ j, t.phase j = { s.phase j with ripple := (t.phase j).ripple }) ∧ (∀ h, h ≠ g.val → t.group h = s.group h) ∧
      t.apart = ({ s with clk := { s.clk with soon := t.clk.soon }, groups := t.groups, phases := t.phases } : State).apart) ∧
    (vref s g < fb → exec (.phasePulseStart g sense) s = .next s)) ∧
  (∀ (i : PhaseId) (s : State),
    (∀ u, (s.phase i).pwm = true → reach ((s.phase i).pulseAt + ceilDiv (s.phase i).pulseOn 4) s = some u →
      ∃ t, exec (.phasePulseEnd i) s = .next t ∧ (t.phase i).pwm = false ∧ (t.phase i).pulseEnd = some u.clk.now ∧
        (t.phase i).st = (if (u.phase i).parkWait then .parked else (u.phase i).st) ∧ (t.phase i).parkWait = false ∧
        (∀ j, j ≠ i.val → t.phase j = { u.phase j with ripple := (t.phase j).ripple }) ∧
        t.apart = ({ u with clk := { u.clk with soon := t.clk.soon }, groups := t.groups, phases := t.phases } : State).apart) ∧
    (∀ u, (s.phase i).pwm = true → reach (max s.clk.now ((s.phase i).pulseAt + 8)) s = some u →
      ∃ t, exec (.phaseOvercurrent i false) s = .next t ∧ (t.phase i).pwm = false ∧ (t.phase i).blocked = true ∧
        (t.phase i).pulseEnd = some u.clk.now ∧ (t.phase i).ocCount = min 65535 ((u.phase i).ocCount + 1) ∧
        { due := u.clk.now + 1, what := .unpark (groupOf s i) } ∈ t.clk.soon ∧
        (∀ j, j ≠ i.val → t.phase j = { u.phase j with ripple := (t.phase j).ripple }) ∧
        t.apart = ({ u with clk := { u.clk with soon := t.clk.soon }, groups := t.groups, phases := t.phases } : State).apart) ∧
    (∃ t, exec (.phaseOvercurrent i true) s = .next t ∧ (t.phase i).blocked = false ∧
      ((s.group (groupOf s i)).pulseWait = false → t.apart = (s.updPh i (fun p => { p with blocked := false })).apart) ∧
      t.apart = ({ s with clk := { s.clk with soon := t.clk.soon }, groups := t.groups, phases := t.phases } : State).apart))

/-- Faults and parking. PHASE_FAULT_FLAG: a low flag inhibits the phase in the next cycle (R59) and, of a live phase, disables it
then, with its cause; a flag that rises ends the inhibition (R131). In the cycle after its disabling the phase's driver is off,
the parked phases of its group are woken, and FLT_PHASE_LOSS is raised, but for a disabling by the host (R132). The driver of a
parked phase is disabled below 2 A, or 2 µs after its last pulse; a phase that unparks joins the switching phases when its time
has come (R116, R117). -/
def Obligations.PhaseFaultsAndParking : Prop :=
  ∀ (i : PhaseId) (s : State),
    (∃ t, exec (.phaseFaultFlag i true) s = .next t ∧
      t.apart = (({ s with clk := { s.clk with soon := s.clk.soon ++ [{ due := s.clk.now + 1, what := .inhibit i }] ++
        (if (s.phase i).live then [{ due := s.clk.now + 1, what := .disable i .faultFlag }] else []) } } : State).updPh i
          (fun p => { p with flagLow := true })).apart) ∧
    (∃ t, exec (.phaseFaultFlag i false) s = .next t ∧
      t.apart = (s.updPh i (fun p => { p with flagLow := false, inhibited := false })).apart) ∧
    ((s.phase i).flagLow = true → (fallNow (.inhibit i) s).phase i = { (fallNow (.inhibit i) s).phase i with inhibited := true, pwm := false }) ∧
    ((s.phase i).live = true → ∀ t, t = fallNow (.disable i .faultFlag) s →
      (t.phase i).st = .disabled ∧ (t.phase i).cause = .faultFlag ∧ { due := s.clk.now + 1, what := .loss i .faultFlag } ∈ t.clk.soon ∧
      t.apart = ({ s with clk := { s.clk with soon := t.clk.soon }, groups := t.groups, phases := t.phases } : State).apart) ∧
    (∀ c, (s.phase i).st = .disabled → groupOf s i < 15 → s.evt.fresh = [] → ∀ t, t = fallNow (.loss i c) s →
      (t.phase i).st = .disabled ∧ (t.phase i).pwm = false ∧ (t.phase i).en = false ∧ (t.group (groupOf s i)).unparkNow = true ∧
      (c = .host → t.evt.fresh = []) ∧
      (c ≠ .host → ∃ e d, t.evt.fresh = [e] ∧ e.code = 0x0220 ∧ e.source = i ∧ e.data = BitVec.ofNat 8 c.code :: d) ∧
      t.apart = ({ s with clk := { s.clk with soon := t.clk.soon }, groups := t.groups, phases := t.phases } : State).apart) ∧
    (∀ amps u, (s.phase i).st = .parked → (s.phase i).parking = true → (s.phase i).pwm = false →
      (if amps < 200 then u = s else reach ((s.phase i).pulseEnd.getD (s.phase i).since + 2000) s = some u) →
      ∃ t, exec (.phaseParkDisable i amps) s = .next t ∧
        t.apart = (u.updPh i (fun p => { p with en := false, parking := false })).apart) ∧
    (∀ e u, (s.phase i).waking = some e → (s.phase i).st = .parked → reach e s = some u →
      ∃ t, exec (.phaseUnparkReady i) s = .next t ∧ (t.phase i).st = .switching ∧ (t.phase i).en = true ∧ (t.phase i).waking = none ∧
        (t.phase i).since = u.clk.now ∧ (∀ j, j ≠ i.val → (t.phase j).st = (u.phase j).st) ∧
        t.apart = ({ u with clk := { u.clk with soon := t.clk.soon }, groups := t.groups, phases := t.phases } : State).apart)

/-- PHASE_CONFIG: the settings of a group and the disable of a phase wait for the next cycle 0 of a pace, and are then written; a
re-enable, a spare put into service and a spare put back start a phase check first. PHASE_CHECK_DONE, at cycle 0 of a pace: a
check with the fault flag low or a current beyond 3 A answers BAD_STATE and leaves every phase; any other answers OK, and the
phase joins the switching phases if its rail is enabled, else it is Off; a spare that is put back is Off and reserved again
(R133). -/
def Obligations.PhaseConfig : Prop :=
  (∀ (p : Packet) (s : State), s.ready p = true → p.payload.length = 16 →
    (field p.payload 0 1 = 0 → groupLegal p.payload = true → field p.payload 2 1 = 0 → field p.payload 3 1 = 0 →
      zeros p.payload 10 6 = true → ∃ t, exec (.phaseGroupSettings p) s = .next t ∧
        t.apart = (s.awaiting p 0x0205 [.group (field p.payload 1 1) (field p.payload 4 1) (field p.payload 5 1) (field p.payload 6 1)
          (field p.payload 7 1) (field p.payload 8 1) (field p.payload 9 1)]).apart) ∧
    (∀ i, i = field p.payload 2 1 → field p.payload 0 1 = 1 → field p.payload 1 1 = 0 → i ≤ 123 → zeros p.payload 3 13 = true →
      groupTracks s (groupOf s i) = false → (s.phase i).st ≠ .disabled →
      (s.group (groupOf s i)).minSw ≤ liveCount s (groupOf s i) - (if (s.phase i).live then 1 else 0) →
      (s.group (groupOf s i)).curr ≤ 4000 * ((liveCount s (groupOf s i) : Int) - 1)
        - 25 * (wakeAllowOf (groupOf s i) (limitA s (groupOf s i)) : Int) →
      ∃ t, exec (.phaseDisableByHost p) s = .next t ∧ t.apart = (s.awaiting p 0x0205 [.phaseDisable i]).apart) ∧
    (∀ i, i = field p.payload 2 1 → field p.payload 0 1 = 2 → field p.payload 1 1 = 0 → i ≤ 123 → zeros p.payload 3 13 = true →
      groupTracks s (groupOf s i) = false → (s.phase i).st = .disabled → replacedBy s i = none →
      ∃ t, exec (.phaseReenable p) s = .next t ∧
        t.apart = ({ convsTo s.clk.now s with checks := s.checks ++ [{ pkt := p, phase := i, start := s.clk.paceNo }] } : State).apart) ∧
    (∀ i k, i = field p.payload 2 1 → k = field p.payload 3 1 → field p.payload 0 1 = 3 → field p.payload 1 1 = 0 → i ≤ 123 → 124 ≤ k →
      k ≤ 127 → zeros p.payload 4 12 = true → groupOf s k = groupOf s i → groupTracks s (groupOf s k) = false →
      (s.phase k).spareIn = false → (s.phase i).st = .disabled →
      ∃ t, exec (.spareIntoService p) s = .next t ∧
        t.apart = ({ convsTo s.clk.now s with checks := s.checks ++ [{ pkt := p, phase := k, replaces := some i, start := s.clk.paceNo }] } : State).apart) ∧
    (∀ k, k = field p.payload 3 1 → field p.payload 0 1 = 4 → field p.payload 1 1 = 0 → field p.payload 2 1 = 0 → 124 ≤ k → k ≤ 127 →
      zeros p.payload 4 12 = true → groupTracks s (groupOf s k) = false → (s.phase k).spareIn = true →
      ∃ t, exec (.spareToReserve p) s = .next t ∧
        t.apart = ({ convsTo s.clk.now s with checks := s.checks ++
          [{ pkt := p, phase := (s.phase k).replaces, restore := some k, start := s.clk.paceNo }] } : State).apart)) ∧
  (∀ (se g e m sh ad ra rt : Nat) (s : State), g < 15 →
    (applyAct se (.group g e m sh ad ra rt) s).group g =
      { s.group g with shedEn := e == 1, minSw := m, shedA := sh, addA := ad, ripAmp := ra, ripTau := rt } ∧
    ∀ h, h ≠ g → (applyAct se (.group g e m sh ad ra rt) s).group h = s.group h) ∧
  (∀ (se : Nat) (i : PhaseId) (s t : State), (s.phase i).st ≠ .disabled → t = applyAct se (.phaseDisable i) s →
    (t.phase i).st = .disabled ∧ (t.phase i).cause = .host ∧ t.evt.fresh = s.evt.fresh ∧
    { due := s.clk.now + 1, what := .loss i .host } ∈ t.clk.soon ∧
    t.apart = ({ s with clk := { s.clk with soon := t.clk.soon }, groups := t.groups, phases := t.phases } : State).apart) ∧
  (∀ (i : PhaseId) (curr : Int) (s : State) (c : PhCheck),
    s.checks.find? (fun c => c.phase == i.val && decide (c.start + 2 ≤ s.clk.paceNo) && s.clk.now == s.clk.paceStart) = some c →
    ((s.phase i).flagLow = true ∨ curr < -300 ∨ 300 < curr → ∃ t, exec (.phaseCheckDone i curr) s = .next t ∧
      t.apart = ({ s with checks := s.checks.erase c, convs := t.convs } : State).apart ∧
      Answered c.pkt 0x0205 .badState (phaseData s (groupOf s i) (if (s.phase i).flagLow then 1 else 2)) s t) ∧
    ((s.phase i).flagLow = false → -300 ≤ curr → curr ≤ 300 → (∀ k, c.restore = some k → k ≠ i.val) → ∃ t, exec (.phaseCheckDone i curr) s = .next t ∧
      t.apart = ({ s with checks := s.checks.erase c, convs := t.convs, groups := t.groups, phases := t.phases } : State).apart ∧
      (t.phase i).st = (if (s.rail (railOfGroup (groupOf s i))).enabled then .switching else .off) ∧
      (∀ d, c.replaces = some d → (t.phase i).spareIn = true ∧ (t.phase i).replaces = d) ∧
      (∀ k, k < 128 → c.restore = some k → (t.phase k).st = .off ∧ (t.phase k).spareIn = false) ∧
      (∃ data, Answered c.pkt 0x0205 .ok data s t)))

/-! ### Cells (R134 to R147) -/

/-- A local sample at which a cell is at its current limit computes its drive and is noted; in switch mode there is no drive to
compute (R134, R135). A health fault that holds begins an isolation, the drive off; a cell that fails in a retest is isolated
again at once (R144, R145, R289). The completion isolates the cell, takes it out of its cluster's live mask and leaves every other
cell and cluster (R145). -/
def Obligations.CellHealth : Prop :=
  ∀ (c : CellId) (s : State),
    (∀ v sum, (s.cell c).mode = .regulate → sum = (s.cell c).integral + ((s.cell c).vref - v) →
      ∃ t, exec (.cellCurrentLimit ⟨c, v⟩) s = .next t ∧
        (t.cell c).limNow = true ∧ (t.cell c).integral = sum ∧
        (t.cell c).loopOut = (Config.cellKp * ((s.cell c).vref - v) + Config.cellKi * sum) / 2 ^ 20 ∧
        (t.cell c).command = (s.cell c).commandOf (t.cell c).loopOut ∧ (t.cell c).drive = (s.cell c).driveOf (t.cell c).command ∧
        (t.cell c).mode = .regulate ∧ (∀ d, d ≠ c.val → t.cell d = s.cell d) ∧ t.apart = ({ s with cells := t.cells } : State).apart) ∧
    (∀ v, (s.cell c).mode = .switch → ∃ t, exec (.cellCurrentLimit ⟨c, v⟩) s = .next t ∧
      t.apart = (s.updCell c (fun x => { x with limNow := true, integral := 0, loopOut := 0, command := 0, drive := 0 })).apart) ∧
    (∀ cause mA, (s.cell c).mode ≠ .isolated → (s.cell c).isoAt = none → healthHeld s c mA cause = true →
      ((s.cell c).retest = false → ∃ t, exec (.cellHealthFault ⟨c, mA⟩ cause) s = .next t ∧
        t.apart = (s.updCell c (fun x => { x with isoAt := some cause, drive := 0 })).apart) ∧
      ((s.cell c).retest = true → ∃ t, exec (.cellHealthFault ⟨c, mA⟩ cause) s = .next t ∧
        t.apart = (s.updCell c (fun x => { x with mode := .isolated, retest := false, drive := 0, openRun := 0, shareRun := 0 })).apart)) ∧
    (∀ cause, (s.cell c).isoAt = some cause → ∃ t, exec (.cellIsolationComplete c) s = .next t ∧
      (t.cell c).mode = .isolated ∧ (t.cell c).cause = cause ∧ (t.cell c).isoAt = none ∧ (t.cell c).drive = 0 ∧
      (t.cluster (c / 12)).k.liveMask.getLsbD (c % 12) = false ∧
      (∀ d, d ≠ c.val → t.cell d = s.cell d) ∧ (∀ n, n ≠ c.val / 12 → t.cluster n = s.cluster n) ∧
      t.apart = ({ s with cells := t.cells, cl := t.cl } : State).apart)

/-! ### Clusters (R65, R66, R144, R150, R151, R276 to R279, R396 to R398) -/

/-- A rising edge of a cluster's wake line sets its latch in every chip state but Cold; an edge while it is set is merged with the
first; the latch clears when the wake is replayed, unless an edge comes in that very cycle (R66, R281). The replay of a cluster
that is held or Active starts nothing; that of a Retain cluster, or of a Dormant one with a live cell and no thermal hold, starts
its wake (R280). -/
def Obligations.WakeLatch : Prop :=
  ∀ (n : ClusterId) (s : State),
    (s.sys.chip ≠ .cold → (s.cluster n).s.latch = false → ∃ t, exec (.clusterWakeEdge n) s = .next t ∧
      t.apart = (s.updCl n (fun c => { c with s := { c.s with latch := true, latchStage := s.clk.stage, edgeAgain := none } })).apart) ∧
    (s.sys.chip ≠ .cold → (s.cluster n).s.latch = true → ∃ t, exec (.clusterWakeEdge n) s = .next t ∧
      t.apart = (s.updCl n (fun c => { c with s := { c.s with edgeAgain := some s.clk.now } })).apart) ∧
    (s.sys.chip = .cold → exec (.clusterWakeEdge n) s = .next s) ∧
    ((s.cluster n).s.latch = true → s.clk.now = s.clk.paceStart → s.clk.p0Pending = false → (s.cluster n).inProgress = false →
      (s.cluster n).s.hsFault = false → (s.cluster n).s.inRechar = false → gridUp s = true → s.sys.descent = .none →
      ∃ t, exec (.wakeLatchReplay n) s = .next t ∧ (t.cluster n).s.latch = ((s.cluster n).s.edgeAgain == some s.clk.now) ∧
        (∀ m, m ≠ n.val → t.cluster m = s.cluster m) ∧
        t.apart = ({ s with clk := { s.clk with soon := t.clk.soon }, cl := t.cl, sys := { s.sys with saReq := t.sys.saReq } } : State).apart ∧
        ((s.cluster n).s.held = true ∨ (s.cluster n).s.st = .active → (t.cluster n).s.st = (s.cluster n).s.st ∧
          (t.cluster n).s.trans = (s.cluster n).s.trans ∧ t.sys = s.sys ∧ t.clk = s.clk) ∧
        ((s.cluster n).s.held = false → (s.cluster n).s.st = .dormant → (s.cluster n).s.trans = none → (s.cluster n).k.live ≠ 0 → s.thermHold = false →
          (t.cluster n).s.trans = some { target := .active, phase := .selfTest, due := s.clk.now + 200 } ∧ (t.cluster n).s.replayed = true ∧
          (t.cluster n).w.deadline = 4 ∧ (∀ b, b < 64 → t.sys.saReq.get b = false)) ∧
        ((s.cluster n).s.held = false → (s.cluster n).s.st = .retain →
          (t.cluster n).s.trans = some { target := .active, phase := .unadmitted, due := s.clk.now + 200 } ∧ (t.cluster n).s.replayed = true))

/-- CLUSTER_STATE_ECHO records the state acknowledged. An echo that answers the code driven completes a transition at its final
code and lets an earlier one settle; any other leaves it where it is (R65, R278); a cluster that lost its last cell on the way to
Active or Rest goes on to Retain (R101). HANDSHAKE_TIMEOUT, with no matching echo by the stage edge set for it, stops the
cluster's transition and its ramp and raises FLT_CL_HANDSHAKE with the code driven and the code acknowledged (R65). -/
def Obligations.Handshake : Prop :=
  ∀ (n : ClusterId) (s : State),
    (∀ code tr, (s.cluster n).s.trans = some tr → tr.phase = .finalEcho → (s.cluster n).s.hsFault = false →
      CState.ofCode code = (s.cluster n).s.req → ∃ t, exec (.clusterStateEcho n code) s = .next t ∧
        (t.cluster n).s.st = tr.target ∧ (t.cluster n).s.ack = CState.ofCode code ∧
        (t.cluster n).s.trans = (if tr.lost = true ∧ (tr.target = .active ∨ tr.target = .rest) then
          some { target := .retain, phase := .ackWait } else none) ∧
        (∀ m, m ≠ n.val → t.cluster m = s.cluster m) ∧
        t.apart = ({ s with cl := t.cl, clk := { s.clk with soon := t.clk.soon } } : State).apart) ∧
    (∀ code tr, (s.cluster n).s.trans = some tr → tr.phase = .echo → (s.cluster n).s.hsFault = false →
      CState.ofCode code = (s.cluster n).s.req → ∃ t, exec (.clusterStateEcho n code) s = .next t ∧
        t.apart = (s.updCl n (fun c => { c with s := { c.s with
          ack := CState.ofCode code, trans := some { tr with phase := .settle }, hsEdge := none
          held := c.s.held && (tr.target != .dormant || tr.lost) } })).apart) ∧
    (∀ code, CState.ofCode code ≠ (s.cluster n).s.req ∨ (s.cluster n).s.hsFault = true →
      ∃ t, exec (.clusterStateEcho n code) s = .next t ∧
        t.apart = (s.updCl n (fun c => { c with s := { c.s with ack := CState.ofCode code } })).apart) ∧
    (∀ e : Nat, (s.cluster n).s.hsEdge = some e → e ≤ s.clk.stage →
      (s.cluster n).s.ack ≠ (s.cluster n).s.req → s.clk.p0Pending = false → s.evt.fresh = [] →
      ∃ t, exec (.handshakeTimeout n) s = .next (tick t) ∧
        t.apart = (s.updCl n (fun c => { c with
          s := { c.s with hsFault := true, hsEdge := none }
          v := { c.v with sp := { c.v.sp with moving := false, tgt := c.v.sp.cur } } })).apart ∧
        Raised 0x0311 n [BitVec.ofNat 8 (s.cluster n).s.req.code, BitVec.ofNat 8 (s.cluster n).s.ack.code] t)

/-- The wake of a cluster. WAKE_SELFTEST_END, 200 ns into a Dormant exit: the wake then waits for admission, the cells that failed
begin their isolation, and the sentinel's result is recorded (R144, R215, R278). WAKE_ADMISSION, in a wake's turn at cycle 0 of a
pace: admitted at the steepest slope whose draw fits the headroom of its segment, it waits no more; one that fits at no slope
waits on, its first test counted (R150, R151). WAKE_DEADLINE_EXPIRY, at a test at or after the deadline, sets the WAKE bit of
BRX_DL_STATUS; a wake that does not fit beside the late wakes under way is from then on tested as a late one (R151). -/
def Obligations.Wake : Prop :=
  ∀ (n : ClusterId) (s : State),
    (∀ (bad : List Nat) (ok : Bool) (u : State) (tr : Trans), (s.cluster n).s.trans = some tr → tr.phase = .selfTest →
      reach tr.due s = some u → ∃ t, exec (.wakeSelfTestEnd n bad ok) s = .next t ∧
        (t.cluster n).s.trans = some { tr with phase := .unadmitted } ∧ (t.cluster n).t.selftestFail = !ok ∧
        (∀ k, k < 12 → k ∈ bad → (u.cell (12 * n + k)).mode ≠ .isolated → (t.cell (12 * n + k)).isoAt = some .selfTest) ∧
        (∀ k, k < 12 → k ∉ bad → t.cell (12 * n + k) = u.cell (12 * n + k)) ∧
        (∀ c, c / 12 ≠ n.val → t.cell c = u.cell c) ∧ (∀ m, m ≠ n.val → t.cluster m = u.cluster m) ∧
        t.apart = ({ u with cells := t.cells, cl := t.cl } : State).apart) ∧
    (∀ room : Int, testTurn s n = true → (s.cluster n).w.lateOnly = false →
      room = (s.segs.get (n % 12)).head - 250 * (drawsOf s (n % 12) false : Int) →
      (∀ k tr, fitSlope (s.cluster n) room = some k → (s.cluster n).s.trans = some tr → ∃ t, exec (.wakeAdmission n) s = .next t ∧
        (t.cluster n).w.pending = false ∧ (t.cluster n).w.slope = k ∧ (t.cluster n).w.lateOnly = false ∧
        (∀ m, m ≠ n.val → t.cluster m = s.cluster m) ∧ (∀ c, c / 12 ≠ n.val → t.cell c = s.cell c) ∧
        (∀ r, r ≠ 0 → t.rail r = s.rail r) ∧
        t.apart = ({ s with cl := t.cl, cells := t.cells, rails := t.rails, feed := t.feed } : State).apart) ∧
      (fitSlope (s.cluster n) room = none → ∃ t, exec (.wakeAdmission n) s = .next t ∧
        t.apart = (s.updCl n (fun c => { c with w := { c.w with
          testedAt := some s.clk.paceNo, firstTest := some (c.w.firstTest.getD s.clk.paceNo)
          firstStage := if c.w.firstTest.isNone then s.clk.stage else c.w.firstStage
          waited := min 255 (s.clk.stage - (if c.w.firstTest.isNone then s.clk.stage else c.w.firstStage)) } })).apart)) ∧
    (∀ (tr : Trans) (f : Nat), (s.cluster n).s.trans = some tr → tr.phase = .unadmitted →
      (s.cluster n).w.firstTest = some f → (s.cluster n).w.lateOnly = false → (s.cluster n).w.testedAt = some s.clk.paceNo →
      f + 16 * (s.cluster n).w.deadline ≤ s.clk.paceNo → ∃ t, exec (.wakeDeadlineExpiry n) s = .next t ∧
        t.dl.status.getLsbD 7 = true ∧ (∀ m, m ≠ n.val → t.cluster m = s.cluster m) ∧
        t.apart = ({ s with cl := t.cl, cells := t.cells, rails := t.rails, feed := t.feed, dl := t.dl } : State).apart ∧
        (lateFits s n = false → t.apart = (({ s with dl := t.dl } : State).updCl n (fun c => { c with
          w := { c.w with late := true, lateOnly := true } })).apart))

/-- CLUSTER_SET_STATE, CLUSTER_SET_OFFSET, DRONE_ENTER and DRONE_EXIT that pass their checks wait for the next cycle 0 of a pace;
the first wake accepted drops the retention requests of the stage-array banks (R279), and CHIP_DRONE is in force at once (R105). A
change of offset and threshold then writes those of the clusters it names (R277, R396, R398). -/
def Obligations.ClusterCommands : Prop :=
  (∀ (p : Packet) (s : State), s.ready p = true →
    (p.payload.length = 24 → setStateLegal p.payload = true →
      firstFail (setStateChecks s (maskBits 144 (field p.payload 0 18)) (CState.ofCode (field p.payload 18 1))) = none →
      ∃ t, exec (.clusterSetState p) s = .next t ∧
        t.apart = (({ s with sys := { s.sys with
          saReq := if (maskBits 144 (field p.payload 0 18)).any (fun n => wakes (s.cluster n) (CState.ofCode (field p.payload 18 1)))
                   then Tab.replicate 64 false else s.sys.saReq } } : State).awaiting p 0x0301 ((maskBits 144 (field p.payload 0 18)).map (fun n =>
          .setState n (CState.ofCode (field p.payload 18 1)) (if field p.payload 19 1 = 0 then 4 else field p.payload 19 1)))).apart) ∧
    (p.payload.length = 4 + 4 * field p.payload 0 1 → offsetLegal p.payload = true →
      ∃ t, exec (.clusterSetOffset p) s = .next t ∧
        t.apart = (s.awaiting p 0x0302 ((List.range (field p.payload 0 1)).map (fun i =>
          .offset (field p.payload (4 + 4 * i) 1) (field p.payload (5 + 4 * i) 1) (signed 8 (field p.payload (6 + 4 * i) 1))
            (field p.payload (7 + 4 * i) 1)))).apart) ∧
    (∀ b : Byte, p.payload = [b] → b.toNat < 144 ∨ b.toNat = 0xFF → firstFail (droneEnterChecks s b.toNat) = none →
      ∃ t, exec (.droneEnter p) s = .next t ∧ t.apart = (({ s with feed := { s.feed with
          chipDrone := if b.toNat = 0xFF then true else s.feed.chipDrone } } : State).awaiting p 0x0304
        (if b.toNat = 0xFF then (List.range 144).map (fun n => .droneEnter n true) else [.droneEnter b.toNat false])).apart) ∧
    (∀ b : Byte, p.payload = [b] → b.toNat < 144 ∨ b.toNat = 0xFF → firstFail (droneExitChecks s b.toNat) = none →
      ∃ t, exec (.droneExit p) s = .next t ∧ t.apart = (({ s with feed := { s.feed with
          chipDrone := if b.toNat = 0xFF then false else s.feed.chipDrone } } : State).awaiting p 0x0305
        (if b.toNat = 0xFF then (List.range 144).map (fun n => .droneExit n true) else [.droneExit b.toNat false])).apart)) ∧
  (∀ (se n sel th : Nat) (o : Int) (s t : State), n < 144 → t = applyAct se (.offset n sel o th) s →
    (t.cluster n).v.offset = (if sel.testBit 0 then o else (s.cluster n).v.offset) ∧
    (t.cluster n).t.thresh = (if sel.testBit 1 then th else (s.cluster n).t.thresh) ∧
    (t.cluster n).s = (s.cluster n).s ∧ ∀ m, m ≠ n → t.cluster m = s.cluster m)

/-- What CLUSTER_SET_STATE does at cycle 0 of a pace (R276 to R278): a cluster already in the state is left as it is; the exit of
Dormant begins with the self-tests, that of Retain waits for admission; Retain and Dormant drive their code at once where the code
driven is another and is acknowledged, else once it is (R65). No other cluster and no cell changes. The stage-array banks: a bank
pinned while its retention is requested and not acknowledged is left out of the request (R76, R279). -/
def Obligations.StateChange : Prop :=
  (∀ (n d : Nat) (g : CState) (s t : State), t = startTrans n g d s → n < 144 → (s.cluster n).s.trans = none →
    (s.cluster n).s.hsFault = false →
    ((s.cluster n).s.st = g → t = s) ∧
    ((s.cluster n).s.st = .dormant → g ≠ .dormant →
      (t.cluster n).s.trans = some { target := g, phase := .selfTest, due := s.clk.now + 200 } ∧ (t.cluster n).w.deadline = d) ∧
    ((s.cluster n).s.st = .retain → g = .active ∨ g = .rest →
      (t.cluster n).s.trans = some { target := g, phase := .unadmitted, due := s.clk.now + 200 } ∧ (t.cluster n).w.deadline = d) ∧
    ((s.cluster n).s.st = .active ∨ (s.cluster n).s.st = .rest → g = .retain ∨ g = .dormant →
      (s.cluster n).s.req ≠ g →
        (s.clk.now = s.clk.paceStart → (s.cluster n).s.ack = (s.cluster n).s.req →
          (t.cluster n).s.trans = some { target := g, phase := .echo } ∧
          (t.cluster n).s.req = g ∧ (t.cluster n).s.hsEdge = some (s.clk.stage + 1)) ∧
        ((s.cluster n).s.ack ≠ (s.cluster n).s.req →
          (t.cluster n).s.trans = some { target := g, phase := .ackWait } ∧ (t.cluster n).s.req = (s.cluster n).s.req)) ∧
    (∀ m, m ≠ n → t.cluster m = s.cluster m) ∧ t.cells = s.cells) ∧
  (∀ s : State,
    (∀ banks, ∃ t, exec (.saRetentionAck banks) s = .next t ∧
      t.apart = ({ s with sys := { s.sys with saAck := Tab.ofFn 64 (fun b => banks.contains b) } } : State).apart) ∧
    (∀ b pinned, b < 64 → ∃ t, exec (.saBankPinned b pinned) s = .next t ∧
      t.apart = ({ s with sys := { s.sys with
        saPinned := s.sys.saPinned.set b pinned
        saReq := if pinned && s.sys.saReq.get b && !s.sys.saAck.get b then s.sys.saReq.set b false else s.sys.saReq } } : State).apart))

/-! ### Sentinels and bellows (R116, R195 to R210) -/

/-- SENTINEL_TRIP of an active sentinel at or below its trip level, the set-point of the cycle before less the threshold (and 18
mV where a drone cluster's cells feed it), trips it, counts the trip, fires a Ready bellows, and unparks every parked phase of its
segment from the next cycle; above the level nothing happens (R116, R196, R198, R201, R205, R213). After 4 cycles at least, and 2
cycles at 5 mV above the level in force then, the stretch is released (R197, R199). The life of a bellows (R202 to R209, R214): in
the cycle after its end a firing turns into a wait for recharge, or off when it must leave; a waiting one whose turn it is takes
one of the 32 charge slots, a slot freed in that very cycle not among them; a charge ends in the cycle after its end, Ready; a
charge beyond its time and a flag conflict are reported, and are faults with their cause from the next cycle on. No other cluster
changes. -/
def Obligations.SentinelsAndBellows : Prop :=
  ((∀ (n : ClusterId) (uv v : Int) (s : State),
     v = 250 * (1200 + 5 * (s.cluster n).v.sp.before s.clk.now - (40 + 10 * ((s.cluster n).t.thresh : Int))
       - (if (s.cluster n).droneOut then 72 else 0)) →
     (uv ≤ v → sentActive (s.cluster n) = true → (s.cluster n).t.tripped = false → ∃ t, exec (.sentinelTrip ⟨n, uv⟩) s = .next t ∧
       (t.cluster n).t.tripped = true ∧ (t.cluster n).t.riseAt = s.clk.now ∧ (t.cluster n).s = (s.cluster n).s ∧
       (t.cluster n).t.trips = min 65535 ((s.cluster n).t.trips + 1) ∧ (∀ m, m ≠ n.val → t.cluster m = s.cluster m) ∧
       ((s.cluster n).b.st = .ready → (t.cluster n).b.st = .firing ∧ (t.cluster n).b.fire = true ∧
         (t.cluster n).b.fireEnd = s.clk.now + 20 * s.blwCfg.fireWin) ∧
       ((s.cluster n).b.st ≠ .ready → (s.cluster n).b.st ≠ .firing → (t.cluster n).b = (s.cluster n).b) ∧
       t.apart = ({ s with cl := t.cl, clk := { s.clk with
         soon := s.clk.soon ++ [{ due := s.clk.now + 1, what := .unpark (n % 12) }] } } : State).apart) ∧
     (v < uv → exec (.sentinelTrip ⟨n, uv⟩) s = .next s)) ∧
   (∀ (g : Nat) (s : State), g < 15 →
     (∀ t, t = fallNow (.unpark g) s →
       (∀ i, i < 128 → groupOf s i = g → (s.phase i).st = .parked → (s.phase i).waking = none → (t.phase i).waking = some (s.clk.now + 101)) ∧
       (t.group g).unparkNow = true ∧
       t.apart = ({ s with groups := t.groups, phases := t.phases, clk := { s.clk with
         soon := s.clk.soon ++ [{ due := s.clk.now + 1, what := .raiseEn g }] } } : State).apart) ∧
     (∀ t i, t = fallNow (.raiseEn g) s → i < 128 → t.phase i = if groupOf s i = g ∧ (s.phase i).st = .parked ∧ (s.phase i).waking ≠ none
       then { s.phase i with en := true } else s.phase i)) ∧
   (∀ (n : ClusterId) (uv v : Int) (since : Nat) (s u : State), (s.cluster n).t.tripped = true →
     reach (max ((s.cluster n).t.riseAt + 4) since + 2) s = some u →
     v = 250 * (1200 + 5 * (u.cluster n).v.sp.cur - (40 + 10 * ((u.cluster n).t.thresh : Int))
       - (if (u.cluster n).droneOut then 72 else 0)) →
     (v + 5000 ≤ uv → ∃ t, exec (.stretchRelease ⟨n, uv, since⟩) s = .next t ∧
       (t.cluster n).t.tripped = false ∧ (t.cluster n).s = (u.cluster n).s ∧ (∀ m, m ≠ n.val → t.cluster m = u.cluster m) ∧
       t.apart = ({ u with cl := t.cl, clk := { u.clk with soon := t.clk.soon } } : State).apart) ∧
     (uv < v + 5000 → exec (.stretchRelease ⟨n, uv, since⟩) s = .next s))) ∧
  ((∀ (n : ClusterId) (s u : State) (b : Blw), b = (s.cluster n).b →
     (∀ low, b.st = .firing → b.ending = false → (low = true ∧ u = s ∨ low = false ∧ reach b.fireEnd s = some u) →
       ∃ t, exec (.bellowsFireEnd n low) s = .next t ∧ t.apart = (({ u with clk := { u.clk with
         soon := u.clk.soon ++ [{ due := u.clk.now + 1, what := .fireEnd n }] } } : State).updCl n
           (fun c => { c with b := { c.b with ending := true } })).apart) ∧
     (∀ m freed at_, b.st = .waiting → m = max s.clk.now b.askAt → freed = (if s.blwCfg.freedAt = m then s.blwCfg.freedCnt else 0) →
       slotsHeld s < 32 → at_ = (if slotsHeld s + freed < 32 then m else m + 1) →
       s.cl.places (fun m c => decide (m < n.val) && c.b.st == .waiting && decide (c.b.askAt ≤ at_)) = [] →
       reach at_ s = some u → ∃ t, exec (.bellowsSlotGrant n) s = .next t ∧
         t.apart = (u.updCl n (fun c => { c with b := { c.b with st := .charging, chg := true, grantAt := u.clk.now } })).apart) ∧
     (b.st = .charging → b.ending = false → ∃ t, exec (.bellowsChargeDone n) s = .next t ∧
       t.apart = (({ s with clk := { s.clk with soon := s.clk.soon ++ [{ due := s.clk.now + 1, what := .chargeEnd n }] } } : State).updCl n
         (fun c => { c with b := { c.b with ending := true } })).apart) ∧
     (b.st = .charging → b.ending = false → reach (chargeDue b) s = some u → s.clk.p0Pending = false → u.evt.fresh = [] →
       ∃ t, exec (.bellowsChargeTimeout n) s = .next (tick t) ∧ (∃ d, Raised 0x0315 n (1 :: d) t) ∧
         t.apart = ({ u with clk := { u.clk with
           soon := u.clk.soon ++ [{ due := u.clk.now + 1, what := .blwFault n 1 }] } } : State).apart) ∧
     (b.st ≠ .off → b.st ≠ .fault → s.evt.fresh = [] → ∃ t, exec (.bellowsFlagConflict n) s = .next t ∧
       (∃ d, Raised 0x0315 n (2 :: d) t) ∧
       t.apart = ({ s with clk := { s.clk with soon := s.clk.soon ++ [{ due := s.clk.now + 1, what := .blwFault n 2 }] } } : State).apart)) ∧
   (∀ (n : ClusterId) (s t : State) (b : Blw), b = (s.cluster n).b →
     (t = fallNow (.fireEnd n) s → b.st = .firing → (t.cluster n).b.fire = false ∧ (t.cluster n).b.ending = false ∧
       ((t.cluster n).b.st = if b.leaveWhenDone then .off else .waiting) ∧
       (b.leaveWhenDone = false → (t.cluster n).b.askAt = s.clk.now + 1) ∧
       t.apart = (s.updCl n (fun c => { c with b := (t.cluster n).b })).apart) ∧
     (t = fallNow (.chargeEnd n) s → b.st = .charging →
       ((t.cluster n).b.st = if b.leaveWhenDone then .off else .ready) ∧ (t.cluster n).b.chg = false ∧ (t.cluster n).b.ending = false ∧
       t.apart = (({ s with clk := { s.clk with soon := t.clk.soon }, blwCfg := t.blwCfg } : State).updCl n
         (fun c => { c with b := (t.cluster n).b })).apart) ∧
     (∀ cause, t = fallNow (.blwFault n cause) s → b.st ≠ .off → b.st ≠ .fault →
       (t.cluster n).b.st = .fault ∧ (t.cluster n).b.faultCause = cause ∧ (t.cluster n).b.fire = false ∧ (t.cluster n).b.chg = false ∧
       t.apart = (({ s with blwCfg := t.blwCfg } : State).updCl n (fun c => { c with b := (t.cluster n).b })).apart)))

/-! ### Control engine (R29, R42, R45, R153 to R175) -/

/-- ENGINE_EVAL_DEADLINE, at cycle 512 of a pace, evaluates the inputs latched: none is left, and an evaluation that ran past the
budget counts a miss and sets the ENGINE bit of BRX_DL_STATUS (R29, R42, R45, R174). -/
def Obligations.EngineEvaluation : Prop :=
  ∀ (parity : List Nat) (s u : State), s.clk.running = true → s.clk.p0Pending = false → reach (s.clk.paceStart + 512) s = some u →
    ∃ t, exec (.engineEvalDeadline parity) s = .next (tick t) ∧ t.eng.inputs = [] ∧
      t.apart = ({ u with dl := t.dl, eng := { s.eng with
        inputs := [], slots := t.eng.slots, lastCycle := t.eng.lastCycle, maxCycle := max s.eng.maxCycle t.eng.lastCycle
        ovrSlot := t.eng.ovrSlot } } : State).apart ∧
      ((∃ i ∈ s.eng.inputs, 512 < stalled s.eng.stalls i.lane i.last + 5) →
        t.dl.status.getLsbD 0 = true ∧ t.dl.engineMisses = min 65535 (s.dl.engineMisses + 1) ∧ t.eng.lastCycle = 1023) ∧
      ((∀ i ∈ s.eng.inputs, stalled s.eng.stalls i.lane i.last + 5 ≤ 512) →
        t.dl = s.dl ∧ t.eng.ovrSlot = s.eng.ovrSlot ∧ ∀ i ∈ s.eng.inputs, stalled s.eng.stalls i.lane i.last + 5 ≤ t.eng.lastCycle)

/-- SWAP asks for the shadow bank, which is validated; one written in the cycle in which a plan fails asks anew (R10). A plan that
fails is dropped with its slot and reason, one that passes is taken at the stage edge that follows the SWAP if it was written
before cycle 1 of p15, else at the next; the core's writes reach the shadow bank alone, and none while a swap is pending (R156 to
R158). -/
def Obligations.EnginePlan : Prop :=
  ∀ s : State,
    (s.fwRuns = true → s.eng.swapPend = false → ∃ t, exec .swap s = .next t ∧
      t.apart = ({ s with eng := { s.eng with swapPend := true, swapAge := 0, swapEdge := none, swapAgain := none } } : State).apart) ∧
    (s.fwRuns = true → s.eng.swapPend = true → ∃ t, exec .swap s = .next t ∧
      t.apart = ({ s with eng := { s.eng with swapAgain := some s.clk.now } } : State).apart) ∧
    (∀ parity slot reason, s.eng.swapPend = true → s.eng.swapEdge = none → planCheck (shadowBank s) parity = some (slot, reason) →
      s.evt.fresh = [] → ∃ t, exec (.planValidationDone parity) s = .next t ∧
        t.apart = ({ s with eng := { s.eng with
          swapPend := s.eng.swapAgain == some s.clk.now, swapAge := 0, swapAgain := none
          swapFail := true, failSlot := slot, failReason := reason } } : State).apart ∧
        Raised 0x0122 slot [BitVec.ofNat 8 reason] t) ∧
    (∀ parity, s.eng.swapPend = true → s.eng.swapEdge = none → planCheck (shadowBank s) parity = none →
      ∃ t, exec (.planValidationDone parity) s = .next t ∧
        t.apart = ({ s with eng := { s.eng with
          swapEdge := some (if s.eng.swapAge = 0 ∧ (s.clk.pace < 15 ∨ s.cycle = 0) then 1 else 2) } } : State).apart) ∧
    (∀ e t, s.eng.swapPend = true → s.eng.swapEdge = some e → t = engineSwap s →
      (e ≤ s.eng.swapAge + 1 → t.eng.bank = 1 - s.eng.bank ∧ t.eng.swapPend = false ∧ t.eng.banks = s.eng.banks) ∧
      (s.eng.swapAge + 1 < e → t = { s with eng := { s.eng with swapAge := s.eng.swapAge + 1 } })) ∧
    (∀ addr w, s.fwRuns = true → 0x200000 ≤ addr → addr < 0x220000 → ∃ t, exec (.engineBankWrite addr w) s = .next t ∧
      bankAt t.eng.banks s.eng.bank = bankAt s.eng.banks s.eng.bank ∧
      t.apart = ({ s with eng := { s.eng with banks := t.eng.banks, wrDrop := t.eng.wrDrop } } : State).apart ∧
      ((addr - 0x200000) / 0x10000 = s.eng.bank ∨ s.eng.swapPend = true → t.eng.wrDrop = true ∧ t.eng.banks = s.eng.banks))

/-! ### Converters (R176 to R194) -/

/-- ADC_RESULT, 45 ns after the position at which a converter sampled the channel: the corrected code is written in the channel's
unit, fresh and of age 0, of an urgent conversion into its result register too; the other channels and converters are as before
(R176, R177, R181, R185, R188). The corrected value of a raw code is (16 × D − OFS) × GAIN ÷ 2^14 to the nearest integer, ties
rounded up (R188). At a position a converter samples first the conversion displaced from the one before, else the oldest urgent
one where the position is idle or an idle one remains to absorb the slip, which displaces the scheduled one by a position, else
the scheduled one (R184). -/
def Obligations.AdcResult : Prop :=
  (∀ (c : ChanId) (d : Nat) (urgent : Bool) (s u : State) (e : AdcSample) (rest : List AdcSample), c.val < 312 → d ≤ 4095 →
    (Conv.ahead s (c % 16)).pipe = e :: rest → e.chan = c.val → e.urgent = urgent →
    reach e.due (s.updConv (c % 16) (fun _ => Conv.ahead s (c % 16))) = some u →
    ∃ t, exec (.adcResult c d urgent) s = .next t ∧
      (t.chans.get c).value = unitOf c (corrected (s.conv (c % 16)) d) ∧ (t.chans.get c).fresh = true ∧ (t.chans.get c).age = 0 ∧
      (t.chans.get c).urgent = urgent ∧ (t.chans.get c).seen = true ∧ (t.chans.get c).snap = (s.chans.get c).snap ∧
      (∀ k, k ≠ c.val → t.chans.get k = s.chans.get k) ∧ (t.conv (c % 16)).pipe = rest ∧
      (t.conv (c % 16)).urgRes = (if urgent then some (c.val, code2 16 (t.chans.get c).value, u.clk.now) else (s.conv (c % 16)).urgRes) ∧
      (∀ v, v ≠ c % 16 → t.conv v = s.conv v) ∧
      t.apart = ({ u with chans := t.chans, convs := t.convs, groups := t.groups, phases := t.phases
                          clk := { u.clk with soon := t.clk.soon } } : State).apart) ∧
  (∀ (v : Conv) (d : Nat),
    16384 * corrected v d ≤ (16 * (d : Int) - v.ofs) * v.gain + 8192 ∧
    (16 * (d : Int) - v.ofs) * v.gain - 8192 < 16384 * corrected v d) ∧
  (∀ (s : State) (at_ : Nat) (v : Conv) (room : Bool),
    (∀ c slot, v.carry = some c → v.take s at_ slot room = { v.sample at_ c false with carry := slot }) ∧
    (∀ c rest, v.carry = none → v.urgQ = c :: rest →
      v.take s at_ none room = { v.sample at_ c true with urgQ := rest } ∧
      (∀ x, v.take s at_ (some x) true = { v.sample at_ c true with urgQ := rest, carry := some x } ∧
        v.take s at_ (some x) false = v.sample at_ x false)) ∧
    (∀ x, v.carry = none → v.urgQ = [] → v.take s at_ (some x) room = v.sample at_ x false))

/-- Converter sequences (R10, R179): a swap request of idle sequences is recorded with the pace at which it applies; a shadow
sequence that fails is dropped with SEQ_FAIL, unless SEQ_SWAP is written anew in that cycle; one that passes waits for its pace as
it was validated. An urgent conversion joins a queue of up to four; beyond it, or for a channel that does not exist, URG_DROP is
set (R183). -/
def Obligations.AdcSequences : Prop :=
  ∀ s : State,
    (∀ mask : BitVec 16, s.fwRuns = true → ∃ t, exec (.seqSwap mask) s = .next t ∧
      (∀ u, u < 16 → t.conv u = if mask.toNat.testBit u then
        (if (s.conv u).swapReq then { s.conv u with swapAgain := some s.clk.now }
         else { s.conv u with swapReq := true, swapAt := if s.cycle ≤ 511 then s.clk.paceNo + 1 else s.clk.paceNo + 2 }) else s.conv u) ∧
      t.apart = ({ s with convs := t.convs } : State).apart) ∧
    (∀ u : ConvId, (s.conv u).swapReq = true → (s.conv u).swapWait = none →
      (∀ q, seqCheck u (s.conv u).shadow.val = some q → s.evt.fresh = [] → ∃ t, exec (.seqValidationDone u) s = .next t ∧
        t.apart = (s.updConv u (fun v => { v with
          swapReq := v.swapAgain == some s.clk.now, swapAgain := none, seqFail := true
          swapAt := if s.cycle ≤ 511 then s.clk.paceNo + 1 else s.clk.paceNo + 2 })).apart ∧ Raised 0x0A21 u [BitVec.ofNat 8 q] t) ∧
      (seqCheck u (s.conv u).shadow.val = none → ∃ t, exec (.seqValidationDone u) s = .next t ∧
        t.apart = (s.updConv u (fun v => { v with swapWait := some v.swapAt, seqNext := v.shadow })).apart)) ∧
    (∀ c w, s.fwRuns = true → w = convTo (c % 16) s.clk.now s →
      (c < 312 → (w.conv (c % 16)).urgQ.length < 4 → ∃ t, exec (.adcUrgentRequest c) s = .next t ∧
        t.apart = (w.updConv (c % 16) (fun v => { v with urgQ := v.urgQ ++ [c] })).apart) ∧
      (312 ≤ c ∨ 4 ≤ (w.conv (c % 16)).urgQ.length → ∃ t, exec (.adcUrgentRequest c) s = .next t ∧
        t.apart = (w.updConv (c % 16) (fun v => { v with urgDrop := true })).apart))

/-- Calibration of the converters (R188 to R193), when the last code of a complete collection is there: an estimate within bounds
becomes the next coefficients, one outside them is counted or reported with its cause; the weights of a spare exchange move a
sixteenth of the way; a calibration beyond its time ends for a converter left. ADC_CALIBRATE_SYSTEM marks the converters it names
busy, to collect from the next pace on, and waits for them (R189, R190); ADC_SET_CAL_MODE waits for the next cycle 0 of a pace and
then sets mode and power of the converters named (R190, R193). -/
def Obligations.AdcCalibration : Prop :=
  ((∀ (u : ConvId) (s v w : State) (sz sr at_ : Nat), v = convTo u s.clk.now s → (v.conv u).calEnd = some at_ → reach at_ v = some w →
     ((v.conv u).calBusy = true → (v.conv u).calAccept = false →
       (ofsOk (ofsEstimate sz) = true → gainOk (gainEst sz sr) = true → ∃ t, exec (.adcSyscalDone u sz sr) s = .next t ∧
         t.apart = (w.updConv u (fun c => { c with
           coefNext := some (ofsEstimate sz, (gainEst sz sr).getD 0), calAccept := true, calEnd := none })).apart) ∧
       (ofsOk (ofsEstimate sz) = false → w.evt.fresh = [] → ∃ t, exec (.adcSyscalDone u sz sr) s = .next t ∧
         (t.conv u).coefNext = (w.conv u).coefNext ∧ (t.conv u).calBusy = false ∧
         Raised 0x0A12 u (adcCalData 1 sz sr) t ∧ (∀ x, x ≠ u.val → t.conv x = w.conv x) ∧
         t.apart = ({ w with convs := t.convs, adc := { w.adc with cals := t.adc.cals } } : State).apart)) ∧
     ((v.conv u).calMode = true →
       (ofsOk (ofsEstimate sz) = true → gainOk (gainEst sz sr) = true → ∃ t, exec (.adcBgBlockDone u sz sr) s = .next t ∧
         t.apart = (w.updConv u (fun c => { c with
           calRejects := 0, calEnd := none
           coefNext := some (c.ofs + roundDiv (ofsEstimate sz - c.ofs) 8,
             ((c.gain : Int) + roundDiv (((gainEst sz sr).getD 0 : Int) - c.gain) 8).toNat) })).apart) ∧
       ((ofsOk (ofsEstimate sz) && gainOk (gainEst sz sr)) = false → ∃ t, exec (.adcBgBlockDone u sz sr) s = .next t ∧
         t.apart = (w.updConv u (fun c => { c with calRejects := min 15 (c.calRejects + 1), calEnd := none })).apart))) ∧
   (∀ (u : ConvId) (s : State),
     (∀ w : Int, convsRun s = true → (s.conv u).calMode = true → (s.conv u).spareStage ≠ 0 → (s.conv u).spareSince + 64 ≤ s.clk.stage →
       ∃ t, exec (.adcSpareExchange u w) s = .next t ∧
         t.apart = (s.updConv u (fun v => { v with
           weights := v.weights.modify (v.spareStage - 1) (fun x => x + roundDiv (w - x) 16)
           spareStage := if v.spareStage = 10 then 1 else v.spareStage + 1
           spareSince := s.clk.stage })).apart) ∧
     (∀ k, s.clk.p0Pending = false → s.adc.cals.find? (fun k => decide (k.due ≤ s.clk.stage)) = some k → k.left.testBit u = true →
       ∃ t, exec .adcCalTimeout s = .next (tick t) ∧ (t.conv u).calBusy = false ∧
         (∀ v, k.left.testBit v = false → t.conv v = s.conv v) ∧
         t.apart = ({ s with convs := t.convs, adc := { s.adc with cals := t.adc.cals } } : State).apart))) ∧
  ((∀ (p : Packet) (s : State) (m : Nat), s.ready p = true → p.payload.length = 16 → m = field p.payload 0 2 →
     (∃ u, u < 16 ∧ m.testBit u = true) →
     (zeros p.payload 2 14 = true → (∀ u, u < 16 → m.testBit u = true → (s.conv u).calMode = false ∧ (s.conv u).calBusy = false) →
       (s.rail 3).enabled = true → (s.rail 3).inWindow = true → ∃ t, exec (.adcCalibrateSystem p) s = .next t ∧
         (∀ u, u < 16 → t.conv u = if m.testBit u then { (convsTo s.clk.now s).conv u with
           calBusy := true, calAccept := false, calNum := 0, calFrom := s.clk.paceNo + 1, calEnd := none } else (convsTo s.clk.now s).conv u) ∧
         t.apart = ({ s with convs := t.convs, adc := { s.adc with cals := s.adc.cals ++ [{ pkt := p, left := m, due := replyDue p 32 s }] } } : State).apart) ∧
     ((field p.payload 2 1 ≤ 1 ∨ field p.payload 2 1 = 0xFF) → (field p.payload 3 1 ≤ 1 ∨ field p.payload 3 1 = 0xFF) →
       zeros p.payload 4 12 = true → (∀ u, u < 16 → m.testBit u = true → (s.conv u).calBusy = false) →
       ∃ t, exec (.adcSetCalMode p) s = .next t ∧
         t.apart = (s.awaiting p 0x0A02 [.calMode m (field p.payload 2 1) (field p.payload 3 1)]).apart)) ∧
   (∀ (se m mode power u : Nat) (s t : State), u < 16 → t = applyAct se (.calMode m mode power) s →
     (t.conv u).calMode =
       (if m.testBit u then (if mode = 0 then false else if mode = 1 then true else (s.conv u).calMode) else (s.conv u).calMode) ∧
     (t.conv u).auto = (if m.testBit u ∧ power ≠ 0xFF then power == 1 else (s.conv u).auto)))

/-! ### Manifest engine (R216 to R240) -/

/-- MANIFEST_LOAD that passes its checks empties the engine, releases every cluster, and asks for the 1,024-byte header (R236); a
header that does not arrive, or a load beyond its deadline, empties the engine again and the command is answered (R236). A header
that passes its check, its fields and its length is stored in its tiles, and its settings are taken (R216, R217, R221). -/
def Obligations.ManifestLoading : Prop :=
  ∀ s : State,
    (∀ p : Packet, s.ready p = true → p.payload.length = 16 → field p.payload 0 8 % 64 = 0 → zeros p.payload 12 4 = true →
      field p.payload 8 4 ≠ 0xFFFFFFFF → 10304 ≤ field p.payload 8 4 → s.fbOk = true → s.man.st ≠ .loading → s.man.st ≠ .running →
      ∃ t, exec (.manifestLoad p) s = .next t ∧ t.man.st = .loading ∧ t.man.addr = field p.payload 0 8 ∧
        t.man.len = field p.payload 8 4 ∧ t.man.load = some p ∧ t.man.hdrDone = false ∧ t.man.nblk = 0 ∧
        (∀ n, n < 144 → (t.cluster n).m.engaged = false ∧ (t.cluster n).s = (s.cluster n).s) ∧
        (∃ r, Output.dma r ∈ t.out ∧ r.op = .read ∧ r.addr = field p.payload 0 8 ∧ r.beats = 16) ∧
        t.apart = ({ s with man := t.man, cl := t.cl } : State).apart) ∧
    (∀ p, s.man.st = .loading → s.man.hdrDone = false → s.man.load = some p → ∃ t, exec (.manifestHeaderArrival none) s = .next t ∧
      t.man.st = .empty ∧ t.man.load = none ∧ (∃ data, Answered p 0x0501 (loadStatus 8) data s t) ∧
      t.apart = ({ s with man := t.man, cl := t.cl } : State).apart) ∧
    (∀ p, s.man.st = .loading → s.man.due ≤ s.clk.stage → s.man.load = some p → s.clk.p0Pending = false →
      ∃ t, exec .manifestLoadTimeout s = .next (tick t) ∧
      t.man.st = .empty ∧ t.man.load = none ∧ (∃ data, Answered p 0x0501 (loadStatus 9) data s t) ∧
      t.apart = ({ s with man := t.man, cl := t.cl } : State).apart) ∧
    (∀ d : List Byte, d.length = 1024 → s.man.st = .loading → s.man.hdrDone = false →
      (crc32c (d.take 1020)).toNat = field d 1020 4 → headerOk d = true → s.man.len = 1024 + 9280 * field d 10 2 →
      ∃ t, exec (.manifestHeaderArrival (some d)) s = .next t ∧ t.man.st = .loading ∧ t.man.hdrDone = true ∧ t.man.freq = field d 5 1 ∧
        t.man.stepMin = field d 6 1 ∧ (t.man.loopEn = true ↔ field d 7 1 = 1) ∧ t.man.nblk = field d 10 2 ∧ t.man.loop = field d 12 2 ∧
        t.apart = ({ s with man := t.man, led := (sealTile 639 [] (sealTile 638 d s)).led } : State).apart)

/-- A block of a running manifest that does not arrive is refused with FLT_MANIFEST_FETCH; one not held two stages before its
first stage sets the MANIFEST bit, once, where a cluster is engaged for that stage (R223, R224). A tile of the block in force that
passes its read gives its sixteen clusters the entry of the stage two on; one that fails it is marked bad and reported (R225,
R228). -/
def Obligations.ManifestBlocks : Prop :=
  (∀ (s : State) (slot q : Nat), slot < 14 → (manSlot s slot).seq = some q →
    ((manSlot s slot).stored = false → (manSlot s slot).refused = false → (manSlot s slot).condemned = false → s.man.st ≠ .loading →
      s.evt.fresh = [] →
      ∃ t, exec (.manifestBlockArrival slot none) s = .next t ∧
        t.apart = (updSlot slot (fun m => { m with refused := true }) s).apart ∧
        Raised 0x0513 slot (leBytes 2 (manSlot s slot).block ++ leBytes 4 (firstStageOf s q)) t) ∧
    (s.man.st = .running → (manSlot s slot).refused = false → (manSlot s slot).lateDone = false → firstStageOf s q ≤ s.clk.stage + 2 →
      ((manSlot s slot).stored = false ∨ firstStageOf s q < (manSlot s slot).storedIn + 2) → s.clk.p0Pending = false →
      ∃ t, exec (.manifestLateExpiry slot) s = .next (tick t) ∧
        t.apart = ({ updSlot slot (fun m => { m with lateDone := true }) s with dl := t.dl } : State).apart ∧
        ((∃ n, n < 144 ∧ engagedFor (s.cluster n).m (firstStageOf s q) = true) → t.dl.status.getLsbD 4 = true) ∧
        ((∀ n, n < 144 → engagedFor (s.cluster n).m (firstStageOf s q) = false) → t.dl = s.dl))) ∧
  (∀ (s : State) (k q : Nat), k < 126 → seqOf s (s.clk.stage + 2) = some q → k / 9 = q % 14 → (manSlot s (q % 14)).seq = some q →
    (manSlot s (q % 14)).refused = false → (manSlot s (q % 14)).stored = true → (manSlot s (q % 14)).storedIn + 2 ≤ s.clk.stage + 2 →
    (manSlot s (q % 14)).tileOk.get (k % 9) = true → tileBad s (512 + k) = false →
    (tilePasses s (512 + k) false = true → ∃ t, exec (.manifestTileReadDone k false) s = .next t ∧
      (∀ n, n < 144 → (t.cluster n).m.ents.get 2 =
        if n / 16 = k % 9 then readEntry s (s.clk.stage + 2) (tileBytes s (512 + k)) n else (s.cluster n).m.ents.get 2) ∧
      t.apart = ({ s with cl := t.cl } : State).apart) ∧
    (s.evt.fresh = [] → ∃ t, exec (.manifestTileReadDone k true) s = .next t ∧ tileBad t (512 + k) = true ∧
      (∀ n, n < 144 → n / 16 = k % 9 → (t.cluster n).m.ents.get 2 = { word := none, why := 4 }) ∧
      (∃ d, Raised 0x0512 k d t) ∧
      t.apart = ({ s with cl := t.cl, man := { s.man with slots := t.man.slots }, led := { s.led with tiles := t.led.tiles } } : State).apart))

/-- MANIFEST_ENGAGE starts a loaded manifest at START, with its clusters engaged from there, or joins clusters to a running one
three stages on; the reply names the clusters engaged and S0 (R237). MANIFEST_RELEASE takes effect at once, its clusters released
at the edge two stages on, and its reply follows there (R238). -/
def Obligations.ManifestEngageRelease : Prop :=
  ∀ (p : Packet) (s : State), s.ready p = true →
    (p.payload.length = 32 → engageLegal s.clk.stage p.payload = true →
      (field p.payload 18 1 = 1 → s.man.st = .loaded → ∃ t, exec (.manifestEngage p) s = .next t ∧
        t.man = { s.man with st := .running, s0 := field p.payload 24 6, endDone := false
                             lifts := (liftAt (field p.payload 24 6) (field p.payload 19 1) s).man.lifts } ∧
        (∀ n, n < 144 → t.cluster n = if (field p.payload 0 18).testBit n then
          { s.cluster n with m := { (s.cluster n).m with
            evs := insertAt EngEv.stage { stage := field p.payload 24 6, on := true } (s.cluster n).m.evs } } else s.cluster n) ∧
        t.apart = ({ s with man := t.man, cl := t.cl } : State).apart ∧ Answered p 0x0502 .ok (engageData t) s t) ∧
      (field p.payload 18 1 = 0 → s.man.st = .running → ∃ t, exec (.manifestEngage p) s = .next t ∧
        t.man = { s.man with lifts := if field p.payload 19 1 ≤ 2 then (liftAt (s.clk.stage + 3) (field p.payload 19 1) s).man.lifts
                                      else s.man.lifts } ∧
        (∀ n, n < 144 → t.cluster n = if (field p.payload 0 18).testBit n then
          { s.cluster n with m := { (s.cluster n).m with
            evs := insertAt EngEv.stage { stage := s.clk.stage + 3, on := true, rejoin := true } (s.cluster n).m.evs } }
          else s.cluster n) ∧
        t.apart = ({ s with man := t.man, cl := t.cl } : State).apart ∧ Answered p 0x0502 .ok (engageData t) s t)) ∧
    (p.payload.length = 24 → releaseLegal p.payload = true → s.man.st ≠ .empty → s.man.st ≠ .loading →
      ∃ t, exec (.manifestRelease p) s = .next t ∧
        (∀ n, n < 144 → t.cluster n = if field p.payload 18 1 = 1 ∨ (field p.payload 0 18).testBit n = true then
          { s.cluster n with m := { (s.cluster n).m with evs := insertAt EngEv.stage { stage := s.clk.stage + 2 } (s.cluster n).m.evs } }
          else s.cluster n) ∧
        t.man = { s.man with unloadAt := if field p.payload 18 1 = 1 then some (s.clk.stage + 2) else s.man.unloadAt
                             rels := s.man.rels ++ [{ pkt := p, edge := s.clk.stage + 2 }] } ∧
        t.apart = ({ s with man := t.man, cl := t.cl } : State).apart)

/-! ### Tiles of Ledger RAM (R93, R137, R140, R141, R431, R432) -/

/-- A calibration tile that a set-point asked for gives its cells their bracket, taken before any tile the scrub reads; a tile the
scrub reads and that passes changes nothing, and the scrub goes on in ascending order (R137, R139). A curve tile that passes its
read gives its clusters their curve; a tile that fails is marked bad with FLT_CAL_TILE, and calibration then waits; the bytes of
Ledger RAM are as before (R93, R140, R408). The core's sealed writes: SEAL_GO of a tile that firmware may seal starts it, of any
other is refused; at its end the tile's bytes are the buffer's, its check is written, and the core is told (R141, R432). -/
def Obligations.SealedTiles : Prop :=
  (∀ (k : Nat) (s : State),
    (k < 9 → tileBad s (472 + k) = false → tilePasses s (472 + k) false = true → ∃ t, exec (.curveTileReadDone k false) s = .next t ∧
      (∀ n, n < 144 → (t.cluster n).v.curve =
        if n / 16 = k then curveOf (slice (tileBytes s (472 + k)) (64 * (n % 16)) 64) else (s.cluster n).v.curve) ∧
      t.apart = ({ s with cl := t.cl } : State).apart) ∧
    (k < 9 → tileBad s (472 + k) = false → s.evt.fresh = [] → ∃ t, exec (.curveTileReadDone k true) s = .next t ∧
      tileBad t (472 + k) = true ∧ Raised 0x0A11 (256 + k) [] t ∧
      t.apart = ({ s with led := { s.led with tiles := t.led.tiles } } : State).apart) ∧
    (∀ rest, k < 216 → s.led.calReq = k :: rest → tileBad s (256 + k) = false → tilePasses s (256 + k) false = true →
      ∃ t, exec (.calTileReadDone k false) s = .next t ∧
      (∀ j, j < 8 → (t.cell (8 * k + j)).ptsAt = (s.cluster ((8 * k + j) / 12)).v.sp.cur ∧ (t.cell (8 * k + j)).pts =
        bracket (s.cluster ((8 * k + j) / 12)).v.sp.cur (usedCal (calTable (slice (tileBytes s (256 + k)) (128 * j) 128)))) ∧
      (∀ c, c < 8 * k ∨ 8 * k + 8 ≤ c → t.cell c = s.cell c) ∧
      t.apart = ({ s with cells := t.cells, led := { s.led with calReq := rest } } : State).apart) ∧
    (s.led.calReq = [] → k = s.led.scrubNext → k < 216 →
      (tileBad s (256 + k) = true ∨ tilePasses s (256 + k) false = true) → ∃ t, exec (.calTileReadDone k false) s = .next t ∧
      t.apart = ({ s with led := { s.led with scrubNext := (k + 1) % 216 } } : State).apart) ∧
    (k < 216 → k = calNext s.led → tileBad s (256 + k) = false → s.evt.fresh = [] → ∃ t, exec (.calTileReadDone k true) s = .next t ∧
      tileBad t (256 + k) = true ∧ Raised 0x0A11 k [] t ∧
      (∀ n, n < 144 → (t.cluster n).v.calWait = if n ∈ calClusters k then true else (s.cluster n).v.calWait) ∧
      t.apart = ({ s with cl := t.cl, led := { (calAdvance s).led with tiles := t.led.tiles } } : State).apart)) ∧
  (∀ (s : State) (tile : Nat), tile < 1024 → s.led.sealBusy = none → s.fwRuns = true →
    (256 ≤ tile → tile < 512 → ∃ t, exec (.sealGo tile) s = .next t ∧
      t.apart = ({ s with led := { s.led with sealTile := tile, sealBusy := some tile } } : State).apart) ∧
    (tile < 256 ∨ 512 ≤ tile → ∃ t, exec (.sealGo tile) s = .next t ∧
      t.apart = ({ s with led := { s.led with sealTile := tile, sealRefused := true } } : State).apart)) ∧
  (∀ (s : State) (k : Nat), s.led.sealBusy = some k → k < 510 → ∃ t, exec .sealWriteDone s = .next t ∧ t.led.sealBusy = none ∧
    t.led.ram = Memory.store s.led.ram (tileAddr k) ((padTo 1024 s.led.sealBuf).take 1024) ∧ tileBad t k = false ∧
    t.fw.irq.getLsbD 4 = true ∧
    t.apart = ({ s with cells := t.cells, cl := t.cl, led := t.led, fw := { s.fw with irq := t.fw.irq } } : State).apart)

/-! ### Levels, limits and guarantees (R263 to R275, R286 to R291, R296 to R314) -/

/-- SET_LEVEL OP 0x00, SET_FIXED_FREQUENCY and SET_SWELL that pass their checks wait for the next cycle 0 of a pace; SET_LIMITS
and SET_LEVEL OP 0x01 are answered at once and wait for the next stage edge (R265, R275, R296, R304, R308). What the governor's
commands change as they apply: one entry of the level table, the swell of one cluster, one preference, one limit, one guarantee
marked (R265, R296, R304, R308, R314). -/
def Obligations.Governor : Prop :=
  (∀ (p : Packet) (s : State), s.ready p = true →
     (p.payload.length = 32 → levelLegal p.payload = true → tableOk s.fuses (editTable (pendingTable s) (levelActs p.payload)) = true →
       s.inConvoy = false → (∀ k c b, Act.level k c b ∈ levelActs p.payload → fixedLevel s ≠ some k) →
       ∃ t, exec (.setLevelTable p) s = .next t ∧ t.apart = (s.awaiting p 0x0601 (levelActs p.payload)).apart) ∧
     (p.payload.length = 16 → fixedLegal s p.payload = true →
       (field p.payload 0 1 = 1 → (s.lvl (field p.payload 1 1)).boost = false) → (field p.payload 0 1 = 2 → s.inConvoy = false) →
       ∃ t, exec (.setFixedFrequency p) s = .next t ∧ t.apart =
         (s.awaiting p 0x0605 [.fixed (field p.payload 0 1) (field p.payload 1 1) (field p.payload 2 1)]).apart) ∧
     (p.payload.length = 24 → swellLegal p.payload = true → ∃ t, exec (.setSwell p) s = .next t ∧ t.apart =
       (s.awaiting p 0x0606 ((maskBits 144 (field p.payload 0 18)).map (fun n => .swell n (field p.payload 18 1)))).apart) ∧
     (p.payload.length = 48 → limitsLegal p.payload = true → ∃ t, exec (.setLimits p) s = .next t ∧
       t.apart = (s.awaitingEdge (limitActs p.payload)).apart ∧
       ∃ st data, (st = .ok ∨ st = .acceptedUnreachable) ∧ Answered p 0x0602 st data s t) ∧
     (p.payload.length = 32 → prefLegal p.payload = true → ∃ t, exec (.setLevelPreference p) s = .next t ∧
       t.apart = (s.awaitingEdge (prefActs p.payload)).apart ∧ ∃ data, Answered p 0x0601 .ok data s t)) ∧
  (∀ (se : Nat) (s t : State),
     (∀ k c b, k < 16 → t = applyAct se (.level k c b) s → t.lvl k = ⟨c, b⟩ ∧ (∀ j, j ≠ k → t.lvl j = s.lvl j) ∧ t.gov = s.gov) ∧
     (∀ n c, n < 144 → t = applyAct se (.swell n c) s →
       t = s.updCl n (fun x => { x with g := { x.g with host := c } })) ∧
     (∀ l v, l < 64 → t = applyAct se (.pref l v) s →
       t.gov = { s.gov with prefs := s.gov.prefs.set l v } ∧ t.cl = s.cl ∧ t.seq.table = s.seq.table) ∧
     (∀ n w v, n < 144 → t = applyAct se (.limit (0x100 + n) w v) s →
       t = s.updCl n (fun c => { c with g := { c.g with sus := v % 65536, one := v / 65536 } })) ∧
     (∀ w v, t = applyAct se (.limit 0x20 w v) s →
       t = { s with gov := { s.gov with cap := v, seconds := w, buckets := [], overMj := 0, overFrac := 0 } }) ∧
     (∀ r w v, r < 4 → t = applyAct se (.limit r w v) s →
       t = { s with gov := { s.gov with win := s.gov.win.set r { limit := v, len := w, fresh := true } } }) ∧
     (∀ g, t = applyAct se (.revoke g) s → t = { s with gov := { s.gov with guar := t.gov.guar } } ∧
       ∀ k, k < 64 → t.gov.guar.get k =
         if (s.gov.guar.get k).gid = g then { s.gov.guar.get k with leaving := true } else s.gov.guar.get k))

/-- ADMIT_GUARANTEE: a guarantee that fits takes the first free entry and is answered at the next cycle 0 of a pace; one that does
not fit is denied at once, with what it would need, and nothing changes. REVOKE_GUARANTEE of one held waits for the next cycle 0
of a pace (R309 to R311, R314). -/
def Obligations.Guarantees : Prop :=
  ∀ (p : Packet) (s : State), s.ready p = true →
    (p.payload.length = 32 → admitLegal s p.payload = true → (∀ g ∈ s.gov.guar.val, g.gid ≠ field p.payload 0 2) →
      ((admission s p.payload).1 = 0 → ∀ i, i < 64 → (s.gov.guar.places (fun _ g => g.gid == 0)).head? = some i →
        ∀ g : Guarantee, g = {
          gid := field p.payload 0 2, kind := field p.payload 2 1, prec := field p.payload 3 1
          label := if field p.payload 4 1 = 0xFF then 127 else field p.payload 4 1
          req := if field p.payload 2 1 = 1 then field p.payload 5 1 else bandCurrent (field p.payload 8 4) (field p.payload 12 4)
          amount := field p.payload 8 4 } →
        ∃ t, exec (.admitGuarantee p) s = .next t ∧
          t.apart = (({ s with gov := { s.gov with guar := s.gov.guar.set i g } } : State).awaiting p 0x0603 [.takeGuarantee i]).apart) ∧
      (∀ reason need have_, admission s p.payload = (reason, need, have_) → reason ≠ 0 → ∃ t, exec (.admitGuarantee p) s = .next t ∧
        t.apart = s.apart ∧
        Answered p 0x0603 (if reason = 5 then .checksumFail else .admissionDenied) (admitData p.payload (reason, need, have_)) s t)) ∧
    (p.payload.length = 16 → zeros p.payload 2 14 = true → field p.payload 0 2 ≠ 0 →
      field p.payload 0 2 ≠ 0xFFFF → (∃ g ∈ s.gov.guar.val, g.gid = field p.payload 0 2) → ∃ t, exec (.revokeGuarantee p) s = .next t ∧
        t.apart = (s.awaiting p 0x0604 [.revoke (field p.payload 0 2)]).apart)

/-- FREQ_DONE ends the wait for a frequency change and, but under the hold of R64, the hold of the voltage frequency; without it
at the next pace after an apply FLT_FREQ_NO_DONE is raised and the voltages stay at the higher of the two codes (R63, R64, R268).
-/
def Obligations.FrequencyDone : Prop :=
  ∀ s : State,
    (∃ t, exec .freqDone s = .next t ∧
      (∀ n, n < 144 → t.cluster n = { s.cluster n with v := (t.cluster n).v }) ∧
      t.apart = ({ s with cl := t.cl, seq := { s.seq with
        awaitDone := false, fvHold := if s.seq.noDone then s.seq.fvHold else none
        fvFixed := if s.seq.noDone then s.seq.fvFixed else false, vcode := t.seq.vcode } } : State).apart) ∧
    (s.seq.awaitDone = true → s.seq.doneLate = false → (s.clk.stage = s.seq.applyStage → s.clk.pace ≠ 0) → s.evt.fresh = [] →
      s.clk.p0Pending = false → ∃ t, exec .freqNoDoneTimeout s = .next (tick t) ∧ Raised 0x0611 0 [] t ∧
        t.apart = ({ s with seq := { s.seq with
          noDone := true, doneLate := true, fvFixed := true
          fvHold := some (max (s.seq.fvHold.getD 0) (max s.seq.applyOld s.seq.code)) } } : State).apart)

/-- CELL_RECHARACTERIZE that passes its checks schedules its window, which opens at its edge with its Active clusters asked to
Rest. In the search a run that passes ends its point at the voltage it ran at, one that fails at VMIN + 24 ends it with
FLT_RECHAR_POINT, and any other raises the set-point one code; a retest puts the isolated cells that pass their self-test under
regulation. The tables are then written, the clusters returned, and the reply ends the window once they have settled; no other
cluster changes (R286 to R290). -/
def Obligations.Recharacterize : Prop :=
  ∀ s : State,
    (∀ (p : Packet) (m fl w hn hl : Nat), s.ready p = true → p.payload.length = 48 → m = field p.payload 0 18 → fl = field p.payload 18 1 →
      w = field p.payload 20 6 → hn = field p.payload 28 4 → hl = field p.payload 32 4 → m ≠ 0 → 1 ≤ fl → fl ≤ 3 →
      zeros p.payload 19 1 = true → zeros p.payload 26 2 = true → zeros p.payload 36 12 = true → s.clk.stage + 2 ≤ w → hn ≠ 0xFFFFFFFF →
      (hl ≠ 0xFFFFFFFF → hl ≤ hn) →
      (∀ n, n ∈ maskBits 144 m → (s.cluster n).s.st ≠ .dormant ∧ (s.cluster n).s.trans = none ∧ (s.cluster n).inWake = false ∧
        (s.cluster n).d.st = .none ∧ (fl % 2 = 1 → (s.cluster n).s.st ≠ .retain)) →
      s.rech = none → ∃ t, exec (.cellRecharacterize p) s = .next t ∧
        t.apart = ({ s with rech := some { pkt := p, mask := m, curve := fl % 2 == 1, cellsOn := fl / 2 == 1, w, now := hn
                                           prev := if hl = 0xFFFFFFFF then none else some hl } } : State).apart) ∧
    (∀ (n : ClusterId) pass bad r, s.rech = some r → r.w ≤ s.clk.stage →
      (r.step = 0 → ∃ t, exec (.recharWindowStep n pass bad) s = .next t ∧
        (∀ k, k < 144 → if k ∈ r.clusters
          then (t.cluster k).s.inRechar = true ∧ ((t.cluster k).s.recharWas = true ↔ (s.cluster k).s.st = .active)
          else t.cluster k = s.cluster k) ∧
        t.apart = ({ s with rech := some { r with step := 1 }, cl := t.cl, clk := { s.clk with soon := t.clk.soon } } : State).apart) ∧
      (∀ p rest, r.step = 1 → s.clk.stage < r.w + 80 → r.mask.testBit n → searchable (s.cluster n) = true →
        (r.resOf n).todo = p :: rest → (∃ k, (r.resOf n).runFrom = some k ∧ k < s.clk.paceNo) →
        (pass = true → ∃ t, exec (.recharWindowStep n pass bad) s = .next t ∧
          (∃ r', t.rech = some r' ∧ (r'.resOf n).todo = rest ∧
            (r'.resOf n).pts = (r.resOf n).pts ++ [{ point := p, pass := some (r.resOf n).trial.toNat }]) ∧
          t.apart = ({ s with rech := t.rech, cl := t.cl } : State).apart) ∧
        (pass = false → (((s.cluster n).v.curve.get p).vmin : Int) + 24 ≤ (r.resOf n).trial → s.evt.fresh = [] →
          ∃ t, exec (.recharWindowStep n pass bad) s = .next t ∧ Raised 0x0A14 n [BitVec.ofNat 8 p] t ∧
          (∃ r', t.rech = some r' ∧ (r'.resOf n).todo = rest ∧
            (r'.resOf n).pts = (r.resOf n).pts ++ [{ point := p, pass := none }]) ∧
          t.apart = ({ s with rech := t.rech, cl := t.cl } : State).apart) ∧
        (pass = false → (r.resOf n).trial < (((s.cluster n).v.curve.get p).vmin : Int) + 24 →
          ∃ t, exec (.recharWindowStep n pass bad) s = .next t ∧
          (∃ r', t.rech = some r' ∧ (r'.resOf n).todo = p :: rest ∧ (r'.resOf n).pts = (r.resOf n).pts ∧
            (r'.resOf n).trial = (r.resOf n).trial + 1 ∧ (r'.resOf n).runFrom = none) ∧
          (∀ k, k < 144 → t.cluster k = if k = n then { s.cluster k with v := { (s.cluster k).v with
            sp := (s.cluster k).v.sp.aim s.clk.now ((r.resOf n).trial + 1) } } else s.cluster k) ∧
          t.apart = ({ s with rech := t.rech, cl := t.cl } : State).apart)) ∧
      (r.step = 1 → r.w + 80 ≤ s.clk.stage → s.clk.stage < r.w + 90 → r.mask.testBit n → r.cellsOn = true →
        (r.resOf n).retestFrom = none → ∃ t, exec (.recharWindowStep n pass bad) s = .next t ∧
        (∀ c, c < 1728 → t.cell c = if c / 12 = n ∧ c % 12 ∈ retestCells s n bad then
          { s.cell c with mode := .regulate, retest := true, share := calShare (s.cluster n).v.sp.cur (s.cell c).pts
                          openRun := 0, shareRun := 0 } else s.cell c) ∧
        (∃ r', t.rech = some r' ∧ (r'.resOf n).cells = retestCells s n bad ∧ (r'.resOf n).retestFrom = some (s.clk.paceNo + 1)) ∧
        t.apart = ({ s with cells := t.cells, rech := t.rech } : State).apart) ∧
      (r.step = 1 → r.w + 90 ≤ s.clk.stage → ∃ t, exec (.recharWindowStep n pass bad) s = .next t ∧
        (∃ data, t.rech = some { r with step := 3, data := data }) ∧
        (∀ k, k < 144 → k ∉ r.clusters → t.cluster k = s.cluster k) ∧
        t.apart = ({ s with rech := t.rech, cl := t.cl, cells := t.cells, freeCount := t.freeCount
                            led := { s.led with ram := t.led.ram, tiles := t.led.tiles, tileBuf := t.led.tileBuf } } : State).apart) ∧
      (r.step = 3 → r.w + 96 ≤ s.clk.stage → (∀ k, k ∈ r.clusters → (s.cluster k).v.sp.cur = (s.cluster k).v.target) →
        ∃ t, exec (.recharWindowStep n pass bad) s = .next t ∧ (∀ k, k < 144 → k ∉ r.clusters → t.cluster k = s.cluster k) ∧
        t.apart = ({ s with rech := some { r with step := 4 }, cl := t.cl, clk := { s.clk with soon := t.clk.soon } } : State).apart) ∧
      (r.step = 4 → (∀ k, k ∈ r.clusters → (s.cluster k).s.trans = none ∨ (s.cluster k).s.hsFault = true) →
        ∃ t, exec (.recharWindowStep n pass bad) s = .next t ∧ Answered r.pkt 0x0A03 .ok r.data s t ∧
        (∀ k, k < 144 → k ∉ r.clusters → t.cluster k = s.cluster k) ∧
        t.apart = ({ s with rech := none, cl := t.cl } : State).apart))

/-! ### Thermal protection (R339 to R352) -/

/-- The trip. A diode result whose moment has come, without the broken marks, becomes the diode temperature, corrected by the
offset in force; the second consecutive one at or above the trip threshold asserts the trip, and the sixteenth consecutive one
below the restart threshold releases it (R339, R340, R347, R348); results are taken once brx_por_n_i is high, the control island's
power notwithstanding (the model's reading, log 38). THERMAL_TRIP, the trip seen in the Bruxon domain, when no caravan between its
check and its edge holds it: every rail is Off, every cluster is Dormant and one that was not has lost its context, which is
recorded, and FLT_THERM_TRIP is raised (R255, R347). -/
def Obligations.ThermalTrip : Prop :=
  (∀ (d vf : Int) (s : State) (temp : Int), s.sys.porHigh = true → 40000 ≤ d → d ≤ 95000 → 250 ≤ vf → vf ≤ 900 →
    s.therm.sensorBad = false → s.therm.resCfg = none → s.therm.ofsNext = none → temp = rawTemp s.fuses.diodeGain d + s.therm.ofs →
    (s.therm.first = true → s.therm.nextRes ≤ s.clk.now) →
    ∃ t, exec (.diodeResult d vf) s = .next t ∧ t.therm.temp = temp ∧ t.therm.badRun = 0 ∧
      t.apart = ({ s with therm := t.therm, phases := t.phases } : State).apart ∧
      (s.therm.trip = false → (t.therm.trip = true ↔ s.therm.tripRun ≠ 0 ∧ (16 * s.therm.tripC : Int) ≤ temp)) ∧
      (s.therm.trip = true → (t.therm.trip = false ↔ 15 ≤ s.therm.coolRun ∧ temp < 16 * s.therm.restC))) ∧
  (∀ s u : State, s.therm.trip = true → s.therm.tripSeen = false → s.islandUp = true → s.evt.fresh = [] → tripWaits s = false →
    reach (if s.clk.running && s.clk.now == s.clk.stageStart then s.clk.now + 1 else s.clk.now) s = some u →
    ∃ t, exec .thermalTrip s = .next t ∧ (∀ r, r < 4 → (t.rail r).enabled = false) ∧
      (∀ n, n < 144 → (t.cluster n).s.st = .dormant ∧ (t.cluster n).s.trans = none) ∧
      t.therm.contextLost = (s.therm.contextLost || s.cl.any (fun c => c.s.st != .dormant)) ∧ Raised 0x0810 0 [] t ∧
      t.apart = ({ u with
        therm := { s.therm with tripSeen := true, contextLost := t.therm.contextLost }
        rails := t.rails, cl := t.cl, cells := t.cells, groups := t.groups, phases := t.phases, segs := t.segs
        starts := t.starts, stops := t.stops, feed := { s.feed with chipDrone := false }
        adc := { s.adc with on := t.adc.on, cals := t.adc.cals }, convs := t.convs, chans := t.chans
        clk := { u.clk with soon := t.clk.soon } } : State).apart)

/-- The restart after a trip (R348): AX starts first, then CF, SA and FB; a release with the control island down or a descent
under way asks for nothing. RESTART_CORE_RAILS: a failed restart ends it, with EV_THERM_RESTART; AX in its window begins CF, SA
and FB; all three in their windows end it well. -/
def Obligations.ThermalRestart : Prop :=
  ∀ s : State,
    (s.therm.release = true →
      (s.islandUp = true → s.sys.pwrReq = true → s.sys.descent = .none → ∃ t, exec .restartToStandbyReady s = .next t ∧
        (restartStart 8 s).mask = 8 ∧ (restartStart 8 s).restart = true ∧ (restartStart 8 s).pkt = none ∧ t.apart = ({ s with
          starts := s.starts ++ [restartStart 8 s]
          therm := { s.therm with release := false, restart := 1, ceil := 15, enforcing := false, ceilPers := 0, graceLeft := 0
                                  graceDue := none, warn := false, throt := false } } : State).apart) ∧
      (s.islandUp = false ∨ s.sys.pwrReq = false ∨ s.sys.descent ≠ .none → ∃ t, exec .restartToStandbyReady s = .next t ∧
        t.apart = ({ s with therm := { s.therm with release := false } } : State).apart)) ∧
    (s.therm.restart ≠ 0 →
      (restartFailed s ≠ [] → s.evt.fresh = [] → ∃ t, exec .restartCoreRails s = .next t ∧
        Raised 0x0823 0 [1, BitVec.ofNat 8 (bitsMask (restartFailed s))] t ∧
        t.apart = ({ s with therm := { s.therm with restart := 0 }, starts := t.starts } : State).apart) ∧
      (restartFailed s = [] → (∀ k ∈ s.starts, k.restart = true → k.phase = .settle) → (∀ r ∈ restartRails s, (s.rail r).inWindow = true) →
        (s.therm.restart = 1 → ∃ t, exec .restartCoreRails s = .next t ∧
          t.apart = ({ s with
            therm := { s.therm with restart := 2 }
            starts := s.starts.filter (fun x => !x.restart) ++
              [restartStart 7 { s with starts := s.starts.filter (fun x => !x.restart) }] } : State).apart) ∧
        (s.therm.restart = 2 → s.evt.fresh = [] → ∃ t, exec .restartCoreRails s = .next t ∧ Raised 0x0823 0 [0, 0] t ∧
          t.apart = ({ s with therm := { s.therm with restart := 0 }, starts := t.starts } : State).apart)))

/-- Grace and ceiling (R345, R346): at the stage edge after the grace has run out, a throttle that still stands is enforced one
level below the level in force; then every ten period closes the ceiling falls by one level while the throttle stands, else it
rises, and at the top enforcement ends. THERMAL_CONFIG: legal thresholds wait for their stage edge or the next diode result, the
command for the next cycle 0 of a pace; a calibration in Standby-Ready with 100 periods Dormant collects 64 results, and its
offset is taken if it is within 16 °C (R340, R350). -/
def Obligations.ThermalCeilingAndConfig : Prop :=
  (∀ s : State,
     (∀ e, s.therm.graceDue = some e → s.clk.p0Pending = false → e < s.clk.stage →
       (s.therm.throt = false → ∃ t, exec .graceExpiry s = .next t ∧
         t.apart = ({ s with therm := { s.therm with graceDue := none } } : State).apart) ∧
       (s.therm.throt = true → s.evt.fresh = [] → ∃ t, exec .graceExpiry s = .next t ∧
         t.apart = ({ s with therm := { s.therm with graceDue := none, ceil := s.seq.level - 1, enforcing := true, ceilPers := 0 } } : State).apart ∧
         Raised 0x0822 0 [BitVec.ofNat 8 (s.seq.level - 1)] t)) ∧
     (s.therm.enforcing = true → 10 ≤ s.therm.ceilPers →
       (s.therm.throt = true → ∃ t, exec .thermalCeilingStep s = .next t ∧
         t.apart = ({ s with therm := { s.therm with ceil := s.therm.ceil - 1, ceilPers := 0 } } : State).apart) ∧
       (s.therm.throt = false → s.therm.ceil < 14 → ∃ t, exec .thermalCeilingStep s = .next t ∧
         t.apart = ({ s with therm := { s.therm with ceil := s.therm.ceil + 1, ceilPers := 0 } } : State).apart) ∧
       (s.therm.throt = false → 14 ≤ s.therm.ceil → s.evt.fresh = [] → ∃ t, exec .thermalCeilingStep s = .next t ∧
         t.apart = ({ s with therm := { s.therm with ceil := 15, enforcing := false, ceilPers := 0 } } : State).apart ∧ Raised 0x0821 0 [] t))) ∧
  (∀ s : State,
     (∀ (p : Packet) (w h c r : Nat), s.ready p = true → p.payload.length = 16 → thermLegal s p.payload = true →
       thermNew s p.payload = (w, h, c, r) → ∃ t, exec (.thermalThresholds p) s = .next t ∧
         t.apart = (({ s with therm := { s.therm with
           edgeCfg := if (field p.payload 1 1).testBit 0 ∨ (field p.payload 1 1).testBit 1 then some (w, h) else s.therm.edgeCfg
           resCfg := if (field p.payload 1 1).testBit 2 ∨ (field p.payload 1 1).testBit 3 then some (c, r) else s.therm.resCfg
           grace := if (field p.payload 1 1).testBit 4 then field p.payload 6 2 else s.therm.grace } } : State).awaiting p 0x0801 []).apart) ∧
     (∀ (p : Packet) (v : Int), s.ready p = true → p.payload.length = 16 → field p.payload 0 1 = 1 → field p.payload 1 1 = 0 →
       zeros p.payload 4 12 = true → v = signed 16 (field p.payload 2 2) → -640 ≤ v → v ≤ 2000 → s.sys.chip = .standbyReady →
       100 ≤ s.therm.dormantPers → s.therm.cal = none → ∃ t, exec (.thermalCalibrate p) s = .next t ∧
         t.apart = ({ s with therm := { s.therm with cal := some { pkt := p, tref := v } } } : State).apart) ∧
     (∀ (k : ThermCal) (o : Int), s.therm.cal = some k → 64 ≤ k.n → o = k.tref - (k.sum + 32) / 64 →
       (-256 ≤ o → o ≤ 256 → ∃ t, exec .thermalCalDone s = .next t ∧
         t.apart = ({ s with therm := { s.therm with cal := none, ofsNext := some o } } : State).apart ∧
         Answered k.pkt 0x0801 .ok (0 :: leBytes 2 (code2 16 o)) s t) ∧
       (o < -256 ∨ 256 < o → ∃ t, exec .thermalCalDone s = .next t ∧
         t.apart = ({ s with therm := { s.therm with cal := none } } : State).apart ∧
         Answered k.pkt 0x0801 .ok (1 :: leBytes 2 (code2 16 s.therm.ofs)) s t)))

/-! ### Energy (R353 to R368) -/

/-- The energy ledger. An activity record of the pace that has ended, well formed and the first of its cluster, is taken: its
label and counts are the cluster's for that pace, and its label counts among those of the stage; any other record is discarded
(R67, R68). The oldest period whose sums are complete is reconciled, which computes its shares and posts nothing yet; while
firmware makes no progress nothing happens (R353, R357, R359). An acknowledged post is added to the mirrors and recorded; a post
that ends in ERROR is reported and carried into the next, the mirrors as they were (R362, R363). -/
def Obligations.EnergyLedger : Prop :=
  (∀ (r : BitVec 128) (s : State) (n : Nat), s.clk.running = true → n = actField r 0 8 →
    (actBad r = false → s.en.pacesSince ≠ 0 → actField r 112 4 = (s.clk.pace + 15) % 16 → (s.cluster n).e.got = false →
      ∃ t, exec (.activityRecord r) s = .next t ∧
        t.apart = ({ s.updCl n (fun c => { c with e := { c.e with
          label := actField r 8 6, counts := Tab.ofFn 8 (fun k => actField r (16 + 12 * k) 12), got := true } }) with gov := t.gov } : State).apart ∧
        (s.clk.pace ≠ 0 → t.gov = { s.gov with labels := s.gov.labels ||| BitVec.ofNat 64 (2 ^ actField r 8 6) })) ∧
    (actBad r = true ∨ s.en.pacesSince = 0 ∨ actField r 112 4 ≠ (s.clk.pace + 15) % 16 ∨ (s.cluster n).e.got = true →
      ∃ t, exec (.activityRecord r) s = .next t ∧ t.apart = s.apart)) ∧
  (∀ (s : State) (p : EnPer), s.en.pers.find? (fun q => q.accDone && !q.reconciled) = some p →
    (s.fwRuns = true → ∃ t, exec .energyReconcile s = .next t ∧
      t.apart = ({ s with en := { s.en with pers := t.en.pers, rangeWas := t.en.rangeWas, modelDefault := t.en.modelDefault } } : State).apart ∧
      (∀ q ∈ t.en.pers, q.seq = p.seq → (∀ x ∈ s.en.pers, x.seq = p.seq → x = p) → q.reconciled = true)) ∧
    (s.fwRuns = false → exec .energyReconcile s = .next s)) ∧
  (∀ (s : State) (p : EnPer), s.en.pers.find? (fun q => q.postOpen) = some p →
    (∀ st, st ≠ .error → ∃ t, exec (.ledgerPostAck st) s = .next t ∧
      (∀ i, i < 264 → t.en.mirrors.get i = (s.en.mirrors.get i + p.lanes.getD i 0) % 2 ^ 64) ∧
      t.apart = ({ s with en := { s.en with lastAck := p.seq, mirrors := t.en.mirrors, pers := t.en.pers } } : State).apart) ∧
    (s.evt.fresh = [] → ∃ t, exec (.ledgerPostAck .error) s = .next t ∧
      (∀ i, i < 264 → t.en.carry.getD i 0 = (p.lanes.getD i 0 + s.en.carry.getD i 0) % 2 ^ 64) ∧ (∃ d, Raised 0x0912 0 d t) ∧
      t.apart = ({ s with en := { s.en with carry := t.en.carry, pers := t.en.pers } } : State).apart))

/-- FRAME_WRITE_DONE advances the frame ring and signals vector 3, and a frame that ends in ERROR leaves its head where it is;
FRAME_DEADLINE_EXPIRY sets the FRAME bit of BRX_DL_STATUS (R359, R364, R365). The energy commands: a ledger address with no post
open and a legal frame ring take effect at the next period, as does an energy model, whose 64 bytes are stored in Ledger RAM at
once (R354, R355, R366). -/
def Obligations.FramesAndEnergyCommands : Prop :=
  (∀ (s : State) (p : EnPer),
     (s.en.pers.find? (fun q => q.frameOpen) = some p → p.ring = none →
       (∀ st, st ≠ .error → ∃ t, exec (.frameWriteDone st) s = .next t ∧ Output.vector 3 ∈ t.out ∧
         t.apart = ({ s with en := { s.en with head := (s.en.head + 1) % max 1 p.ringCount, dropped := t.en.dropped, pers := t.en.pers } } : State).apart) ∧
       (∃ t, exec (.frameWriteDone .error) s = .next t ∧
         t.apart = ({ s with en := { s.en with dropped := t.en.dropped, pers := t.en.pers } } : State).apart)) ∧
     (s.en.pers.find? (fun q => !q.late && decide (q.due ≤ s.clk.stage)) = some p → s.clk.p0Pending = false →
       ∃ t, exec .frameDeadlineExpiry s = .next (tick t) ∧ t.dl.status.getLsbD 6 = true ∧
         t.apart = ({ s with dl := t.dl, en := { s.en with dropped := t.en.dropped, pers := t.en.pers } } : State).apart)) ∧
  (∀ (p : Packet) (s : State), s.ready p = true →
     (p.payload.length = 24 → ledgerLegal p.payload = true → (∀ q ∈ s.en.pers, q.postOpen = false) →
       ∀ z, z = (field p.payload 1 1 == 1 || (s.en.addrNext.map Prod.snd).getD false) → ∃ t, exec (.energySetLedgerAddr p) s = .next t ∧
         t.apart = ({ s with en := { s.en with addrNext := some (field p.payload 8 8, z) } } : State).apart ∧
         Answered p 0x0901 .ok (leBytes 4 (s.clk.periodSeq + 1)) s t) ∧
     (p.payload.length = 24 → ringLegal p.payload = true → ∃ t, exec (.energySetFrameRing p) s = .next t ∧
       t.apart = ({ s with en := { s.en with ringNext := some (field p.payload 8 8, field p.payload 4 4) } } : State).apart ∧
       Answered p 0x0901 .ok (leBytes 4 (s.clk.periodSeq + 1)) s t) ∧
     (p.indirect = true → p.payload.length = 64 → modelLegal p.payload = true → s.fbOk = true → ∃ t, exec (.energyModelLoad p) s = .next t ∧
       t.apart = ({ s with
         en := { s.en with modelNew := true }
         led := { s.led with ram := Memory.store s.led.ram 0xC0000 p.payload
                             parityBad := s.led.parityBad.filter (fun a => decide (a < 0xC0000) || decide (0xC0040 ≤ a)) } } : State).apart ∧
       Answered p 0x0903 .ok (leBytes 4 (s.clk.periodSeq + 1)) s t))

/-! ### Caravans (R241 to R262) -/

/-- Caravans. CARAVAN_OPEN with an id that is not held takes a record, which is Open from then on with its timeout; the records
beside it stay; the reserved id 0xFFFF is answered BAD_PARAM (R8, R241 to R244). A member packet that passes its checks is staged
in the Open record it names, its items behind the others or merged with those of their object, and changes nothing else; a record
whose items would exceed 1,024 refuses it (R245 to R247). CARAVAN_COMMIT of an Open record commits it for its edge, and
CARAVAN_ABORT of one ends it (R250, R251, R258, R259). -/
def Obligations.CaravanLife : Prop :=
  (∀ (p : Packet) (s : State) (id k : Nat), s.ready p = true → s.calm = true → p.payload.length = 16 → id = field p.payload 0 2 → k < 4 →
    (id ≠ 0 → id ≠ 0xFFFF → zeros p.payload 4 12 = true → idHeld s id = false → openRecord s id = some k →
      ∃ t, exec (.caravanOpen p) s = .next t ∧ (t.cvn.recs.get k).st = .open_ ∧ (t.cvn.recs.get k).id.toNat = id ∧
        (t.cvn.recs.get k).items = [] ∧ (t.cvn.recs.get k).timeout = (if field p.payload 2 2 = 0 then 256 else field p.payload 2 2) ∧
        (t.cvn.recs.get k).lastArr = s.clk.stage ∧ (∀ j, j ≠ k → t.cvn.recs.get j = s.cvn.recs.get j) ∧ t.apart = s.apart) ∧
    (memberAhead s p id = false → cvnFind s id = some k → (s.cvn.recs.get k).st = .open_ → commitLegal s p.payload = true →
      ((field p.payload 2 1).testBit 0 = true → firstEdge s ≤ field p.payload 4 6) → ∃ t, exec (.caravanCommit p) s = .next t ∧
        (t.cvn.recs.get k).st = .committed ∧ (t.cvn.recs.get k).items = (s.cvn.recs.get k).items ∧ (t.cvn.recs.get k).tag = some p ∧
        (t.cvn.recs.get k).edge = (if (field p.payload 2 1).testBit 0 then field p.payload 4 6 else firstEdge s) ∧
        (t.cvn.recs.get k).bind = (if (field p.payload 2 1).testBit 1 then some (field p.payload 3 1) else none) ∧
        (∀ j, j ≠ k → t.cvn.recs.get j = s.cvn.recs.get j) ∧ t.apart = s.apart) ∧
    (memberAhead s p id = false → cvnFind s id = some k → (s.cvn.recs.get k).st = .open_ → zeros p.payload 2 14 = true → id ≠ 0xFFFF →
      ∃ t, exec (.caravanAbort p) s = .next t ∧ (t.cvn.recs.get k).st = .aborted ∧ (t.cvn.recs.get k).items = [] ∧
        (t.cvn.recs.get k).cause = 1 ∧ (∀ j, j ≠ k → t.cvn.recs.get j = s.cvn.recs.get j) ∧ Answered p 0x0404 .ok [] s t ∧
        t.apart = s.apart) ∧
    (memberAhead s p id = false → id = 0xFFFF → (∃ t, exec (.caravanAbort p) s = .next t ∧ Answered p 0x0404 .badParam [] s t ∧
        t.apart = s.apart) ∧
      ∀ op, ∃ t, exec (.caravanMember p op id) s = .next t ∧ Answered p op .badParam [] s t ∧ t.apart = s.apart)) ∧
  (∀ (p : Packet) (op id k : Nat) (s : State) (items : List Item), s.ready p = true → s.calm = true → k < 4 → id ≠ 0xFFFF →
    mayJoin op p.payload = true → firstFail (memberChecks s op p.payload) = none → cvnFind s id = some k →
    (s.cvn.recs.get k).st = .open_ →
    items = (memberActs op p.payload).foldl (fun is a => stageItem { opcode := op, act := a } is) (s.cvn.recs.get k).items →
    (items.length ≤ 1024 → ∃ t, exec (.caravanMember p op id) s = .next t ∧ (t.cvn.recs.get k).items = items ∧
      (t.cvn.recs.get k).st = .open_ ∧ (t.cvn.recs.get k).lastArr = s.clk.stage ∧ (∀ j, j ≠ k → t.cvn.recs.get j = s.cvn.recs.get j) ∧
      Answered p op .ok
        (leBytes 2 id ++ leBytes 2 (items.length - (s.cvn.recs.get k).items.length) ++ leBytes 2 items.length) s t ∧ t.apart = s.apart) ∧
    (1024 < items.length → ∃ t, exec (.caravanMember p op id) s = .next t ∧ (t.cvn.recs.get k).st = .aborted ∧
      (t.cvn.recs.get k).cause = 3 ∧ Answered p op .badParam [] s t ∧ t.apart = s.apart))

/-- Time ends caravans: an Open record past its timeout is aborted with cause 6; a commit of cycle 0 of p15 meets the cut-off of
the coming edge, and one of a later cycle the next; the check of p15 applies nothing, and with no record committed it changes no
record (R244, R251, R252, R260). -/
def Obligations.CaravanTime : Prop :=
  ∀ s : State,
    (∀ k, k < 4 → s.calm = true → (s.cvn.recs.get k).st = .open_ → (s.cvn.recs.get k).lastArr + (s.cvn.recs.get k).timeout ≤ s.clk.stage →
      s.evt.fresh = [] → s.clk.p0Pending = false → ∃ t, exec (.caravanOpenTimeout k) s = .next (tick t) ∧ (t.cvn.recs.get k).st = .aborted ∧
        (t.cvn.recs.get k).cause = 6 ∧ (∀ j, j ≠ k → t.cvn.recs.get j = s.cvn.recs.get j) ∧ (∃ d, Raised 0x0420 0 d t) ∧ t.apart = s.apart) ∧
    (s.clk.running = true → s.clk.pace = 15 → s.clk.p0Pending = false → s.clk.now = s.clk.paceStart → s.clk.now + 1 < s.paceEnd →
      firstEdge s = s.clk.stage + 1 ∧ ∃ t, exec .caravanCutoff s = .next (tick t) ∧
      firstEdge (tick t) = s.clk.stage + 2 ∧ t.apart = s.apart) ∧
    (∀ u, s.clk.running = true → s.clk.pace = 15 → s.clk.p0Pending = false → reach (s.clk.paceStart + 1) s = some u →
      ∃ t, exec .caravanEdgeCheck s = .next t ∧ t.apart = u.apart ∧
        (s.calm = true → (∀ k, k < 4 → (s.cvn.recs.get k).st ≠ .committed) → t.cvn = s.cvn))

/-! ### Convoys (R315 to R338) -/

/-- CONVOY_JOIN that passes its checks begins the alignment and holds its command; a level beyond the part's grade is denied,
naming the level, with no effect; a join that is not done by its deadline ends with DEADLINE_MISSED (R322 to R324). A leave waits
for its edge; a proposal of the host, the clearing of a skew and the drop of a child are taken and answered with the proposal and
the children (R336, R337). -/
def Obligations.ConvoyCommands : Prop :=
  ∀ s : State,
    (∀ p : Packet, s.ready p = true → p.payload.length = 48 → joinLegal p.payload = true → joinGrade s p.payload = none →
      s.cvy.st = .notJoined → s.seq.pend = none → (s.lvl s.seq.level).boost = false → (∀ c, s.seq.fixed ≠ .code c) →
      s.man.st ≠ .running → caravanHeld s = false → ∃ t, exec (.convoyJoin p) s = .next t ∧
        t.cvy.st = .aligning ∧ t.cvy.id = field p.payload 0 2 ∧ t.cvy.role = field p.payload 2 1 ∧ t.cvy.depth = field p.payload 3 1 ∧
        t.cvy.children = BitVec.ofNat 8 (field p.payload 4 1) ∧ t.cvy.join = some p ∧ t.cvy.codes = joinCodes p.payload ∧
        (field p.payload 2 1 ≠ 0 → t.cvy.step = 1 ∧ t.seq.table = s.seq.table) ∧
        t.apart = ({ s with cvy := t.cvy, seq := { s.seq with table := t.seq.table } } : State).apart) ∧
    (∀ (p : Packet) k, s.ready p = true → p.payload.length = 48 → joinLegal p.payload = true → joinGrade s p.payload = some k →
      ∃ t, exec (.convoyJoin p) s = .next t ∧ t.apart = s.apart ∧
        Answered p 0x0701 .admissionDenied (leBytes 2 (field p.payload 0 2) ++ [1, BitVec.ofNat 8 k]) s t) ∧
    (∀ p, s.cvy.st = .aligning → s.cvy.step < 4 → s.cvy.joinDue ≤ s.clk.stage → s.cvy.join = some p → s.cvy.oldTable = none →
      s.clk.p0Pending = false → ∃ t, exec .convoyJoinTimeout s = .next (tick t) ∧ t.cvy.st = .notJoined ∧ t.cvy.id = 0 ∧ t.cvy.join = none ∧
        Answered p 0x0701 .deadlineMissed (joinData s 2 0xFF 0) s t ∧ t.apart = ({ s with cvy := t.cvy } : State).apart) ∧
    (∀ p : Packet, s.ready p = true →
      (p.payload = [] → s.cvy.st ≠ .notJoined → s.cvy.kids = 0 → ∃ t, exec (.convoyLeave p) s = .next t ∧
        t.apart = (s.updCvy (fun c => { c with leave := c.leave ++ [p] })).apart) ∧
      (p.payload.length = 16 → zeros p.payload 2 14 = true → cvyIn s = true →
        (field p.payload 0 1 = 0 → field p.payload 1 1 ≤ 15 ∨ field p.payload 1 1 = 0xFF → ∃ t, exec (.convoyHostProposal p) s = .next t ∧
          t.apart = (s.updCvy (fun c => { c with
            hostProp := if field p.payload 1 1 = 0xFF then none else some (field p.payload 1 1) })).apart ∧
          Answered p 0x0703 .ok [BitVec.ofNat 8 (field p.payload 1 1), BitVec.ofNat 8 s.cvy.kids.toNat] s t) ∧
        (field p.payload 0 1 = 1 → field p.payload 1 1 = 0 → s.cvy.st = .skewed → ∃ t, exec (.convoyClearSkew p) s = .next t ∧
          t.apart = (s.updCvy (fun c => { c with clearSkew := true })).apart ∧ Answered p 0x0703 .ok (proposeData s) s t) ∧
        (field p.payload 0 1 = 2 → field p.payload 1 1 ∈ kidsOf s → ∃ t, exec (.convoyDropPort p) s = .next t ∧
          t.apart = (s.updCvy (fun c => { c with dropPorts := setKid c.dropPorts (field p.payload 1 1) true })).apart ∧
          Answered p 0x0703 .ok (proposeData s) s t)))

/-- Messages that align a convoy (R317 to R319, R323): a SYNC gives the offset from the root's edge and the root's level, and goes
on to the children; an echo request is answered on its port; an echo answer is counted; children join and leave. Messages by which
a convoy agrees on a level (R327 to R332): a child's report is kept; ANNOUNCE, CANCEL and PRIO_ANNOUNCE go on to the children and
are taken; an acknowledgement is kept; a priority request is kept by the root and goes on towards it elsewhere. -/
def Obligations.ConvoyMessages : Prop :=
  (∀ (m : ConvoyMsg) (s : State),
     (Hears 0x01 m s → (s.cvy.st = .aligning → 2 ≤ s.cvy.step) → ∃ t, exec (.sync m) s = .next t ∧
       (∀ d, d = clampI (-32768) 32767 (offsetOf s ((s.clk.now : Int) - (m.body 10 4 + s.cvy.lat : Nat))).1 →
         t.cvy = { s.cvy with gotSync := true, hasDelta := true, delta := d, syncLevel := m.body 14 1
                              syncPend := if m.body 15 1 = 0xFF then none else some (m.body 15 1, m.body 16 6)
                              loadStage := t.cvy.loadStage }) ∧
       (∀ q ∈ portsOf s.cvy.children, ∃ b, Output.chiene q true b ∈ t.out) ∧ t.apart = ({ s with cvy := t.cvy } : State).apart) ∧
     (Hears 0x02 m s → ∃ t, exec (.echoReq m) s = .next t ∧ t.apart = s.apart ∧
       Output.chiene m.port true (cvyMsg s 0x03 0 0 (slice m.bytes 10 2 ++ leBytes 4 0)) ∈ t.out) ∧
     (∀ e, Hears 0x03 m s → s.cvy.echoAt.find? (fun e => e.1 == m.body 10 2) = some e → s.cvy.st = .aligning → s.cvy.step = 1 →
       ∃ t, exec (.echoRsp m) s = .next t ∧ t.cvy.echoGot = s.cvy.echoGot + 1 ∧
         t.cvy.echoSum = s.cvy.echoSum + ((s.clk.now : Int) - (e.2 : Nat)) - (m.body 12 4 : Nat) ∧
         t.cvy.step = (if s.cvy.echoGot + 1 = 16 then 2 else 1) ∧ t.cvy.st = .aligning ∧ t.apart = ({ s with cvy := t.cvy } : State).apart) ∧
     (Hears 0x04 m s → ∃ t, exec (.joined m) s = .next t ∧
       t.apart = (s.updCvy (fun c => { c with kids := setKid c.kids m.port true })).apart) ∧
     (Hears 0x05 m s → ∃ t, exec (.left m) s = .next t ∧ t.cvy.kids = setKid s.cvy.kids m.port false ∧ t.cvy.st = s.cvy.st ∧
       t.apart = ({ s with cvy := t.cvy } : State).apart)) ∧
  (∀ (m : ConvoyMsg) (s : State),
     (Hears 0x06 m s → cvyIn s = true → m.port ∈ kidsOf s → m.stage = s.clk.stage - s.clk.stage % 64 →
       (∀ r ∈ s.cvy.reports, r.1 ≠ m.port) → ∃ t, exec (.up m) s = .next t ∧
         (∃ u : CvyUp, t.cvy.reports = s.cvy.reports ++ [(m.port, u)] ∧ u.prop = m.body 10 1 ∧ u.count = m.body 18 2) ∧
         t.cvy.st = s.cvy.st ∧ t.apart = ({ s with cvy := t.cvy } : State).apart) ∧
     (Hears 0x07 m s → cvyActs s = true → ∃ t, exec (.announce m) s = .next t ∧ t.cvy.annLevel = m.body 10 1 % 16 ∧
       t.cvy.annT = m.stage ∧ t.cvy.annFor = some m.stage ∧ t.cvy.acks = [] ∧
       (∀ q ∈ portsOf s.cvy.children, Output.chiene q m.prio m.bytes ∈ t.out) ∧
       t.apart = ({ s with cvy := t.cvy, gov := { s.gov with postedUp := t.gov.postedUp }, seq := { s.seq with
         noDone := t.seq.noDone, fvHold := t.seq.fvHold, fvFixed := t.seq.fvFixed } } : State).apart) ∧
     (Hears 0x08 m s → s.cvy.annFor = some m.stage → m.port ∈ kidsOf s → (∀ a ∈ s.cvy.acks, a.1 ≠ m.port) →
       ∃ t, exec (.ack m) s = .next t ∧ t.cvy.acks = s.cvy.acks ++ [(m.port, m.body 10 2)] ∧ t.cvy.annFor = some m.stage ∧
         t.cvy.st = s.cvy.st ∧ t.apart = ({ s with cvy := t.cvy } : State).apart) ∧
     (Hears 0x09 m s → cvyActs s = true → s.evt.fresh = [] → ∃ t, exec (.cancel m) s = .next t ∧ t.cvy.annFor = none ∧
       t.cvy.cancels = min 65535 (s.cvy.cancels + 1) ∧ (∃ d, Raised 0x0720 0 d t) ∧
       (∀ q ∈ portsOf s.cvy.children, Output.chiene q m.prio m.bytes ∈ t.out) ∧
       t.apart = ({ s with cvy := t.cvy, gov := { s.gov with postedUp := t.gov.postedUp } } : State).apart) ∧
     (Hears 0x0A m s → ∃ t, exec (.prioReq m) s = .next t ∧
       (s.cvy.role = 0 → t.apart = (s.updCvy (fun c => { c with prioReqs := c.prioReqs ++ [(m.body 10 1, m.body 11 1)] })).apart) ∧
       (s.cvy.role ≠ 0 → t.apart = s.apart ∧ Output.chiene 0 true m.bytes ∈ t.out)) ∧
     (Hears 0x0B m s → cvyActs s = true → ∃ t, exec (.prioAnnounce m) s = .next t ∧
       t.cvy.prioNext = some (m.stage, m.body 10 1, m.body 11 1) ∧
       (∀ q ∈ portsOf s.cvy.children, Output.chiene q m.prio m.bytes ∈ t.out) ∧
       t.apart = ({ s with cvy := t.cvy, gov := { s.gov with postedUp := t.gov.postedUp }, seq := { s.seq with
         noDone := t.seq.noDone, fvHold := t.seq.fvHold, fvFixed := t.seq.fvFixed } } : State).apart))

/-- The convoy's own moments (R321, R325 to R331). CONVOY_CHECKPOINT takes this chip's check and proposal, and sends the report up
where no child is silent. CONVOY_UP_DEADLINE sends it up without the silent children, and ROOT_ANNOUNCE, when all children have
reported or their time is over, announces the level the reports ask for, or holds the level where a child is short or skewed.
CONVOY_ACK_DEADLINE cancels at the root for want of an acknowledgement, and CONVOY_SYNC_LOSS is the loss of SYNC. -/
def Obligations.ConvoyMoments : Prop :=
  ∀ s : State, cvyIn s = true →
    (s.clk.stage % 64 = 8 → s.cvy.cpDone = false → ∃ t, exec .convoyCheckpoint s = .next t ∧ t.cvy.cpDone = true ∧
      t.cvy.skewT = s.clk.stage - 8 ∧ t.cvy.own = lvchk s s.seq.level s.seq.code ∧ t.cvy.prop = proposal s ∧ t.cvy.st = s.cvy.st ∧
      (s.cvy.role = 0 ∨ silentKids s ≠ [] → t.cvy.checked = true) ∧
      (s.cvy.role ≠ 0 → silentKids s = [] → t.cvy.checked = false ∧ ∃ b, Output.chiene 0 false b ∈ t.out) ∧
      t.apart = ({ s with cvy := t.cvy } : State).apart) ∧
    (∀ u : State, s.cvy.checked = true → s.clk.p0Pending = false →
      (s.cvy.role ≠ 0 → (if 9 < s.clk.stage % 64 then u = s else reach (cvyDeadline s ((6 - s.cvy.depth) * 2560)) s = some u) →
        ∃ t, exec .convoyUpDeadline s = .next (tick t) ∧ t.cvy.checked = false ∧ t.cvy.st = s.cvy.st ∧
          (∀ r : CvyUp, r = cvyReport s (!(silentKids s).isEmpty) → Output.chiene 0 false (cvyMsg s 0x06 (if r.short then 1 else 0) s.cvy.skewT
            ([BitVec.ofNat 8 r.prop, BitVec.ofNat 8 r.lmin, BitVec.ofNat 8 r.lmax, 0] ++ leBytes 2 r.cmin ++ leBytes 2 r.cmax
              ++ leBytes 2 r.count ++ leBytes 2 r.skewed)) ∈ t.out) ∧
          t.apart = ({ u with cvy := t.cvy } : State).apart) ∧
      (s.cvy.role = 0 → (if 9 < s.clk.stage % 64 then u = s else silentKids s = [] ∨ reach (cvyDeadline s (6 * 2560)) s = some u) →
        (silentKids s = [] → u = s) → ∀ r : CvyUp, r = cvyReport s (!(silentKids s).isEmpty) →
        ∃ t, exec .rootAnnounce s = .next (if silentKids s = [] then t else tick t) ∧ t.cvy.checked = false ∧
          t.cvy.annT = s.cvy.skewT + 64 ∧ t.cvy.annFor = some (s.cvy.skewT + 64) ∧
          t.cvy.annLevel = (if r.short = true ∨ r.skewed ≠ 0 then s.seq.level else r.prop % 16) % 16 ∧
          (r.cmin = expChk s → r.cmax = expChk s → ∀ q ∈ portsOf s.cvy.children,
            Output.chiene q false (cvyMsg s 0x07 (if r.short = true ∨ r.skewed ≠ 0 then 1 else 0) (s.cvy.skewT + 64)
              ([BitVec.ofNat 8 (if r.short = true ∨ r.skewed ≠ 0 then s.seq.level else r.prop % 16), 0] ++ leBytes 2 (expChk s)
                ++ leBytes 2 r.count)) ∈ t.out) ∧
          t.apart = ({ u with cvy := t.cvy, gov := { s.gov with postedUp := t.gov.postedUp }, seq := { s.seq with
            noDone := t.seq.noDone, fvHold := t.seq.fvHold, fvFixed := t.seq.fvFixed } } : State).apart)) ∧
    (∀ e port, s.cvy.annFor = some e → s.cvy.role = 0 → e ≤ s.clk.stage + 8 →
      (kidsOf s).find? (fun p => !s.cvy.acks.any (fun a => a.1 == p)) = some port → s.evt.fresh = [] → s.clk.p0Pending = false →
      ∃ t, exec .convoyAckDeadline s = .next (tick t) ∧ t.cvy.annFor = none ∧ t.cvy.cancels = min 65535 (s.cvy.cancels + 1) ∧
        (∃ d, Raised 0x0720 port d t) ∧
        (∀ q ∈ portsOf s.cvy.children,
          Output.chiene q true (cvyMsg s 0x09 0 e (leBytes 2 ((s.cvy.acks.foldl (fun a x => a + x.2) 1) % 65536))) ∈ t.out) ∧
        t.apart = ({ s with cvy := t.cvy, gov := { s.gov with postedUp := t.gov.postedUp } } : State).apart) ∧
    (s.cvy.role ≠ 0 → (4 ≤ s.cvy.noSync ∧ s.cvy.gotSync = false) ∨ (s.cvy.hasDelta = true ∧ 100 < s.cvy.delta.natAbs) → s.evt.fresh = [] →
      s.clk.p0Pending = false → ∃ t, exec .convoySyncLoss s = .next (tick t) ∧
        t.apart = (s.updCvy (fun c => { c with st := .lost, checked := false, ackOpen := false })).apart ∧
        Raised 0x0711 0 [BitVec.ofNat 8 s.cvy.st.code] t)

/-! ### The command interface (R42, R369 to R388, R452 to R455) -/

/-- A doorbell, and GO, while the control island is up (R372, R376, R452): during a warm reset they are held; otherwise a new TAIL
covers the slots up to it, and GO takes the mailbox's words as an urgent command, or is dropped while BUSY. Slots and payloads
(R372, R373, R378): fetched slots wait to be taken; the oldest, if it may be taken, leaves the ring for the commands in flight
with what it spells; an indirect payload that arrives whole is held by its command (R377). -/
def Obligations.CommandPath : Prop :=
  (∀ (s : State), s.islandUp = true →
     (∀ tail, s.sys.warmLow = true → ∃ t, exec (.commandDoorbell tail) s = .next t ∧
       t.apart = ({ s with sys := { s.sys with heldDoorbell := some (tail % 256) } } : State).apart) ∧
     (∀ tail, s.sys.warmLow = false → tail % 256 ≠ s.cmd.cmdTail → ∃ t, exec (.commandDoorbell tail) s = .next t ∧
       t.cmd.cmdTail = tail % 256 ∧ t.cmd.covered.map Prod.fst = slotsTo s.cmd.cmdHead (tail % 256) ∧ t.cmd.cmdHead = s.cmd.cmdHead ∧
       t.apart = ({ s with cmd := t.cmd } : State).apart) ∧
     (s.sys.warmLow = true → ∃ t, exec .mailboxGo s = .next t ∧
       t.apart = ({ s with sys := { s.sys with heldGo := true } } : State).apart) ∧
     (s.sys.warmLow = false → s.cmd.mbxBusy = true → ∃ t, exec .mailboxGo s = .next t ∧
       t.apart = ({ s with cmd := { s.cmd with mbxDrop := true } } : State).apart) ∧
     (s.sys.warmLow = false → s.cmd.mbxBusy = false → s.calm = true → (takenOf .mailbox s.clk.stage (some (ofWords s.cmd.mbxCmd.val))).fails = none →
       ∃ t, exec .mailboxGo s = .next t ∧ t.cmd.mbxBusy = true ∧
         (∃ f ∈ t.cmd.inflight, f.org = .mailbox ∧ f.seq = field (ofWords s.cmd.mbxCmd.val) 4 2 ∧
           f.opcode = field (ofWords s.cmd.mbxCmd.val) 0 2 ∧ f.urgent = true ∧ f.effect = .taken ∧ f.since = s.clk.stage) ∧
         t.apart = ({ s with cmd := { s.cmd with asked := t.cmd.asked }, fw := { s.fw with irq := t.fw.irq } } : State).apart)) ∧
  (∀ s : State,
     (∀ slots, s.islandUp = true → ∃ t, exec (.commandSlotFetchDone slots) s = .next t ∧
       t.apart = ({ s with cmd := { s.cmd with fetched := s.cmd.fetched ++
         (slots.take (s.cmd.asked - s.cmd.fetched.length)).map (fun x => x.map (fun b => (padTo 64 b).take 64)) } } : State).apart) ∧
     (∀ b rest k since cov, s.cmd.fetched = some b :: rest → s.cmd.covered = (k, since) :: cov → mayTake s = true → s.calm = true →
       (takenOf (.ring k) since (some b)).fails = none → ∃ t, exec .commandSlotTake s = .next t ∧
         (∃ f ∈ t.cmd.inflight, f.org = .ring k ∧ f.seq = field b 4 2 ∧ f.opcode = field b 0 2 ∧ f.since = since ∧ f.effect = .taken ∧
           f.urgent = (field b 2 1).testBit 2) ∧
         t.apart = ({ s with
           cmd := { s.cmd with fetched := rest, covered := cov, cmdHead := (k + 1) % 256, asked := t.cmd.asked
                               lateSlots := s.cmd.lateSlots.filter (fun x => x != k) }
           fw := { s.fw with irq := t.fw.irq } } : State).apart ∧ t.fw.irq.getLsbD 2 = true) ∧
     (∀ o data f addr n crc, f ∈ s.cmd.inflight → f.org = o → f.desc = some (addr, n, crc) → f.asked = true → s.calm = true →
       data.length = n → (crc32c data).toNat = crc → f.opcode ≠ 0x0302 → (∀ g ∈ s.cmd.inflight, g.org = o → g = f) →
       ∃ t, exec (.indirectPayloadFetchDone o (some data)) s = .next t ∧
         (∃ g ∈ t.cmd.inflight, g.org = o ∧ g.seq = f.seq ∧ g.payload = data ∧ g.desc = none ∧ g.fails = none) ∧
         t.apart = s.apart))

/-- Rings (R42, R371, R374, R385, R387): the oldest held reply leaves for the open reply ring; the oldest event enters its ring
and is signalled; a command past its deadline is reported once, with the REPLY bit; enabling a ring zeroes its indices; a clear of
RAIL acknowledges the window faults. -/
def Obligations.Rings : Prop :=
  ∀ s : State,
    (∀ r rest, s.cmd.hold = r :: rest → s.rplOpen = true → ∃ t, exec .replyHoldDrain s = .next t ∧
      (∃ q : DmaReq, q.op = .write ∧ q.addr = rplBase s + 64 * (s.cmd.rplHead / 2) ∧ q.beats = 1 ∧ q.data = r.bytes s.clk.stage ∧
        Output.reply s.cmd.rplHead (r.bytes s.clk.stage) q ∈ t.out) ∧ t.cmd.hold = rest ∧ t.apart = s.apart) ∧
    (∀ e q, s.evt.queue = e :: q → s.evt.reserved = none → s.evt.lost = 0 → s.evtOpen = true →
      (s.cmd.evtHead + 1) % 1024 ≠ s.cmd.evtTail → ∃ t, exec .eventRingWrite s = .next t ∧
        (∃ r : DmaReq, r.op = .write ∧ r.addr = evtBase s + 64 * (s.cmd.evtHead / 2) ∧ r.beats = 1 ∧ r.data = e.bytes s.clk.stage ∧
          Output.event s.cmd.evtHead (e.bytes s.clk.stage) r ∈ t.out) ∧
        (isUrgent e.code = true → Output.vector 1 ∈ t.out) ∧
        (isUrgent e.code = false → (∀ x ∈ q, x.moment = e.moment → isUrgent x.code = false) → Output.vector 2 ∈ t.out) ∧
        t.apart = ({ s with cmd := { s.cmd with evtHead := (s.cmd.evtHead + 1) % 1024 } } : State).apart) ∧
    (∀ o, s.clk.p0Pending = false → (∃ f ∈ s.cmd.inflight, f.org = o ∧ f.late = false ∧ ∃ d, f.due = some d ∧ d ≤ s.clk.stage) →
      ∃ t, exec (.replyDeadlineExpiry o) s = .next (tick t) ∧ t.dl.status.getLsbD 2 = true ∧
        t.apart = ({ s with dl := t.dl } : State).apart) ∧
    (∀ k, s.clk.p0Pending = false → (∀ f ∈ s.cmd.inflight, f.org ≠ .ring k) → slotLate s k = true →
      ∃ t, exec (.replyDeadlineExpiry (.ring k)) s = .next (tick t) ∧ t.dl.status.getLsbD 2 = true ∧
        t.apart = ({ s with dl := t.dl, cmd := { s.cmd with lateSlots := k :: s.cmd.lateSlots } } : State).apart) ∧
    (∀ w : BitVec 32, s.islandUp = true → ∃ t, exec (.ringControlWrite w) s = .next t ∧ t.cmd.cmdEn = w.getLsbD 0 ∧
      t.cmd.rplEn = w.getLsbD 1 ∧ t.cmd.evtEn = w.getLsbD 2 ∧
      (w.getLsbD 0 = true → s.cmd.cmdEn = false → t.cmd.cmdHead = 0 ∧ t.cmd.cmdTail = 0) ∧
      (w.getLsbD 2 = true → s.cmd.evtEn = false → t.cmd.evtHead = 0 ∧ t.cmd.evtTail = 0) ∧
      t.cmd.cmdLo = s.cmd.cmdLo ∧ t.cmd.evtLo = s.cmd.evtLo ∧ t.apart = ({ s with cmd := t.cmd } : State).apart) ∧
    (∀ w : BitVec 32, s.islandUp = true → ∃ t, exec (.eventCauseClear w) s = .next t ∧
      (clears s 0x1040 w = w → w.getLsbD 2 = true → ∀ r, r < 4 → (t.rail r).faultAcked = ((s.rail r).faultAcked || (s.rail r).windowFault)) ∧
      (w.getLsbD 2 = false → t.rails = s.rails) ∧ t.apart = ({ s with rails := t.rails } : State).apart)

/-- The register window (R40, R69, R363, R371, R454): reading BRX_STAGE_LO latches the upper bits of the counter, which
BRX_STAGE_HI then shows; reading a ledger's LO latches its HI; a write to the aperture is discarded; SCRATCH holds what is
written; a ring's base accepts writes only while the ring is disabled; a write to the read-only BRX_STAGE_LO changes nothing; a
read of the aperture shows the word of Ledger RAM; an access that is not 32 bits wide and aligned reads 0, or is ignored. -/
def Obligations.RegisterWindow : Prop :=
  ∀ s : State, s.islandUp = true →
    (∃ t, exec .stageLoRead s = .next t ∧
      t.apart = ({ s with clk := { s.clk with hiLatch := s.clk.stage / 2 ^ 32 % 65536, lastRead := regRead s 0x100 } } : State).apart ∧
      regRead t 0x104 = BitVec.ofNat 32 (s.clk.stage / 2 ^ 32 % 65536)) ∧
    (∀ k, k < 264 → ∃ t, exec (.ledgerLoRead ⟨k, 4⟩) s = .next t ∧
      (∀ lo, lo = regRead s (0x30000 + 8 * k) → t.apart = ({ s with
        clk := { s.clk with lastRead := lo }
        en := { s.en with hi := s.en.hi.set k (s.en.mirrors.get k / 2 ^ 32) } } : State).apart)) ∧
    (∀ off upset, off < 0x100000 → off % 4 = 0 → ∃ t, exec (.apertureRead ⟨off, 4⟩ upset) s = .next t ∧
      t.apart = ({ s with clk := { s.clk with lastRead := BitVec.ofNat 32 (leNat (ramLoad s off 4)) }
                          led := { s.led with parityBad := t.led.parityBad, parityErrs := t.led.parityErrs } } : State).apart) ∧
    (∀ off w, off % 4 = 0 → off < 0x100000 → ∃ t, exec (.apertureWrite ⟨off, 4⟩ w) s = .next t ∧ t.apart = s.apart) ∧
    (∀ off size k upset, size ≠ 4 ∨ off % 4 ≠ 0 →
      (∀ w, exec (.registerWrite ⟨off, size⟩ w) s = .next s ∧ exec (.apertureWrite ⟨off, size⟩ w) s = .next s) ∧
      (off < 0x100000 → ∃ t, exec (.apertureRead ⟨off, size⟩ upset) s = .next t ∧
        t.apart = ({ s with clk := { s.clk with lastRead := 0 } } : State).apart) ∧
      (size ≠ 4 → hostRead 0x100 size s = { s with clk := { s.clk with lastRead := 0 } } ∧
        (k < 264 → ∃ t, exec (.ledgerLoRead ⟨k, size⟩) s = .next t ∧
          t.apart = ({ s with clk := { s.clk with lastRead := 0 } } : State).apart))) ∧
    (∀ w : BitVec 32,
      (∃ t, exec (.registerWrite ⟨0x40, 4⟩ w) s = .next t ∧ t.apart = ({ s with sys := { s.sys with scratch := w } } : State).apart) ∧
      (s.cmd.cmdEn = true → ∃ t, exec (.registerWrite ⟨0x1000, 4⟩ w) s = .next t ∧ t.apart = s.apart) ∧
      (s.cmd.cmdEn = false → ∃ t, exec (.registerWrite ⟨0x1000, 4⟩ w) s = .next t ∧
        t.apart = ({ s with cmd := { s.cmd with cmdLo := w &&& 0xFFFFF000#32 } } : State).apart) ∧
      (∃ t, exec (.registerWrite ⟨0x100, 4⟩ w) s = .next t ∧ t.apart = s.apart))

/-- System commands (R388, R393, R399): ARM and its disarm wait for the next cycle 0 of a pace and then arm or disarm what they
name; SET_EVENT_MASK changes the masks from the next cycle; DIAG_READ_TRACE writes the records to the host, and their completion
answers it. -/
def Obligations.SystemCommands : Prop :=
  (∀ (p : Packet) (s : State), s.ready p = true →
    (p.payload.length = 32 → armLegal 0 p.payload = true → ∃ t, exec (.arm p) s = .next t ∧ t.apart =
      (s.awaiting p 0x0104 [.arm (field p.payload 1 1) (field p.payload 2 1) (field p.payload 3 1) (field p.payload 4 18)]).apart) ∧
    (p.payload.length = 32 → armLegal 1 p.payload = true → ∃ t, exec (.disarm p) s = .next t ∧ t.apart =
      (s.awaiting p 0x0104 [.disarm (field p.payload 1 1) (field p.payload 4 18)]).apart) ∧
    (∀ op m cs u, p.payload.length = 48 → maskLegal s p.payload = true → op = field p.payload 0 1 → m = field p.payload 2 2 →
      cs = maskCodes p.payload → u = fallNow (.masks op m cs) s →
      (op = 0 → u.evt.catMask = BitVec.ofNat 16 m ∧ u.evt.codes = s.evt.codes) ∧
      (op = 3 → u.evt.catMask = 0 ∧ u.evt.codes = []) ∧
      (op = 1 → u.evt.catMask = s.evt.catMask ∧ ∀ c, c ∈ u.evt.codes ↔ c ∈ s.evt.codes ∨ c ∈ cs) ∧
      (op = 2 → u.evt.catMask = s.evt.catMask ∧ ∀ c, c ∈ u.evt.codes ↔ c ∈ s.evt.codes ∧ c ∉ cs) ∧
      u.apart = ({ s with evt := u.evt } : State).apart ∧ ∃ t, exec (.setEventMask p) s = .next t ∧
      Answered p 0x0105 .ok (leBytes 2 u.evt.catMask.toNat ++ [BitVec.ofNat 8 u.evt.codes.length]) s t ∧
      t.apart = ({ s with clk := { s.clk with soon := s.clk.soon ++ [{ due := s.clk.now + 1, what := .masks op m cs }] } } : State).apart) ∧
    (∀ a k, p.payload.length = 16 → field p.payload 0 8 % 64 = 0 → 1 ≤ field p.payload 12 2 → field p.payload 12 2 ≤ 8192 →
      (field p.payload 8 4 ≠ 0xFFFFFFFF → field p.payload 8 4 ≤ s.trc.next) → zeros p.payload 14 2 = true → s.fbOk = true →
      traceSpan s (field p.payload 8 4) (field p.payload 12 2) = (a, k) → k ≠ 0 → ∃ t, exec (.diagReadTrace p) s = .next t ∧
        (∃ r, Output.dma r ∈ t.out ∧ r.op = .write ∧ r.addr = field p.payload 0 8) ∧
        t.apart = ({ s with cmd := { s.cmd with
          traceReq := s.cmd.traceReq ++ [{ pkt := p, first := a, count := k, next := s.trc.next }] } } : State).apart)) ∧
  (∀ (s : State) c rest, s.cmd.traceReq = c :: rest → ∃ t, exec .traceCopyDone s = .next t ∧
    t.apart = ({ s with cmd := { s.cmd with traceReq := rest } } : State).apart ∧
    Answered c.pkt 0x0B01 .ok (leBytes 4 c.first ++ leBytes 2 c.count ++ leBytes 4 c.next) s t) ∧
  (∀ (se m n : Nat) (s : State), n < 144 →
    ((applyAct se (.arm 2 0 0 m) s).cluster n).k.armDrone = (m.testBit n || (s.cluster n).k.armDrone) ∧
    ((applyAct se (.disarm 2 m) s).cluster n).k.armDrone = (!m.testBit n && (s.cluster n).k.armDrone) ∧
    (applyAct se (.arm 3 0 0 m) s).sys.armSensorTrip = true ∧ (applyAct se (.arm 4 0 0 m) s).sys.armChipDrone = true ∧
    (applyAct se (.disarm 3 m) s).sys.armSensorTrip = false ∧ (applyAct se (.disarm 4 m) s).sys.armChipDrone = false)

/-! ### Firmware and its core (R392, R415 to R425, R439 to R444) -/

/-- LOAD_FIRMWARE that passes its checks waits for the next stage edge (R392, R422). A fetch that fails, an image that is not
authentic, one whose epoch the fuses bar, and a load beyond its deadline end it with their results; an image that passes is ready
to start (R421, R422). -/
def Obligations.FirmwareLoad : Prop :=
  ∀ s : State,
    (∀ p : Packet, s.ready p = true → p.payload.length = 16 → 1024 ≤ field p.payload 8 4 → field p.payload 8 4 ≤ 524288 →
      field p.payload 0 8 % 64 = 0 → zeros p.payload 12 4 = true → s.fbOk = true → s.dbg.unlocked = false → s.fw.load = none →
      caravanHeld s = false →
      ∀ f : FwLoad, f = { pkt := p, addr := field p.payload 0 8, len := field p.payload 8 4, due := replyDue p 4096 s } →
      ∃ t, exec (.loadFirmware p) s = .next t ∧ t.apart = ({ s with fw := { s.fw with load := some f } } : State).apart) ∧
    (∀ f, s.fw.load = some f →
      (f.step = .header ∨ f.step = .body → ∃ t, exec (.firmwareFetchDone none) s = .next t ∧ (∃ data, Answered f.pkt 0x0103 .badParam data s t) ∧
        t.apart = ({ s with fw := { s.fw with load := none, result := 4 } } : State).apart) ∧
      (f.step = .auth → f.authentic = false → ∃ t, exec .firmwareAuthDone s = .next t ∧ (∃ data, Answered f.pkt 0x0103 .checksumFail data s t) ∧
        t.apart = ({ s with fw := { s.fw with load := none, result := 1 } } : State).apart) ∧
      (f.step = .auth → f.authentic = true → imgEpoch f.header < s.fuses.counter → ∃ t, exec .firmwareAuthDone s = .next t ∧
        (∃ data, Answered f.pkt 0x0103 .badParam data s t) ∧ t.apart = ({ s with fw := { s.fw with load := none, result := 2 } } : State).apart) ∧
      (f.step = .auth → f.authentic = true → s.fuses.counter ≤ imgEpoch f.header → ∃ t, exec .firmwareAuthDone s = .next t ∧
        t.apart = ({ s with fw := { s.fw with load := some { f with step := .passed } } } : State).apart) ∧
      (f.due ≤ s.clk.stage → s.clk.p0Pending = false → ∃ t, exec .firmwareLoadTimeout s = .next (tick t) ∧ (∃ data, Answered f.pkt 0x0103 .deadlineMissed data s t) ∧
        t.apart = ({ s with fw := { s.fw with load := none, result := 5 } } : State).apart))

/-- What happens to the core while it runs (R405, R417, R423, R432, R439): a loaded image that faults gives way to the ROM with
FLT_FW_FALLBACK; a tile that the core reads and that passes enters its buffer; a halt that holds stops it at the boundary with its
registers; its writes of the host window reach the policy shadow. -/
def Obligations.CoreEvents : Prop :=
  ∀ s : State,
    (∀ cause addr, s.fwRuns = true → s.fw.loaded = true → cause = 1 ∨ cause = 2 → s.evt.fresh = [] →
      ∃ t, exec (.firmwareFallback cause addr) s = .next t ∧ t.fw.loaded = false ∧ t.fw.valid = false ∧ t.fw.fallback = cause ∧
        t.core.pc = 0x00100000#32 ∧ t.core.regs = s.core.regs ∧ Raised 0x0116 0 ([BitVec.ofNat 8 cause] ++ leBytes 4 addr.toNat) t ∧
        t.apart = ({ s with fw := t.fw, core := t.core } : State).apart) ∧
    (∀ k fetch, k < 640 → s.core.on = true → tileBad s k = false → tilePasses s k false = true →
      ∃ t, exec (.coreTileReadDone k false fetch) s = .next t ∧
        t.apart = ({ s with led := { s.led with tileBuf := (k :: s.led.tileBuf.filter (fun x => x != k)).take 8 } } : State).apart) ∧
    (∀ cause index ctx, s.fwRuns = true → haltHolds s cause index ctx.pc = true → s.evt.fresh = [] →
      ∃ t, exec (.coreHalt cause index ctx) s = .next t ∧ (∀ k, 0 < k → k < 32 → t.core.regs.get k = ctx.regs.getD k 0) ∧
        Raised 0x0B21 0 [] t ∧ t.apart = ({ s with
          core := { s.core with pc := ctx.pc &&& 0xFFFFFFFE#32, regs := t.core.regs }
          dbg := { s.dbg with halted := true, haltReq := false, cause := cause, bpIndex := if cause = 2 ∨ cause = 3 then index else 0 } } : State).apart) ∧
    (∀ off (w : BitVec 32), s.fwRuns = true → off % 4 = 0 → ∃ t, exec (.coreHostWindowWrite off w) s = .next t ∧
      t.apart = ({ s with gov := if (0x200 ≤ off ∧ off < 0x400) ∨ (0x1A000 ≤ off ∧ off < 0x1A240)
        then { s.gov with shadowW := s.gov.shadowW ++ [(off, w)] } else s.gov } : State).apart)

/-! ### Debug port (R433 to R446) -/

/-- An update while an operation is in progress is lost, and what is captured shows BUSY until it is over and another has come;
else it shows the status and data of the last; while the port is locked the core's operations answer LOCKED; else NOP, RESPONSE,
LOCK, HALT, RESUME, STEP, SET_MATCH and CONVERT answer OK with their effect, or the status of what stands against it (R434, R435,
R437 to R442, R445). The unlocked port's view of memory and registers (R443, R444): a word of Ledger RAM outside sealed tiles
reads as it is and as it was written; a register of the halted core reads and takes what is written, register 0 none of it. -/
def Obligations.DebugOperations : Prop :=
  (∀ s : State, s.islandUp = true →
     (∀ c : Instr, c ∈ [.nop, .submit, .lock, .halt, .resume, .step] → s.dbg.busy = true → ∃ t, exec c s = .next t ∧
       t.apart = (s.updDbg (fun d => { d with busyLost := true })).apart) ∧
     (s.dbg.busy = true ∨ s.dbg.busyLost = true → captureWord s.dbg / 2 ^ 32 % 16 = 1) ∧
     (s.dbg.busy = false → s.dbg.busyLost = false → s.dbg.status < 16 → captureWord s.dbg / 2 ^ 32 % 16 = s.dbg.status ∧
       captureWord s.dbg % 2 ^ 32 = s.dbg.rdata.toNat) ∧
     (s.dbg.busy = false →
       (∃ t, exec .nop s = .next t ∧
         t.apart = (s.updDbg (fun d => { d with lastOp := 0, busyLost := false, status := 0, rdata := 0 })).apart) ∧
       (∀ a (w : BitVec 32), a ≤ 7 → ∃ t, exec (.response a w) s = .next t ∧ t.apart = (s.updDbg (fun d => { d with
         lastOp := 2, busyLost := false, status := 0, rdata := 0, response := d.response.set a w })).apart) ∧
       (s.dbg.unlocked = false → ∀ c : Instr, c ∈ [.lock, .halt, .resume, .step] → ∃ t, exec c s = .next t ∧
         t.apart = (s.updDbg (fun d => { d with lastOp := t.dbg.lastOp, busyLost := false, status := DbgSt.locked.code, rdata := 0 })).apart) ∧
       (s.dbg.unlocked = true →
         (∃ t, exec .lock s = .next t ∧ t.apart = (s.updDbg (fun d => { d with
           lastOp := 4, busyLost := false, status := 0, rdata := 0
           unlocked := false, halted := false, haltReq := false, cause := 0, bpIndex := 0, ebreakHalt := false
           match_ := Tab.replicate 12 0 })).apart) ∧
         (s.dbg.halted = false → ∃ t, exec .halt s = .next t ∧ t.apart = (s.updDbg (fun d => { d with
           lastOp := 5, busyLost := false, status := 0, rdata := 0, haltReq := true })).apart) ∧
         (s.dbg.halted = true → ∃ t, exec .resume s = .next t ∧ t.apart = (s.updDbg (fun d => { d with
           lastOp := 6, busyLost := false, status := 0, rdata := 0, halted := false, cause := 0, bpIndex := 0 })).apart) ∧
         (s.dbg.halted = true → ∃ t, exec .step s = .next t ∧ t.dbg.status = 0 ∧ t.dbg.lastOp = 7 ∧ t.fuses = s.fuses ∧
           t.rails = s.rails ∧ t.cells = s.cells ∧ t.man = s.man ∧ t.clk.stage = s.clk.stage) ∧
         (s.dbg.halted = false → ∃ t, exec .step s = .next t ∧ t.apart = (s.updDbg (fun d => { d with
           lastOp := 7, busyLost := false, status := DbgSt.notHalted.code, rdata := 0 })).apart) ∧
         (∀ a (w : BitVec 32), a ≤ 11 → ∃ t, exec (.setMatch a w) s = .next t ∧ t.apart = (s.updDbg (fun d => { d with
           lastOp := 0xC, busyLost := false, status := 0, rdata := 0, match_ := d.match_.set a w })).apart) ∧
         (∀ c v, c < 312 → v = (convTo (c % 16) s.clk.now s).conv (c % 16) → ∃ t, exec (.convert c) s = .next t ∧
           t.apart = ((s.updConv (c % 16) (fun _ =>
             if v.urgQ.length < 4 then { v with urgQ := v.urgQ ++ [c] } else { v with urgDrop := true })).updDbg (fun d => { d with
               lastOp := 0xD, busyLost := false, status := 0, rdata := 0 })).apart)))) ∧
  (∀ s : State, s.islandUp = true → s.dbg.busy = false → s.dbg.unlocked = true →
     (∀ a : BitVec 32, a.toNat < 0x100000 → a.toNat % 4 = 0 → tileOf a.toNat = none → ∃ t, exec (.readMem a) s = .next t ∧
       t.apart = (({ s with led := { s.led with parityErrs := t.led.parityErrs } } : State).updDbg (fun d => { d with
         lastOp := 8, busyLost := false, status := 0, busy := true
         rdata := BitVec.ofNat 32 (leNat (ramLoad s a.toNat 4)) })).apart) ∧
     (∀ a : BitVec 32, a.toNat % 4 ≠ 0 → ∃ t, exec (.readMem a) s = .next t ∧
       t.apart = (s.updDbg (fun d => { d with lastOp := 8, busyLost := false, status := DbgSt.badOp.code, rdata := 0 })).apart) ∧
     (∀ a w : BitVec 32, a.toNat % 4 = 0 → a.toNat < 0x100000 → ledgerMay true a.toNat s = .ok → ∃ t, exec (.writeMem a w) s = .next t ∧
       t.led.ram = Memory.store s.led.ram a.toNat (leBytes 4 w.toNat) ∧
       t.apart = (({ s with led := { s.led with ram := t.led.ram, parityBad := t.led.parityBad } } : State).updDbg (fun d => { d with
         lastOp := 9, busyLost := false, status := 0, rdata := 0, busy := true })).apart) ∧
     (s.dbg.halted = true →
       (∀ n : BitVec 32, n.toNat < 32 → ∃ t, exec (.readReg n) s = .next t ∧ t.apart = (s.updDbg (fun d => { d with
         lastOp := 0xA, busyLost := false, status := 0, rdata := s.xreg n.toNat })).apart) ∧
       (∀ n w : BitVec 32, n.toNat < 32 → ∃ t, exec (.writeReg n w) s = .next t ∧ t.xreg n.toNat = (if n.toNat = 0 then 0 else w) ∧
         (∀ k, k ≠ n.toNat → t.xreg k = s.xreg k) ∧
         t.apart = (({ s with core := { s.core with regs := t.core.regs } } : State).updDbg (fun d => { d with
           lastOp := 0xB, busyLost := false, status := 0, rdata := 0 })).apart) ∧
       (∀ w : BitVec 32, w.getLsbD 0 = false → ∃ t, exec (.writeReg 0x20#32 w) s = .next t ∧
         t.apart = (({ s with core := { s.core with pc := w } } : State).updDbg (fun d => { d with
           lastOp := 0xB, busyLost := false, status := 0, rdata := 0 })).apart)) ∧
     (s.dbg.halted = false → ∀ n w : BitVec 32,
       (∃ t, exec (.readReg n) s = .next t ∧ t.apart = (s.updDbg (fun d => { d with
         lastOp := 0xA, busyLost := false, status := DbgSt.notHalted.code, rdata := 0 })).apart) ∧
       ∃ t, exec (.writeReg n w) s = .next t ∧ t.apart = (s.updDbg (fun d => { d with
         lastOp := 0xB, busyLost := false, status := DbgSt.notHalted.code, rdata := 0 })).apart))

/-- Unlocking (R436, R437): a challenge that may be issued is a value of its own, outstanding from then on; a submit ends it and
checks the response words; the end of the check unlocks the port on a match, and else counts the failure and withholds challenges;
an old challenge lapses, and the withholding ends. -/
def Obligations.DebugUnlock : Prop :=
  ∀ s : State,
    (s.islandUp = true → s.dbg.busy = false → s.dbg.withheld = 0 → ∃ t, exec (.challenge 0) s = .next t ∧
      t.apart = (({ s with freeCount := s.freeCount + 1 } : State).updDbg (fun d => { d with
        lastOp := 1, busyLost := false, status := 0, rdata := challengeWord (Config.challenge s.freeCount) 0
        challenge := some (Config.challenge s.freeCount), challengeAge := 0 })).apart) ∧
    (s.islandUp = true → s.dbg.busy = false → ∀ c, s.dbg.challenge = some c → ∃ t, exec .submit s = .next t ∧
      t.apart = (s.updDbg (fun d => { d with
        lastOp := 3, busyLost := false, rdata := 0, challenge := none, submit := true, busy := true
        status := if responseMatches s c then DbgSt.ok.code else DbgSt.authFail.code })).apart) ∧
    (s.dbg.busy = true → s.dbg.submit = true → s.evt.fresh = [] →
      (s.dbg.status = DbgSt.ok.code → ∃ t, exec .debugOperationDone s = .next t ∧ Raised 0x0B20 0 [] t ∧
        t.apart = (s.updDbg (fun d => { d with busy := false, submit := false, unlocked := true })).apart) ∧
      (s.dbg.status = DbgSt.authFail.code → ∃ t, exec .debugOperationDone s = .next t ∧ Raised 0x0B10 0 [] t ∧
        t.apart = (s.updDbg (fun d => { d with
          busy := false, submit := false, authFails := min 255 (d.authFails + 1), withheld := 1001 })).apart)) ∧
    (s.dbg.challenge.isSome = true → 100 ≤ s.dbg.challengeAge → s.clk.p0Pending = false → ∃ t, exec .debugChallengeExpiry s = .next (tick t) ∧
      t.apart = (s.updDbg (fun d => { d with challenge := none })).apart) ∧
    (s.dbg.withheld = 1 → ∃ t, exec .debugWithholdEnd s = .next t ∧ t.apart = (s.updDbg (fun d => { d with withheld := 0 })).apart)
end

