-- ==== Sys2Proof/Laws/Memory.lean ====
section
/-! SUPPORT. The laws of Ledger RAM: every operation keeps the canonical form. -/

namespace Sys2Proof.Machine

theorem Memory.wfFrom_mono : ∀ (m : Memory) (a b : Nat), a ≤ b → Memory.wfFrom b m = true → Memory.wfFrom a m = true
  | [], _, _, _, _ => rfl
  | (k, x) :: rest, a, b, h, hw => by
    simp only [Memory.wfFrom, Bool.and_eq_true, decide_eq_true_eq] at hw ⊢
    exact ⟨⟨Nat.le_trans h hw.1.1, hw.1.2⟩, hw.2⟩

/-- Every cell of a canonical memory lies at or above its bound. -/
theorem Memory.wfFrom_le : ∀ (m : Memory) (a : Nat), Memory.wfFrom a m = true → ∀ c ∈ m, a ≤ c.1
  | [], _, _, _, hc => by simp at hc
  | (k, x) :: rest, a, hw, c, hc => by
    simp only [Memory.wfFrom, Bool.and_eq_true, decide_eq_true_eq] at hw
    rcases List.mem_cons.1 hc with rfl | hc
    · exact hw.1.1
    · exact Nat.le_trans (Nat.le_succ_of_le hw.1.1) (Memory.wfFrom_le rest (k + 1) hw.2 c hc)

/-- Cells left out of a canonical memory leave it canonical. -/
theorem Memory.wfFrom_filter (p : Host.Cell → Bool) : ∀ (m : Memory) (a : Nat), Memory.wfFrom a m = true → Memory.wfFrom a (m.filter p) = true
  | [], _, _ => rfl
  | (k, x) :: rest, a, hw => by
    simp only [Memory.wfFrom, Bool.and_eq_true, decide_eq_true_eq] at hw
    have ih := Memory.wfFrom_filter p rest (k + 1) hw.2
    by_cases hp : p (k, x)
    · simp [hp, Memory.wfFrom, hw.1.1, hw.1.2, ih]
    · simpa [List.filter_cons, hp] using Memory.wfFrom_mono _ a (k + 1) (Nat.le_succ_of_le hw.1.1) ih

/-- Two canonical memories, the second above the first, join to one. -/
theorem Memory.wfFrom_append : ∀ (m n : Memory) (a b : Nat),
    Memory.wfFrom a m = true → Memory.wfFrom b n = true → a ≤ b → (∀ c ∈ m, c.1 < b) → Memory.wfFrom a (m ++ n) = true
  | [], n, a, b, _, hn, hab, _ => Memory.wfFrom_mono n a b hab hn
  | (k, x) :: rest, n, a, b, hm, hn, _, hl => by
    simp only [Memory.wfFrom, Bool.and_eq_true, decide_eq_true_eq] at hm
    have hk : k < b := hl (k, x) (by simp)
    have ih := Memory.wfFrom_append rest n (k + 1) b hm.2 hn hk (fun c hc => hl c (by simp [hc]))
    simp [Memory.wfFrom, hm.1.1, hm.1.2, ih]

/-- The listed cells of consecutive bytes are canonical. -/
theorem Memory.cellsOf_wfFrom : ∀ (bs : List Byte) (a : Nat), Memory.wfFrom a (Memory.cellsOf a bs) = true
  | [], _ => rfl
  | b :: bs, a => by
    have ih := Memory.cellsOf_wfFrom bs (a + 1)
    by_cases hb : b = unlisted
    · simpa [Memory.cellsOf, hb] using Memory.wfFrom_mono _ a (a + 1) (Nat.le_succ a) ih
    · simp [Memory.cellsOf, hb, Memory.wfFrom, ih]

/-- The listed cells of consecutive bytes lie among them. -/
theorem Memory.cellsOf_lt : ∀ (bs : List Byte) (a : Nat), ∀ c ∈ Memory.cellsOf a bs, c.1 < a + bs.length
  | [], _, c, hc => by simp [Memory.cellsOf] at hc
  | b :: bs, a, c, hc => by
    have ih := Memory.cellsOf_lt bs (a + 1)
    by_cases hb : b = unlisted
    · have := ih c (by simpa [Memory.cellsOf, hb] using hc)
      simp only [List.length_cons]; omega
    · simp only [Memory.cellsOf, hb, if_false, List.mem_cons] at hc
      rcases hc with rfl | hc
      · simp
      · have := ih c hc
        simp only [List.length_cons]; omega

/-- A store keeps the canonical form. -/
theorem Memory.store_wf (m : Memory) (a : Nat) (bs : List Byte) (h : Memory.wf m = true) : Memory.wf (Memory.store m a bs) = true := by
  have h1 := Memory.wfFrom_filter (fun c => decide (c.1 < a)) m 0 h
  have h2 := Memory.wfFrom_filter (fun c => decide (a + bs.length ≤ c.1)) m 0 h
  have h3 := Memory.cellsOf_wfFrom bs a
  have hup : Memory.wfFrom (a + bs.length) (m.filter (fun c => decide (a + bs.length ≤ c.1))) = true := by
    revert h2
    generalize hn : m.filter (fun c => decide (a + bs.length ≤ c.1)) = n
    have hall : ∀ c ∈ n, a + bs.length ≤ c.1 := by
      intro c hc
      rw [← hn] at hc
      simpa using (List.mem_filter.1 hc).2
    intro h2
    cases n with
    | nil => rfl
    | cons x rest =>
      obtain ⟨k, b⟩ := x
      simp only [Memory.wfFrom, Bool.and_eq_true, decide_eq_true_eq] at h2 ⊢
      exact ⟨⟨hall (k, b) (by simp), h2.1.2⟩, h2.2⟩
  unfold Memory.wf Memory.store
  rw [List.append_assoc]
  refine Memory.wfFrom_append _ _ 0 a h1 ?_ (Nat.zero_le a) (fun c hc => by simpa using (List.mem_filter.1 hc).2)
  exact Memory.wfFrom_append _ _ a (a + bs.length) h3 hup (Nat.le_add_right a bs.length) (Memory.cellsOf_lt bs a)

/-- Ledger RAM at reset is canonical. -/
theorem reset_ram_wf : Memory.wf State.reset.led.ram = true := rfl

/-- A store into Ledger RAM keeps its canonical form. -/
theorem ramStore_wf (a : Nat) (bs : List Byte) (s : State) (h : Memory.wf s.led.ram = true) :
    Memory.wf (ramStore a bs s).led.ram = true :=
  Memory.store_wf s.led.ram a bs h

/-- Sealing a tile keeps the canonical form. -/
theorem sealTile_wf (t : Nat) (bs : List Byte) (s : State) (h : Memory.wf s.led.ram = true) :
    Memory.wf (sealTile t bs s).led.ram = true :=
  Memory.store_wf s.led.ram _ _ h

end Sys2Proof.Machine
end

