-- ==== Sys2Proof/Laws/Ops.lean ====
section
/-! SUPPORT. What the shared operations can do: the end of a command changes nothing apart from replies, events, the trace,
the ports, an open caravan and a pending frequency change. -/

namespace Sys2Proof.Machine

/-! ### Events and the trace change nothing apart -/

@[simp] theorem trace_apart (k f : Nat) (b : List Byte) (s : State) : (trace k f b s).apart = s.apart := rfl

@[simp] theorem vector_apart (v : Nat) (s : State) : (vector v s).apart = s.apart := rfl

@[simp] theorem emit_apart (o : Output) (s : State) : (emit o s).apart = s.apart := rfl

@[simp] theorem dma_apart (r : DmaReq) (s : State) : (dma r s).apart = s.apart := rfl

@[simp] theorem noteSet_apart (o b : Nat) (s : State) : (noteSet o b s).apart = s.apart := rfl

@[simp] theorem evTrace_apart (e : Event) (f : Nat) (s : State) : (evTrace e f s).apart = s.apart := rfl

@[simp] theorem raiseEv_apart (e : Event) (s : State) : (raiseEv e s).apart = s.apart := by
  unfold raiseEv; split <;> rfl

@[simp] theorem raise_apart (c k : Nat) (d : List Byte) (s : State) : (raise c k d s).apart = s.apart := raiseEv_apart _ _

@[simp] theorem raisePeriod_apart (c k : Nat) (d : List Byte) (s : State) : (raisePeriod c k d s).apart = s.apart := by
  unfold raisePeriod; split
  · rfl
  · rw [raise_apart]; rfl

@[simp] theorem raiseMiss_apart (c k : Nat) (d : List Byte) (s : State) : (raiseMiss c k d s).apart = s.apart := by
  unfold raiseMiss; split
  · rfl
  · rw [raiseEv_apart]; rfl

@[simp] theorem causeSet_apart (c : Nat) (s : State) : (causeSet c s).apart = s.apart := by
  unfold causeSet; split <;> rfl

@[simp] theorem evNumber_apart (e : Event) (s : State) : (evNumber e s).2.apart = s.apart := rfl

@[simp] theorem reportLost_apart (s : State) : (reportLost s).apart = s.apart := by
  unfold reportLost; split
  · rfl
  · simp only [evTrace_apart, causeSet_apart]; rfl

@[simp] theorem countLost_apart (c : Nat) (s : State) : (countLost c s).apart = s.apart := rfl

@[simp] theorem evEnter_apart (e : Event) (s : State) : (evEnter e s).apart = s.apart := by
  unfold evEnter; split
  · rfl
  · dsimp only
    split
    · simp only [evTrace_apart, causeSet_apart]; rfl
    · split
      · split
        · simp only [countLost_apart, evTrace_apart, causeSet_apart]; rfl
        · simp only [countLost_apart, evTrace_apart]; rfl
      · simp only [countLost_apart, evTrace_apart]; rfl

/-- A change repeated over a list leaves what each step of it leaves. -/
theorem foldl_keeps {α β : Type} (P : State → β) (f : State → α → State) (h : ∀ s a, P (f s a) = P s) :
    ∀ (l : List α) (s : State), P (l.foldl f s) = P s
  | [], _ => rfl
  | a :: l, s => (foldl_keeps P f h l (f s a)).trans (h s a)

/-- What each step of `forEach` leaves, it leaves. -/
theorem forEach_keeps {α β : Type} (P : State → β) (f : α → State → State) (h : ∀ a s, P (f a s) = P s) (l : List α) (s : State) :
    P (forEach l f s) = P s :=
  foldl_keeps P (fun s a => f a s) (fun s a => h a s) l s

/-! ### Replies change nothing apart -/

@[simp] theorem ringReply_apart (r : Reply) (s : State) : (ringReply r s).apart = s.apart := rfl

@[simp] theorem mailboxReply_apart (r : Reply) (s : State) : (mailboxReply r s).apart = s.apart := by
  unfold mailboxReply
  simp only [apply_ite State.apart, vector_apart, noteSet_apart, ite_self]
  rfl

@[simp] theorem putReply_apart (r : Reply) (s : State) : (putReply r s).apart = s.apart := by
  unfold putReply; split
  · exact mailboxReply_apart r s
  · split <;> rfl

@[simp] theorem reply_apart (p : Packet) (op : Nat) (st : Status) (d : List Byte) (s : State) :
    (reply p op st d s).apart = s.apart := putReply_apart _ _

@[simp] theorem markEffect_apart (p : Packet) (e : Effect) (s : State) : (markEffect p e s).apart = s.apart := rfl

@[simp] theorem setDue_apart (p : Packet) (d : Nat) (s : State) : (setDue p d s).apart = s.apart := rfl

@[simp] theorem memberFails_apart (id : Nat) (st : Status) (c : Nat) (s : State) :
    (memberFails id st c s).2.apart = s.apart := by
  unfold memberFails; split
  · rfl
  · split <;> rfl

theorem rejectFailed_apart : ∀ (n : Nat) (s : State), (rejectFailed n s).apart = s.apart
  | 0, _ => rfl
  | n + 1, s => by
    unfold rejectFailed
    split
    · rfl
    · split
      · rfl
      · split
        · rfl
        · dsimp only
          rw [rejectFailed_apart n, putReply_apart]
          split
          · split
            · exact memberFails_apart _ _ _ _
            · rfl
          · rfl

@[simp] theorem postBoostEnd_apart (s : State) : (postBoostEnd s).apart = s.apart := by
  unfold postBoostEnd; split <;> rfl

@[simp] theorem boostCheck_apart (s : State) : (boostCheck s).apart = s.apart := by
  unfold boostCheck
  dsimp only
  split
  · rfl
  · split
    · rw [raise_apart, postBoostEnd_apart]; rfl
    · rfl

@[simp] theorem enterEvents_apart (s : State) : (enterEvents s).apart = s.apart := by
  unfold enterEvents
  rw [reportLost_apart, foldl_keeps State.apart _ (fun s a => evEnter_apart a s)]
  rfl

/-- The end of a command changes nothing apart. -/
@[simp] theorem finish_apart (s : State) : (finish s).apart = s.apart := by
  unfold finish
  have h : (boostCheck (rejectFailed s.cmd.inflight.length s)).apart = s.apart := by
    rw [boostCheck_apart, rejectFailed_apart]
  dsimp only
  split
  · exact h
  · rw [enterEvents_apart]
    exact h

/-! ### What is apart, field by field -/

@[simp] theorem finish_clk (s : State) : (finish s).clk = s.clk := by
  have h := congrArg State.clk (finish_apart s); exact h

@[simp] theorem finish_dl (s : State) : (finish s).dl = s.dl := by
  have h := congrArg State.dl (finish_apart s); exact h

@[simp] theorem finish_sys (s : State) : (finish s).sys = s.sys := by
  have h := congrArg State.sys (finish_apart s); exact h

@[simp] theorem finish_fuses (s : State) : (finish s).fuses = s.fuses := by
  have h := congrArg State.fuses (finish_apart s); exact h

@[simp] theorem finish_rails (s : State) : (finish s).rails = s.rails := by
  have h := congrArg State.rails (finish_apart s); exact h

@[simp] theorem finish_feed (s : State) : (finish s).feed = s.feed := by
  have h := congrArg State.feed (finish_apart s); exact h

@[simp] theorem finish_vin (s : State) : (finish s).vin = s.vin := by
  have h := congrArg State.vin (finish_apart s); exact h

@[simp] theorem finish_starts (s : State) : (finish s).starts = s.starts := by
  have h := congrArg State.starts (finish_apart s); exact h

@[simp] theorem finish_stops (s : State) : (finish s).stops = s.stops := by
  have h := congrArg State.stops (finish_apart s); exact h

@[simp] theorem finish_segs (s : State) : (finish s).segs = s.segs := by
  have h := congrArg State.segs (finish_apart s); exact h

@[simp] theorem finish_groups (s : State) : (finish s).groups = s.groups := by
  have h := congrArg State.groups (finish_apart s); exact h

@[simp] theorem finish_phases (s : State) : (finish s).phases = s.phases := by
  have h := congrArg State.phases (finish_apart s); exact h

@[simp] theorem finish_checks (s : State) : (finish s).checks = s.checks := by
  have h := congrArg State.checks (finish_apart s); exact h

@[simp] theorem finish_cl (s : State) : (finish s).cl = s.cl := by
  have h := congrArg State.cl (finish_apart s); exact h

@[simp] theorem finish_cells (s : State) : (finish s).cells = s.cells := by
  have h := congrArg State.cells (finish_apart s); exact h

@[simp] theorem finish_chans (s : State) : (finish s).chans = s.chans := by
  have h := congrArg State.chans (finish_apart s); exact h

@[simp] theorem finish_convs (s : State) : (finish s).convs = s.convs := by
  have h := congrArg State.convs (finish_apart s); exact h

@[simp] theorem finish_adc (s : State) : (finish s).adc = s.adc := by
  have h := congrArg State.adc (finish_apart s); exact h

@[simp] theorem finish_eng (s : State) : (finish s).eng = s.eng := by
  have h := congrArg State.eng (finish_apart s); exact h

@[simp] theorem finish_blwCfg (s : State) : (finish s).blwCfg = s.blwCfg := by
  have h := congrArg State.blwCfg (finish_apart s); exact h

@[simp] theorem finish_man (s : State) : (finish s).man = s.man := by
  have h := congrArg State.man (finish_apart s); exact h

@[simp] theorem finish_gov (s : State) : (finish s).gov = s.gov := by
  have h := congrArg State.gov (finish_apart s); exact h

@[simp] theorem finish_cvy (s : State) : (finish s).cvy = s.cvy := by
  have h := congrArg State.cvy (finish_apart s); exact h

@[simp] theorem finish_therm (s : State) : (finish s).therm = s.therm := by
  have h := congrArg State.therm (finish_apart s); exact h

@[simp] theorem finish_en (s : State) : (finish s).en = s.en := by
  have h := congrArg State.en (finish_apart s); exact h

@[simp] theorem finish_rech (s : State) : (finish s).rech = s.rech := by
  have h := congrArg State.rech (finish_apart s); exact h

@[simp] theorem finish_led (s : State) : (finish s).led = s.led := by
  have h := congrArg State.led (finish_apart s); exact h

@[simp] theorem finish_fw (s : State) : (finish s).fw = s.fw := by
  have h := congrArg State.fw (finish_apart s); exact h

@[simp] theorem finish_core (s : State) : (finish s).core = s.core := by
  have h := congrArg State.core (finish_apart s); exact h

@[simp] theorem finish_dbg (s : State) : (finish s).dbg = s.dbg := by
  have h := congrArg State.dbg (finish_apart s); exact h

@[simp] theorem finish_freeCount (s : State) : (finish s).freeCount = s.freeCount := by
  have h := congrArg State.freeCount (finish_apart s); exact h

@[simp] theorem finish_pending (s : State) : (finish s).pending = s.pending := by
  have h := congrArg State.pending (finish_apart s); exact h

@[simp] theorem finish_cmd_cmdLo (s : State) : (finish s).cmd.cmdLo = s.cmd.cmdLo := by
  have h := congrArg (fun u : State => u.cmd.cmdLo) (finish_apart s); exact h

@[simp] theorem finish_cmd_cmdHi (s : State) : (finish s).cmd.cmdHi = s.cmd.cmdHi := by
  have h := congrArg (fun u : State => u.cmd.cmdHi) (finish_apart s); exact h

@[simp] theorem finish_cmd_rplLo (s : State) : (finish s).cmd.rplLo = s.cmd.rplLo := by
  have h := congrArg (fun u : State => u.cmd.rplLo) (finish_apart s); exact h

@[simp] theorem finish_cmd_rplHi (s : State) : (finish s).cmd.rplHi = s.cmd.rplHi := by
  have h := congrArg (fun u : State => u.cmd.rplHi) (finish_apart s); exact h

@[simp] theorem finish_cmd_evtLo (s : State) : (finish s).cmd.evtLo = s.cmd.evtLo := by
  have h := congrArg (fun u : State => u.cmd.evtLo) (finish_apart s); exact h

@[simp] theorem finish_cmd_evtHi (s : State) : (finish s).cmd.evtHi = s.cmd.evtHi := by
  have h := congrArg (fun u : State => u.cmd.evtHi) (finish_apart s); exact h

@[simp] theorem finish_cmd_cmdEn (s : State) : (finish s).cmd.cmdEn = s.cmd.cmdEn := by
  have h := congrArg (fun u : State => u.cmd.cmdEn) (finish_apart s); exact h

@[simp] theorem finish_cmd_rplEn (s : State) : (finish s).cmd.rplEn = s.cmd.rplEn := by
  have h := congrArg (fun u : State => u.cmd.rplEn) (finish_apart s); exact h

@[simp] theorem finish_cmd_evtEn (s : State) : (finish s).cmd.evtEn = s.cmd.evtEn := by
  have h := congrArg (fun u : State => u.cmd.evtEn) (finish_apart s); exact h

@[simp] theorem finish_cmd_cmdHead (s : State) : (finish s).cmd.cmdHead = s.cmd.cmdHead := by
  have h := congrArg (fun u : State => u.cmd.cmdHead) (finish_apart s); exact h

@[simp] theorem finish_cmd_cmdTail (s : State) : (finish s).cmd.cmdTail = s.cmd.cmdTail := by
  have h := congrArg (fun u : State => u.cmd.cmdTail) (finish_apart s); exact h

@[simp] theorem finish_cmd_rplTail (s : State) : (finish s).cmd.rplTail = s.cmd.rplTail := by
  have h := congrArg (fun u : State => u.cmd.rplTail) (finish_apart s); exact h

@[simp] theorem finish_cmd_evtHead (s : State) : (finish s).cmd.evtHead = s.cmd.evtHead := by
  have h := congrArg (fun u : State => u.cmd.evtHead) (finish_apart s); exact h

@[simp] theorem finish_cmd_evtTail (s : State) : (finish s).cmd.evtTail = s.cmd.evtTail := by
  have h := congrArg (fun u : State => u.cmd.evtTail) (finish_apart s); exact h

@[simp] theorem finish_cmd_covered (s : State) : (finish s).cmd.covered = s.cmd.covered := by
  have h := congrArg (fun u : State => u.cmd.covered) (finish_apart s); exact h

@[simp] theorem finish_cmd_asked (s : State) : (finish s).cmd.asked = s.cmd.asked := by
  have h := congrArg (fun u : State => u.cmd.asked) (finish_apart s); exact h

@[simp] theorem finish_cmd_fetched (s : State) : (finish s).cmd.fetched = s.cmd.fetched := by
  have h := congrArg (fun u : State => u.cmd.fetched) (finish_apart s); exact h

@[simp] theorem finish_cmd_lateSlots (s : State) : (finish s).cmd.lateSlots = s.cmd.lateSlots := by
  have h := congrArg (fun u : State => u.cmd.lateSlots) (finish_apart s); exact h

@[simp] theorem finish_cmd_mbxCmd (s : State) : (finish s).cmd.mbxCmd = s.cmd.mbxCmd := by
  have h := congrArg (fun u : State => u.cmd.mbxCmd) (finish_apart s); exact h

@[simp] theorem finish_cmd_mbxDrop (s : State) : (finish s).cmd.mbxDrop = s.cmd.mbxDrop := by
  have h := congrArg (fun u : State => u.cmd.mbxDrop) (finish_apart s); exact h

@[simp] theorem finish_cmd_next (s : State) : (finish s).cmd.next = s.cmd.next := by
  have h := congrArg (fun u : State => u.cmd.next) (finish_apart s); exact h

@[simp] theorem finish_cmd_quiet (s : State) : (finish s).cmd.quiet = s.cmd.quiet := by
  have h := congrArg (fun u : State => u.cmd.quiet) (finish_apart s); exact h

@[simp] theorem finish_cmd_traceReq (s : State) : (finish s).cmd.traceReq = s.cmd.traceReq := by
  have h := congrArg (fun u : State => u.cmd.traceReq) (finish_apart s); exact h

@[simp] theorem finish_evt_catMask (s : State) : (finish s).evt.catMask = s.evt.catMask := by
  have h := congrArg (fun u : State => u.evt.catMask) (finish_apart s); exact h

@[simp] theorem finish_evt_codes (s : State) : (finish s).evt.codes = s.evt.codes := by
  have h := congrArg (fun u : State => u.evt.codes) (finish_apart s); exact h

@[simp] theorem finish_seq_table (s : State) : (finish s).seq.table = s.seq.table := by
  have h := congrArg (fun u : State => u.seq.table) (finish_apart s); exact h

@[simp] theorem finish_seq_code (s : State) : (finish s).seq.code = s.seq.code := by
  have h := congrArg (fun u : State => u.seq.code) (finish_apart s); exact h

@[simp] theorem finish_seq_level (s : State) : (finish s).seq.level = s.seq.level := by
  have h := congrArg (fun u : State => u.seq.level) (finish_apart s); exact h

@[simp] theorem finish_seq_vcode (s : State) : (finish s).seq.vcode = s.seq.vcode := by
  have h := congrArg (fun u : State => u.seq.vcode) (finish_apart s); exact h

@[simp] theorem finish_seq_holdReason (s : State) : (finish s).seq.holdReason = s.seq.holdReason := by
  have h := congrArg (fun u : State => u.seq.holdReason) (finish_apart s); exact h

@[simp] theorem finish_seq_fixed (s : State) : (finish s).seq.fixed = s.seq.fixed := by
  have h := congrArg (fun u : State => u.seq.fixed) (finish_apart s); exact h

@[simp] theorem finish_seq_belowPl0 (s : State) : (finish s).seq.belowPl0 = s.seq.belowPl0 := by
  have h := congrArg (fun u : State => u.seq.belowPl0) (finish_apart s); exact h

@[simp] theorem finish_seq_noDone (s : State) : (finish s).seq.noDone = s.seq.noDone := by
  have h := congrArg (fun u : State => u.seq.noDone) (finish_apart s); exact h

@[simp] theorem finish_seq_awaitDone (s : State) : (finish s).seq.awaitDone = s.seq.awaitDone := by
  have h := congrArg (fun u : State => u.seq.awaitDone) (finish_apart s); exact h

@[simp] theorem finish_seq_doneLate (s : State) : (finish s).seq.doneLate = s.seq.doneLate := by
  have h := congrArg (fun u : State => u.seq.doneLate) (finish_apart s); exact h

@[simp] theorem finish_seq_applyOld (s : State) : (finish s).seq.applyOld = s.seq.applyOld := by
  have h := congrArg (fun u : State => u.seq.applyOld) (finish_apart s); exact h

@[simp] theorem finish_seq_applyStage (s : State) : (finish s).seq.applyStage = s.seq.applyStage := by
  have h := congrArg (fun u : State => u.seq.applyStage) (finish_apart s); exact h

@[simp] theorem finish_seq_fvHold (s : State) : (finish s).seq.fvHold = s.seq.fvHold := by
  have h := congrArg (fun u : State => u.seq.fvHold) (finish_apart s); exact h

@[simp] theorem finish_seq_fvFixed (s : State) : (finish s).seq.fvFixed = s.seq.fvFixed := by
  have h := congrArg (fun u : State => u.seq.fvFixed) (finish_apart s); exact h

@[simp] theorem finish_seq_freqOut (s : State) : (finish s).seq.freqOut = s.seq.freqOut := by
  have h := congrArg (fun u : State => u.seq.freqOut) (finish_apart s); exact h

/-! ### Outputs and the reply hold only grow -/

/-- What `s` has put out and holds, `t` has put out and holds, in that order. -/
def Grows (s t : State) : Prop := (∃ l, t.out = l ++ s.out) ∧ ∃ l, t.cmd.hold = s.cmd.hold ++ l

theorem Grows.rfl {s : State} : Grows s s := ⟨⟨[], by simp⟩, ⟨[], by simp⟩⟩

theorem Grows.trans {s t u : State} (h : Grows s t) (k : Grows t u) : Grows s u := by
  obtain ⟨⟨a, ha⟩, ⟨b, hb⟩⟩ := h
  obtain ⟨⟨c, hc⟩, ⟨d, hd⟩⟩ := k
  exact ⟨⟨c ++ a, by rw [hc, ha, List.append_assoc]⟩, ⟨b ++ d, by rw [hd, hb, List.append_assoc]⟩⟩

theorem grows_of_eq {s t : State} (ho : t.out = s.out) (hh : t.cmd.hold = s.cmd.hold) : Grows s t :=
  ⟨⟨[], by simp [ho]⟩, ⟨[], by simp [hh]⟩⟩

/-- The ports and the command interface. -/
def State.ports (s : State) : List Output × Cmd := (s.out, s.cmd)

theorem grows_of_ports {s t : State} (h : t.ports = s.ports) : Grows s t := by
  have ho := congrArg Prod.fst h
  have hc := congrArg (fun x : List Output × Cmd => x.2.hold) h
  exact grows_of_eq ho hc

theorem raiseEv_ports (e : Event) (s : State) : (raiseEv e s).ports = s.ports := by
  unfold raiseEv; split <;> rfl

theorem causeSet_ports (c : Nat) (s : State) : (causeSet c s).ports = s.ports := by
  unfold causeSet; split <;> rfl

theorem evTrace_ports (e : Event) (f : Nat) (s : State) : (evTrace e f s).ports = s.ports := rfl

theorem reportLost_ports (s : State) : (reportLost s).ports = s.ports := by
  unfold reportLost; split
  · rfl
  · simp only [evTrace_ports, causeSet_ports]; rfl

theorem countLost_ports (c : Nat) (s : State) : (countLost c s).ports = s.ports := rfl

theorem evEnter_ports (e : Event) (s : State) : (evEnter e s).ports = s.ports := by
  unfold evEnter; split
  · rfl
  · dsimp only
    split
    · simp only [evTrace_ports, causeSet_ports]; rfl
    · split
      · split
        · simp only [countLost_ports, evTrace_ports, causeSet_ports]; rfl
        · simp only [countLost_ports, evTrace_ports]; rfl
      · simp only [countLost_ports, evTrace_ports]; rfl

theorem ringReply_grows (r : Reply) (s : State) : Grows s (ringReply r s) :=
  ⟨⟨[.vector 0, .reply s.cmd.rplHead (r.bytes s.clk.stage) (ringWrite (rplBase s) s.cmd.rplHead (r.bytes s.clk.stage) (rplTrace r s))], rfl⟩, ⟨[], by simp [ringReply, vector, rplTrace, trace]⟩⟩

/-- The mailbox's part of a reply, before the vector. -/
theorem mailboxReply_out (r : Reply) (s : State) :
    ∃ l, (mailboxReply r s).out = l ++ .mailbox (r.bytes s.clk.stage) :: s.out := by
  unfold mailboxReply
  dsimp only
  split
  · exact ⟨[.vector 0], rfl⟩
  · exact ⟨[], rfl⟩

theorem mailboxReply_hold (r : Reply) (s : State) : (mailboxReply r s).cmd.hold = s.cmd.hold := by
  unfold mailboxReply
  simp only [apply_ite State.cmd, vector, noteSet, ite_self]
  rfl

theorem mailboxReply_grows (r : Reply) (s : State) : Grows s (mailboxReply r s) := by
  obtain ⟨l, h⟩ := mailboxReply_out r s
  exact ⟨⟨l ++ [.mailbox (r.bytes s.clk.stage)], by rw [h]; simp⟩, ⟨[], by simp [mailboxReply_hold]⟩⟩

theorem putReply_grows (r : Reply) (s : State) : Grows s (putReply r s) := by
  unfold putReply; split
  · exact mailboxReply_grows r s
  · split
    · exact ringReply_grows r s
    · exact ⟨⟨[], by simp⟩, ⟨[r], rfl⟩⟩

theorem memberFails_grows (id : Nat) (st : Status) (c : Nat) (s : State) : Grows s (memberFails id st c s).2 := by
  unfold memberFails; split
  · exact Grows.rfl
  · split <;> exact grows_of_eq rfl rfl

theorem rejectFailed_grows : ∀ (n : Nat) (s : State), Grows s (rejectFailed n s)
  | 0, _ => Grows.rfl
  | n + 1, s => by
    unfold rejectFailed
    split
    · exact Grows.rfl
    · split
      · exact Grows.rfl
      · split
        · exact Grows.rfl
        · dsimp only
          refine Grows.trans ?_ ((putReply_grows _ _).trans (rejectFailed_grows n _))
          split
          · split
            · exact memberFails_grows _ _ _ _
            · exact Grows.rfl
          · exact Grows.rfl

theorem postBoostEnd_ports (s : State) : (postBoostEnd s).ports = s.ports := by
  unfold postBoostEnd; split <;> rfl

theorem boostCheck_grows (s : State) : Grows s (boostCheck s) := by
  unfold boostCheck
  dsimp only
  split
  · exact grows_of_eq rfl rfl
  · split
    · refine grows_of_ports ?_
      simp only [raise, raiseEv_ports, postBoostEnd_ports]; rfl
    · exact grows_of_eq rfl rfl

theorem enterEvents_grows (s : State) : Grows s (enterEvents s) :=
  Grows.trans (grows_of_eq rfl rfl) (grows_of_ports
    ((reportLost_ports _).trans (foldl_keeps State.ports _ (fun s e => evEnter_ports e s) _ _)))

/-- The end of a command takes back nothing that has been put out or held. -/
theorem finish_grows (s : State) : Grows s (finish s) := by
  have h := (rejectFailed_grows s.cmd.inflight.length s).trans (boostCheck_grows _)
  unfold finish
  dsimp only
  split
  · exact h
  · exact h.trans (enterEvents_grows _)

/-- A reply that has gone out or is held stays so. -/
theorem Sent.grows {r : Reply} {s t u : State} (h : Sent r s t) (g : Grows t u) : Sent r s u := by
  obtain ⟨⟨l, ho⟩, ⟨m, hh⟩⟩ := g
  unfold Sent at *
  split at h
  · simp_all
  · split at h
    · obtain ⟨q, h1, h2, h3, h4, h5⟩ := h
      simp_all
      exact ⟨q, h1, h2, h3, h4, .inr h5⟩
    · simp_all

/-- A reply is sent by `putReply`. -/
theorem putReply_sent (r : Reply) (s : State) : Sent r s (putReply r s) := by
  unfold Sent putReply
  split
  · obtain ⟨l, h⟩ := mailboxReply_out r s
    rename_i hr
    simp [h, hr]
  · rename_i hr
    rw [hr]
    dsimp only
    split
    · exact ⟨ringWrite (rplBase s) s.cmd.rplHead (r.bytes s.clk.stage) (rplTrace r s), rfl, rfl, rfl, rfl,
        by simp [ringReply, vector, rplTrace, trace, rplBase]⟩
    · simp

/-- `Sent` looks at its first state through the reply ring, its hold and the stage alone. -/
theorem Sent.congr {r : Reply} {s s' t : State} (h : Sent r s' t) (hr : s'.rplOpen = s.rplOpen) (hb : rplBase s' = rplBase s)
    (hc : s'.cmd.hold = s.cmd.hold) (hk : s'.cmd.rplHead = s.cmd.rplHead) (hs : s'.clk.stage = s.clk.stage) : Sent r s t := by
  unfold Sent at *
  rw [hr, hb, hc, hk, hs] at h
  exact h

/-- A packet answered at the end of its effect is answered. -/
theorem answered_finish (p : Packet) (op : Nat) (st : Status) (d : List Byte) (s s' : State)
    (hr : s'.rplOpen = s.rplOpen) (hb : rplBase s' = rplBase s) (hc : s'.cmd.hold = s.cmd.hold)
    (hk : s'.cmd.rplHead = s.cmd.rplHead)
    (hs : s'.clk.stage = s.clk.stage) : Answered p op st d s (finish (reply p op st d s')) :=
  ((putReply_sent _ s').grows (finish_grows _)).congr hr hb hc hk hs

/-! ### The end of a command leaves no event of the cycle waiting -/

theorem reportLost_fresh (s : State) : (reportLost s).evt.fresh = s.evt.fresh := by
  unfold reportLost causeSet
  split
  · rfl
  · dsimp only; split <;> rfl

theorem countLost_fresh (c : Nat) (s : State) : (countLost c s).evt.fresh = s.evt.fresh := rfl

theorem causeSet_fresh (c : Nat) (s : State) : (causeSet c s).evt.fresh = s.evt.fresh := by
  unfold causeSet; split <;> rfl

theorem evTrace_fresh (e : Event) (f : Nat) (s : State) : (evTrace e f s).evt.fresh = s.evt.fresh := rfl

theorem evEnter_fresh (e : Event) (s : State) : (evEnter e s).evt.fresh = s.evt.fresh := by
  unfold evEnter; split
  · rfl
  · dsimp only
    split
    · rw [evTrace_fresh, causeSet_fresh]; rfl
    · split
      · split
        · rw [countLost_fresh, evTrace_fresh, causeSet_fresh]; rfl
        · rw [countLost_fresh, evTrace_fresh]; rfl
      · rw [countLost_fresh, evTrace_fresh]; rfl

/-- What enters the event path waits no longer. -/
theorem enterEvents_fresh (s : State) : (enterEvents s).evt.fresh = [] := by
  unfold enterEvents
  rw [reportLost_fresh, foldl_keeps (fun u : State => u.evt.fresh) _ (fun s e => evEnter_fresh e s)]

/-- After the end of a command the events of its cycle are in the event path, but in the edge cycle before the boundary of
p0. -/
theorem finish_settled (s : State) : (finish s).settledEvents := by
  intro hp
  have hc : (finish s).clk = s.clk := finish_clk s
  unfold finish at hp ⊢
  dsimp only at hp ⊢
  split
  · rename_i h
    rw [if_pos h] at hp
    rw [hp] at h
    exact absurd h (by decide)
  · exact enterEvents_fresh _

end Sys2Proof.Machine
end

