-- ==== Sys2Proof/Laws/State.lean ====
section
/-! SUPPORT. What each named update of the state writes, and that it leaves every other field. -/

namespace Sys2Proof.Machine

/-! ### State.updCl -/

@[simp] theorem State.updCl_clk (s : State) (n : Nat) (f : Cluster → Cluster) : (s.updCl n f).clk = s.clk := rfl
@[simp] theorem State.updCl_dl (s : State) (n : Nat) (f : Cluster → Cluster) : (s.updCl n f).dl = s.dl := rfl
@[simp] theorem State.updCl_sys (s : State) (n : Nat) (f : Cluster → Cluster) : (s.updCl n f).sys = s.sys := rfl
@[simp] theorem State.updCl_fuses (s : State) (n : Nat) (f : Cluster → Cluster) : (s.updCl n f).fuses = s.fuses := rfl
@[simp] theorem State.updCl_rails (s : State) (n : Nat) (f : Cluster → Cluster) : (s.updCl n f).rails = s.rails := rfl
@[simp] theorem State.updCl_feed (s : State) (n : Nat) (f : Cluster → Cluster) : (s.updCl n f).feed = s.feed := rfl
@[simp] theorem State.updCl_vin (s : State) (n : Nat) (f : Cluster → Cluster) : (s.updCl n f).vin = s.vin := rfl
@[simp] theorem State.updCl_starts (s : State) (n : Nat) (f : Cluster → Cluster) : (s.updCl n f).starts = s.starts := rfl
@[simp] theorem State.updCl_stops (s : State) (n : Nat) (f : Cluster → Cluster) : (s.updCl n f).stops = s.stops := rfl
@[simp] theorem State.updCl_segs (s : State) (n : Nat) (f : Cluster → Cluster) : (s.updCl n f).segs = s.segs := rfl
@[simp] theorem State.updCl_groups (s : State) (n : Nat) (f : Cluster → Cluster) : (s.updCl n f).groups = s.groups := rfl
@[simp] theorem State.updCl_phases (s : State) (n : Nat) (f : Cluster → Cluster) : (s.updCl n f).phases = s.phases := rfl
@[simp] theorem State.updCl_checks (s : State) (n : Nat) (f : Cluster → Cluster) : (s.updCl n f).checks = s.checks := rfl
@[simp] theorem State.updCl_cl (s : State) (n : Nat) (f : Cluster → Cluster) : (s.updCl n f).cl = s.cl.modify n f := rfl
@[simp] theorem State.updCl_cells (s : State) (n : Nat) (f : Cluster → Cluster) : (s.updCl n f).cells = s.cells := rfl
@[simp] theorem State.updCl_chans (s : State) (n : Nat) (f : Cluster → Cluster) : (s.updCl n f).chans = s.chans := rfl
@[simp] theorem State.updCl_convs (s : State) (n : Nat) (f : Cluster → Cluster) : (s.updCl n f).convs = s.convs := rfl
@[simp] theorem State.updCl_adc (s : State) (n : Nat) (f : Cluster → Cluster) : (s.updCl n f).adc = s.adc := rfl
@[simp] theorem State.updCl_eng (s : State) (n : Nat) (f : Cluster → Cluster) : (s.updCl n f).eng = s.eng := rfl
@[simp] theorem State.updCl_blwCfg (s : State) (n : Nat) (f : Cluster → Cluster) : (s.updCl n f).blwCfg = s.blwCfg := rfl
@[simp] theorem State.updCl_man (s : State) (n : Nat) (f : Cluster → Cluster) : (s.updCl n f).man = s.man := rfl
@[simp] theorem State.updCl_gov (s : State) (n : Nat) (f : Cluster → Cluster) : (s.updCl n f).gov = s.gov := rfl
@[simp] theorem State.updCl_cvy (s : State) (n : Nat) (f : Cluster → Cluster) : (s.updCl n f).cvy = s.cvy := rfl
@[simp] theorem State.updCl_therm (s : State) (n : Nat) (f : Cluster → Cluster) : (s.updCl n f).therm = s.therm := rfl
@[simp] theorem State.updCl_en (s : State) (n : Nat) (f : Cluster → Cluster) : (s.updCl n f).en = s.en := rfl
@[simp] theorem State.updCl_rech (s : State) (n : Nat) (f : Cluster → Cluster) : (s.updCl n f).rech = s.rech := rfl
@[simp] theorem State.updCl_cvn (s : State) (n : Nat) (f : Cluster → Cluster) : (s.updCl n f).cvn = s.cvn := rfl
@[simp] theorem State.updCl_seq (s : State) (n : Nat) (f : Cluster → Cluster) : (s.updCl n f).seq = s.seq := rfl
@[simp] theorem State.updCl_cmd (s : State) (n : Nat) (f : Cluster → Cluster) : (s.updCl n f).cmd = s.cmd := rfl
@[simp] theorem State.updCl_evt (s : State) (n : Nat) (f : Cluster → Cluster) : (s.updCl n f).evt = s.evt := rfl
@[simp] theorem State.updCl_trc (s : State) (n : Nat) (f : Cluster → Cluster) : (s.updCl n f).trc = s.trc := rfl
@[simp] theorem State.updCl_led (s : State) (n : Nat) (f : Cluster → Cluster) : (s.updCl n f).led = s.led := rfl
@[simp] theorem State.updCl_fw (s : State) (n : Nat) (f : Cluster → Cluster) : (s.updCl n f).fw = s.fw := rfl
@[simp] theorem State.updCl_core (s : State) (n : Nat) (f : Cluster → Cluster) : (s.updCl n f).core = s.core := rfl
@[simp] theorem State.updCl_dbg (s : State) (n : Nat) (f : Cluster → Cluster) : (s.updCl n f).dbg = s.dbg := rfl
@[simp] theorem State.updCl_freeCount (s : State) (n : Nat) (f : Cluster → Cluster) : (s.updCl n f).freeCount = s.freeCount := rfl
@[simp] theorem State.updCl_out (s : State) (n : Nat) (f : Cluster → Cluster) : (s.updCl n f).out = s.out := rfl
@[simp] theorem State.updCl_pending (s : State) (n : Nat) (f : Cluster → Cluster) : (s.updCl n f).pending = s.pending := rfl

/-! ### State.updCell -/

@[simp] theorem State.updCell_clk (s : State) (c : Nat) (f : Cell → Cell) : (s.updCell c f).clk = s.clk := rfl
@[simp] theorem State.updCell_dl (s : State) (c : Nat) (f : Cell → Cell) : (s.updCell c f).dl = s.dl := rfl
@[simp] theorem State.updCell_sys (s : State) (c : Nat) (f : Cell → Cell) : (s.updCell c f).sys = s.sys := rfl
@[simp] theorem State.updCell_fuses (s : State) (c : Nat) (f : Cell → Cell) : (s.updCell c f).fuses = s.fuses := rfl
@[simp] theorem State.updCell_rails (s : State) (c : Nat) (f : Cell → Cell) : (s.updCell c f).rails = s.rails := rfl
@[simp] theorem State.updCell_feed (s : State) (c : Nat) (f : Cell → Cell) : (s.updCell c f).feed = s.feed := rfl
@[simp] theorem State.updCell_vin (s : State) (c : Nat) (f : Cell → Cell) : (s.updCell c f).vin = s.vin := rfl
@[simp] theorem State.updCell_starts (s : State) (c : Nat) (f : Cell → Cell) : (s.updCell c f).starts = s.starts := rfl
@[simp] theorem State.updCell_stops (s : State) (c : Nat) (f : Cell → Cell) : (s.updCell c f).stops = s.stops := rfl
@[simp] theorem State.updCell_segs (s : State) (c : Nat) (f : Cell → Cell) : (s.updCell c f).segs = s.segs := rfl
@[simp] theorem State.updCell_groups (s : State) (c : Nat) (f : Cell → Cell) : (s.updCell c f).groups = s.groups := rfl
@[simp] theorem State.updCell_phases (s : State) (c : Nat) (f : Cell → Cell) : (s.updCell c f).phases = s.phases := rfl
@[simp] theorem State.updCell_checks (s : State) (c : Nat) (f : Cell → Cell) : (s.updCell c f).checks = s.checks := rfl
@[simp] theorem State.updCell_cl (s : State) (c : Nat) (f : Cell → Cell) : (s.updCell c f).cl = s.cl := rfl
@[simp] theorem State.updCell_cells (s : State) (c : Nat) (f : Cell → Cell) : (s.updCell c f).cells = s.cells.modify c f := rfl
@[simp] theorem State.updCell_chans (s : State) (c : Nat) (f : Cell → Cell) : (s.updCell c f).chans = s.chans := rfl
@[simp] theorem State.updCell_convs (s : State) (c : Nat) (f : Cell → Cell) : (s.updCell c f).convs = s.convs := rfl
@[simp] theorem State.updCell_adc (s : State) (c : Nat) (f : Cell → Cell) : (s.updCell c f).adc = s.adc := rfl
@[simp] theorem State.updCell_eng (s : State) (c : Nat) (f : Cell → Cell) : (s.updCell c f).eng = s.eng := rfl
@[simp] theorem State.updCell_blwCfg (s : State) (c : Nat) (f : Cell → Cell) : (s.updCell c f).blwCfg = s.blwCfg := rfl
@[simp] theorem State.updCell_man (s : State) (c : Nat) (f : Cell → Cell) : (s.updCell c f).man = s.man := rfl
@[simp] theorem State.updCell_gov (s : State) (c : Nat) (f : Cell → Cell) : (s.updCell c f).gov = s.gov := rfl
@[simp] theorem State.updCell_cvy (s : State) (c : Nat) (f : Cell → Cell) : (s.updCell c f).cvy = s.cvy := rfl
@[simp] theorem State.updCell_therm (s : State) (c : Nat) (f : Cell → Cell) : (s.updCell c f).therm = s.therm := rfl
@[simp] theorem State.updCell_en (s : State) (c : Nat) (f : Cell → Cell) : (s.updCell c f).en = s.en := rfl
@[simp] theorem State.updCell_rech (s : State) (c : Nat) (f : Cell → Cell) : (s.updCell c f).rech = s.rech := rfl
@[simp] theorem State.updCell_cvn (s : State) (c : Nat) (f : Cell → Cell) : (s.updCell c f).cvn = s.cvn := rfl
@[simp] theorem State.updCell_seq (s : State) (c : Nat) (f : Cell → Cell) : (s.updCell c f).seq = s.seq := rfl
@[simp] theorem State.updCell_cmd (s : State) (c : Nat) (f : Cell → Cell) : (s.updCell c f).cmd = s.cmd := rfl
@[simp] theorem State.updCell_evt (s : State) (c : Nat) (f : Cell → Cell) : (s.updCell c f).evt = s.evt := rfl
@[simp] theorem State.updCell_trc (s : State) (c : Nat) (f : Cell → Cell) : (s.updCell c f).trc = s.trc := rfl
@[simp] theorem State.updCell_led (s : State) (c : Nat) (f : Cell → Cell) : (s.updCell c f).led = s.led := rfl
@[simp] theorem State.updCell_fw (s : State) (c : Nat) (f : Cell → Cell) : (s.updCell c f).fw = s.fw := rfl
@[simp] theorem State.updCell_core (s : State) (c : Nat) (f : Cell → Cell) : (s.updCell c f).core = s.core := rfl
@[simp] theorem State.updCell_dbg (s : State) (c : Nat) (f : Cell → Cell) : (s.updCell c f).dbg = s.dbg := rfl
@[simp] theorem State.updCell_freeCount (s : State) (c : Nat) (f : Cell → Cell) : (s.updCell c f).freeCount = s.freeCount := rfl
@[simp] theorem State.updCell_out (s : State) (c : Nat) (f : Cell → Cell) : (s.updCell c f).out = s.out := rfl
@[simp] theorem State.updCell_pending (s : State) (c : Nat) (f : Cell → Cell) : (s.updCell c f).pending = s.pending := rfl

/-! ### State.updPh -/

@[simp] theorem State.updPh_clk (s : State) (i : Nat) (f : Phase → Phase) : (s.updPh i f).clk = s.clk := rfl
@[simp] theorem State.updPh_dl (s : State) (i : Nat) (f : Phase → Phase) : (s.updPh i f).dl = s.dl := rfl
@[simp] theorem State.updPh_sys (s : State) (i : Nat) (f : Phase → Phase) : (s.updPh i f).sys = s.sys := rfl
@[simp] theorem State.updPh_fuses (s : State) (i : Nat) (f : Phase → Phase) : (s.updPh i f).fuses = s.fuses := rfl
@[simp] theorem State.updPh_rails (s : State) (i : Nat) (f : Phase → Phase) : (s.updPh i f).rails = s.rails := rfl
@[simp] theorem State.updPh_feed (s : State) (i : Nat) (f : Phase → Phase) : (s.updPh i f).feed = s.feed := rfl
@[simp] theorem State.updPh_vin (s : State) (i : Nat) (f : Phase → Phase) : (s.updPh i f).vin = s.vin := rfl
@[simp] theorem State.updPh_starts (s : State) (i : Nat) (f : Phase → Phase) : (s.updPh i f).starts = s.starts := rfl
@[simp] theorem State.updPh_stops (s : State) (i : Nat) (f : Phase → Phase) : (s.updPh i f).stops = s.stops := rfl
@[simp] theorem State.updPh_segs (s : State) (i : Nat) (f : Phase → Phase) : (s.updPh i f).segs = s.segs := rfl
@[simp] theorem State.updPh_groups (s : State) (i : Nat) (f : Phase → Phase) : (s.updPh i f).groups = s.groups := rfl
@[simp] theorem State.updPh_phases (s : State) (i : Nat) (f : Phase → Phase) : (s.updPh i f).phases = s.phases.modify i f := rfl
@[simp] theorem State.updPh_checks (s : State) (i : Nat) (f : Phase → Phase) : (s.updPh i f).checks = s.checks := rfl
@[simp] theorem State.updPh_cl (s : State) (i : Nat) (f : Phase → Phase) : (s.updPh i f).cl = s.cl := rfl
@[simp] theorem State.updPh_cells (s : State) (i : Nat) (f : Phase → Phase) : (s.updPh i f).cells = s.cells := rfl
@[simp] theorem State.updPh_chans (s : State) (i : Nat) (f : Phase → Phase) : (s.updPh i f).chans = s.chans := rfl
@[simp] theorem State.updPh_convs (s : State) (i : Nat) (f : Phase → Phase) : (s.updPh i f).convs = s.convs := rfl
@[simp] theorem State.updPh_adc (s : State) (i : Nat) (f : Phase → Phase) : (s.updPh i f).adc = s.adc := rfl
@[simp] theorem State.updPh_eng (s : State) (i : Nat) (f : Phase → Phase) : (s.updPh i f).eng = s.eng := rfl
@[simp] theorem State.updPh_blwCfg (s : State) (i : Nat) (f : Phase → Phase) : (s.updPh i f).blwCfg = s.blwCfg := rfl
@[simp] theorem State.updPh_man (s : State) (i : Nat) (f : Phase → Phase) : (s.updPh i f).man = s.man := rfl
@[simp] theorem State.updPh_gov (s : State) (i : Nat) (f : Phase → Phase) : (s.updPh i f).gov = s.gov := rfl
@[simp] theorem State.updPh_cvy (s : State) (i : Nat) (f : Phase → Phase) : (s.updPh i f).cvy = s.cvy := rfl
@[simp] theorem State.updPh_therm (s : State) (i : Nat) (f : Phase → Phase) : (s.updPh i f).therm = s.therm := rfl
@[simp] theorem State.updPh_en (s : State) (i : Nat) (f : Phase → Phase) : (s.updPh i f).en = s.en := rfl
@[simp] theorem State.updPh_rech (s : State) (i : Nat) (f : Phase → Phase) : (s.updPh i f).rech = s.rech := rfl
@[simp] theorem State.updPh_cvn (s : State) (i : Nat) (f : Phase → Phase) : (s.updPh i f).cvn = s.cvn := rfl
@[simp] theorem State.updPh_seq (s : State) (i : Nat) (f : Phase → Phase) : (s.updPh i f).seq = s.seq := rfl
@[simp] theorem State.updPh_cmd (s : State) (i : Nat) (f : Phase → Phase) : (s.updPh i f).cmd = s.cmd := rfl
@[simp] theorem State.updPh_evt (s : State) (i : Nat) (f : Phase → Phase) : (s.updPh i f).evt = s.evt := rfl
@[simp] theorem State.updPh_trc (s : State) (i : Nat) (f : Phase → Phase) : (s.updPh i f).trc = s.trc := rfl
@[simp] theorem State.updPh_led (s : State) (i : Nat) (f : Phase → Phase) : (s.updPh i f).led = s.led := rfl
@[simp] theorem State.updPh_fw (s : State) (i : Nat) (f : Phase → Phase) : (s.updPh i f).fw = s.fw := rfl
@[simp] theorem State.updPh_core (s : State) (i : Nat) (f : Phase → Phase) : (s.updPh i f).core = s.core := rfl
@[simp] theorem State.updPh_dbg (s : State) (i : Nat) (f : Phase → Phase) : (s.updPh i f).dbg = s.dbg := rfl
@[simp] theorem State.updPh_freeCount (s : State) (i : Nat) (f : Phase → Phase) : (s.updPh i f).freeCount = s.freeCount := rfl
@[simp] theorem State.updPh_out (s : State) (i : Nat) (f : Phase → Phase) : (s.updPh i f).out = s.out := rfl
@[simp] theorem State.updPh_pending (s : State) (i : Nat) (f : Phase → Phase) : (s.updPh i f).pending = s.pending := rfl

/-! ### State.updGrp -/

@[simp] theorem State.updGrp_clk (s : State) (g : Nat) (f : Group → Group) : (s.updGrp g f).clk = s.clk := rfl
@[simp] theorem State.updGrp_dl (s : State) (g : Nat) (f : Group → Group) : (s.updGrp g f).dl = s.dl := rfl
@[simp] theorem State.updGrp_sys (s : State) (g : Nat) (f : Group → Group) : (s.updGrp g f).sys = s.sys := rfl
@[simp] theorem State.updGrp_fuses (s : State) (g : Nat) (f : Group → Group) : (s.updGrp g f).fuses = s.fuses := rfl
@[simp] theorem State.updGrp_rails (s : State) (g : Nat) (f : Group → Group) : (s.updGrp g f).rails = s.rails := rfl
@[simp] theorem State.updGrp_feed (s : State) (g : Nat) (f : Group → Group) : (s.updGrp g f).feed = s.feed := rfl
@[simp] theorem State.updGrp_vin (s : State) (g : Nat) (f : Group → Group) : (s.updGrp g f).vin = s.vin := rfl
@[simp] theorem State.updGrp_starts (s : State) (g : Nat) (f : Group → Group) : (s.updGrp g f).starts = s.starts := rfl
@[simp] theorem State.updGrp_stops (s : State) (g : Nat) (f : Group → Group) : (s.updGrp g f).stops = s.stops := rfl
@[simp] theorem State.updGrp_segs (s : State) (g : Nat) (f : Group → Group) : (s.updGrp g f).segs = s.segs := rfl
@[simp] theorem State.updGrp_groups (s : State) (g : Nat) (f : Group → Group) : (s.updGrp g f).groups = s.groups.modify g f := rfl
@[simp] theorem State.updGrp_phases (s : State) (g : Nat) (f : Group → Group) : (s.updGrp g f).phases = s.phases := rfl
@[simp] theorem State.updGrp_checks (s : State) (g : Nat) (f : Group → Group) : (s.updGrp g f).checks = s.checks := rfl
@[simp] theorem State.updGrp_cl (s : State) (g : Nat) (f : Group → Group) : (s.updGrp g f).cl = s.cl := rfl
@[simp] theorem State.updGrp_cells (s : State) (g : Nat) (f : Group → Group) : (s.updGrp g f).cells = s.cells := rfl
@[simp] theorem State.updGrp_chans (s : State) (g : Nat) (f : Group → Group) : (s.updGrp g f).chans = s.chans := rfl
@[simp] theorem State.updGrp_convs (s : State) (g : Nat) (f : Group → Group) : (s.updGrp g f).convs = s.convs := rfl
@[simp] theorem State.updGrp_adc (s : State) (g : Nat) (f : Group → Group) : (s.updGrp g f).adc = s.adc := rfl
@[simp] theorem State.updGrp_eng (s : State) (g : Nat) (f : Group → Group) : (s.updGrp g f).eng = s.eng := rfl
@[simp] theorem State.updGrp_blwCfg (s : State) (g : Nat) (f : Group → Group) : (s.updGrp g f).blwCfg = s.blwCfg := rfl
@[simp] theorem State.updGrp_man (s : State) (g : Nat) (f : Group → Group) : (s.updGrp g f).man = s.man := rfl
@[simp] theorem State.updGrp_gov (s : State) (g : Nat) (f : Group → Group) : (s.updGrp g f).gov = s.gov := rfl
@[simp] theorem State.updGrp_cvy (s : State) (g : Nat) (f : Group → Group) : (s.updGrp g f).cvy = s.cvy := rfl
@[simp] theorem State.updGrp_therm (s : State) (g : Nat) (f : Group → Group) : (s.updGrp g f).therm = s.therm := rfl
@[simp] theorem State.updGrp_en (s : State) (g : Nat) (f : Group → Group) : (s.updGrp g f).en = s.en := rfl
@[simp] theorem State.updGrp_rech (s : State) (g : Nat) (f : Group → Group) : (s.updGrp g f).rech = s.rech := rfl
@[simp] theorem State.updGrp_cvn (s : State) (g : Nat) (f : Group → Group) : (s.updGrp g f).cvn = s.cvn := rfl
@[simp] theorem State.updGrp_seq (s : State) (g : Nat) (f : Group → Group) : (s.updGrp g f).seq = s.seq := rfl
@[simp] theorem State.updGrp_cmd (s : State) (g : Nat) (f : Group → Group) : (s.updGrp g f).cmd = s.cmd := rfl
@[simp] theorem State.updGrp_evt (s : State) (g : Nat) (f : Group → Group) : (s.updGrp g f).evt = s.evt := rfl
@[simp] theorem State.updGrp_trc (s : State) (g : Nat) (f : Group → Group) : (s.updGrp g f).trc = s.trc := rfl
@[simp] theorem State.updGrp_led (s : State) (g : Nat) (f : Group → Group) : (s.updGrp g f).led = s.led := rfl
@[simp] theorem State.updGrp_fw (s : State) (g : Nat) (f : Group → Group) : (s.updGrp g f).fw = s.fw := rfl
@[simp] theorem State.updGrp_core (s : State) (g : Nat) (f : Group → Group) : (s.updGrp g f).core = s.core := rfl
@[simp] theorem State.updGrp_dbg (s : State) (g : Nat) (f : Group → Group) : (s.updGrp g f).dbg = s.dbg := rfl
@[simp] theorem State.updGrp_freeCount (s : State) (g : Nat) (f : Group → Group) : (s.updGrp g f).freeCount = s.freeCount := rfl
@[simp] theorem State.updGrp_out (s : State) (g : Nat) (f : Group → Group) : (s.updGrp g f).out = s.out := rfl
@[simp] theorem State.updGrp_pending (s : State) (g : Nat) (f : Group → Group) : (s.updGrp g f).pending = s.pending := rfl

/-! ### State.updSeg -/

@[simp] theorem State.updSeg_clk (s : State) (x : Nat) (f : Seg → Seg) : (s.updSeg x f).clk = s.clk := rfl
@[simp] theorem State.updSeg_dl (s : State) (x : Nat) (f : Seg → Seg) : (s.updSeg x f).dl = s.dl := rfl
@[simp] theorem State.updSeg_sys (s : State) (x : Nat) (f : Seg → Seg) : (s.updSeg x f).sys = s.sys := rfl
@[simp] theorem State.updSeg_fuses (s : State) (x : Nat) (f : Seg → Seg) : (s.updSeg x f).fuses = s.fuses := rfl
@[simp] theorem State.updSeg_rails (s : State) (x : Nat) (f : Seg → Seg) : (s.updSeg x f).rails = s.rails := rfl
@[simp] theorem State.updSeg_feed (s : State) (x : Nat) (f : Seg → Seg) : (s.updSeg x f).feed = s.feed := rfl
@[simp] theorem State.updSeg_vin (s : State) (x : Nat) (f : Seg → Seg) : (s.updSeg x f).vin = s.vin := rfl
@[simp] theorem State.updSeg_starts (s : State) (x : Nat) (f : Seg → Seg) : (s.updSeg x f).starts = s.starts := rfl
@[simp] theorem State.updSeg_stops (s : State) (x : Nat) (f : Seg → Seg) : (s.updSeg x f).stops = s.stops := rfl
@[simp] theorem State.updSeg_segs (s : State) (x : Nat) (f : Seg → Seg) : (s.updSeg x f).segs = s.segs.modify x f := rfl
@[simp] theorem State.updSeg_groups (s : State) (x : Nat) (f : Seg → Seg) : (s.updSeg x f).groups = s.groups := rfl
@[simp] theorem State.updSeg_phases (s : State) (x : Nat) (f : Seg → Seg) : (s.updSeg x f).phases = s.phases := rfl
@[simp] theorem State.updSeg_checks (s : State) (x : Nat) (f : Seg → Seg) : (s.updSeg x f).checks = s.checks := rfl
@[simp] theorem State.updSeg_cl (s : State) (x : Nat) (f : Seg → Seg) : (s.updSeg x f).cl = s.cl := rfl
@[simp] theorem State.updSeg_cells (s : State) (x : Nat) (f : Seg → Seg) : (s.updSeg x f).cells = s.cells := rfl
@[simp] theorem State.updSeg_chans (s : State) (x : Nat) (f : Seg → Seg) : (s.updSeg x f).chans = s.chans := rfl
@[simp] theorem State.updSeg_convs (s : State) (x : Nat) (f : Seg → Seg) : (s.updSeg x f).convs = s.convs := rfl
@[simp] theorem State.updSeg_adc (s : State) (x : Nat) (f : Seg → Seg) : (s.updSeg x f).adc = s.adc := rfl
@[simp] theorem State.updSeg_eng (s : State) (x : Nat) (f : Seg → Seg) : (s.updSeg x f).eng = s.eng := rfl
@[simp] theorem State.updSeg_blwCfg (s : State) (x : Nat) (f : Seg → Seg) : (s.updSeg x f).blwCfg = s.blwCfg := rfl
@[simp] theorem State.updSeg_man (s : State) (x : Nat) (f : Seg → Seg) : (s.updSeg x f).man = s.man := rfl
@[simp] theorem State.updSeg_gov (s : State) (x : Nat) (f : Seg → Seg) : (s.updSeg x f).gov = s.gov := rfl
@[simp] theorem State.updSeg_cvy (s : State) (x : Nat) (f : Seg → Seg) : (s.updSeg x f).cvy = s.cvy := rfl
@[simp] theorem State.updSeg_therm (s : State) (x : Nat) (f : Seg → Seg) : (s.updSeg x f).therm = s.therm := rfl
@[simp] theorem State.updSeg_en (s : State) (x : Nat) (f : Seg → Seg) : (s.updSeg x f).en = s.en := rfl
@[simp] theorem State.updSeg_rech (s : State) (x : Nat) (f : Seg → Seg) : (s.updSeg x f).rech = s.rech := rfl
@[simp] theorem State.updSeg_cvn (s : State) (x : Nat) (f : Seg → Seg) : (s.updSeg x f).cvn = s.cvn := rfl
@[simp] theorem State.updSeg_seq (s : State) (x : Nat) (f : Seg → Seg) : (s.updSeg x f).seq = s.seq := rfl
@[simp] theorem State.updSeg_cmd (s : State) (x : Nat) (f : Seg → Seg) : (s.updSeg x f).cmd = s.cmd := rfl
@[simp] theorem State.updSeg_evt (s : State) (x : Nat) (f : Seg → Seg) : (s.updSeg x f).evt = s.evt := rfl
@[simp] theorem State.updSeg_trc (s : State) (x : Nat) (f : Seg → Seg) : (s.updSeg x f).trc = s.trc := rfl
@[simp] theorem State.updSeg_led (s : State) (x : Nat) (f : Seg → Seg) : (s.updSeg x f).led = s.led := rfl
@[simp] theorem State.updSeg_fw (s : State) (x : Nat) (f : Seg → Seg) : (s.updSeg x f).fw = s.fw := rfl
@[simp] theorem State.updSeg_core (s : State) (x : Nat) (f : Seg → Seg) : (s.updSeg x f).core = s.core := rfl
@[simp] theorem State.updSeg_dbg (s : State) (x : Nat) (f : Seg → Seg) : (s.updSeg x f).dbg = s.dbg := rfl
@[simp] theorem State.updSeg_freeCount (s : State) (x : Nat) (f : Seg → Seg) : (s.updSeg x f).freeCount = s.freeCount := rfl
@[simp] theorem State.updSeg_out (s : State) (x : Nat) (f : Seg → Seg) : (s.updSeg x f).out = s.out := rfl
@[simp] theorem State.updSeg_pending (s : State) (x : Nat) (f : Seg → Seg) : (s.updSeg x f).pending = s.pending := rfl

/-! ### State.updRail -/

@[simp] theorem State.updRail_clk (s : State) (r : Nat) (f : Rail → Rail) : (s.updRail r f).clk = s.clk := rfl
@[simp] theorem State.updRail_dl (s : State) (r : Nat) (f : Rail → Rail) : (s.updRail r f).dl = s.dl := rfl
@[simp] theorem State.updRail_sys (s : State) (r : Nat) (f : Rail → Rail) : (s.updRail r f).sys = s.sys := rfl
@[simp] theorem State.updRail_fuses (s : State) (r : Nat) (f : Rail → Rail) : (s.updRail r f).fuses = s.fuses := rfl
@[simp] theorem State.updRail_rails (s : State) (r : Nat) (f : Rail → Rail) : (s.updRail r f).rails = s.rails.modify r f := rfl
@[simp] theorem State.updRail_feed (s : State) (r : Nat) (f : Rail → Rail) : (s.updRail r f).feed = s.feed := rfl
@[simp] theorem State.updRail_vin (s : State) (r : Nat) (f : Rail → Rail) : (s.updRail r f).vin = s.vin := rfl
@[simp] theorem State.updRail_starts (s : State) (r : Nat) (f : Rail → Rail) : (s.updRail r f).starts = s.starts := rfl
@[simp] theorem State.updRail_stops (s : State) (r : Nat) (f : Rail → Rail) : (s.updRail r f).stops = s.stops := rfl
@[simp] theorem State.updRail_segs (s : State) (r : Nat) (f : Rail → Rail) : (s.updRail r f).segs = s.segs := rfl
@[simp] theorem State.updRail_groups (s : State) (r : Nat) (f : Rail → Rail) : (s.updRail r f).groups = s.groups := rfl
@[simp] theorem State.updRail_phases (s : State) (r : Nat) (f : Rail → Rail) : (s.updRail r f).phases = s.phases := rfl
@[simp] theorem State.updRail_checks (s : State) (r : Nat) (f : Rail → Rail) : (s.updRail r f).checks = s.checks := rfl
@[simp] theorem State.updRail_cl (s : State) (r : Nat) (f : Rail → Rail) : (s.updRail r f).cl = s.cl := rfl
@[simp] theorem State.updRail_cells (s : State) (r : Nat) (f : Rail → Rail) : (s.updRail r f).cells = s.cells := rfl
@[simp] theorem State.updRail_chans (s : State) (r : Nat) (f : Rail → Rail) : (s.updRail r f).chans = s.chans := rfl
@[simp] theorem State.updRail_convs (s : State) (r : Nat) (f : Rail → Rail) : (s.updRail r f).convs = s.convs := rfl
@[simp] theorem State.updRail_adc (s : State) (r : Nat) (f : Rail → Rail) : (s.updRail r f).adc = s.adc := rfl
@[simp] theorem State.updRail_eng (s : State) (r : Nat) (f : Rail → Rail) : (s.updRail r f).eng = s.eng := rfl
@[simp] theorem State.updRail_blwCfg (s : State) (r : Nat) (f : Rail → Rail) : (s.updRail r f).blwCfg = s.blwCfg := rfl
@[simp] theorem State.updRail_man (s : State) (r : Nat) (f : Rail → Rail) : (s.updRail r f).man = s.man := rfl
@[simp] theorem State.updRail_gov (s : State) (r : Nat) (f : Rail → Rail) : (s.updRail r f).gov = s.gov := rfl
@[simp] theorem State.updRail_cvy (s : State) (r : Nat) (f : Rail → Rail) : (s.updRail r f).cvy = s.cvy := rfl
@[simp] theorem State.updRail_therm (s : State) (r : Nat) (f : Rail → Rail) : (s.updRail r f).therm = s.therm := rfl
@[simp] theorem State.updRail_en (s : State) (r : Nat) (f : Rail → Rail) : (s.updRail r f).en = s.en := rfl
@[simp] theorem State.updRail_rech (s : State) (r : Nat) (f : Rail → Rail) : (s.updRail r f).rech = s.rech := rfl
@[simp] theorem State.updRail_cvn (s : State) (r : Nat) (f : Rail → Rail) : (s.updRail r f).cvn = s.cvn := rfl
@[simp] theorem State.updRail_seq (s : State) (r : Nat) (f : Rail → Rail) : (s.updRail r f).seq = s.seq := rfl
@[simp] theorem State.updRail_cmd (s : State) (r : Nat) (f : Rail → Rail) : (s.updRail r f).cmd = s.cmd := rfl
@[simp] theorem State.updRail_evt (s : State) (r : Nat) (f : Rail → Rail) : (s.updRail r f).evt = s.evt := rfl
@[simp] theorem State.updRail_trc (s : State) (r : Nat) (f : Rail → Rail) : (s.updRail r f).trc = s.trc := rfl
@[simp] theorem State.updRail_led (s : State) (r : Nat) (f : Rail → Rail) : (s.updRail r f).led = s.led := rfl
@[simp] theorem State.updRail_fw (s : State) (r : Nat) (f : Rail → Rail) : (s.updRail r f).fw = s.fw := rfl
@[simp] theorem State.updRail_core (s : State) (r : Nat) (f : Rail → Rail) : (s.updRail r f).core = s.core := rfl
@[simp] theorem State.updRail_dbg (s : State) (r : Nat) (f : Rail → Rail) : (s.updRail r f).dbg = s.dbg := rfl
@[simp] theorem State.updRail_freeCount (s : State) (r : Nat) (f : Rail → Rail) : (s.updRail r f).freeCount = s.freeCount := rfl
@[simp] theorem State.updRail_out (s : State) (r : Nat) (f : Rail → Rail) : (s.updRail r f).out = s.out := rfl
@[simp] theorem State.updRail_pending (s : State) (r : Nat) (f : Rail → Rail) : (s.updRail r f).pending = s.pending := rfl

/-! ### State.updConv -/

@[simp] theorem State.updConv_clk (s : State) (u : Nat) (f : Conv → Conv) : (s.updConv u f).clk = s.clk := rfl
@[simp] theorem State.updConv_dl (s : State) (u : Nat) (f : Conv → Conv) : (s.updConv u f).dl = s.dl := rfl
@[simp] theorem State.updConv_sys (s : State) (u : Nat) (f : Conv → Conv) : (s.updConv u f).sys = s.sys := rfl
@[simp] theorem State.updConv_fuses (s : State) (u : Nat) (f : Conv → Conv) : (s.updConv u f).fuses = s.fuses := rfl
@[simp] theorem State.updConv_rails (s : State) (u : Nat) (f : Conv → Conv) : (s.updConv u f).rails = s.rails := rfl
@[simp] theorem State.updConv_feed (s : State) (u : Nat) (f : Conv → Conv) : (s.updConv u f).feed = s.feed := rfl
@[simp] theorem State.updConv_vin (s : State) (u : Nat) (f : Conv → Conv) : (s.updConv u f).vin = s.vin := rfl
@[simp] theorem State.updConv_starts (s : State) (u : Nat) (f : Conv → Conv) : (s.updConv u f).starts = s.starts := rfl
@[simp] theorem State.updConv_stops (s : State) (u : Nat) (f : Conv → Conv) : (s.updConv u f).stops = s.stops := rfl
@[simp] theorem State.updConv_segs (s : State) (u : Nat) (f : Conv → Conv) : (s.updConv u f).segs = s.segs := rfl
@[simp] theorem State.updConv_groups (s : State) (u : Nat) (f : Conv → Conv) : (s.updConv u f).groups = s.groups := rfl
@[simp] theorem State.updConv_phases (s : State) (u : Nat) (f : Conv → Conv) : (s.updConv u f).phases = s.phases := rfl
@[simp] theorem State.updConv_checks (s : State) (u : Nat) (f : Conv → Conv) : (s.updConv u f).checks = s.checks := rfl
@[simp] theorem State.updConv_cl (s : State) (u : Nat) (f : Conv → Conv) : (s.updConv u f).cl = s.cl := rfl
@[simp] theorem State.updConv_cells (s : State) (u : Nat) (f : Conv → Conv) : (s.updConv u f).cells = s.cells := rfl
@[simp] theorem State.updConv_chans (s : State) (u : Nat) (f : Conv → Conv) : (s.updConv u f).chans = s.chans := rfl
@[simp] theorem State.updConv_convs (s : State) (u : Nat) (f : Conv → Conv) : (s.updConv u f).convs = s.convs.modify u f := rfl
@[simp] theorem State.updConv_adc (s : State) (u : Nat) (f : Conv → Conv) : (s.updConv u f).adc = s.adc := rfl
@[simp] theorem State.updConv_eng (s : State) (u : Nat) (f : Conv → Conv) : (s.updConv u f).eng = s.eng := rfl
@[simp] theorem State.updConv_blwCfg (s : State) (u : Nat) (f : Conv → Conv) : (s.updConv u f).blwCfg = s.blwCfg := rfl
@[simp] theorem State.updConv_man (s : State) (u : Nat) (f : Conv → Conv) : (s.updConv u f).man = s.man := rfl
@[simp] theorem State.updConv_gov (s : State) (u : Nat) (f : Conv → Conv) : (s.updConv u f).gov = s.gov := rfl
@[simp] theorem State.updConv_cvy (s : State) (u : Nat) (f : Conv → Conv) : (s.updConv u f).cvy = s.cvy := rfl
@[simp] theorem State.updConv_therm (s : State) (u : Nat) (f : Conv → Conv) : (s.updConv u f).therm = s.therm := rfl
@[simp] theorem State.updConv_en (s : State) (u : Nat) (f : Conv → Conv) : (s.updConv u f).en = s.en := rfl
@[simp] theorem State.updConv_rech (s : State) (u : Nat) (f : Conv → Conv) : (s.updConv u f).rech = s.rech := rfl
@[simp] theorem State.updConv_cvn (s : State) (u : Nat) (f : Conv → Conv) : (s.updConv u f).cvn = s.cvn := rfl
@[simp] theorem State.updConv_seq (s : State) (u : Nat) (f : Conv → Conv) : (s.updConv u f).seq = s.seq := rfl
@[simp] theorem State.updConv_cmd (s : State) (u : Nat) (f : Conv → Conv) : (s.updConv u f).cmd = s.cmd := rfl
@[simp] theorem State.updConv_evt (s : State) (u : Nat) (f : Conv → Conv) : (s.updConv u f).evt = s.evt := rfl
@[simp] theorem State.updConv_trc (s : State) (u : Nat) (f : Conv → Conv) : (s.updConv u f).trc = s.trc := rfl
@[simp] theorem State.updConv_led (s : State) (u : Nat) (f : Conv → Conv) : (s.updConv u f).led = s.led := rfl
@[simp] theorem State.updConv_fw (s : State) (u : Nat) (f : Conv → Conv) : (s.updConv u f).fw = s.fw := rfl
@[simp] theorem State.updConv_core (s : State) (u : Nat) (f : Conv → Conv) : (s.updConv u f).core = s.core := rfl
@[simp] theorem State.updConv_dbg (s : State) (u : Nat) (f : Conv → Conv) : (s.updConv u f).dbg = s.dbg := rfl
@[simp] theorem State.updConv_freeCount (s : State) (u : Nat) (f : Conv → Conv) : (s.updConv u f).freeCount = s.freeCount := rfl
@[simp] theorem State.updConv_out (s : State) (u : Nat) (f : Conv → Conv) : (s.updConv u f).out = s.out := rfl
@[simp] theorem State.updConv_pending (s : State) (u : Nat) (f : Conv → Conv) : (s.updConv u f).pending = s.pending := rfl

/-! ### State.updChan -/

@[simp] theorem State.updChan_clk (s : State) (c : Nat) (f : Chan → Chan) : (s.updChan c f).clk = s.clk := rfl
@[simp] theorem State.updChan_dl (s : State) (c : Nat) (f : Chan → Chan) : (s.updChan c f).dl = s.dl := rfl
@[simp] theorem State.updChan_sys (s : State) (c : Nat) (f : Chan → Chan) : (s.updChan c f).sys = s.sys := rfl
@[simp] theorem State.updChan_fuses (s : State) (c : Nat) (f : Chan → Chan) : (s.updChan c f).fuses = s.fuses := rfl
@[simp] theorem State.updChan_rails (s : State) (c : Nat) (f : Chan → Chan) : (s.updChan c f).rails = s.rails := rfl
@[simp] theorem State.updChan_feed (s : State) (c : Nat) (f : Chan → Chan) : (s.updChan c f).feed = s.feed := rfl
@[simp] theorem State.updChan_vin (s : State) (c : Nat) (f : Chan → Chan) : (s.updChan c f).vin = s.vin := rfl
@[simp] theorem State.updChan_starts (s : State) (c : Nat) (f : Chan → Chan) : (s.updChan c f).starts = s.starts := rfl
@[simp] theorem State.updChan_stops (s : State) (c : Nat) (f : Chan → Chan) : (s.updChan c f).stops = s.stops := rfl
@[simp] theorem State.updChan_segs (s : State) (c : Nat) (f : Chan → Chan) : (s.updChan c f).segs = s.segs := rfl
@[simp] theorem State.updChan_groups (s : State) (c : Nat) (f : Chan → Chan) : (s.updChan c f).groups = s.groups := rfl
@[simp] theorem State.updChan_phases (s : State) (c : Nat) (f : Chan → Chan) : (s.updChan c f).phases = s.phases := rfl
@[simp] theorem State.updChan_checks (s : State) (c : Nat) (f : Chan → Chan) : (s.updChan c f).checks = s.checks := rfl
@[simp] theorem State.updChan_cl (s : State) (c : Nat) (f : Chan → Chan) : (s.updChan c f).cl = s.cl := rfl
@[simp] theorem State.updChan_cells (s : State) (c : Nat) (f : Chan → Chan) : (s.updChan c f).cells = s.cells := rfl
@[simp] theorem State.updChan_chans (s : State) (c : Nat) (f : Chan → Chan) : (s.updChan c f).chans = s.chans.modify c f := rfl
@[simp] theorem State.updChan_convs (s : State) (c : Nat) (f : Chan → Chan) : (s.updChan c f).convs = s.convs := rfl
@[simp] theorem State.updChan_adc (s : State) (c : Nat) (f : Chan → Chan) : (s.updChan c f).adc = s.adc := rfl
@[simp] theorem State.updChan_eng (s : State) (c : Nat) (f : Chan → Chan) : (s.updChan c f).eng = s.eng := rfl
@[simp] theorem State.updChan_blwCfg (s : State) (c : Nat) (f : Chan → Chan) : (s.updChan c f).blwCfg = s.blwCfg := rfl
@[simp] theorem State.updChan_man (s : State) (c : Nat) (f : Chan → Chan) : (s.updChan c f).man = s.man := rfl
@[simp] theorem State.updChan_gov (s : State) (c : Nat) (f : Chan → Chan) : (s.updChan c f).gov = s.gov := rfl
@[simp] theorem State.updChan_cvy (s : State) (c : Nat) (f : Chan → Chan) : (s.updChan c f).cvy = s.cvy := rfl
@[simp] theorem State.updChan_therm (s : State) (c : Nat) (f : Chan → Chan) : (s.updChan c f).therm = s.therm := rfl
@[simp] theorem State.updChan_en (s : State) (c : Nat) (f : Chan → Chan) : (s.updChan c f).en = s.en := rfl
@[simp] theorem State.updChan_rech (s : State) (c : Nat) (f : Chan → Chan) : (s.updChan c f).rech = s.rech := rfl
@[simp] theorem State.updChan_cvn (s : State) (c : Nat) (f : Chan → Chan) : (s.updChan c f).cvn = s.cvn := rfl
@[simp] theorem State.updChan_seq (s : State) (c : Nat) (f : Chan → Chan) : (s.updChan c f).seq = s.seq := rfl
@[simp] theorem State.updChan_cmd (s : State) (c : Nat) (f : Chan → Chan) : (s.updChan c f).cmd = s.cmd := rfl
@[simp] theorem State.updChan_evt (s : State) (c : Nat) (f : Chan → Chan) : (s.updChan c f).evt = s.evt := rfl
@[simp] theorem State.updChan_trc (s : State) (c : Nat) (f : Chan → Chan) : (s.updChan c f).trc = s.trc := rfl
@[simp] theorem State.updChan_led (s : State) (c : Nat) (f : Chan → Chan) : (s.updChan c f).led = s.led := rfl
@[simp] theorem State.updChan_fw (s : State) (c : Nat) (f : Chan → Chan) : (s.updChan c f).fw = s.fw := rfl
@[simp] theorem State.updChan_core (s : State) (c : Nat) (f : Chan → Chan) : (s.updChan c f).core = s.core := rfl
@[simp] theorem State.updChan_dbg (s : State) (c : Nat) (f : Chan → Chan) : (s.updChan c f).dbg = s.dbg := rfl
@[simp] theorem State.updChan_freeCount (s : State) (c : Nat) (f : Chan → Chan) : (s.updChan c f).freeCount = s.freeCount := rfl
@[simp] theorem State.updChan_out (s : State) (c : Nat) (f : Chan → Chan) : (s.updChan c f).out = s.out := rfl
@[simp] theorem State.updChan_pending (s : State) (c : Nat) (f : Chan → Chan) : (s.updChan c f).pending = s.pending := rfl

/-! ### State.updCvy -/

@[simp] theorem State.updCvy_clk (s : State) (f : Cvy → Cvy) : (s.updCvy f).clk = s.clk := rfl
@[simp] theorem State.updCvy_dl (s : State) (f : Cvy → Cvy) : (s.updCvy f).dl = s.dl := rfl
@[simp] theorem State.updCvy_sys (s : State) (f : Cvy → Cvy) : (s.updCvy f).sys = s.sys := rfl
@[simp] theorem State.updCvy_fuses (s : State) (f : Cvy → Cvy) : (s.updCvy f).fuses = s.fuses := rfl
@[simp] theorem State.updCvy_rails (s : State) (f : Cvy → Cvy) : (s.updCvy f).rails = s.rails := rfl
@[simp] theorem State.updCvy_feed (s : State) (f : Cvy → Cvy) : (s.updCvy f).feed = s.feed := rfl
@[simp] theorem State.updCvy_vin (s : State) (f : Cvy → Cvy) : (s.updCvy f).vin = s.vin := rfl
@[simp] theorem State.updCvy_starts (s : State) (f : Cvy → Cvy) : (s.updCvy f).starts = s.starts := rfl
@[simp] theorem State.updCvy_stops (s : State) (f : Cvy → Cvy) : (s.updCvy f).stops = s.stops := rfl
@[simp] theorem State.updCvy_segs (s : State) (f : Cvy → Cvy) : (s.updCvy f).segs = s.segs := rfl
@[simp] theorem State.updCvy_groups (s : State) (f : Cvy → Cvy) : (s.updCvy f).groups = s.groups := rfl
@[simp] theorem State.updCvy_phases (s : State) (f : Cvy → Cvy) : (s.updCvy f).phases = s.phases := rfl
@[simp] theorem State.updCvy_checks (s : State) (f : Cvy → Cvy) : (s.updCvy f).checks = s.checks := rfl
@[simp] theorem State.updCvy_cl (s : State) (f : Cvy → Cvy) : (s.updCvy f).cl = s.cl := rfl
@[simp] theorem State.updCvy_cells (s : State) (f : Cvy → Cvy) : (s.updCvy f).cells = s.cells := rfl
@[simp] theorem State.updCvy_chans (s : State) (f : Cvy → Cvy) : (s.updCvy f).chans = s.chans := rfl
@[simp] theorem State.updCvy_convs (s : State) (f : Cvy → Cvy) : (s.updCvy f).convs = s.convs := rfl
@[simp] theorem State.updCvy_adc (s : State) (f : Cvy → Cvy) : (s.updCvy f).adc = s.adc := rfl
@[simp] theorem State.updCvy_eng (s : State) (f : Cvy → Cvy) : (s.updCvy f).eng = s.eng := rfl
@[simp] theorem State.updCvy_blwCfg (s : State) (f : Cvy → Cvy) : (s.updCvy f).blwCfg = s.blwCfg := rfl
@[simp] theorem State.updCvy_man (s : State) (f : Cvy → Cvy) : (s.updCvy f).man = s.man := rfl
@[simp] theorem State.updCvy_gov (s : State) (f : Cvy → Cvy) : (s.updCvy f).gov = s.gov := rfl
@[simp] theorem State.updCvy_cvy (s : State) (f : Cvy → Cvy) : (s.updCvy f).cvy = f s.cvy := rfl
@[simp] theorem State.updCvy_therm (s : State) (f : Cvy → Cvy) : (s.updCvy f).therm = s.therm := rfl
@[simp] theorem State.updCvy_en (s : State) (f : Cvy → Cvy) : (s.updCvy f).en = s.en := rfl
@[simp] theorem State.updCvy_rech (s : State) (f : Cvy → Cvy) : (s.updCvy f).rech = s.rech := rfl
@[simp] theorem State.updCvy_cvn (s : State) (f : Cvy → Cvy) : (s.updCvy f).cvn = s.cvn := rfl
@[simp] theorem State.updCvy_seq (s : State) (f : Cvy → Cvy) : (s.updCvy f).seq = s.seq := rfl
@[simp] theorem State.updCvy_cmd (s : State) (f : Cvy → Cvy) : (s.updCvy f).cmd = s.cmd := rfl
@[simp] theorem State.updCvy_evt (s : State) (f : Cvy → Cvy) : (s.updCvy f).evt = s.evt := rfl
@[simp] theorem State.updCvy_trc (s : State) (f : Cvy → Cvy) : (s.updCvy f).trc = s.trc := rfl
@[simp] theorem State.updCvy_led (s : State) (f : Cvy → Cvy) : (s.updCvy f).led = s.led := rfl
@[simp] theorem State.updCvy_fw (s : State) (f : Cvy → Cvy) : (s.updCvy f).fw = s.fw := rfl
@[simp] theorem State.updCvy_core (s : State) (f : Cvy → Cvy) : (s.updCvy f).core = s.core := rfl
@[simp] theorem State.updCvy_dbg (s : State) (f : Cvy → Cvy) : (s.updCvy f).dbg = s.dbg := rfl
@[simp] theorem State.updCvy_freeCount (s : State) (f : Cvy → Cvy) : (s.updCvy f).freeCount = s.freeCount := rfl
@[simp] theorem State.updCvy_out (s : State) (f : Cvy → Cvy) : (s.updCvy f).out = s.out := rfl
@[simp] theorem State.updCvy_pending (s : State) (f : Cvy → Cvy) : (s.updCvy f).pending = s.pending := rfl

/-! ### State.updDbg -/

@[simp] theorem State.updDbg_clk (s : State) (f : Dbg → Dbg) : (s.updDbg f).clk = s.clk := rfl
@[simp] theorem State.updDbg_dl (s : State) (f : Dbg → Dbg) : (s.updDbg f).dl = s.dl := rfl
@[simp] theorem State.updDbg_sys (s : State) (f : Dbg → Dbg) : (s.updDbg f).sys = s.sys := rfl
@[simp] theorem State.updDbg_fuses (s : State) (f : Dbg → Dbg) : (s.updDbg f).fuses = s.fuses := rfl
@[simp] theorem State.updDbg_rails (s : State) (f : Dbg → Dbg) : (s.updDbg f).rails = s.rails := rfl
@[simp] theorem State.updDbg_feed (s : State) (f : Dbg → Dbg) : (s.updDbg f).feed = s.feed := rfl
@[simp] theorem State.updDbg_vin (s : State) (f : Dbg → Dbg) : (s.updDbg f).vin = s.vin := rfl
@[simp] theorem State.updDbg_starts (s : State) (f : Dbg → Dbg) : (s.updDbg f).starts = s.starts := rfl
@[simp] theorem State.updDbg_stops (s : State) (f : Dbg → Dbg) : (s.updDbg f).stops = s.stops := rfl
@[simp] theorem State.updDbg_segs (s : State) (f : Dbg → Dbg) : (s.updDbg f).segs = s.segs := rfl
@[simp] theorem State.updDbg_groups (s : State) (f : Dbg → Dbg) : (s.updDbg f).groups = s.groups := rfl
@[simp] theorem State.updDbg_phases (s : State) (f : Dbg → Dbg) : (s.updDbg f).phases = s.phases := rfl
@[simp] theorem State.updDbg_checks (s : State) (f : Dbg → Dbg) : (s.updDbg f).checks = s.checks := rfl
@[simp] theorem State.updDbg_cl (s : State) (f : Dbg → Dbg) : (s.updDbg f).cl = s.cl := rfl
@[simp] theorem State.updDbg_cells (s : State) (f : Dbg → Dbg) : (s.updDbg f).cells = s.cells := rfl
@[simp] theorem State.updDbg_chans (s : State) (f : Dbg → Dbg) : (s.updDbg f).chans = s.chans := rfl
@[simp] theorem State.updDbg_convs (s : State) (f : Dbg → Dbg) : (s.updDbg f).convs = s.convs := rfl
@[simp] theorem State.updDbg_adc (s : State) (f : Dbg → Dbg) : (s.updDbg f).adc = s.adc := rfl
@[simp] theorem State.updDbg_eng (s : State) (f : Dbg → Dbg) : (s.updDbg f).eng = s.eng := rfl
@[simp] theorem State.updDbg_blwCfg (s : State) (f : Dbg → Dbg) : (s.updDbg f).blwCfg = s.blwCfg := rfl
@[simp] theorem State.updDbg_man (s : State) (f : Dbg → Dbg) : (s.updDbg f).man = s.man := rfl
@[simp] theorem State.updDbg_gov (s : State) (f : Dbg → Dbg) : (s.updDbg f).gov = s.gov := rfl
@[simp] theorem State.updDbg_cvy (s : State) (f : Dbg → Dbg) : (s.updDbg f).cvy = s.cvy := rfl
@[simp] theorem State.updDbg_therm (s : State) (f : Dbg → Dbg) : (s.updDbg f).therm = s.therm := rfl
@[simp] theorem State.updDbg_en (s : State) (f : Dbg → Dbg) : (s.updDbg f).en = s.en := rfl
@[simp] theorem State.updDbg_rech (s : State) (f : Dbg → Dbg) : (s.updDbg f).rech = s.rech := rfl
@[simp] theorem State.updDbg_cvn (s : State) (f : Dbg → Dbg) : (s.updDbg f).cvn = s.cvn := rfl
@[simp] theorem State.updDbg_seq (s : State) (f : Dbg → Dbg) : (s.updDbg f).seq = s.seq := rfl
@[simp] theorem State.updDbg_cmd (s : State) (f : Dbg → Dbg) : (s.updDbg f).cmd = s.cmd := rfl
@[simp] theorem State.updDbg_evt (s : State) (f : Dbg → Dbg) : (s.updDbg f).evt = s.evt := rfl
@[simp] theorem State.updDbg_trc (s : State) (f : Dbg → Dbg) : (s.updDbg f).trc = s.trc := rfl
@[simp] theorem State.updDbg_led (s : State) (f : Dbg → Dbg) : (s.updDbg f).led = s.led := rfl
@[simp] theorem State.updDbg_fw (s : State) (f : Dbg → Dbg) : (s.updDbg f).fw = s.fw := rfl
@[simp] theorem State.updDbg_core (s : State) (f : Dbg → Dbg) : (s.updDbg f).core = s.core := rfl
@[simp] theorem State.updDbg_dbg (s : State) (f : Dbg → Dbg) : (s.updDbg f).dbg = f s.dbg := rfl
@[simp] theorem State.updDbg_freeCount (s : State) (f : Dbg → Dbg) : (s.updDbg f).freeCount = s.freeCount := rfl
@[simp] theorem State.updDbg_out (s : State) (f : Dbg → Dbg) : (s.updDbg f).out = s.out := rfl
@[simp] theorem State.updDbg_pending (s : State) (f : Dbg → Dbg) : (s.updDbg f).pending = s.pending := rfl

/-! ### emit -/

@[simp] theorem emit_clk (s : State) (o : Output) : (emit o s).clk = s.clk := rfl
@[simp] theorem emit_dl (s : State) (o : Output) : (emit o s).dl = s.dl := rfl
@[simp] theorem emit_sys (s : State) (o : Output) : (emit o s).sys = s.sys := rfl
@[simp] theorem emit_fuses (s : State) (o : Output) : (emit o s).fuses = s.fuses := rfl
@[simp] theorem emit_rails (s : State) (o : Output) : (emit o s).rails = s.rails := rfl
@[simp] theorem emit_feed (s : State) (o : Output) : (emit o s).feed = s.feed := rfl
@[simp] theorem emit_vin (s : State) (o : Output) : (emit o s).vin = s.vin := rfl
@[simp] theorem emit_starts (s : State) (o : Output) : (emit o s).starts = s.starts := rfl
@[simp] theorem emit_stops (s : State) (o : Output) : (emit o s).stops = s.stops := rfl
@[simp] theorem emit_segs (s : State) (o : Output) : (emit o s).segs = s.segs := rfl
@[simp] theorem emit_groups (s : State) (o : Output) : (emit o s).groups = s.groups := rfl
@[simp] theorem emit_phases (s : State) (o : Output) : (emit o s).phases = s.phases := rfl
@[simp] theorem emit_checks (s : State) (o : Output) : (emit o s).checks = s.checks := rfl
@[simp] theorem emit_cl (s : State) (o : Output) : (emit o s).cl = s.cl := rfl
@[simp] theorem emit_cells (s : State) (o : Output) : (emit o s).cells = s.cells := rfl
@[simp] theorem emit_chans (s : State) (o : Output) : (emit o s).chans = s.chans := rfl
@[simp] theorem emit_convs (s : State) (o : Output) : (emit o s).convs = s.convs := rfl
@[simp] theorem emit_adc (s : State) (o : Output) : (emit o s).adc = s.adc := rfl
@[simp] theorem emit_eng (s : State) (o : Output) : (emit o s).eng = s.eng := rfl
@[simp] theorem emit_blwCfg (s : State) (o : Output) : (emit o s).blwCfg = s.blwCfg := rfl
@[simp] theorem emit_man (s : State) (o : Output) : (emit o s).man = s.man := rfl
@[simp] theorem emit_gov (s : State) (o : Output) : (emit o s).gov = s.gov := rfl
@[simp] theorem emit_cvy (s : State) (o : Output) : (emit o s).cvy = s.cvy := rfl
@[simp] theorem emit_therm (s : State) (o : Output) : (emit o s).therm = s.therm := rfl
@[simp] theorem emit_en (s : State) (o : Output) : (emit o s).en = s.en := rfl
@[simp] theorem emit_rech (s : State) (o : Output) : (emit o s).rech = s.rech := rfl
@[simp] theorem emit_cvn (s : State) (o : Output) : (emit o s).cvn = s.cvn := rfl
@[simp] theorem emit_seq (s : State) (o : Output) : (emit o s).seq = s.seq := rfl
@[simp] theorem emit_cmd (s : State) (o : Output) : (emit o s).cmd = s.cmd := rfl
@[simp] theorem emit_evt (s : State) (o : Output) : (emit o s).evt = s.evt := rfl
@[simp] theorem emit_trc (s : State) (o : Output) : (emit o s).trc = s.trc := rfl
@[simp] theorem emit_led (s : State) (o : Output) : (emit o s).led = s.led := rfl
@[simp] theorem emit_fw (s : State) (o : Output) : (emit o s).fw = s.fw := rfl
@[simp] theorem emit_core (s : State) (o : Output) : (emit o s).core = s.core := rfl
@[simp] theorem emit_dbg (s : State) (o : Output) : (emit o s).dbg = s.dbg := rfl
@[simp] theorem emit_freeCount (s : State) (o : Output) : (emit o s).freeCount = s.freeCount := rfl
@[simp] theorem emit_out (s : State) (o : Output) : (emit o s).out = o :: s.out := rfl
@[simp] theorem emit_pending (s : State) (o : Output) : (emit o s).pending = s.pending := rfl

/-! ### vector -/

@[simp] theorem vector_clk (s : State) (v : Nat) : (vector v s).clk = s.clk := rfl
@[simp] theorem vector_dl (s : State) (v : Nat) : (vector v s).dl = s.dl := rfl
@[simp] theorem vector_sys (s : State) (v : Nat) : (vector v s).sys = s.sys := rfl
@[simp] theorem vector_fuses (s : State) (v : Nat) : (vector v s).fuses = s.fuses := rfl
@[simp] theorem vector_rails (s : State) (v : Nat) : (vector v s).rails = s.rails := rfl
@[simp] theorem vector_feed (s : State) (v : Nat) : (vector v s).feed = s.feed := rfl
@[simp] theorem vector_vin (s : State) (v : Nat) : (vector v s).vin = s.vin := rfl
@[simp] theorem vector_starts (s : State) (v : Nat) : (vector v s).starts = s.starts := rfl
@[simp] theorem vector_stops (s : State) (v : Nat) : (vector v s).stops = s.stops := rfl
@[simp] theorem vector_segs (s : State) (v : Nat) : (vector v s).segs = s.segs := rfl
@[simp] theorem vector_groups (s : State) (v : Nat) : (vector v s).groups = s.groups := rfl
@[simp] theorem vector_phases (s : State) (v : Nat) : (vector v s).phases = s.phases := rfl
@[simp] theorem vector_checks (s : State) (v : Nat) : (vector v s).checks = s.checks := rfl
@[simp] theorem vector_cl (s : State) (v : Nat) : (vector v s).cl = s.cl := rfl
@[simp] theorem vector_cells (s : State) (v : Nat) : (vector v s).cells = s.cells := rfl
@[simp] theorem vector_chans (s : State) (v : Nat) : (vector v s).chans = s.chans := rfl
@[simp] theorem vector_convs (s : State) (v : Nat) : (vector v s).convs = s.convs := rfl
@[simp] theorem vector_adc (s : State) (v : Nat) : (vector v s).adc = s.adc := rfl
@[simp] theorem vector_eng (s : State) (v : Nat) : (vector v s).eng = s.eng := rfl
@[simp] theorem vector_blwCfg (s : State) (v : Nat) : (vector v s).blwCfg = s.blwCfg := rfl
@[simp] theorem vector_man (s : State) (v : Nat) : (vector v s).man = s.man := rfl
@[simp] theorem vector_gov (s : State) (v : Nat) : (vector v s).gov = s.gov := rfl
@[simp] theorem vector_cvy (s : State) (v : Nat) : (vector v s).cvy = s.cvy := rfl
@[simp] theorem vector_therm (s : State) (v : Nat) : (vector v s).therm = s.therm := rfl
@[simp] theorem vector_en (s : State) (v : Nat) : (vector v s).en = s.en := rfl
@[simp] theorem vector_rech (s : State) (v : Nat) : (vector v s).rech = s.rech := rfl
@[simp] theorem vector_cvn (s : State) (v : Nat) : (vector v s).cvn = s.cvn := rfl
@[simp] theorem vector_seq (s : State) (v : Nat) : (vector v s).seq = s.seq := rfl
@[simp] theorem vector_cmd (s : State) (v : Nat) : (vector v s).cmd = s.cmd := rfl
@[simp] theorem vector_trc (s : State) (v : Nat) : (vector v s).trc = s.trc := rfl
@[simp] theorem vector_led (s : State) (v : Nat) : (vector v s).led = s.led := rfl
@[simp] theorem vector_fw (s : State) (v : Nat) : (vector v s).fw = s.fw := rfl
@[simp] theorem vector_core (s : State) (v : Nat) : (vector v s).core = s.core := rfl
@[simp] theorem vector_dbg (s : State) (v : Nat) : (vector v s).dbg = s.dbg := rfl
@[simp] theorem vector_freeCount (s : State) (v : Nat) : (vector v s).freeCount = s.freeCount := rfl
@[simp] theorem vector_out (s : State) (v : Nat) : (vector v s).out = .vector v :: s.out := rfl
@[simp] theorem vector_pending (s : State) (v : Nat) : (vector v s).pending = s.pending := rfl

/-! ### trace -/

@[simp] theorem trace_clk (s : State) (k f : Nat) (b : List Byte) : (trace k f b s).clk = s.clk := rfl
@[simp] theorem trace_dl (s : State) (k f : Nat) (b : List Byte) : (trace k f b s).dl = s.dl := rfl
@[simp] theorem trace_sys (s : State) (k f : Nat) (b : List Byte) : (trace k f b s).sys = s.sys := rfl
@[simp] theorem trace_fuses (s : State) (k f : Nat) (b : List Byte) : (trace k f b s).fuses = s.fuses := rfl
@[simp] theorem trace_rails (s : State) (k f : Nat) (b : List Byte) : (trace k f b s).rails = s.rails := rfl
@[simp] theorem trace_feed (s : State) (k f : Nat) (b : List Byte) : (trace k f b s).feed = s.feed := rfl
@[simp] theorem trace_vin (s : State) (k f : Nat) (b : List Byte) : (trace k f b s).vin = s.vin := rfl
@[simp] theorem trace_starts (s : State) (k f : Nat) (b : List Byte) : (trace k f b s).starts = s.starts := rfl
@[simp] theorem trace_stops (s : State) (k f : Nat) (b : List Byte) : (trace k f b s).stops = s.stops := rfl
@[simp] theorem trace_segs (s : State) (k f : Nat) (b : List Byte) : (trace k f b s).segs = s.segs := rfl
@[simp] theorem trace_groups (s : State) (k f : Nat) (b : List Byte) : (trace k f b s).groups = s.groups := rfl
@[simp] theorem trace_phases (s : State) (k f : Nat) (b : List Byte) : (trace k f b s).phases = s.phases := rfl
@[simp] theorem trace_checks (s : State) (k f : Nat) (b : List Byte) : (trace k f b s).checks = s.checks := rfl
@[simp] theorem trace_cl (s : State) (k f : Nat) (b : List Byte) : (trace k f b s).cl = s.cl := rfl
@[simp] theorem trace_cells (s : State) (k f : Nat) (b : List Byte) : (trace k f b s).cells = s.cells := rfl
@[simp] theorem trace_chans (s : State) (k f : Nat) (b : List Byte) : (trace k f b s).chans = s.chans := rfl
@[simp] theorem trace_convs (s : State) (k f : Nat) (b : List Byte) : (trace k f b s).convs = s.convs := rfl
@[simp] theorem trace_adc (s : State) (k f : Nat) (b : List Byte) : (trace k f b s).adc = s.adc := rfl
@[simp] theorem trace_eng (s : State) (k f : Nat) (b : List Byte) : (trace k f b s).eng = s.eng := rfl
@[simp] theorem trace_blwCfg (s : State) (k f : Nat) (b : List Byte) : (trace k f b s).blwCfg = s.blwCfg := rfl
@[simp] theorem trace_man (s : State) (k f : Nat) (b : List Byte) : (trace k f b s).man = s.man := rfl
@[simp] theorem trace_gov (s : State) (k f : Nat) (b : List Byte) : (trace k f b s).gov = s.gov := rfl
@[simp] theorem trace_cvy (s : State) (k f : Nat) (b : List Byte) : (trace k f b s).cvy = s.cvy := rfl
@[simp] theorem trace_therm (s : State) (k f : Nat) (b : List Byte) : (trace k f b s).therm = s.therm := rfl
@[simp] theorem trace_en (s : State) (k f : Nat) (b : List Byte) : (trace k f b s).en = s.en := rfl
@[simp] theorem trace_rech (s : State) (k f : Nat) (b : List Byte) : (trace k f b s).rech = s.rech := rfl
@[simp] theorem trace_cvn (s : State) (k f : Nat) (b : List Byte) : (trace k f b s).cvn = s.cvn := rfl
@[simp] theorem trace_seq (s : State) (k f : Nat) (b : List Byte) : (trace k f b s).seq = s.seq := rfl
@[simp] theorem trace_cmd (s : State) (k f : Nat) (b : List Byte) : (trace k f b s).cmd = s.cmd := rfl
@[simp] theorem trace_evt (s : State) (k f : Nat) (b : List Byte) : (trace k f b s).evt = s.evt := rfl
@[simp] theorem trace_led (s : State) (k f : Nat) (b : List Byte) : (trace k f b s).led = s.led := rfl
@[simp] theorem trace_fw (s : State) (k f : Nat) (b : List Byte) : (trace k f b s).fw = s.fw := rfl
@[simp] theorem trace_core (s : State) (k f : Nat) (b : List Byte) : (trace k f b s).core = s.core := rfl
@[simp] theorem trace_dbg (s : State) (k f : Nat) (b : List Byte) : (trace k f b s).dbg = s.dbg := rfl
@[simp] theorem trace_freeCount (s : State) (k f : Nat) (b : List Byte) : (trace k f b s).freeCount = s.freeCount := rfl
@[simp] theorem trace_out (s : State) (k f : Nat) (b : List Byte) : (trace k f b s).out = s.out := rfl
@[simp] theorem trace_pending (s : State) (k f : Nat) (b : List Byte) : (trace k f b s).pending = s.pending := rfl

/-! ### noteSet -/

@[simp] theorem noteSet_clk (s : State) (o b : Nat) : (noteSet o b s).clk = s.clk := rfl
@[simp] theorem noteSet_dl (s : State) (o b : Nat) : (noteSet o b s).dl = s.dl := rfl
@[simp] theorem noteSet_sys (s : State) (o b : Nat) : (noteSet o b s).sys = s.sys := rfl
@[simp] theorem noteSet_fuses (s : State) (o b : Nat) : (noteSet o b s).fuses = s.fuses := rfl
@[simp] theorem noteSet_rails (s : State) (o b : Nat) : (noteSet o b s).rails = s.rails := rfl
@[simp] theorem noteSet_feed (s : State) (o b : Nat) : (noteSet o b s).feed = s.feed := rfl
@[simp] theorem noteSet_vin (s : State) (o b : Nat) : (noteSet o b s).vin = s.vin := rfl
@[simp] theorem noteSet_starts (s : State) (o b : Nat) : (noteSet o b s).starts = s.starts := rfl
@[simp] theorem noteSet_stops (s : State) (o b : Nat) : (noteSet o b s).stops = s.stops := rfl
@[simp] theorem noteSet_segs (s : State) (o b : Nat) : (noteSet o b s).segs = s.segs := rfl
@[simp] theorem noteSet_groups (s : State) (o b : Nat) : (noteSet o b s).groups = s.groups := rfl
@[simp] theorem noteSet_phases (s : State) (o b : Nat) : (noteSet o b s).phases = s.phases := rfl
@[simp] theorem noteSet_checks (s : State) (o b : Nat) : (noteSet o b s).checks = s.checks := rfl
@[simp] theorem noteSet_cl (s : State) (o b : Nat) : (noteSet o b s).cl = s.cl := rfl
@[simp] theorem noteSet_cells (s : State) (o b : Nat) : (noteSet o b s).cells = s.cells := rfl
@[simp] theorem noteSet_chans (s : State) (o b : Nat) : (noteSet o b s).chans = s.chans := rfl
@[simp] theorem noteSet_convs (s : State) (o b : Nat) : (noteSet o b s).convs = s.convs := rfl
@[simp] theorem noteSet_adc (s : State) (o b : Nat) : (noteSet o b s).adc = s.adc := rfl
@[simp] theorem noteSet_eng (s : State) (o b : Nat) : (noteSet o b s).eng = s.eng := rfl
@[simp] theorem noteSet_blwCfg (s : State) (o b : Nat) : (noteSet o b s).blwCfg = s.blwCfg := rfl
@[simp] theorem noteSet_man (s : State) (o b : Nat) : (noteSet o b s).man = s.man := rfl
@[simp] theorem noteSet_gov (s : State) (o b : Nat) : (noteSet o b s).gov = s.gov := rfl
@[simp] theorem noteSet_cvy (s : State) (o b : Nat) : (noteSet o b s).cvy = s.cvy := rfl
@[simp] theorem noteSet_therm (s : State) (o b : Nat) : (noteSet o b s).therm = s.therm := rfl
@[simp] theorem noteSet_en (s : State) (o b : Nat) : (noteSet o b s).en = s.en := rfl
@[simp] theorem noteSet_rech (s : State) (o b : Nat) : (noteSet o b s).rech = s.rech := rfl
@[simp] theorem noteSet_cvn (s : State) (o b : Nat) : (noteSet o b s).cvn = s.cvn := rfl
@[simp] theorem noteSet_seq (s : State) (o b : Nat) : (noteSet o b s).seq = s.seq := rfl
@[simp] theorem noteSet_cmd (s : State) (o b : Nat) : (noteSet o b s).cmd = s.cmd := rfl
@[simp] theorem noteSet_trc (s : State) (o b : Nat) : (noteSet o b s).trc = s.trc := rfl
@[simp] theorem noteSet_led (s : State) (o b : Nat) : (noteSet o b s).led = s.led := rfl
@[simp] theorem noteSet_fw (s : State) (o b : Nat) : (noteSet o b s).fw = s.fw := rfl
@[simp] theorem noteSet_core (s : State) (o b : Nat) : (noteSet o b s).core = s.core := rfl
@[simp] theorem noteSet_dbg (s : State) (o b : Nat) : (noteSet o b s).dbg = s.dbg := rfl
@[simp] theorem noteSet_freeCount (s : State) (o b : Nat) : (noteSet o b s).freeCount = s.freeCount := rfl
@[simp] theorem noteSet_out (s : State) (o b : Nat) : (noteSet o b s).out = s.out := rfl
@[simp] theorem noteSet_pending (s : State) (o b : Nat) : (noteSet o b s).pending = s.pending := rfl

/-! ### dlSet -/

@[simp] theorem dlSet_clk (s : State) (b : Nat) : (dlSet b s).clk = s.clk := rfl
@[simp] theorem dlSet_dl (s : State) (b : Nat) : (dlSet b s).dl = { s.dl with status := s.dl.status ||| BitVec.ofNat 8 (2 ^ b) } := rfl
@[simp] theorem dlSet_sys (s : State) (b : Nat) : (dlSet b s).sys = s.sys := rfl
@[simp] theorem dlSet_fuses (s : State) (b : Nat) : (dlSet b s).fuses = s.fuses := rfl
@[simp] theorem dlSet_rails (s : State) (b : Nat) : (dlSet b s).rails = s.rails := rfl
@[simp] theorem dlSet_feed (s : State) (b : Nat) : (dlSet b s).feed = s.feed := rfl
@[simp] theorem dlSet_vin (s : State) (b : Nat) : (dlSet b s).vin = s.vin := rfl
@[simp] theorem dlSet_starts (s : State) (b : Nat) : (dlSet b s).starts = s.starts := rfl
@[simp] theorem dlSet_stops (s : State) (b : Nat) : (dlSet b s).stops = s.stops := rfl
@[simp] theorem dlSet_segs (s : State) (b : Nat) : (dlSet b s).segs = s.segs := rfl
@[simp] theorem dlSet_groups (s : State) (b : Nat) : (dlSet b s).groups = s.groups := rfl
@[simp] theorem dlSet_phases (s : State) (b : Nat) : (dlSet b s).phases = s.phases := rfl
@[simp] theorem dlSet_checks (s : State) (b : Nat) : (dlSet b s).checks = s.checks := rfl
@[simp] theorem dlSet_cl (s : State) (b : Nat) : (dlSet b s).cl = s.cl := rfl
@[simp] theorem dlSet_cells (s : State) (b : Nat) : (dlSet b s).cells = s.cells := rfl
@[simp] theorem dlSet_chans (s : State) (b : Nat) : (dlSet b s).chans = s.chans := rfl
@[simp] theorem dlSet_convs (s : State) (b : Nat) : (dlSet b s).convs = s.convs := rfl
@[simp] theorem dlSet_adc (s : State) (b : Nat) : (dlSet b s).adc = s.adc := rfl
@[simp] theorem dlSet_eng (s : State) (b : Nat) : (dlSet b s).eng = s.eng := rfl
@[simp] theorem dlSet_blwCfg (s : State) (b : Nat) : (dlSet b s).blwCfg = s.blwCfg := rfl
@[simp] theorem dlSet_man (s : State) (b : Nat) : (dlSet b s).man = s.man := rfl
@[simp] theorem dlSet_gov (s : State) (b : Nat) : (dlSet b s).gov = s.gov := rfl
@[simp] theorem dlSet_cvy (s : State) (b : Nat) : (dlSet b s).cvy = s.cvy := rfl
@[simp] theorem dlSet_therm (s : State) (b : Nat) : (dlSet b s).therm = s.therm := rfl
@[simp] theorem dlSet_en (s : State) (b : Nat) : (dlSet b s).en = s.en := rfl
@[simp] theorem dlSet_rech (s : State) (b : Nat) : (dlSet b s).rech = s.rech := rfl
@[simp] theorem dlSet_cvn (s : State) (b : Nat) : (dlSet b s).cvn = s.cvn := rfl
@[simp] theorem dlSet_seq (s : State) (b : Nat) : (dlSet b s).seq = s.seq := rfl
@[simp] theorem dlSet_cmd (s : State) (b : Nat) : (dlSet b s).cmd = s.cmd := rfl
@[simp] theorem dlSet_trc (s : State) (b : Nat) : (dlSet b s).trc = s.trc := rfl
@[simp] theorem dlSet_led (s : State) (b : Nat) : (dlSet b s).led = s.led := rfl
@[simp] theorem dlSet_fw (s : State) (b : Nat) : (dlSet b s).fw = s.fw := rfl
@[simp] theorem dlSet_core (s : State) (b : Nat) : (dlSet b s).core = s.core := rfl
@[simp] theorem dlSet_dbg (s : State) (b : Nat) : (dlSet b s).dbg = s.dbg := rfl
@[simp] theorem dlSet_freeCount (s : State) (b : Nat) : (dlSet b s).freeCount = s.freeCount := rfl
@[simp] theorem dlSet_out (s : State) (b : Nat) : (dlSet b s).out = s.out := rfl
@[simp] theorem dlSet_pending (s : State) (b : Nat) : (dlSet b s).pending = s.pending := rfl

/-! ### fwIrq -/

@[simp] theorem fwIrq_clk (s : State) (b : Nat) : (fwIrq b s).clk = s.clk := rfl
@[simp] theorem fwIrq_dl (s : State) (b : Nat) : (fwIrq b s).dl = s.dl := rfl
@[simp] theorem fwIrq_sys (s : State) (b : Nat) : (fwIrq b s).sys = s.sys := rfl
@[simp] theorem fwIrq_fuses (s : State) (b : Nat) : (fwIrq b s).fuses = s.fuses := rfl
@[simp] theorem fwIrq_rails (s : State) (b : Nat) : (fwIrq b s).rails = s.rails := rfl
@[simp] theorem fwIrq_feed (s : State) (b : Nat) : (fwIrq b s).feed = s.feed := rfl
@[simp] theorem fwIrq_vin (s : State) (b : Nat) : (fwIrq b s).vin = s.vin := rfl
@[simp] theorem fwIrq_starts (s : State) (b : Nat) : (fwIrq b s).starts = s.starts := rfl
@[simp] theorem fwIrq_stops (s : State) (b : Nat) : (fwIrq b s).stops = s.stops := rfl
@[simp] theorem fwIrq_segs (s : State) (b : Nat) : (fwIrq b s).segs = s.segs := rfl
@[simp] theorem fwIrq_groups (s : State) (b : Nat) : (fwIrq b s).groups = s.groups := rfl
@[simp] theorem fwIrq_phases (s : State) (b : Nat) : (fwIrq b s).phases = s.phases := rfl
@[simp] theorem fwIrq_checks (s : State) (b : Nat) : (fwIrq b s).checks = s.checks := rfl
@[simp] theorem fwIrq_cl (s : State) (b : Nat) : (fwIrq b s).cl = s.cl := rfl
@[simp] theorem fwIrq_cells (s : State) (b : Nat) : (fwIrq b s).cells = s.cells := rfl
@[simp] theorem fwIrq_chans (s : State) (b : Nat) : (fwIrq b s).chans = s.chans := rfl
@[simp] theorem fwIrq_convs (s : State) (b : Nat) : (fwIrq b s).convs = s.convs := rfl
@[simp] theorem fwIrq_adc (s : State) (b : Nat) : (fwIrq b s).adc = s.adc := rfl
@[simp] theorem fwIrq_eng (s : State) (b : Nat) : (fwIrq b s).eng = s.eng := rfl
@[simp] theorem fwIrq_blwCfg (s : State) (b : Nat) : (fwIrq b s).blwCfg = s.blwCfg := rfl
@[simp] theorem fwIrq_man (s : State) (b : Nat) : (fwIrq b s).man = s.man := rfl
@[simp] theorem fwIrq_gov (s : State) (b : Nat) : (fwIrq b s).gov = s.gov := rfl
@[simp] theorem fwIrq_cvy (s : State) (b : Nat) : (fwIrq b s).cvy = s.cvy := rfl
@[simp] theorem fwIrq_therm (s : State) (b : Nat) : (fwIrq b s).therm = s.therm := rfl
@[simp] theorem fwIrq_en (s : State) (b : Nat) : (fwIrq b s).en = s.en := rfl
@[simp] theorem fwIrq_rech (s : State) (b : Nat) : (fwIrq b s).rech = s.rech := rfl
@[simp] theorem fwIrq_cvn (s : State) (b : Nat) : (fwIrq b s).cvn = s.cvn := rfl
@[simp] theorem fwIrq_seq (s : State) (b : Nat) : (fwIrq b s).seq = s.seq := rfl
@[simp] theorem fwIrq_cmd (s : State) (b : Nat) : (fwIrq b s).cmd = s.cmd := rfl
@[simp] theorem fwIrq_trc (s : State) (b : Nat) : (fwIrq b s).trc = s.trc := rfl
@[simp] theorem fwIrq_led (s : State) (b : Nat) : (fwIrq b s).led = s.led := rfl
@[simp] theorem fwIrq_fw (s : State) (b : Nat) : (fwIrq b s).fw = { s.fw with irq := s.fw.irq ||| BitVec.ofNat 5 (2 ^ b) } := rfl
@[simp] theorem fwIrq_core (s : State) (b : Nat) : (fwIrq b s).core = s.core := rfl
@[simp] theorem fwIrq_dbg (s : State) (b : Nat) : (fwIrq b s).dbg = s.dbg := rfl
@[simp] theorem fwIrq_freeCount (s : State) (b : Nat) : (fwIrq b s).freeCount = s.freeCount := rfl
@[simp] theorem fwIrq_out (s : State) (b : Nat) : (fwIrq b s).out = s.out := rfl
@[simp] theorem fwIrq_pending (s : State) (b : Nat) : (fwIrq b s).pending = s.pending := rfl

/-! ### markEffect -/

@[simp] theorem markEffect_clk (s : State) (p : Packet) (e : Effect) : (markEffect p e s).clk = s.clk := rfl
@[simp] theorem markEffect_dl (s : State) (p : Packet) (e : Effect) : (markEffect p e s).dl = s.dl := rfl
@[simp] theorem markEffect_sys (s : State) (p : Packet) (e : Effect) : (markEffect p e s).sys = s.sys := rfl
@[simp] theorem markEffect_fuses (s : State) (p : Packet) (e : Effect) : (markEffect p e s).fuses = s.fuses := rfl
@[simp] theorem markEffect_rails (s : State) (p : Packet) (e : Effect) : (markEffect p e s).rails = s.rails := rfl
@[simp] theorem markEffect_feed (s : State) (p : Packet) (e : Effect) : (markEffect p e s).feed = s.feed := rfl
@[simp] theorem markEffect_vin (s : State) (p : Packet) (e : Effect) : (markEffect p e s).vin = s.vin := rfl
@[simp] theorem markEffect_starts (s : State) (p : Packet) (e : Effect) : (markEffect p e s).starts = s.starts := rfl
@[simp] theorem markEffect_stops (s : State) (p : Packet) (e : Effect) : (markEffect p e s).stops = s.stops := rfl
@[simp] theorem markEffect_segs (s : State) (p : Packet) (e : Effect) : (markEffect p e s).segs = s.segs := rfl
@[simp] theorem markEffect_groups (s : State) (p : Packet) (e : Effect) : (markEffect p e s).groups = s.groups := rfl
@[simp] theorem markEffect_phases (s : State) (p : Packet) (e : Effect) : (markEffect p e s).phases = s.phases := rfl
@[simp] theorem markEffect_checks (s : State) (p : Packet) (e : Effect) : (markEffect p e s).checks = s.checks := rfl
@[simp] theorem markEffect_cl (s : State) (p : Packet) (e : Effect) : (markEffect p e s).cl = s.cl := rfl
@[simp] theorem markEffect_cells (s : State) (p : Packet) (e : Effect) : (markEffect p e s).cells = s.cells := rfl
@[simp] theorem markEffect_chans (s : State) (p : Packet) (e : Effect) : (markEffect p e s).chans = s.chans := rfl
@[simp] theorem markEffect_convs (s : State) (p : Packet) (e : Effect) : (markEffect p e s).convs = s.convs := rfl
@[simp] theorem markEffect_adc (s : State) (p : Packet) (e : Effect) : (markEffect p e s).adc = s.adc := rfl
@[simp] theorem markEffect_eng (s : State) (p : Packet) (e : Effect) : (markEffect p e s).eng = s.eng := rfl
@[simp] theorem markEffect_blwCfg (s : State) (p : Packet) (e : Effect) : (markEffect p e s).blwCfg = s.blwCfg := rfl
@[simp] theorem markEffect_man (s : State) (p : Packet) (e : Effect) : (markEffect p e s).man = s.man := rfl
@[simp] theorem markEffect_gov (s : State) (p : Packet) (e : Effect) : (markEffect p e s).gov = s.gov := rfl
@[simp] theorem markEffect_cvy (s : State) (p : Packet) (e : Effect) : (markEffect p e s).cvy = s.cvy := rfl
@[simp] theorem markEffect_therm (s : State) (p : Packet) (e : Effect) : (markEffect p e s).therm = s.therm := rfl
@[simp] theorem markEffect_en (s : State) (p : Packet) (e : Effect) : (markEffect p e s).en = s.en := rfl
@[simp] theorem markEffect_rech (s : State) (p : Packet) (e : Effect) : (markEffect p e s).rech = s.rech := rfl
@[simp] theorem markEffect_cvn (s : State) (p : Packet) (e : Effect) : (markEffect p e s).cvn = s.cvn := rfl
@[simp] theorem markEffect_seq (s : State) (p : Packet) (e : Effect) : (markEffect p e s).seq = s.seq := rfl
@[simp] theorem markEffect_evt (s : State) (p : Packet) (e : Effect) : (markEffect p e s).evt = s.evt := rfl
@[simp] theorem markEffect_trc (s : State) (p : Packet) (e : Effect) : (markEffect p e s).trc = s.trc := rfl
@[simp] theorem markEffect_led (s : State) (p : Packet) (e : Effect) : (markEffect p e s).led = s.led := rfl
@[simp] theorem markEffect_fw (s : State) (p : Packet) (e : Effect) : (markEffect p e s).fw = s.fw := rfl
@[simp] theorem markEffect_core (s : State) (p : Packet) (e : Effect) : (markEffect p e s).core = s.core := rfl
@[simp] theorem markEffect_dbg (s : State) (p : Packet) (e : Effect) : (markEffect p e s).dbg = s.dbg := rfl
@[simp] theorem markEffect_freeCount (s : State) (p : Packet) (e : Effect) : (markEffect p e s).freeCount = s.freeCount := rfl
@[simp] theorem markEffect_out (s : State) (p : Packet) (e : Effect) : (markEffect p e s).out = s.out := rfl
@[simp] theorem markEffect_pending (s : State) (p : Packet) (e : Effect) : (markEffect p e s).pending = s.pending := rfl

/-! ### setDue -/

@[simp] theorem setDue_clk (s : State) (p : Packet) (d : Nat) : (setDue p d s).clk = s.clk := rfl
@[simp] theorem setDue_dl (s : State) (p : Packet) (d : Nat) : (setDue p d s).dl = s.dl := rfl
@[simp] theorem setDue_sys (s : State) (p : Packet) (d : Nat) : (setDue p d s).sys = s.sys := rfl
@[simp] theorem setDue_fuses (s : State) (p : Packet) (d : Nat) : (setDue p d s).fuses = s.fuses := rfl
@[simp] theorem setDue_rails (s : State) (p : Packet) (d : Nat) : (setDue p d s).rails = s.rails := rfl
@[simp] theorem setDue_feed (s : State) (p : Packet) (d : Nat) : (setDue p d s).feed = s.feed := rfl
@[simp] theorem setDue_vin (s : State) (p : Packet) (d : Nat) : (setDue p d s).vin = s.vin := rfl
@[simp] theorem setDue_starts (s : State) (p : Packet) (d : Nat) : (setDue p d s).starts = s.starts := rfl
@[simp] theorem setDue_stops (s : State) (p : Packet) (d : Nat) : (setDue p d s).stops = s.stops := rfl
@[simp] theorem setDue_segs (s : State) (p : Packet) (d : Nat) : (setDue p d s).segs = s.segs := rfl
@[simp] theorem setDue_groups (s : State) (p : Packet) (d : Nat) : (setDue p d s).groups = s.groups := rfl
@[simp] theorem setDue_phases (s : State) (p : Packet) (d : Nat) : (setDue p d s).phases = s.phases := rfl
@[simp] theorem setDue_checks (s : State) (p : Packet) (d : Nat) : (setDue p d s).checks = s.checks := rfl
@[simp] theorem setDue_cl (s : State) (p : Packet) (d : Nat) : (setDue p d s).cl = s.cl := rfl
@[simp] theorem setDue_cells (s : State) (p : Packet) (d : Nat) : (setDue p d s).cells = s.cells := rfl
@[simp] theorem setDue_chans (s : State) (p : Packet) (d : Nat) : (setDue p d s).chans = s.chans := rfl
@[simp] theorem setDue_convs (s : State) (p : Packet) (d : Nat) : (setDue p d s).convs = s.convs := rfl
@[simp] theorem setDue_adc (s : State) (p : Packet) (d : Nat) : (setDue p d s).adc = s.adc := rfl
@[simp] theorem setDue_eng (s : State) (p : Packet) (d : Nat) : (setDue p d s).eng = s.eng := rfl
@[simp] theorem setDue_blwCfg (s : State) (p : Packet) (d : Nat) : (setDue p d s).blwCfg = s.blwCfg := rfl
@[simp] theorem setDue_man (s : State) (p : Packet) (d : Nat) : (setDue p d s).man = s.man := rfl
@[simp] theorem setDue_gov (s : State) (p : Packet) (d : Nat) : (setDue p d s).gov = s.gov := rfl
@[simp] theorem setDue_cvy (s : State) (p : Packet) (d : Nat) : (setDue p d s).cvy = s.cvy := rfl
@[simp] theorem setDue_therm (s : State) (p : Packet) (d : Nat) : (setDue p d s).therm = s.therm := rfl
@[simp] theorem setDue_en (s : State) (p : Packet) (d : Nat) : (setDue p d s).en = s.en := rfl
@[simp] theorem setDue_rech (s : State) (p : Packet) (d : Nat) : (setDue p d s).rech = s.rech := rfl
@[simp] theorem setDue_cvn (s : State) (p : Packet) (d : Nat) : (setDue p d s).cvn = s.cvn := rfl
@[simp] theorem setDue_seq (s : State) (p : Packet) (d : Nat) : (setDue p d s).seq = s.seq := rfl
@[simp] theorem setDue_evt (s : State) (p : Packet) (d : Nat) : (setDue p d s).evt = s.evt := rfl
@[simp] theorem setDue_trc (s : State) (p : Packet) (d : Nat) : (setDue p d s).trc = s.trc := rfl
@[simp] theorem setDue_led (s : State) (p : Packet) (d : Nat) : (setDue p d s).led = s.led := rfl
@[simp] theorem setDue_fw (s : State) (p : Packet) (d : Nat) : (setDue p d s).fw = s.fw := rfl
@[simp] theorem setDue_core (s : State) (p : Packet) (d : Nat) : (setDue p d s).core = s.core := rfl
@[simp] theorem setDue_dbg (s : State) (p : Packet) (d : Nat) : (setDue p d s).dbg = s.dbg := rfl
@[simp] theorem setDue_freeCount (s : State) (p : Packet) (d : Nat) : (setDue p d s).freeCount = s.freeCount := rfl
@[simp] theorem setDue_out (s : State) (p : Packet) (d : Nat) : (setDue p d s).out = s.out := rfl
@[simp] theorem setDue_pending (s : State) (p : Packet) (d : Nat) : (setDue p d s).pending = s.pending := rfl

/-! ### defer -/

@[simp] theorem defer_clk (s : State) (p : Packet) (o : Nat) (l : List Act) : (defer p o l s).clk = s.clk := rfl
@[simp] theorem defer_dl (s : State) (p : Packet) (o : Nat) (l : List Act) : (defer p o l s).dl = s.dl := rfl
@[simp] theorem defer_sys (s : State) (p : Packet) (o : Nat) (l : List Act) : (defer p o l s).sys = s.sys := rfl
@[simp] theorem defer_fuses (s : State) (p : Packet) (o : Nat) (l : List Act) : (defer p o l s).fuses = s.fuses := rfl
@[simp] theorem defer_rails (s : State) (p : Packet) (o : Nat) (l : List Act) : (defer p o l s).rails = s.rails := rfl
@[simp] theorem defer_feed (s : State) (p : Packet) (o : Nat) (l : List Act) : (defer p o l s).feed = s.feed := rfl
@[simp] theorem defer_vin (s : State) (p : Packet) (o : Nat) (l : List Act) : (defer p o l s).vin = s.vin := rfl
@[simp] theorem defer_starts (s : State) (p : Packet) (o : Nat) (l : List Act) : (defer p o l s).starts = s.starts := rfl
@[simp] theorem defer_stops (s : State) (p : Packet) (o : Nat) (l : List Act) : (defer p o l s).stops = s.stops := rfl
@[simp] theorem defer_segs (s : State) (p : Packet) (o : Nat) (l : List Act) : (defer p o l s).segs = s.segs := rfl
@[simp] theorem defer_groups (s : State) (p : Packet) (o : Nat) (l : List Act) : (defer p o l s).groups = s.groups := rfl
@[simp] theorem defer_phases (s : State) (p : Packet) (o : Nat) (l : List Act) : (defer p o l s).phases = s.phases := rfl
@[simp] theorem defer_checks (s : State) (p : Packet) (o : Nat) (l : List Act) : (defer p o l s).checks = s.checks := rfl
@[simp] theorem defer_cl (s : State) (p : Packet) (o : Nat) (l : List Act) : (defer p o l s).cl = s.cl := rfl
@[simp] theorem defer_cells (s : State) (p : Packet) (o : Nat) (l : List Act) : (defer p o l s).cells = s.cells := rfl
@[simp] theorem defer_chans (s : State) (p : Packet) (o : Nat) (l : List Act) : (defer p o l s).chans = s.chans := rfl
@[simp] theorem defer_convs (s : State) (p : Packet) (o : Nat) (l : List Act) : (defer p o l s).convs = s.convs := rfl
@[simp] theorem defer_adc (s : State) (p : Packet) (o : Nat) (l : List Act) : (defer p o l s).adc = s.adc := rfl
@[simp] theorem defer_eng (s : State) (p : Packet) (o : Nat) (l : List Act) : (defer p o l s).eng = s.eng := rfl
@[simp] theorem defer_blwCfg (s : State) (p : Packet) (o : Nat) (l : List Act) : (defer p o l s).blwCfg = s.blwCfg := rfl
@[simp] theorem defer_man (s : State) (p : Packet) (o : Nat) (l : List Act) : (defer p o l s).man = s.man := rfl
@[simp] theorem defer_gov (s : State) (p : Packet) (o : Nat) (l : List Act) : (defer p o l s).gov = s.gov := rfl
@[simp] theorem defer_cvy (s : State) (p : Packet) (o : Nat) (l : List Act) : (defer p o l s).cvy = s.cvy := rfl
@[simp] theorem defer_therm (s : State) (p : Packet) (o : Nat) (l : List Act) : (defer p o l s).therm = s.therm := rfl
@[simp] theorem defer_en (s : State) (p : Packet) (o : Nat) (l : List Act) : (defer p o l s).en = s.en := rfl
@[simp] theorem defer_rech (s : State) (p : Packet) (o : Nat) (l : List Act) : (defer p o l s).rech = s.rech := rfl
@[simp] theorem defer_cvn (s : State) (p : Packet) (o : Nat) (l : List Act) : (defer p o l s).cvn = s.cvn := rfl
@[simp] theorem defer_seq (s : State) (p : Packet) (o : Nat) (l : List Act) : (defer p o l s).seq = s.seq := rfl
@[simp] theorem defer_evt (s : State) (p : Packet) (o : Nat) (l : List Act) : (defer p o l s).evt = s.evt := rfl
@[simp] theorem defer_trc (s : State) (p : Packet) (o : Nat) (l : List Act) : (defer p o l s).trc = s.trc := rfl
@[simp] theorem defer_led (s : State) (p : Packet) (o : Nat) (l : List Act) : (defer p o l s).led = s.led := rfl
@[simp] theorem defer_fw (s : State) (p : Packet) (o : Nat) (l : List Act) : (defer p o l s).fw = s.fw := rfl
@[simp] theorem defer_core (s : State) (p : Packet) (o : Nat) (l : List Act) : (defer p o l s).core = s.core := rfl
@[simp] theorem defer_dbg (s : State) (p : Packet) (o : Nat) (l : List Act) : (defer p o l s).dbg = s.dbg := rfl
@[simp] theorem defer_freeCount (s : State) (p : Packet) (o : Nat) (l : List Act) : (defer p o l s).freeCount = s.freeCount := rfl
@[simp] theorem defer_out (s : State) (p : Packet) (o : Nat) (l : List Act) : (defer p o l s).out = s.out := rfl
@[simp] theorem defer_pending (s : State) (p : Packet) (o : Nat) (l : List Act) : (defer p o l s).pending = s.pending := rfl

/-! ### ramStore -/

@[simp] theorem ramStore_clk (s : State) (a : Nat) (b : List Byte) : (ramStore a b s).clk = s.clk := rfl
@[simp] theorem ramStore_dl (s : State) (a : Nat) (b : List Byte) : (ramStore a b s).dl = s.dl := rfl
@[simp] theorem ramStore_sys (s : State) (a : Nat) (b : List Byte) : (ramStore a b s).sys = s.sys := rfl
@[simp] theorem ramStore_fuses (s : State) (a : Nat) (b : List Byte) : (ramStore a b s).fuses = s.fuses := rfl
@[simp] theorem ramStore_rails (s : State) (a : Nat) (b : List Byte) : (ramStore a b s).rails = s.rails := rfl
@[simp] theorem ramStore_feed (s : State) (a : Nat) (b : List Byte) : (ramStore a b s).feed = s.feed := rfl
@[simp] theorem ramStore_vin (s : State) (a : Nat) (b : List Byte) : (ramStore a b s).vin = s.vin := rfl
@[simp] theorem ramStore_starts (s : State) (a : Nat) (b : List Byte) : (ramStore a b s).starts = s.starts := rfl
@[simp] theorem ramStore_stops (s : State) (a : Nat) (b : List Byte) : (ramStore a b s).stops = s.stops := rfl
@[simp] theorem ramStore_segs (s : State) (a : Nat) (b : List Byte) : (ramStore a b s).segs = s.segs := rfl
@[simp] theorem ramStore_groups (s : State) (a : Nat) (b : List Byte) : (ramStore a b s).groups = s.groups := rfl
@[simp] theorem ramStore_phases (s : State) (a : Nat) (b : List Byte) : (ramStore a b s).phases = s.phases := rfl
@[simp] theorem ramStore_checks (s : State) (a : Nat) (b : List Byte) : (ramStore a b s).checks = s.checks := rfl
@[simp] theorem ramStore_cl (s : State) (a : Nat) (b : List Byte) : (ramStore a b s).cl = s.cl := rfl
@[simp] theorem ramStore_cells (s : State) (a : Nat) (b : List Byte) : (ramStore a b s).cells = s.cells := rfl
@[simp] theorem ramStore_chans (s : State) (a : Nat) (b : List Byte) : (ramStore a b s).chans = s.chans := rfl
@[simp] theorem ramStore_convs (s : State) (a : Nat) (b : List Byte) : (ramStore a b s).convs = s.convs := rfl
@[simp] theorem ramStore_adc (s : State) (a : Nat) (b : List Byte) : (ramStore a b s).adc = s.adc := rfl
@[simp] theorem ramStore_eng (s : State) (a : Nat) (b : List Byte) : (ramStore a b s).eng = s.eng := rfl
@[simp] theorem ramStore_blwCfg (s : State) (a : Nat) (b : List Byte) : (ramStore a b s).blwCfg = s.blwCfg := rfl
@[simp] theorem ramStore_man (s : State) (a : Nat) (b : List Byte) : (ramStore a b s).man = s.man := rfl
@[simp] theorem ramStore_gov (s : State) (a : Nat) (b : List Byte) : (ramStore a b s).gov = s.gov := rfl
@[simp] theorem ramStore_cvy (s : State) (a : Nat) (b : List Byte) : (ramStore a b s).cvy = s.cvy := rfl
@[simp] theorem ramStore_therm (s : State) (a : Nat) (b : List Byte) : (ramStore a b s).therm = s.therm := rfl
@[simp] theorem ramStore_en (s : State) (a : Nat) (b : List Byte) : (ramStore a b s).en = s.en := rfl
@[simp] theorem ramStore_rech (s : State) (a : Nat) (b : List Byte) : (ramStore a b s).rech = s.rech := rfl
@[simp] theorem ramStore_cvn (s : State) (a : Nat) (b : List Byte) : (ramStore a b s).cvn = s.cvn := rfl
@[simp] theorem ramStore_seq (s : State) (a : Nat) (b : List Byte) : (ramStore a b s).seq = s.seq := rfl
@[simp] theorem ramStore_cmd (s : State) (a : Nat) (b : List Byte) : (ramStore a b s).cmd = s.cmd := rfl
@[simp] theorem ramStore_evt (s : State) (a : Nat) (b : List Byte) : (ramStore a b s).evt = s.evt := rfl
@[simp] theorem ramStore_trc (s : State) (a : Nat) (b : List Byte) : (ramStore a b s).trc = s.trc := rfl
@[simp] theorem ramStore_led (s : State) (a : Nat) (b : List Byte) : (ramStore a b s).led = { s.led with ram := Memory.store s.led.ram a b } := rfl
@[simp] theorem ramStore_fw (s : State) (a : Nat) (b : List Byte) : (ramStore a b s).fw = s.fw := rfl
@[simp] theorem ramStore_core (s : State) (a : Nat) (b : List Byte) : (ramStore a b s).core = s.core := rfl
@[simp] theorem ramStore_dbg (s : State) (a : Nat) (b : List Byte) : (ramStore a b s).dbg = s.dbg := rfl
@[simp] theorem ramStore_freeCount (s : State) (a : Nat) (b : List Byte) : (ramStore a b s).freeCount = s.freeCount := rfl
@[simp] theorem ramStore_out (s : State) (a : Nat) (b : List Byte) : (ramStore a b s).out = s.out := rfl
@[simp] theorem ramStore_pending (s : State) (a : Nat) (b : List Byte) : (ramStore a b s).pending = s.pending := rfl

end Sys2Proof.Machine
end

