-- ==== Sys2Proof/Laws/Tab.lean ====
section
/-! SUPPORT. The laws of tables: what an entry is after a change. -/

namespace Sys2Proof

theorem listModify_getD {α : Type} (f : α → α) (d : α) :
    ∀ (l : List α) (i j : Nat), (listModify f l i).getD j d = if i = j ∧ i < l.length then f (l.getD i d) else l.getD j d
  | [], i, j => by simp [listModify]
  | a :: as, 0, j => by cases j <;> simp [listModify]
  | a :: as, i + 1, 0 => by simp [listModify]
  | a :: as, i + 1, j + 1 => by simpa [listModify] using listModify_getD f d as i j

theorem listMapFrom_getD {α β : Type} (f : Nat → α → β) (d : α) (e : β) :
    ∀ (l : List α) (k i : Nat), (listMapFrom f k l).getD i e = if i < l.length then f (k + i) (l.getD i d) else e
  | [], k, i => by simp [listMapFrom]
  | a :: as, k, 0 => by simp [listMapFrom]
  | a :: as, k, i + 1 => by
    have h := listMapFrom_getD f d e as (k + 1) i
    simpa [listMapFrom, Nat.add_assoc, Nat.add_comm 1] using h

/-- The entry at `j` after a change of the entry at `i`. -/
theorem Tab.get_modify {n : Nat} {α : Type} [Inhabited α] (t : Tab n α) (i j : Nat) (f : α → α) :
    (t.modify i f).get j = if i = j ∧ i < n then f (t.get i) else t.get j := by
  have h := listModify_getD f default t.val i j
  rw [t.len] at h
  exact h

@[simp] theorem Tab.get_modify_same {n : Nat} {α : Type} [Inhabited α] (t : Tab n α) (i : Nat) (f : α → α) (h : i < n) :
    (t.modify i f).get i = f (t.get i) := by simp [Tab.get_modify, h]

theorem Tab.get_modify_other {n : Nat} {α : Type} [Inhabited α] (t : Tab n α) (i j : Nat) (f : α → α) (h : i ≠ j) :
    (t.modify i f).get j = t.get j := by simp [Tab.get_modify, h]

@[simp] theorem Tab.get_set_same {n : Nat} {α : Type} [Inhabited α] (t : Tab n α) (i : Nat) (a : α) (h : i < n) :
    (t.set i a).get i = a := by simp [Tab.set, h]

theorem Tab.get_set_other {n : Nat} {α : Type} [Inhabited α] (t : Tab n α) (i j : Nat) (a : α) (h : i ≠ j) :
    (t.set i a).get j = t.get j := by simp [Tab.set, Tab.get_modify_other, h]

/-- The entry at `i` after a change of every entry. -/
theorem Tab.get_mapI {n : Nat} {α β : Type} [Inhabited α] [Inhabited β] (t : Tab n α) (f : Nat → α → β) (i : Nat) (h : i < n) :
    (t.mapI f).get i = f i (t.get i) := by
  have e := listMapFrom_getD f (default : α) (default : β) t.val 0 i
  rw [t.len, if_pos h, Nat.zero_add] at e
  exact e

@[simp] theorem Tab.get_map {n : Nat} {α β : Type} [Inhabited α] [Inhabited β] (t : Tab n α) (f : α → β) (i : Nat) (h : i < n) :
    (t.map f).get i = f (t.get i) := Tab.get_mapI t (fun _ a => f a) i h

@[simp] theorem Tab.get_replicate {α : Type} [Inhabited α] (n : Nat) (a : α) (i : Nat) (h : i < n) :
    (Tab.replicate n a).get i = a := by simp [Tab.replicate, Tab.get, h]

@[simp] theorem Tab.get_ofFn {α : Type} [Inhabited α] (n : Nat) (f : Nat → α) (i : Nat) (h : i < n) :
    (Tab.ofFn n f).get i = f i := by rw [Tab.ofFn, Tab.get_mapI _ _ _ h]

end Sys2Proof
end

