-- ==== Sys2Proof/WellFormed.lean ====
section
/-! DEFINITION. Which commands the surroundings can bring: the ranges of every operand, as the boundary and the tables of the
spec give them. A meaning is total on the others too; a statement that needs a range names it. -/

namespace Sys2Proof

open Sys2Proof.Machine

/-- An origin: a slot of the 256 of the command ring, or the mailbox (R370, R376). -/
def originWf (o : Origin) : Bool :=
  match o with
  | .ring k => decide (k < 256)
  | .mailbox => true

/-- A packet: SEQ of 16 bits, at most 65,536 bytes of payload, more than 48 of them only in an indirect payload (R369,
R377). -/
def packetWf (p : Packet) : Bool :=
  originWf p.org && decide (p.seq < 65536) && decide (p.payload.length ≤ if p.indirect then 65536 else 48)

/-- Bytes that a completed read brings, none after an ERROR; at most `k` of them (R70). -/
def dataWf (k : Nat) (d : Option (List Byte)) : Bool :=
  match d with
  | some l => decide (l.length ≤ k)
  | none => true

/-- A convoy message: one of the parent port and eight child ports, 32 bytes (R316, R317). -/
def messageWf (m : ConvoyMsg) : Bool := decide (m.port ≤ 8) && m.bytes.length == 32

/-- A crossing names a cluster (R196). -/
def crossingWf (x : Crossing) : Bool := decide (x.cluster < 144)

/-- What a boundary brings: cells of the chip, their currents in 12 bits (R136), crossings of clusters, and 12-bit codes of the
sixteen converters (R188). -/
def paceInWf (i : PaceIn) : Bool :=
  i.cells.all (fun w => decide (w.cell < 1728) && decide (w.curr < 4096)) && i.trips.all crossingWf
    && i.codes.all (fun c => decide (c.conv < 16) && decide (c.code < 4096))

/-- The object of a set-point step: one of four rails, 144 clusters, or the rails of a common ramp (R119, R121, R123). -/
def spObjWf (o : SpObj) : Bool :=
  match o with
  | .rail r | .trackUp r _ | .trackDown r => decide (r < 4)
  | .cluster n => decide (n < 144)

/-- A measurement of the sense pre-check names a rail (R125). -/
def preCheckWf (c : PreCheck) : Bool := decide (c.rail < 4)

/-- The command is one that the surroundings can bring. -/
def Instr.wf (c : Instr) : Bool :=
  match c with
  | .stageEdge e => e.crossings.all crossingWf
  | .paceBoundary inp => paceInWf inp
  | .wakeSelfTestEnd _ badCells _ => badCells.all (fun k => decide (k < 12))
  | .engineEvalDeadline parity => parity.all (fun k => decide (k < 320))
  | .caravanOpenTimeout k => decide (k < 4)
  | .setpointStep o => spObjWf o
  | .clusterStateEcho _ code => decide (code < 4)
  | .saRetentionAck banks => banks.all (fun b => decide (b < 64))
  | .saBankPinned b _ => decide (b < 64)
  | .senseLineLoss r _ => decide (r < 4)
  | .trackingPrecheck meas => meas.all preCheckWf
  | .trackingStopLowSideEnd r _ => decide (r < 4)
  | .adcResult c d _ => decide (c.val < 312) && decide (d < 4096)
  | .adcSyscalDone _ sz sr => decide (sz < 2 ^ 20) && decide (sr < 2 ^ 20)
  | .adcBgBlockDone _ sz sr => decide (sz < 2 ^ 20) && decide (sr < 2 ^ 20)
  | .adcUrgentRequest c => decide (c < 512)
  | .planValidationDone parity => parity.all (fun k => decide (k < 320))
  | .engineBankWrite addr _ => decide (0x200000 ≤ addr) && decide (addr < 0x220000) && addr % 4 == 0
  | .calTileReadDone t _ => decide (t < 216)
  | .curveTileReadDone t _ => decide (t < 9)
  | .manifestTileReadDone t _ => decide (t < 126)
  | .manifestBlockArrival slot data => decide (slot < 14) && dataWf 9280 data
  | .manifestLateExpiry slot => decide (slot < 14)
  | .sealGo tile => decide (tile < 1024)
  | .coreTileReadDone t _ _ => decide (t < 640)
  | .firmwareFallback cause _ => cause == 1 || cause == 2
  | .coreHostWindowWrite off _ => decide (off < 0x200000) && off % 4 == 0
  | .firmwareFetchDone data => dataWf 523264 data
  | .coreHalt cause index _ => decide (cause < 8) && decide (index < 6)
  | .commandDoorbell tail => decide (tail < 256)
  | .commandSlotFetchDone slots => slots.all (dataWf 64)
  | .indirectPayloadFetchDone o data => originWf o && dataWf 65536 data
  | .replyDeadlineExpiry o => originWf o
  | .ledgerLoRead x => decide (x.k < 264)
  | .apertureWrite x _ => decide (x.off < 0x100000)
  | .registerWrite x _ => decide (x.off < 0x200000)
  | .caravanMember p opcode id => packetWf p && decide (opcode < 65536) && decide (id < 65536)
  | .recharWindowStep _ _ bad => bad.all (fun k => decide (k < 12))
  | .challenge addr => decide (addr < 16)
  | .response addr _ => decide (addr < 16)
  | .setMatch addr _ => decide (addr < 16)
  | .convert chan => decide (chan < 2 ^ 16)
  | .manifestHeaderArrival data => dataWf 1024 data
  | .apertureRead x _ => decide (x.off < 0x100000)
  | .ping p | .getInfo p | .loadFirmware p | .arm p | .disarm p | .setEventMask p | .railEnable p | .railDisable p
  | .railSetTarget p | .railGetStatus p | .phaseGroupSettings p | .phaseDisableByHost p | .phaseReenable p
  | .spareIntoService p | .spareToReserve p | .clusterSetState p | .clusterSetOffset p | .clusterGetStatus p
  | .droneEnter p | .droneExit p | .caravanOpen p | .caravanCommit p | .caravanAbort p | .caravanStatus p
  | .manifestLoad p | .manifestEngage p | .manifestRelease p | .manifestStatus p | .setLevelTable p
  | .setLevelPreference p | .setLimits p | .admitGuarantee p | .revokeGuarantee p | .setFixedFrequency p
  | .setSwell p | .convoyJoin p | .convoyLeave p | .convoyHostProposal p | .convoyClearSkew p | .convoyDropPort p
  | .convoyStatus p | .thermalThresholds p | .thermalCalibrate p | .thermalStatus p | .energySetLedgerAddr p
  | .energySetFrameRing p | .energyRead p | .energyModelLoad p | .adcCalibrateSystem p | .adcSetCalMode p
  | .cellRecharacterize p | .diagReadTrace p => packetWf p
  | .sync m | .echoReq m | .echoRsp m | .joined m | .left m | .up m | .announce m | .ack m | .cancel m | .prioReq m
  | .prioAnnounce m => messageWf m
  | .wakeAdmission _ | .wakeDeadlineExpiry _ | .wakeLatchReplay _ | .stageTrimDecision
  | .caravanCutoff | .caravanEdgeCheck | .periodClose | .energyReconcile | .frameDeadlineExpiry | .ledgerPostAck _
  | .frameWriteDone _ | .convoyCheckpoint | .convoyUpDeadline | .rootAnnounce | .convoyAckDeadline | .convoySyncLoss
  | .freqDone | .freqNoDoneTimeout | .handshakeTimeout _ | .clusterWakeEdge _ | .activityRecord _
  | .phasePulseStart _ _ | .phasePulseEnd _ | .phaseOvercurrent _ _ | .phaseFaultFlag _ _ | .phaseParkDisable _ _
  | .phaseUnparkReady _ | .phaseCheckDone _ _ | .cellCurrentLimit _ | .cellHealthFault _ _ | .cellIsolationComplete _
  | .sentinelTrip _ | .stretchRelease _ | .bellowsFireEnd _ _ | .bellowsSlotGrant _ | .bellowsChargeDone _
  | .bellowsChargeTimeout _ | .bellowsFlagConflict _ | .adcSpareExchange _ _ | .seqSwap _ | .seqValidationDone _
  | .swap | .manifestLoadTimeout | .sealWriteDone | .firmwareAuthDone | .firmwareLoadTimeout | .diodeResult _ _
  | .thermalTrip | .restartToStandbyReady | .restartCoreRails | .thermalCalDone | .graceExpiry | .thermalCeilingStep
  | .powerOnReset _ | .powerRequestUp | .clockGeneratorStart | .clockLock | .copierDone | .powerRequestDown
  | .descentRailsStop | .descentIslandOff | .warmResetStart | .warmResetEnd | .testReset | .commandSlotTake
  | .replyHoldDrain | .eventRingWrite | .mailboxGo | .ringControlWrite _ | .eventCauseClear _ | .stageLoRead
  | .convoyJoinTimeout | .adcCalTimeout | .traceCopyDone | .nop | .submit | .lock | .halt | .resume | .step
  | .readMem _ | .writeMem _ _ | .readReg _ | .writeReg _ _ | .debugChallengeExpiry | .debugWithholdEnd
  | .debugOperationDone => true

end Sys2Proof
end

