-- ==== Sys2Proof/Tests/Slice0.lean ====
section
/-! SUPPORT. The model's own tests: an ill-formed command for each check of WellFormed, commands on small states with the results
the spec gives, and for every statement of the certificates, clause by clause, a state and operands that meet its hypotheses. -/

open Sys2Proof Sys2Proof.Machine

namespace Sys2Proof.Tests

set_option Elab.async false
set_option maxRecDepth 4000

/-! ### States and packets to test with -/

/-- A packet of the mailbox with a payload. -/
def pk (l : List Byte) : Packet := { org := .mailbox, seq := 7, payload := l }

/-- A packet of slot 5 of the command ring. -/
def rk (l : List Byte) : Packet := { org := .ring 5, seq := 9, payload := l }

/-- Bytes followed by zeros, `k` in all. -/
def pad (k : Nat) (l : List Byte) : List Byte := padTo k l

/-- A running rail at a code, in its window. -/
def railOn (c : Nat) : Rail := { target := c, sp := { cur := c, tgt := c }, enabled := true, inWindow := true, volt := c }

/-- An Active cluster at a code. -/
def active (c : Nat) : Cluster :=
  { v := { target := c, sp := { cur := c, tgt := c } }, s := { st := .active, req := .active, ack := .active, rstN := true }, k := { mode := .regulate } }

/-- A chip at work: stage 100, cycle 200 of its pace 5, rails enabled and in their windows, clusters Active, firmware running, rings
enabled. -/
def up : State :=
  { State.reset with
    clk := { running := true, now := 1000200, stageStart := 996800, paceStart := 1000000, stage := 100, pace := 5, paceNo := 1606, periodSeq := 3 }
    sys := { porHigh := true, pwrReq := true, island := .up, chip := .run, powerGood := true }
    rails := ⟨[railOn 320, railOn 300, railOn 320, railOn 720], rfl⟩
    phases := Tab.replicate 128 { st := .switching, en := true, onTime := 400 }
    groups := State.reset.groups.map (fun g => { g with ripAt := 1000100 })
    cl := Tab.replicate 144 (active 300)
    cells := Tab.replicate 1728 { mode := .regulate }
    core := { on := true }
    fw := { loaded := true, valid := true }
    cmd := { cmdEn := true, rplEn := true, evtEn := true } }

/-- The same chip at cycle 0 of its pace. -/
def up0 : State := { up with clk := { up.clk with now := 1000000 } }

/-- The chip in the edge cycle of a stage. -/
def edge : State :=
  { up with clk := { up.clk with now := 1000000, stageStart := 1000000, pace := 0, p0Pending := true } }

/-- The chip in the last pace of its stage. -/
def last : State := { up with clk := { up.clk with pace := 15 } }

/-- A state with one cluster changed. -/
def withCl (n : Nat) (f : Cluster → Cluster) (s : State) : State := s.updCl n f

/-- The chip at work with every cluster Dormant. -/
def dorm : State := { up with cl := Tab.replicate 144 {} }

/-- A message of convoy 5: its type, stage, port and body, with the check that its bytes give. -/
def msg (type port stage : Nat) (body : List Byte) : ConvoyMsg :=
  let b := padTo 28 (leBytes 2 5 ++ [BitVec.ofNat 8 type, 0] ++ leBytes 6 stage ++ body)
  { port, prio := false, bytes := b ++ leBytes 4 (crc32c b).toNat }

/-- The chip at work in convoy 5: a member of the given role whose child on port 8 has joined. -/
def member (role : Nat) (f : Cvy → Cvy) : State :=
  { up with cvy := f { State.reset.cvy with st := .joined, id := 5, role, depth := 1, children := 0x80, kids := 0x80, codes := [] } }

/-- A command slot: a PING of sequence number 9 with no payload, with the header check that its first twelve bytes give. -/
def slotB : List Byte :=
  let h := padTo 12 [0x01, 0x01, 4, 1, 9, 0]
  padTo 64 (h ++ leBytes 4 (crc32c h).toNat)

/-- A tile of Ledger RAM whose check is that of the bytes it holds. -/
def good (t : Nat) (s : State) : State :=
  { s with led := { s.led with tiles := s.led.tiles.set t { crc := crc32c (tileBytes s t) } } }

/-- A tile marked bad. -/
def spoilt (t : Nat) (s : State) : State := { s with led := { s.led with tiles := s.led.tiles.set t { bad := true } } }

theorem passes_good (t : Nat) (s : State) (h : t < 640) : tilePasses (good t s) t false = true := by
  have e : tileBytes (good t s) t = tileBytes s t := rfl
  have g : (good t s).led.tiles.get t = { crc := crc32c (tileBytes s t) } := by
    simp only [good, Tab.get_set_same _ _ _ h]
  simp [tilePasses, e, g]

/-! ### Ill-formed commands, one for each check of WellFormed -/

theorem test_illFormed_packets :
    [ Instr.ping { org := .ring 256, seq := 0, payload := [] },
      .arm { org := .mailbox, seq := 65536, payload := [] },
      .railEnable (pk (pad 49 [])),
      .energyModelLoad { pk (pad 65537 []) with indirect := true },
      .caravanMember (pk (pad 49 [])) 0x0203 5,
      .caravanMember (pk []) 65536 5,
      .caravanMember (pk []) 0x0203 65536,
      .indirectPayloadFetchDone (.ring 256) none,
      .indirectPayloadFetchDone .mailbox (some (pad 65537 [])),
      .replyDeadlineExpiry (.ring 256),
      .commandSlotFetchDone [none, some (pad 65 [])],
      .sync { msg 1 0 0 [] with port := 9 },
      .cancel { msg 9 0 0 [] with bytes := [] } ].all (fun c => !c.wf) = true := by decide +kernel

theorem test_illFormed_operands :
    [ Instr.stageEdge ⟨none, [⟨144, 0⟩]⟩, .paceBoundary { cells := [{ cell := 1728, curr := 0 }] }, .paceBoundary { cells := [{ cell := 0, curr := 4096 }] },
      .paceBoundary { trips := [⟨144, 0⟩] }, .paceBoundary { codes := [⟨16, 0⟩] }, .paceBoundary { codes := [⟨0, 4096⟩] }, .wakeSelfTestEnd 0 [12] true,
      .engineEvalDeadline [320], .caravanOpenTimeout 4, .setpointStep (.rail 4), .setpointStep (.trackUp 4),
      .setpointStep (.trackDown 4), .setpointStep (.cluster 144), .clusterStateEcho 0 4, .saRetentionAck [64],
      .saBankPinned 64 true, .senseLineLoss 4 ⟨0, 0, 0, 0⟩, .trackingPrecheck [⟨4, 0, 0, 0⟩], .trackingStopLowSideEnd 4 true,
      .adcResult 312 0 false, .adcResult 0 4096 false, .adcSyscalDone 0 (2 ^ 20) 0, .adcSyscalDone 0 0 (2 ^ 20),
      .adcBgBlockDone 0 (2 ^ 20) 0, .adcBgBlockDone 0 0 (2 ^ 20), .adcUrgentRequest 512, .planValidationDone [320],
      .engineBankWrite 0x1FFFFC 0, .engineBankWrite 0x220000 0, .engineBankWrite 0x200001 0, .calTileReadDone 216 true,
      .curveTileReadDone 9 true, .manifestTileReadDone 126 true, .manifestBlockArrival 14 none,
      .manifestBlockArrival 0 (some (pad 9281 [])), .manifestHeaderArrival (some (pad 1025 [])), .manifestLateExpiry 14, .sealGo 1024,
      .coreTileReadDone 640 true true, .firmwareFallback 3 0, .coreHostWindowWrite 0x200000 0, .coreHostWindowWrite 1 0,
      .coreHalt 8 0 default, .coreHalt 1 6 default, .commandDoorbell 256, .ledgerLoRead ⟨264, 4⟩,
      .apertureRead ⟨0x100000, 4⟩ true, .apertureWrite ⟨0x100000, 4⟩ 0, .registerWrite ⟨0x200000, 4⟩ 0, .recharWindowStep 0 true [12], .challenge 16, .response 16 0, .setMatch 16 0,
      .convert 65536 ].all (fun c => !c.wf) = true := by decide +kernel

/-! ### The spec's own figures -/

/-- R431: the CRC of the nine ASCII bytes of 123456789. -/
theorem test_crc32c : crc32c [0x31, 0x32, 0x33, 0x34, 0x35, 0x36, 0x37, 0x38, 0x39] = 0xE3069283#32 := by decide +kernel

/-- Chapter 8, system calibration of converter 11: the coefficients, and the correction of channel 43. -/
theorem test_converter_example :
    ofsEstimate 832 = 52 ∧ gainEst 832 778432 = some 16182 ∧
      corrected { ofs := 52, gain := 16182 } 1930 = 30448 ∧ unitOf 43 30448 = 3045 := by decide +kernel

/-- Chapter 10: the forecast codes of the two entries of cluster 43. -/
theorem test_forecast_example :
    entCurrent 0x001D8658#32 5 = 280 ∧ entCurrent 0x001D8658#32 6 = 600 ∧
      [8, 9, 10, 11].map (entCurrent 0x00122A58#32) = [490, 380, 270, 160] := by decide +kernel

/-- Chapter 4, cluster 43 goes drone: D_43 is rail code 332, cluster code 424; chapter 9: V_trip is 0.745 V at code 380. -/
theorem test_drone_example :
    droneReq { v := { curve := (Tab.replicate 16 ({} : CurvePt)).set 0 { freq := 56, vmin := 352 } } } 56 = 332 ∧
      clusterCodeOf 332 = 424 ∧ tripLevel { active 380 with t := { thresh := 8 } } = 4 * 745 := by decide +kernel

/-- Chapter 13: a bandwidth guarantee of 81,920,000 bytes in 10,240 ns takes 160 codes. -/
theorem test_bandwidth_example : bandCurrent 81920000 10240 = 160 := by decide +kernel

/-- Chapter 16: the shares of labels 3 and 7 on CF, the unattributed share, and the ratio. -/
theorem test_attribution_example :
    let p : EnPer := { acc := {
      cf := ((Tab.replicate 64 (0 : Int)).set 3 (700000000 * 400000)).set 7 (480000000 * 400000)
      cfNone := 8000000 * 400000, meas := (Tab.replicate 4 (0 : Int)).set 0 (1204224000 * 400000) } }
    ((attributeRail p 0).1.getD 3 0, (attributeRail p 0).1.getD 7 0, (attributeRail p 0).2) =
      (709559595, 486555151, 8109254, 16608) := by decide +kernel

/-- Chapter 17: slot 18, an inline LENGTH of 52, fails with BAD_LENGTH; and reply entry 41 of that slot. -/
theorem test_slot_example :
    (let h : List Byte := [0x02, 0x03, 0x00, 0x01, 0x02, 0x03, 0x34, 0, 0, 0, 0, 0]
     slotFails (.ring 18) (padTo 64 (h ++ leBytes 4 (crc32c h).toNat)) = some (.badLength, [])) ∧
      (Reply.bytes { org := .ring 18, seq := 0x0302, status := .badLength, data := [], opcode := 0x0302 } 0x110200 : List Byte) =
        [0x02, 0x03, 0x02, 0] ++ List.replicate 24 0 ++ [0, 2, 0x11, 0] := by decide +kernel

/-- Chapter 17: the reply data of RAIL_SET_TARGET once SA has its new target 312: the floor 240 and the codes 312, 320, 720. -/
theorem test_rail_reply_example :
    deferredData { pkt := rk [], opcode := 0x0203, acts := [.railTarget 1 312], se := 100 } up (applyAct 100 (.railTarget 1 312) up) =
      [0xF0, 0, 0x38, 1, 0x40, 1, 0xD0, 2] := by decide +kernel

/-- R390: a PING from the mailbox, run by a step: its reply words at the port. -/
theorem test_step_ping :
    (match step { up with pending := [.ping (pk [1, 2])] } with
     | .next t => t.out.contains (.mailbox
         ([7, 0, 0, 24] ++ [1, 2] ++ List.replicate 14 0 ++ [100, 0, 0, 0, 0, 0, 3, 1] ++ [100, 0, 0, 0])) && t.pending.isEmpty
     | _ => false) = true := by decide +kernel

/-- The capture of the worked example of R446: READ_REG of the halted pc. -/
theorem test_capture : captureWord { rdata := 0x1A40, unlocked := true, halted := true, cause := 2, lastOp := 0xA } = 0x5A000000B000001A40 := by decide

/-- The table gives its rows no bits: no word spells a command, and placing one leaves the queue as it is. -/
theorem test_no_words : decodeTableWord 16 5 = none ∧ (up.withFetchWord 16 5).pending = [] := ⟨rfl, rfl⟩

/-! ### What meets the hypotheses of each statement -/

/-- The two invariants of a step. -/
theorem test_invariants_met :
    (∃ s t : State, s.settledEvents ∧ step s = .next t) ∧ (∃ s t : State, Memory.wf s.led.ram = true ∧ step s = .next t) :=
  ⟨⟨State.reset, _, fun _ => rfl, rfl⟩, ⟨State.reset, _, rfl, rfl⟩⟩

theorem test_StepOnEmptyQueue_met :
  (∃ (s : State), s.pending = [] ∧ (s.clk.running = false ∨ s.clk.p0Pending = false ∧ s.clk.now + 1 < s.paceEnd) ∧
    s.clk.soon = []) ∧
  (∃ (s : State), s.pending = [] ∧ (s.clk.running = false ∨ s.clk.p0Pending = false ∧ s.clk.now + 1 < s.paceEnd) ∧
    s.clk.soon = []) ∧
  (∃ (s : State), s.pending = [] ∧ (s.clk.running = false ∨ s.clk.p0Pending = false ∧ s.clk.now + 1 < s.paceEnd)) ∧
  (∃ (s : State), s.pending = [] ∧ s.clk.running = true ∧ (s.clk.p0Pending = true ∨ s.paceEnd ≤ s.clk.now + 1)) ∧
  (∃ (s : State), s.pending = [] ∧ s.clk.running = true ∧ (s.clk.p0Pending = true ∨ s.paceEnd ≤ s.clk.now + 1)) := by
  refine ⟨⟨{State.reset with clk := {now := 5}}, ?_⟩,
   ⟨{up with clk := {up.clk with now := 1000638}}, ?_⟩,
   ⟨{up with clk := {up.clk with soon := [{due := 1000201, what := .tickLow}]}}, ?_⟩,
   ⟨{up with clk := {up.clk with now := 1000639}}, ?_⟩,
   ⟨edge, ?_⟩⟩ <;> decide +kernel

theorem test_LedgerRam_met :
  (∃ (m : Memory), m.wf = true) ∧
  (∃ (t : Nat) (bs : List Byte) (s : State), t < 640 ∧ bs.length = 1024 ∧ Memory.wf s.led.ram = true) := by
  refine ⟨⟨[(5, 7)], ?_⟩,
   ⟨639, List.replicate 1024 1#8, up, ?_⟩⟩ <;> decide +kernel

theorem test_EventPath_met :
  (∃ (s : State) (code : Nat), s.clk.p0Pending = false ∧ s.evt.fresh = [] ∧ s.evt.lost = 0 ∧ s.calm = true ∧
    (s.lvl s.seq.level).boost = false ∧ evMasked s code = true) ∧
  (∃ (s : State) (code : Nat), s.clk.p0Pending = false ∧ s.evt.fresh = [] ∧ s.evt.lost = 0 ∧ s.calm = true ∧
    (s.lvl s.seq.level).boost = false ∧ evMasked s code = false ∧ s.evt.queue.length < 64 ∧
    (∀ f ∈ s.evt.queue, f.moment = s.clk.now → f.code ≤ code)) ∧
  (∃ (c : Nat) (code : Nat), c < 12 ∧ isUrgent code = true ∧ code / 256 = c) := by
  refine ⟨⟨{up with evt := {catMask := 1}}, 0x0020, ?_⟩,
   ⟨{up with evt := {seq := 65535, queue := List.replicate 63 default}}, 0x0020, ?_⟩,
   ⟨11, 0x0B10, ?_⟩⟩ <;> decide +kernel

theorem test_BoostEnds_met :
  (∃ (s : State) (i : Nat), i < 5 ∧ (s.lvl s.seq.level).boost = true ∧
    (s.seq.fixed ≠ Fixed.off → s.seq.code = (s.lvl s.seq.level).code) ∧ s.seq.boostHeld.getLsbD i = true ∧
    (boostConds s).getD i true = false ∧ (∀ j < i, s.seq.boostHeld.getLsbD j = true → (boostConds s).getD j true = true) ∧
    hostPosted s = false) ∧
  (∃ (s : State) (i : Nat), i < 5 ∧ (s.lvl s.seq.level).boost = true ∧
    (s.seq.fixed ≠ Fixed.off → s.seq.code = (s.lvl s.seq.level).code) ∧ s.seq.boostHeld.getLsbD i = true ∧
    (boostConds s).getD i true = false ∧ (∀ j < i, s.seq.boostHeld.getLsbD j = true → (boostConds s).getD j true = true) ∧
    hostPosted s = true) := by
  refine ⟨⟨{up with seq := {up.seq with level := 15, table := up.seq.table.set 15 ⟨70, true⟩, boostHeld := 0x08}, therm := {up.therm with warn := true}}, 3, ?_⟩,
   ⟨{up with seq := {up.seq with level := 15, table := up.seq.table.set 15 ⟨70, true⟩, boostHeld := 0x08, pend := some {code := 3, level := 3, stage := 102, source := .fixed, moment := up.clk.now}}, therm := {up.therm with warn := true}}, 3, ?_⟩⟩ <;> decide +kernel

def d1 : Deferred := ⟨pk [], 0x0201, [], 100⟩
def d4 : Deferred := ⟨pk [], 0x0301, [.setState 4 .rest 4], 100⟩
def upT : State := up.updCl 4 (fun c => { c with s := { c.s with trans := some { target := .retain, phase := .echo } } })
def d2 : Deferred := ⟨pk [], 0x0601, [.level 0 10 false, .level 1 9 false, .level 2 8 false], 100⟩
def d3 : Deferred := ⟨pk [], 0x0601, [.level 0 0 false], 100⟩
def urg : InFlight := { org := (pk []).org, seq := (pk []).seq, opcode := 0x0101, urgent := true }
def busyUp : State := {up with cmd := {up.cmd with tookAt := some up.clk.now}}

theorem test_Packets_met :
  (∃ (checks : List (Bool × Status)) (st : Status) (s : State), s.fwRuns = true ∧ firstFail checks = some st) ∧
  (∃ (s : State), s.fwRuns = false) ∧
  (∃ (s : State), s.cmd.next = []) ∧
  (∃ (d : Deferred) (rest : List Deferred) (s : State) (v : State), s.cmd.next = d :: rest ∧
    (v =   { clk := s.clk, dl := s.dl, sys := s.sys, fuses := s.fuses, rails := s.rails, feed := s.feed, vin := s.vin, starts := s.starts, stops := s.stops, segs := s.segs, groups := s.groups, phases := s.phases, checks := s.checks, cl := s.cl, cells := s.cells, chans := s.chans, convs := s.convs, adc := s.adc, eng := s.eng, blwCfg := s.blwCfg, man := s.man, gov := s.gov, cvy := s.cvy, therm := s.therm, en := s.en, rech := s.rech, cvn := s.cvn, seq := s.seq,     cmd :=       have __src := s.cmd;       { cmdLo := __src.cmdLo, cmdHi := __src.cmdHi, rplLo := __src.rplLo, rplHi := __src.rplHi, evtLo := __src.evtLo, evtHi := __src.evtHi, cmdEn := __src.cmdEn, rplEn := __src.rplEn, evtEn := __src.evtEn, cmdHead := __src.cmdHead, cmdTail := __src.cmdTail, rplHead := __src.rplHead, rplTail := __src.rplTail, evtHead := __src.evtHead, evtTail := __src.evtTail, covered := __src.covered, asked := __src.asked, fetched := __src.fetched, lateSlots := __src.lateSlots, inflight := __src.inflight, hold := __src.hold, tookAt := __src.tookAt, mbxCmd := __src.mbxCmd, mbxRpl := __src.mbxRpl, mbxBusy := __src.mbxBusy, mbxDone := __src.mbxDone, mbxDrop := __src.mbxDrop, quiet := __src.quiet, traceReq := __src.traceReq },     evt := s.evt, trc := s.trc, led := s.led, fw := s.fw, core := s.core, dbg := s.dbg, freeCount := s.freeCount, out := s.out, pending := s.pending }) ∧
    actsBusy d.acts v = false ∧ d.acts.any Act.isLevel = false) ∧
  (∃ (d : Deferred) (rest : List Deferred) (s : State) (v : State), s.cmd.next = d :: rest ∧
    (v =   { clk := s.clk, dl := s.dl, sys := s.sys, fuses := s.fuses, rails := s.rails, feed := s.feed, vin := s.vin, starts := s.starts, stops := s.stops, segs := s.segs, groups := s.groups, phases := s.phases, checks := s.checks, cl := s.cl, cells := s.cells, chans := s.chans, convs := s.convs, adc := s.adc, eng := s.eng, blwCfg := s.blwCfg, man := s.man, gov := s.gov, cvy := s.cvy, therm := s.therm, en := s.en, rech := s.rech, cvn := s.cvn, seq := s.seq,     cmd :=       have __src := s.cmd;       { cmdLo := __src.cmdLo, cmdHi := __src.cmdHi, rplLo := __src.rplLo, rplHi := __src.rplHi, evtLo := __src.evtLo, evtHi := __src.evtHi, cmdEn := __src.cmdEn, rplEn := __src.rplEn, evtEn := __src.evtEn, cmdHead := __src.cmdHead, cmdTail := __src.cmdTail, rplHead := __src.rplHead, rplTail := __src.rplTail, evtHead := __src.evtHead, evtTail := __src.evtTail, covered := __src.covered, asked := __src.asked, fetched := __src.fetched, lateSlots := __src.lateSlots, inflight := __src.inflight, hold := __src.hold, tookAt := __src.tookAt, mbxCmd := __src.mbxCmd, mbxRpl := __src.mbxRpl, mbxBusy := __src.mbxBusy, mbxDone := __src.mbxDone, mbxDrop := __src.mbxDrop, quiet := __src.quiet, traceReq := __src.traceReq },     evt := s.evt, trc := s.trc, led := s.led, fw := s.fw, core := s.core, dbg := s.dbg, freeCount := s.freeCount, out := s.out, pending := s.pending }) ∧
    actsBusy d.acts v = true) ∧
  (∃ (d : Deferred) (rest : List Deferred) (s : State) (v : State), s.cmd.next = d :: rest ∧
    (v =   { clk := s.clk, dl := s.dl, sys := s.sys, fuses := s.fuses, rails := s.rails, feed := s.feed, vin := s.vin, starts := s.starts, stops := s.stops, segs := s.segs, groups := s.groups, phases := s.phases, checks := s.checks, cl := s.cl, cells := s.cells, chans := s.chans, convs := s.convs, adc := s.adc, eng := s.eng, blwCfg := s.blwCfg, man := s.man, gov := s.gov, cvy := s.cvy, therm := s.therm, en := s.en, rech := s.rech, cvn := s.cvn, seq := s.seq,     cmd :=       have __src := s.cmd;       { cmdLo := __src.cmdLo, cmdHi := __src.cmdHi, rplLo := __src.rplLo, rplHi := __src.rplHi, evtLo := __src.evtLo, evtHi := __src.evtHi, cmdEn := __src.cmdEn, rplEn := __src.rplEn, evtEn := __src.evtEn, cmdHead := __src.cmdHead, cmdTail := __src.cmdTail, rplHead := __src.rplHead, rplTail := __src.rplTail, evtHead := __src.evtHead, evtTail := __src.evtTail, covered := __src.covered, asked := __src.asked, fetched := __src.fetched, lateSlots := __src.lateSlots, inflight := __src.inflight, hold := __src.hold, tookAt := __src.tookAt, mbxCmd := __src.mbxCmd, mbxRpl := __src.mbxRpl, mbxBusy := __src.mbxBusy, mbxDone := __src.mbxDone, mbxDrop := __src.mbxDrop, quiet := __src.quiet, traceReq := __src.traceReq },     evt := s.evt, trc := s.trc, led := s.led, fw := s.fw, core := s.core, dbg := s.dbg, freeCount := s.freeCount, out := s.out, pending := s.pending }) ∧
    actsBusy d.acts v = false ∧ d.acts.any Act.isLevel = true ∧ tableOk v.fuses (editTable v.seq.table d.acts) = false) ∧
  (∃ (d : Deferred) (rest : List Deferred) (s : State) (v : State), s.cmd.next = d :: rest ∧
    (v =   { clk := s.clk, dl := s.dl, sys := s.sys, fuses := s.fuses, rails := s.rails, feed := s.feed, vin := s.vin, starts := s.starts, stops := s.stops, segs := s.segs, groups := s.groups, phases := s.phases, checks := s.checks, cl := s.cl, cells := s.cells, chans := s.chans, convs := s.convs, adc := s.adc, eng := s.eng, blwCfg := s.blwCfg, man := s.man, gov := s.gov, cvy := s.cvy, therm := s.therm, en := s.en, rech := s.rech, cvn := s.cvn, seq := s.seq,     cmd :=       have __src := s.cmd;       { cmdLo := __src.cmdLo, cmdHi := __src.cmdHi, rplLo := __src.rplLo, rplHi := __src.rplHi, evtLo := __src.evtLo, evtHi := __src.evtHi, cmdEn := __src.cmdEn, rplEn := __src.rplEn, evtEn := __src.evtEn, cmdHead := __src.cmdHead, cmdTail := __src.cmdTail, rplHead := __src.rplHead, rplTail := __src.rplTail, evtHead := __src.evtHead, evtTail := __src.evtTail, covered := __src.covered, asked := __src.asked, fetched := __src.fetched, lateSlots := __src.lateSlots, inflight := __src.inflight, hold := __src.hold, tookAt := __src.tookAt, mbxCmd := __src.mbxCmd, mbxRpl := __src.mbxRpl, mbxBusy := __src.mbxBusy, mbxDone := __src.mbxDone, mbxDrop := __src.mbxDrop, quiet := __src.quiet, traceReq := __src.traceReq },     evt := s.evt, trc := s.trc, led := s.led, fw := s.fw, core := s.core, dbg := s.dbg, freeCount := s.freeCount, out := s.out, pending := s.pending }) ∧
    actsBusy d.acts v = false ∧ d.acts.any Act.isLevel = true ∧ tableOk v.fuses (editTable v.seq.table d.acts) = true) ∧
  (∃ (p : Packet) (s : State), s.ready p = true) ∧
  (∃ (p : Packet) (s : State), (s.fwRuns = false ∨ turn s p = false)) ∧
  (∃ (p : Packet) (s : State), s.fwRuns = true ∧ turn s p = true ∧ s.cmd.tookAt = some s.clk.now ∧ (tick s).clk.now ≠ s.clk.now) ∧
  (∃ (s : State) (p : Packet) (f : InFlight), f ∈ s.cmd.inflight ∧ f.org = p.org ∧ f.seq = p.seq ∧ f.effect = Effect.taken ∧
    f.urgent = true ∧ f.caravan = none ∧ f.desc = none ∧ f.opcode ≠ 1027 ∧ f.opcode ≠ 1028 ∧
    (∀ g ∈ s.cmd.inflight, g.effect = Effect.taken → g.urgent = true → g = f)) := by
  refine ⟨⟨[(true, .badLength)], .badLength, up, ?_⟩,
   ⟨{up with core := {}}, ?_⟩,
   ⟨up, ?_⟩,
   ⟨d1, [], {up with cmd := {up.cmd with next := [d1]}}, {up with cmd := {up.cmd with next := []}}, ?_⟩,
   ⟨d4, [], {upT with cmd := {upT.cmd with next := [d4]}}, {upT with cmd := {upT.cmd with next := []}}, ?_⟩,
   ⟨d2, [], {up with cmd := {up.cmd with next := [d2]}}, {up with cmd := {up.cmd with next := []}}, ?_⟩,
   ⟨d3, [], {up with cmd := {up.cmd with next := [d3]}}, {up with cmd := {up.cmd with next := []}}, ?_⟩,
   ⟨pk [], up, ?_⟩,
   ⟨pk [], {up with cmd := {up.cmd with inflight := [{ org := .ring 9, seq := 1, opcode := 0x0101 }, { org := (pk []).org, seq := (pk []).seq, opcode := 0x0101 }]}}, ?_⟩,
   ⟨pk [], busyUp, ?_⟩,
   ⟨{up with cmd := {up.cmd with inflight := [{ org := .ring 9, seq := 1, opcode := 0x0101 }, urg]}}, pk [], urg, ?_⟩⟩ <;> decide +kernel

theorem test_Ping_met :
  (∃ (p : Packet) (s : State), s.ready p = true ∧ p.payload.length ≤ 16) ∧
  (∃ (p : Packet) (s : State), s.ready p = true ∧ 16 < p.payload.length) := by
  refine ⟨⟨rk (pad 16 [1,2]), up, ?_⟩,
   ⟨pk (pad 17 [1,2]), up, ?_⟩⟩ <;> decide +kernel

theorem test_StatusReads_met :
  (∃ (p : Packet) (s : State) (b : Byte), s.ready p = true ∧ p.payload = [b] ∧ BitVec.toNat b ≤ 3) ∧
  (∃ (p : Packet) (s : State) (b : Byte), s.ready p = true ∧ p.payload = [b] ∧ 3 < BitVec.toNat b) ∧
  (∃ (p : Packet) (s : State) (r : Byte), s.ready p = true ∧ p.payload = [r] ∧ BitVec.toNat r < 4) ∧
  (∃ (p : Packet) (s : State) (n : Byte), s.ready p = true ∧ p.payload = [n] ∧ BitVec.toNat n < 144) ∧
  (∃ (p : Packet) (s : State), s.ready p = true ∧ p.payload = []) ∧
  (∃ (p : Packet) (s : State), s.ready p = true ∧ p.payload = []) ∧
  (∃ (p : Packet) (s : State) (b : Byte), s.ready p = true ∧ p.payload = [b] ∧ BitVec.toNat b ≤ 65) ∧
  (∃ (p : Packet) (s : State), s.ready p = true ∧ p.payload = []) ∧
  (∃ (p : Packet) (s : State), s.ready p = true ∧ p.payload = []) := by
  refine ⟨⟨pk [3], up, 3, ?_⟩,
   ⟨pk [4], up, 4, ?_⟩,
   ⟨pk [3], up, 3, ?_⟩,
   ⟨pk [143], up, 143, ?_⟩,
   ⟨pk [], up, ?_⟩,
   ⟨pk [], up, ?_⟩,
   ⟨pk [65], up, 65, ?_⟩,
   ⟨pk [], up, ?_⟩,
   ⟨pk [], up, ?_⟩⟩ <;> decide +kernel

def swOn : State := {State.reset with clk := {now := 7}, sys := {porHigh := true, pwrReq := true, island := .switched, switchAt := 5}}
def lk : State := {State.reset with clk := {now := 7}, sys := {porHigh := true, pwrReq := true, island := .started, switchAt := 5}, fuses := {adcOfs := Tab.replicate 16 5, boostCeil := 0}}
def cp : State := {State.reset with clk := {now := 77}, sys := {porHigh := true, pwrReq := true, island := .copying, switchAt := 5}}

theorem test_BringUp_met :
  (∃ (s : State), s.sys.porHigh = true) ∧
  (∃ (s : State), s.sys.porHigh = true) ∧
  (∃ (s : State) (u : State), s.sys.island = Island.switched ∧ reach (s.sys.switchAt + 20000) s = some u) ∧
  (∃ (s : State), s.sys.island = Island.started) ∧
  (∃ (s : State) (u : State), s.sys.island = Island.copying ∧ reach (s.clk.stageStart + 29056) s = some u) := by
  refine ⟨⟨{State.reset with sys := {porHigh := true}}, ?_⟩,
   ⟨{up with sys := {up.sys with pwrReq := false}}, ?_⟩,
   ⟨swOn, {swOn with clk := {now := 20005}}, ?_⟩,
   ⟨lk, ?_⟩,
   ⟨cp, {cp with clk := {now := 29056}}, ?_⟩⟩ <;> decide +kernel

def dorm2 : State := {dorm with rails := ⟨[{}, {}, {}, railOn 720], rfl⟩, sys := {dorm.sys with descent := .coreRails}}

theorem test_Descent_met :
  (∃ (s : State), s.sys.porHigh = true) ∧
  (∃ (s : State), s.sys.porHigh = true) ∧
  (∃ (s : State), s.sys.descent = Descent.clusters ∧ allDormant s = true) ∧
  (∃ (s : State), s.sys.descent = Descent.coreRails ∧ railsDown 7 s = true) ∧
  (∃ (s : State), s.sys.descent = Descent.axRail ∧ railsDown 15 s = true) := by
  refine ⟨⟨up, ?_⟩,
   ⟨{State.reset with sys := {porHigh := true, pwrReq := true}}, ?_⟩,
   ⟨{dorm with sys := {dorm.sys with descent := .clusters}}, ?_⟩,
   ⟨dorm2, ?_⟩,
   ⟨{dorm with rails := State.reset.rails, sys := {dorm.sys with descent := .axRail, pwrReq := false}}, ?_⟩⟩ <;> decide +kernel

theorem test_WarmAndTestReset_met :
  (∃ (s : State), s.sys.island = Island.up ∧ s.sys.warmLow = false) ∧
  (∃ (s : State), s.sys.warmLow = true ∧ s.sys.heldDoorbell = none ∧ s.sys.heldGo = false) := by
  refine ⟨⟨{up with dbg := {unlocked := true, halted := true}}, ?_⟩,
   ⟨{up with sys := {up.sys with warmLow := true, warmCount := 255}}, ?_⟩⟩ <;> decide +kernel

def cj : State := {last with cvy := {last.cvy with st := .joined, role := 1, hasDelta := true, delta := 6}}

theorem test_StageFrame_met :
  (∃ (s : State), s.clk.running = true ∧ s.clk.p0Pending = false ∧ s.clk.pace = 15) ∧
  (∃ (s : State), s.clk.running = true ∧ s.clk.p0Pending = true) ∧
  (∃ (s : State), s.clk.running = true ∧ s.clk.p0Pending = false ∧ s.clk.pace < 15) ∧
  (∃ (s : State), s.clk.periodDue = true ∧ s.clk.p0Pending = false) ∧
  (∃ (s : State), (s.cvy.st = CvySt.joined ∨ s.cvy.st = CvySt.skewed) ∧ s.clk.running = true ∧ s.clk.pace = 15 ∧
    s.clk.p0Pending = false ∧ s.cvy.role ≠ 0 ∧ s.cvy.hasDelta = true ∧ s.clk.trimmedLast = false ∧ s.clk.trim = Trim.none ∧
    5 < s.cvy.delta) ∧
  (∃ (s : State), (s.cvy.st = CvySt.joined ∨ s.cvy.st = CvySt.skewed) ∧ s.clk.running = true ∧ s.clk.pace = 15 ∧
    s.clk.p0Pending = false ∧ s.cvy.role ≠ 0 ∧ s.cvy.hasDelta = true ∧ s.clk.trimmedLast = false ∧ s.clk.trim = Trim.none ∧
    s.cvy.delta < -5) ∧
  (∃ (s : State), (s.cvy.st = CvySt.joined ∨ s.cvy.st = CvySt.skewed) ∧ s.clk.running = true ∧ s.clk.pace = 15 ∧
    s.clk.p0Pending = false ∧ s.cvy.role ≠ 0 ∧ s.cvy.hasDelta = true ∧ s.clk.trimmedLast = false ∧ s.clk.trim = Trim.none ∧
    -5 ≤ s.cvy.delta ∧ s.cvy.delta ≤ 5) := by
  refine ⟨⟨last, ?_⟩,
   ⟨edge, ?_⟩,
   ⟨{up with clk := {up.clk with pace := 14}}, ?_⟩,
   ⟨{up with clk := {up.clk with periodDue := true}}, ?_⟩,
   ⟨cj, ?_⟩,
   ⟨{cj with cvy := {cj.cvy with delta := -6}}, ?_⟩,
   ⟨{cj with cvy := {cj.cvy with delta := -5}}, ?_⟩⟩ <;> decide +kernel

def rmp : State := {up with rails := up.rails.set 3 {railOn 720 with sp := {cur := 720, tgt := 722, moving := true, up := true, due := 1000300}}}
def rmc : State := withCl 143 (fun c => {c with v := {c.v with sp := {cur := 300, tgt := 302, moving := true, up := true, due := 1000300}}}) up
def rmw : State := withCl 143 (fun c => {c with s := {c.s with st := .dormant, trans := some {target := .active, phase := .wakeRamp}}, w := {c.w with ramping := true}, v := {c.v with sp := {cur := 301, tgt := 302, moving := true, up := true, due := 1000300}}}) up
def rmd : State := withCl 143 (fun c => {c with s := {c.s with st := .active, trans := some {target := .retain, phase := .downRamp}}, v := {c.v with sp := {cur := 61, tgt := 60, moving := true, up := false, due := 1000300}}}) up
def ts : TrackStart := {mask := 7, coincident := true, pkt := none, goal := [320, 300, 320, 0], phase := .ramp, r := 5, top := 320, due := 1000250}
def rts : State := {up with starts := [ts]}
def tp : TrackStop := {mask := 7, coincident := true, pkt := none, begun := true, v0 := [320, 300, 320, 0], r0 := 320, r := 320, due := 1000250}
def rtp : State := {up with stops := [tp]}

theorem test_SetpointStep_met :
  (∃ (s : State) (u : State) (r : Nat), reach (s.rail r).sp.due s = some u ∧ r < 4 ∧ (s.rail r).sp.moving = true) ∧
  (∃ (s : State) (u : State) (n : Nat) (p : SetPoint) (q : SetPoint), reach (s.cluster n).v.sp.due s = some u ∧
    p = (u.cluster n).v.sp ∧ n < 144 ∧ (s.cluster n).v.sp.moving = true ∧
    (q = { cur := if p.up = true then p.cur + 1 else p.cur - 1, tgt := p.tgt, moving := decide ((if p.up = true then p.cur + 1 else p.cur - 1) ≠ p.tgt), up := p.up, due := p.due + p.every, stepAt := u.clk.now, every := p.every }) ∧
    (q.moving = true ∨ (u.cluster n).s.trans = none ∧ (u.cluster n).d.st = DroneSt.none ∧ (u.cluster n).v.calWait = false)) ∧
  (∃ (s : State) (u : State) (n : Nat) (p : SetPoint) (q : SetPoint) (tr : Machine.Trans), reach (s.cluster n).v.sp.due s = some u ∧
    p = (u.cluster n).v.sp ∧ n < 144 ∧ (s.cluster n).v.sp.moving = true ∧
    (q = { cur := if p.up = true then p.cur + 1 else p.cur - 1, tgt := p.tgt, moving := decide ((if p.up = true then p.cur + 1 else p.cur - 1) ≠ p.tgt), up := p.up, due := p.due + p.every, stepAt := u.clk.now, every := p.every }) ∧
    q.moving = false ∧ (u.cluster n).s.trans = some tr ∧ (u.cluster n).d.st = DroneSt.none ∧ (u.cluster n).v.calWait = false ∧
    tr.phase = TPhase.wakeRamp ∧ (¬((u.cluster n).s.st = CState.retain ∧ tr.target = CState.retain))) ∧
  (∃ (s : State) (u : State) (n : Nat) (p : SetPoint) (q : SetPoint) (tr : Machine.Trans), reach (s.cluster n).v.sp.due s = some u ∧
    p = (u.cluster n).v.sp ∧ n < 144 ∧ (s.cluster n).v.sp.moving = true ∧
    (q = { cur := if p.up = true then p.cur + 1 else p.cur - 1, tgt := p.tgt, moving := decide ((if p.up = true then p.cur + 1 else p.cur - 1) ≠ p.tgt), up := p.up, due := p.due + p.every, stepAt := u.clk.now, every := p.every }) ∧
    q.moving = false ∧ (u.cluster n).s.trans = some tr ∧ (u.cluster n).d.st = DroneSt.none ∧ (u.cluster n).v.calWait = false ∧
    tr.phase = TPhase.downRamp) ∧
  (∃ (s : State) (u : State) (r : Nat) (k : TrackStart), reach k.due s = some u ∧
    (List.find? (fun t => t.mask.testBit r && t.phase == StartPhase.ramp) s.starts = some k)) ∧
  (∃ (s : State) (u : State) (r : Nat) (k : TrackStop), reach k.due s = some u ∧
    (List.find? (fun t => t.mask.testBit r && t.begun && t.r != 0) s.stops = some k)) := by
  refine ⟨⟨rmp, {rmp with clk := {rmp.clk with now := 1000300}}, 3, rfl, ?_⟩,
   ⟨rmc, {rmc with clk := {rmc.clk with now := 1000300}}, 143, (rmc.cluster 143).v.sp, {cur := 301, tgt := 302, moving := true, up := true, due := 1000550, stepAt := 1000300}, rfl, rfl, ?_⟩,
   ⟨rmw, {rmw with clk := {rmw.clk with now := 1000300}}, 143, (rmw.cluster 143).v.sp, {cur := 302, tgt := 302, moving := false, up := true, due := 1000550, stepAt := 1000300}, {target := .active, phase := .wakeRamp}, rfl, rfl, ?_⟩,
   ⟨rmd, {rmd with clk := {rmd.clk with now := 1000300}}, 143, (rmd.cluster 143).v.sp, {cur := 60, tgt := 60, moving := false, up := false, due := 1000550, stepAt := 1000300}, {target := .retain, phase := .downRamp}, rfl, rfl, ?_⟩,
   ⟨rts, {rts with clk := {rts.clk with now := 1000250}}, 1, ts, rfl, ?_⟩,
   ⟨rtp, {rtp with clk := {rtp.clk with now := 1000250}}, 2, tp, rfl, ?_⟩⟩ <;> decide +kernel

def off : State := {dorm with rails := State.reset.rails, phases := State.reset.phases}

theorem test_RailCommands_met :
  (∃ (p : Packet) (s : State) (m : Nat), s.ready p = true ∧ p.payload.length = 16 ∧ m = field p.payload 0 1 ∧ m ≠ 0 ∧ m ≤ 15 ∧
    (m.testBit 3 = true → m = 8) ∧ field p.payload 1 1 ≤ 1 ∧ zeros p.payload 10 6 = true ∧
    (∀ r < 4, if m.testBit r = true then field p.payload (2 + 2 * r) 2 = 0 ∨ railLegal r (field p.payload (2 + 2 * r) 2) = true else field p.payload (2 + 2 * r) 2 = 0) ∧
    (∀ r ∈ railsIn m, starting s r = false ∧ stopping s r = false ∧ (s.rail r).enabled = false) ∧ s.sys.descent = Descent.none ∧
    s.thermHold = false ∧ (m = 8 ∨ (s.rail 3).inWindow = true)) ∧
  (∃ (p : Packet) (s : State) (m : Nat), s.ready p = true ∧ p.payload.length = 16 ∧ m = field p.payload 0 1 ∧ m ≠ 0 ∧ m ≤ 15 ∧
    (m.testBit 3 = true → m = 8) ∧ field p.payload 1 1 ≤ 1 ∧ zeros p.payload 10 6 = true ∧
    (∀ r < 4, if m.testBit r = true then field p.payload (2 + 2 * r) 2 = 0 ∨ railLegal r (field p.payload (2 + 2 * r) 2) = true else field p.payload (2 + 2 * r) 2 = 0) ∧
    (∀ r ∈ railsIn m, starting s r = false ∧ stopping s r = false ∧ (s.rail r).enabled = false) ∧ s.sys.descent = Descent.none ∧
    s.thermHold = false ∧ (m = 8 ∨ (s.rail 3).inWindow = true)) ∧
  (∃ (p : Packet) (s : State) (m : Nat), s.ready p = true ∧ p.payload.length = 16 ∧ m = field p.payload 0 1 ∧ m ≠ 0 ∧ m ≤ 15 ∧
    (m.testBit 3 = true → m = 8) ∧ field p.payload 1 1 ≤ 1 ∧ zeros p.payload 2 14 = true ∧
    (m.testBit 0 = true → ∀ c ∈ s.cl.val, c.s.st = CState.dormant ∧ c.s.trans = none) ∧
    (m.testBit 3 = true → ∀ r < 3, (s.rail r).enabled = false ∧ starting s r = false) ∧
    (∀ r ∈ railsIn m, ((s.rail r).enabled = true ∨ starting s r = true) ∧ stopping s r = false)) ∧
  (∃ (p : Packet) (s : State) (m : Nat), s.ready p = true ∧ p.payload.length = 16 ∧ m = field p.payload 0 1 ∧ m ≠ 0 ∧ m ≤ 15 ∧
    (m.testBit 3 = true → m = 8) ∧ field p.payload 1 1 ≤ 1 ∧ zeros p.payload 2 14 = true ∧
    (m.testBit 0 = true → ∀ c ∈ s.cl.val, c.s.st = CState.dormant ∧ c.s.trans = none) ∧
    (m.testBit 3 = true → ∀ r < 3, (s.rail r).enabled = false ∧ starting s r = false) ∧
    (∀ r ∈ railsIn m, ((s.rail r).enabled = true ∨ starting s r = true) ∧ stopping s r = false)) ∧
  (∃ (p : Packet) (s : State), s.ready p = true ∧ p.payload.length = 16 ∧ railTargetLegal p.payload = true ∧
    (∀ r ∈ railsIn (field p.payload 0 1), (s.rail r).enabled = true ∧ (s.rail r).tracking = false)) ∧
  (∃ (se : Nat) (r : Nat) (c : Nat) (s : State) (t : State), t = applyAct se (Act.railTarget r c) s ∧ 0 < r ∧ r < 4) := by
  refine ⟨⟨pk (pad 16 [8, 0]), off, 8, ?_⟩,
   ⟨pk (pad 16 [7, 1, 0x90, 1, 0, 0, 0, 0]), {off with rails := off.rails.set 3 (railOn 720)}, 7, ?_⟩,
   ⟨pk (pad 16 [7, 1]), dorm, 7, ?_⟩,
   ⟨pk (pad 16 [8]), {dorm with rails := ⟨[{}, {}, {}, railOn 720], rfl⟩}, 8, ?_⟩,
   ⟨rk (pad 16 [6, 0, 0, 0, 0x2C, 1, 0x40, 1]), up, ?_⟩,
   ⟨0, 3, 741, up, applyAct 0 (.railTarget 3 741) up, rfl, ?_⟩⟩ <;> decide +kernel

def tsb : TrackStart := {mask := 8, coincident := true, pkt := some (pk (pad 16 [8])), goal := [0, 0, 0, 720], phase := .bias, t0 := 990300}
def tst : State := {off with starts := [tsb]}
def tpl : TrackStop := {mask := 7, coincident := true, pkt := some (pk (pad 16 [7])), begun := true, low := [(0, 1000300), (2, 1000300)]}
def tlow : State := {dorm with stops := [tpl], rails := ⟨[railOn 0, {}, railOn 0, railOn 720], rfl⟩}
def sup : State := {up with groups := up.groups.modify 14 (fun g => {g with offsPrev := -3})}

theorem test_Tracking_met :
  (∃ (meas : List PreCheck) (s : State) (u : State) (k : TrackStart) (bad : List Nat), checkedStart s meas = some k ∧
    (bad = List.filter (fun r => meas.any fun c => c.rail == r && c.fails) (railsIn k.mask)) ∧ reach (k.t0 + 10000) s = some u ∧
    bad = []) ∧
  (∃ (meas : List PreCheck) (s : State) (u : State) (k : TrackStart) (bad : List Nat), checkedStart s meas = some k ∧
    (bad = List.filter (fun r => meas.any fun c => c.rail == r && c.fails) (railsIn k.mask)) ∧ reach (k.t0 + 10000) s = some u ∧
    bad ≠ []) ∧
  (∃ (r : Nat) (below : Bool) (s : State) (u : State) (k : TrackStop) (e : Nat), (below = true → u = s) ∧
    (below = false → reach e s = some u) ∧ r < 4 ∧ (List.find? (fun t => t.low.any fun x => x.1 == r) s.stops = some k) ∧
    (e = (Option.map Prod.snd (List.find? (fun x => x.1 == r) k.low)).getD 0)) ∧
  (∃ (r : Nat) (below : Bool) (s : State) (u : State) (k : TrackStop) (e : Nat), (below = true → u = s) ∧
    (below = false → reach e s = some u) ∧ r < 4 ∧ (List.find? (fun t => t.low.any fun x => x.1 == r) s.stops = some k) ∧
    (e = (Option.map Prod.snd (List.find? (fun x => x.1 == r) k.low)).getD 0)) ∧
  (∃ (r : Nat) (sense : Int) (plane : Int) (n : Int) (v : Int) (since : Nat) (line : Byte) (s : State) (u : State) (g0 : Nat), reach (since + 501) s = some u ∧
    r < 4 ∧ (g0 = if r = 0 then 0 else r + 11) ∧ (s.rail r).enabled = true ∧ (s.group g0).fallback = false ∧ since ≤ s.clk.now ∧
    v = 2500 * (s.rail r).sp.cur ∧
    (v + 60000 < sense ∧ plane ≤ v + 20000 ∧ line = 2 ∨ ¬(v + 60000 < sense ∧ plane ≤ v + 20000) ∧ n < -60000 ∧ line = 3) ∧
    u.evt.fresh = []) ∧
  (∃ (r : Nat) (sense : Int) (plane : Int) (n : Int) (v : Int) (since : Nat) (line : Byte) (s : State) (u : State) (g0 : Nat), reach (since + 501) s = some u ∧
    r < 4 ∧ (g0 = if r = 0 then 0 else r + 11) ∧ (s.rail r).enabled = true ∧ (s.group g0).fallback = false ∧ since ≤ s.clk.now ∧
    v = 2500 * (s.rail r).sp.cur ∧
    (v + 60000 < sense ∧ plane ≤ v + 20000 ∧ line = 2 ∨ ¬(v + 60000 < sense ∧ plane ≤ v + 20000) ∧ n < -60000 ∧ line = 3) ∧
    u.evt.fresh = []) := by
  refine ⟨⟨[⟨3, 0, 0, 11⟩], tst, {tst with clk := {tst.clk with now := 1000300}}, tsb, [], ?_⟩,
   ⟨[⟨3, 30001, 0, 11⟩], tst, {tst with clk := {tst.clk with now := 1000300}}, tsb, [3], ?_⟩,
   ⟨2, true, tlow, tlow, tpl, 1000300, (fun _ => rfl), (fun h => nomatch h), ?_⟩,
   ⟨0, false, tlow, {tlow with clk := {tlow.clk with now := 1000300}}, tpl, 1000300, (fun h => nomatch h), (fun _ => rfl), ?_⟩,
   ⟨3, 1860001, 1820000, 0, 1800000, 999700, 2, sup, {sup with clk := {sup.clk with now := 1000201}}, 14, rfl, ?_⟩,
   ⟨0, 800000, 800000, -60001, 800000, 1000100, 3, up, {up with clk := {up.clk with now := 1000601}}, 0, rfl, ?_⟩⟩ <;> decide +kernel

def npk : State := {up with phases := up.phases.map (fun p => {p with st := .parked})}
def pul : State := {up with phases := up.phases.modify 123 (fun p => {p with pwm := true, pulseAt := 1000150, pulseOn := 400})}

theorem test_Pulses_met :
  (∃ (g : GroupId) (sense : Int) (fb : Int) (s : State) (i : PhaseId), (∀ (a : Nat), (s.group ↑g).lastStart = some a → a + 20 ≤ s.clk.now) ∧
    lowHeld s ↑g = false ∧
    (fb = (sense + if 12 ≤ ↑g ∧ (s.group ↑g).fallback = true then 250 * (s.group ↑g).senseOffs else 0) + vinj (ripTo (↑g) s) ↑g) ∧
    fb ≤ vref s ↑g ∧ nextPhase s ↑g = some ↑i) ∧
  (∃ (g : GroupId) (sense : Int) (fb : Int) (s : State), (∀ (a : Nat), (s.group ↑g).lastStart = some a → a + 20 ≤ s.clk.now) ∧
    lowHeld s ↑g = false ∧
    (fb = (sense + if 12 ≤ ↑g ∧ (s.group ↑g).fallback = true then 250 * (s.group ↑g).senseOffs else 0) + vinj (ripTo (↑g) s) ↑g) ∧
    fb ≤ vref s ↑g ∧ nextPhase s ↑g = none) ∧
  (∃ (g : GroupId) (sense : Int) (fb : Int) (s : State), (∀ (a : Nat), (s.group ↑g).lastStart = some a → a + 20 ≤ s.clk.now) ∧
    lowHeld s ↑g = false ∧
    (fb = (sense + if 12 ≤ ↑g ∧ (s.group ↑g).fallback = true then 250 * (s.group ↑g).senseOffs else 0) + vinj (ripTo (↑g) s) ↑g) ∧
    vref s ↑g < fb) ∧
  (∃ (i : PhaseId) (s : State) (u : State), reach ((s.phase ↑i).pulseAt + ceilDiv (s.phase ↑i).pulseOn 4) s = some u ∧
    (s.phase ↑i).pwm = true) ∧
  (∃ (i : PhaseId) (s : State) (u : State), reach (max s.clk.now ((s.phase ↑i).pulseAt + 8)) s = some u ∧ (s.phase ↑i).pwm = true) := by
  refine ⟨⟨14, 1800000, 1800000, up, 120, ?_⟩,
   ⟨14, 1800000, 1800000, npk, ?_⟩,
   ⟨14, 1800001, 1800001, up, ?_⟩,
   ⟨123, pul, {pul with clk := {pul.clk with now := 1000250}}, rfl, ?_⟩,
   ⟨3, {up with phases := up.phases.modify 3 (fun p => {p with pwm := true, pulseAt := 1000195})}, {up with clk := {up.clk with now := 1000203}, phases := up.phases.modify 3 (fun p => {p with pwm := true, pulseAt := 1000195})}, rfl, ?_⟩⟩ <;> decide +kernel

def dsb : State := {up with phases := up.phases.modify 3 (fun p => {p with st := .disabled, cause := .faultFlag})}
def pkd : State := {up with phases := up.phases.modify 3 (fun p => {p with st := .parked, parking := true, pulseEnd := some 998300})}
def wkg : State := {up with phases := up.phases.modify 3 (fun p => {p with st := .parked, waking := some 1000300})}

theorem test_PhaseFaultsAndParking_met :
  (∃ (i : PhaseId) (s : State), (s.phase ↑i).flagLow = true) ∧
  (∃ (i : PhaseId) (s : State) (t : State), t = fallNow (Soon.disable (↑i) PhCause.faultFlag) s ∧ (s.phase ↑i).live = true) ∧
  (∃ (i : PhaseId) (s : State) (c : PhCause) (t : State), t = fallNow (Soon.loss (↑i) c) s ∧ (s.phase ↑i).st = PhState.disabled ∧
    groupOf s ↑i < 15 ∧ s.evt.fresh = []) ∧
  (∃ (i : PhaseId) (s : State) (c : PhCause) (t : State), t = fallNow (Soon.loss (↑i) c) s ∧ (s.phase ↑i).st = PhState.disabled ∧
    groupOf s ↑i < 15 ∧ s.evt.fresh = []) ∧
  (∃ (i : PhaseId) (s : State) (amps : Nat) (u : State), (s.phase ↑i).st = PhState.parked ∧ (s.phase ↑i).parking = true ∧
    (s.phase ↑i).pwm = false ∧
    (if amps < 200 then u = s else reach ((s.phase ↑i).pulseEnd.getD (s.phase ↑i).since + 2000) s = some u)) ∧
  (∃ (i : PhaseId) (s : State) (amps : Nat) (u : State), (s.phase ↑i).st = PhState.parked ∧ (s.phase ↑i).parking = true ∧
    (s.phase ↑i).pwm = false ∧
    (if amps < 200 then u = s else reach ((s.phase ↑i).pulseEnd.getD (s.phase ↑i).since + 2000) s = some u)) ∧
  (∃ (i : PhaseId) (s : State) (e : Nat) (u : State), reach e s = some u ∧ (s.phase ↑i).waking = some e ∧
    (s.phase ↑i).st = PhState.parked) := by
  refine ⟨⟨3, {up with phases := up.phases.modify 3 (fun p => {p with flagLow := true})}, ?_⟩,
   ⟨3, up, fallNow (.disable 3 .faultFlag) up, rfl, ?_⟩,
   ⟨3, dsb, .faultFlag, fallNow (.loss 3 .faultFlag) dsb, rfl, ?_⟩,
   ⟨3, dsb, .host, fallNow (.loss 3 .host) dsb, rfl, ?_⟩,
   ⟨3, pkd, 199, pkd, ?_⟩,
   ⟨3, pkd, 200, {pkd with clk := {pkd.clk with now := 1000300}}, ?_⟩,
   ⟨3, wkg, 1000300, {wkg with clk := {wkg.clk with now := 1000300}}, rfl, ?_⟩⟩ <;> decide +kernel

def dis : State := {up with phases := (up.phases.modify 3 (fun p => {p with st := .disabled})).modify 124 (fun p => {p with st := .off})}
def chk : State := {dis with clk := up0.clk, checks := [{pkt := pk (pad 16 [2, 0, 3]), phase := 3, start := 1604}]}

theorem test_PhaseConfig_met :
  (∃ (p : Packet) (s : State), s.ready p = true ∧ p.payload.length = 16 ∧ field p.payload 0 1 = 0 ∧ groupLegal p.payload = true ∧
    field p.payload 2 1 = 0 ∧ field p.payload 3 1 = 0 ∧ zeros p.payload 10 6 = true) ∧
  (∃ (p : Packet) (s : State) (i : Nat), s.ready p = true ∧ p.payload.length = 16 ∧ i = field p.payload 2 1 ∧
    field p.payload 0 1 = 1 ∧ field p.payload 1 1 = 0 ∧ i ≤ 123 ∧ zeros p.payload 3 13 = true ∧
    groupTracks s (groupOf s i) = false ∧ (s.phase i).st ≠ PhState.disabled ∧
    ((s.group (groupOf s i)).minSw ≤ liveCount s (groupOf s i) - if (s.phase i).live = true then 1 else 0) ∧
    (s.group (groupOf s i)).curr ≤ 4000 * (↑(liveCount s (groupOf s i)) - 1) - 25 * ↑(wakeAllowOf (groupOf s i) (limitA s (groupOf s i)))) ∧
  (∃ (p : Packet) (s : State) (i : Nat), s.ready p = true ∧ p.payload.length = 16 ∧ i = field p.payload 2 1 ∧
    field p.payload 0 1 = 2 ∧ field p.payload 1 1 = 0 ∧ i ≤ 123 ∧ zeros p.payload 3 13 = true ∧
    groupTracks s (groupOf s i) = false ∧ (s.phase i).st = PhState.disabled ∧ replacedBy s i = none) ∧
  (∃ (p : Packet) (s : State) (i : Nat) (k : Nat), s.ready p = true ∧ p.payload.length = 16 ∧ i = field p.payload 2 1 ∧
    k = field p.payload 3 1 ∧ field p.payload 0 1 = 3 ∧ field p.payload 1 1 = 0 ∧ i ≤ 123 ∧ 124 ≤ k ∧ k ≤ 127 ∧
    zeros p.payload 4 12 = true ∧ groupOf s k = groupOf s i ∧ groupTracks s (groupOf s k) = false ∧ (s.phase k).spareIn = false ∧
    (s.phase i).st = PhState.disabled) ∧
  (∃ (p : Packet) (s : State) (k : Nat), s.ready p = true ∧ p.payload.length = 16 ∧ k = field p.payload 3 1 ∧
    field p.payload 0 1 = 4 ∧ field p.payload 1 1 = 0 ∧ field p.payload 2 1 = 0 ∧ 124 ≤ k ∧ k ≤ 127 ∧
    zeros p.payload 4 12 = true ∧ groupTracks s (groupOf s k) = false ∧ (s.phase k).spareIn = true) ∧
  (∃ (g : Nat), g < 15) ∧
  (∃ (se : Nat) (i : PhaseId) (s : State) (t : State), t = applyAct se (Act.phaseDisable ↑i) s ∧
    (s.phase ↑i).st ≠ PhState.disabled) ∧
  (∃ (i : PhaseId) (curr : Int) (s : State) (c : PhCheck), (List.find? (fun c => c.phase == ↑i && decide (c.start + 2 ≤ s.clk.paceNo) && s.clk.now == s.clk.paceStart) s.checks = some c) ∧
    ((s.phase ↑i).flagLow = true ∨ curr < -300 ∨ 300 < curr)) ∧
  (∃ (i : PhaseId) (curr : Int) (s : State) (c : PhCheck), (List.find? (fun c => c.phase == ↑i && decide (c.start + 2 ≤ s.clk.paceNo) && s.clk.now == s.clk.paceStart) s.checks = some c) ∧
    (s.phase ↑i).flagLow = false ∧ -300 ≤ curr ∧ curr ≤ 300 ∧ (∀ (k : Nat), c.restore = some k → k ≠ ↑i)) ∧
  (∃ (i : PhaseId) (curr : Int) (s : State) (c : PhCheck), (List.find? (fun c => c.phase == ↑i && decide (c.start + 2 ≤ s.clk.paceNo) && s.clk.now == s.clk.paceStart) s.checks = some c) ∧
    (s.phase ↑i).flagLow = false ∧ -300 ≤ curr ∧ curr ≤ 300 ∧ (∀ (k : Nat), c.restore = some k → k ≠ ↑i)) := by
  refine ⟨⟨pk (pad 16 [0, 14, 0, 0, 1, 2, 15, 28, 4, 1]), up, ?_⟩,
   ⟨pk (pad 16 [1, 0, 3]), up, 3, ?_⟩,
   ⟨pk (pad 16 [2, 0, 3]), dis, 3, ?_⟩,
   ⟨pk (pad 16 [3, 0, 45, 124]), {dis with phases := dis.phases.modify 45 (fun p => {p with st := .disabled})}, 45, 124, ?_⟩,
   ⟨pk (pad 16 [4, 0, 0, 124]), {dis with phases := dis.phases.modify 124 (fun p => {p with spareIn := true, replaces := 45})}, 124, ?_⟩,
   ⟨14, ?_⟩,
   ⟨100, 3, up, applyAct 100 (.phaseDisable 3) up, rfl, ?_⟩,
   ⟨3, 301, chk, {pkt := pk (pad 16 [2, 0, 3]), phase := 3, start := 1604}, ?_⟩,
   ⟨3, 300, chk, {pkt := pk (pad 16 [2, 0, 3]), phase := 3, start := 1604}, ?_⟩,
   ⟨3, -300, {chk with checks := [{pkt := pk (pad 16 [4, 0, 0, 124]), phase := 3, restore := some 124, start := 1604}]}, {pkt := pk (pad 16 [4, 0, 0, 124]), phase := 3, restore := some 124, start := 1604}, ?_⟩⟩ <;> decide +kernel

def fc : State := {up with cells := up.cells.modify 1727 (fun c => {c with openRun := 4})}

theorem test_CellHealth_met :
  (∃ (c : CellId) (s : State) (v : Int) (sum : Int), (s.cell ↑c).mode = CellMode.regulate ∧
    sum = (s.cell ↑c).integral + ((s.cell ↑c).vref - v)) ∧
  (∃ (c : CellId) (s : State), (s.cell ↑c).mode = CellMode.switch) ∧
  (∃ (c : CellId) (s : State) (cause : CellCause) (mA : Int), (s.cell ↑c).mode ≠ CellMode.isolated ∧ (s.cell ↑c).isoAt = none ∧
    healthHeld s (↑c) mA cause = true ∧ (s.cell ↑c).retest = false) ∧
  (∃ (c : CellId) (s : State) (cause : CellCause) (mA : Int), (s.cell ↑c).mode ≠ CellMode.isolated ∧ (s.cell ↑c).isoAt = none ∧
    healthHeld s (↑c) mA cause = true ∧ (s.cell ↑c).retest = true) ∧
  (∃ (c : CellId) (s : State) (cause : CellCause), (s.cell ↑c).isoAt = some cause) := by
  refine ⟨⟨1727, up, 300100, -100, ?_⟩,
   ⟨1727, {up with cells := up.cells.modify 1727 (fun c => {c with mode := .switch, drive := 9})}, ?_⟩,
   ⟨1727, fc, .openPath, 0, ?_⟩,
   ⟨1727, {fc with cells := fc.cells.modify 1727 (fun c => {c with retest := true})}, .openPath, 0, ?_⟩,
   ⟨1727, {up with cells := up.cells.modify 1727 (fun c => {c with isoAt := some .openPath}), cl := up.cl.modify 143 (fun c => {c with k := {c.k with liveMask := 0xFFF}})}, .openPath, ?_⟩⟩ <;> decide +kernel

def cl (n : Nat) (f : Cluster → Cluster) : State := withCl n f up
def cl0 (n : Nat) (f : Cluster → Cluster) : State := withCl n f up0

theorem test_WakeLatch_met :
  (∃ (n : ClusterId) (s : State), s.sys.chip ≠ Chip.cold ∧ (s.cluster ↑n).s.latch = false) ∧
  (∃ (n : ClusterId) (s : State), s.sys.chip ≠ Chip.cold ∧ (s.cluster ↑n).s.latch = true) ∧
  (∃ (s : State), s.sys.chip = Chip.cold) ∧
  (∃ (n : ClusterId) (s : State), (s.cluster ↑n).s.latch = true ∧ s.clk.now = s.clk.paceStart ∧ s.clk.p0Pending = false ∧
    (s.cluster ↑n).inProgress = false ∧ (s.cluster ↑n).s.hsFault = false ∧ (s.cluster ↑n).s.inRechar = false ∧ gridUp s = true ∧
    s.sys.descent = Descent.none) ∧
  (∃ (n : ClusterId) (s : State), (s.cluster ↑n).s.latch = true ∧ s.clk.now = s.clk.paceStart ∧ s.clk.p0Pending = false ∧
    (s.cluster ↑n).inProgress = false ∧ (s.cluster ↑n).s.hsFault = false ∧ (s.cluster ↑n).s.inRechar = false ∧ gridUp s = true ∧
    s.sys.descent = Descent.none) := by
  refine ⟨⟨143, up, ?_⟩,
   ⟨143, cl 143 (fun c => {c with s := {c.s with latch := true}}), ?_⟩,
   ⟨State.reset, ?_⟩,
   ⟨143, cl0 143 (fun c => {c with s := {st := .dormant, latch := true}}), ?_⟩,
   ⟨143, cl0 143 (fun c => {c with s := {c.s with st := .retain, req := .retain, ack := .retain, latch := true}}), ?_⟩⟩ <;> decide +kernel

def fe : State := cl 143 (fun c => {c with s := {c.s with st := .dormant, req := .active, ack := .dormant, trans := some {target := .active, phase := .finalEcho}, hsEdge := some 101}})
def ee : State := cl 143 (fun c => {c with s := {c.s with req := .retain, trans := some {target := .retain, phase := .echo}, hsEdge := some 101}})

theorem test_Handshake_met :
  (∃ (n : ClusterId) (s : State) (code : Nat) (tr : Machine.Trans), (s.cluster ↑n).s.trans = some tr ∧
    tr.phase = TPhase.finalEcho ∧ (s.cluster ↑n).s.hsFault = false ∧ CState.ofCode code = (s.cluster ↑n).s.req) ∧
  (∃ (n : ClusterId) (s : State) (code : Nat) (tr : Machine.Trans), (s.cluster ↑n).s.trans = some tr ∧ tr.phase = TPhase.echo ∧
    (s.cluster ↑n).s.hsFault = false ∧ CState.ofCode code = (s.cluster ↑n).s.req) ∧
  (∃ (n : ClusterId) (s : State) (code : Nat), (CState.ofCode code ≠ (s.cluster ↑n).s.req ∨ (s.cluster ↑n).s.hsFault = true)) ∧
  (∃ (n : ClusterId) (s : State) (e : Nat), (s.cluster ↑n).s.hsEdge = some e ∧ e ≤ s.clk.stage ∧
    (s.cluster ↑n).s.ack ≠ (s.cluster ↑n).s.req ∧ s.clk.p0Pending = false ∧ s.evt.fresh = []) := by
  refine ⟨⟨143, fe, 0, {target := .active, phase := .finalEcho}, ?_⟩,
   ⟨143, ee, 2, {target := .retain, phase := .echo}, ?_⟩,
   ⟨143, ee, 0, ?_⟩,
   ⟨143, cl 143 (fun c => {c with s := {c.s with req := .retain, hsEdge := some 100}}), 100, ?_⟩⟩ <;> decide +kernel

def selft : State := cl 143 (fun c => {c with s := {c.s with st := .dormant, req := .dormant, ack := .dormant, trans := some {target := .active, phase := .selfTest, due := 1000300}}})
def adm : State := cl0 143 (fun c => {c with s := {c.s with st := .retain, req := .retain, ack := .retain, trans := some {target := .active, phase := .unadmitted}}, v := {c.v with sp := {cur := 100, tgt := 100}}, w := {c.w with pending := true}})
def admR : State := {adm with segs := adm.segs.modify 11 (fun x => {x with head := 10000000})}
def late : State := withCl 143 (fun c => {c with w := {c.w with firstTest := some 1542, deadline := 4, testedAt := some 1606}}) adm
def late2 : State := withCl 131 (fun c => {c with w := {c.w with ramping := true, lateOnly := true, leak := 40}}) late

theorem test_Wake_met :
  (∃ (n : ClusterId) (s : State) (u : State) (tr : Machine.Trans), reach tr.due s = some u ∧ (s.cluster ↑n).s.trans = some tr ∧
    tr.phase = TPhase.selfTest) ∧
  (∃ (n : ClusterId) (s : State) (room : Int) (k : Nat) (tr : Machine.Trans), testTurn s ↑n = true ∧
    (s.cluster ↑n).w.lateOnly = false ∧ room = (s.segs.get (↑n % 12)).head - 250 * ↑(drawsOf s (↑n % 12) false) ∧
    fitSlope (s.cluster ↑n) room = some k ∧ (s.cluster ↑n).s.trans = some tr) ∧
  (∃ (n : ClusterId) (s : State) (room : Int), testTurn s ↑n = true ∧ (s.cluster ↑n).w.lateOnly = false ∧
    room = (s.segs.get (↑n % 12)).head - 250 * ↑(drawsOf s (↑n % 12) false) ∧ fitSlope (s.cluster ↑n) room = none) ∧
  (∃ (n : ClusterId) (s : State) (tr : Machine.Trans) (f : Nat), (s.cluster ↑n).s.trans = some tr ∧ tr.phase = TPhase.unadmitted ∧
    (s.cluster ↑n).w.firstTest = some f ∧ (s.cluster ↑n).w.lateOnly = false ∧ (s.cluster ↑n).w.testedAt = some s.clk.paceNo ∧
    f + 16 * (s.cluster ↑n).w.deadline ≤ s.clk.paceNo) ∧
  (∃ (n : ClusterId) (s : State) (tr : Machine.Trans) (f : Nat), (s.cluster ↑n).s.trans = some tr ∧ tr.phase = TPhase.unadmitted ∧
    (s.cluster ↑n).w.firstTest = some f ∧ (s.cluster ↑n).w.lateOnly = false ∧ (s.cluster ↑n).w.testedAt = some s.clk.paceNo ∧
    f + 16 * (s.cluster ↑n).w.deadline ≤ s.clk.paceNo) := by
  refine ⟨⟨143, selft, {selft with clk := {selft.clk with now := 1000300}}, {target := .active, phase := .selfTest, due := 1000300}, rfl, ?_⟩,
   ⟨143, admR, 10000000, 0, {target := .active, phase := .unadmitted}, ?_⟩,
   ⟨143, adm, 0, ?_⟩,
   ⟨143, late, {target := .active, phase := .unadmitted}, 1542, ?_⟩,
   ⟨143, late2, {target := .active, phase := .unadmitted}, 1542, ?_⟩⟩ <;> decide +kernel

def drn : State := cl 143 (fun c => {c with d := {c.d with st := .on}})

theorem test_ClusterCommands_met :
  (∃ (p : Packet) (s : State), s.ready p = true ∧ p.payload.length = 24 ∧ setStateLegal p.payload = true ∧
    firstFail (setStateChecks s (maskBits 144 (field p.payload 0 18)) (CState.ofCode (field p.payload 18 1))) = none) ∧
  (∃ (p : Packet) (s : State), s.ready p = true ∧ p.payload.length = 4 + 4 * field p.payload 0 1 ∧ offsetLegal p.payload = true) ∧
  (∃ (p : Packet) (s : State) (b : Byte), s.ready p = true ∧ p.payload = [b] ∧ (BitVec.toNat b < 144 ∨ BitVec.toNat b = 255) ∧
    firstFail (droneEnterChecks s (BitVec.toNat b)) = none) ∧
  (∃ (p : Packet) (s : State) (b : Byte), s.ready p = true ∧ p.payload = [b] ∧ (BitVec.toNat b < 144 ∨ BitVec.toNat b = 255) ∧
    firstFail (droneEnterChecks s (BitVec.toNat b)) = none) ∧
  (∃ (p : Packet) (s : State) (b : Byte), s.ready p = true ∧ p.payload = [b] ∧ (BitVec.toNat b < 144 ∨ BitVec.toNat b = 255) ∧
    firstFail (droneExitChecks s (BitVec.toNat b)) = none) ∧
  (∃ (se : Nat) (n : Nat) (sel : Nat) (th : Nat) (o : Int) (s : State) (t : State), t = applyAct se (Act.offset n sel o th) s ∧
    n < 144) := by
  refine ⟨⟨rk (pad 24 [0,0,0,0,0,0,0,0,0,0,0,0,0,0,0,0,0,0x80, 1]), up, ?_⟩,
   ⟨rk (pad 8 [1, 0, 0, 0, 143, 3, 0xEC, 28]), up, ?_⟩,
   ⟨rk [143], up, 143, ?_⟩,
   ⟨rk [0xFF], {up with sys := {up.sys with armChipDrone := true}}, 0xFF, ?_⟩,
   ⟨rk [143], drn, 143, ?_⟩,
   ⟨100, 143, 3, 31, -20, up, applyAct 100 (.offset 143 3 (-20) 31) up, rfl, ?_⟩⟩ <;> decide +kernel

def ret : State := cl 143 (fun c => {c with s := {c.s with st := .retain, req := .retain, ack := .retain}})
def saR : State := {up with sys := {up.sys with saReq := Tab.replicate 64 true}}

theorem test_StateChange_met :
  (∃ (n : Nat) (d : Nat) (g : CState) (s : State) (t : State), t = startTrans n g d s ∧ n < 144 ∧ (s.cluster n).s.trans = none ∧
    (s.cluster n).s.hsFault = false ∧ (s.cluster n).s.st = g) ∧
  (∃ (n : Nat) (d : Nat) (g : CState) (s : State) (t : State), t = startTrans n g d s ∧ n < 144 ∧ (s.cluster n).s.trans = none ∧
    (s.cluster n).s.hsFault = false ∧ (s.cluster n).s.st = CState.dormant ∧ g ≠ CState.dormant) ∧
  (∃ (n : Nat) (d : Nat) (g : CState) (s : State) (t : State), t = startTrans n g d s ∧ n < 144 ∧ (s.cluster n).s.trans = none ∧
    (s.cluster n).s.hsFault = false ∧ (s.cluster n).s.st = CState.retain ∧ (g = CState.active ∨ g = CState.rest)) ∧
  (∃ (n : Nat) (d : Nat) (g : CState) (s : State) (t : State), t = startTrans n g d s ∧ n < 144 ∧ (s.cluster n).s.trans = none ∧
    (s.cluster n).s.hsFault = false ∧ ((s.cluster n).s.st = CState.active ∨ (s.cluster n).s.st = CState.rest) ∧
    (g = CState.retain ∨ g = CState.dormant) ∧ (s.cluster n).s.req ≠ g) ∧
  (∃ (b : Nat), b < 64) := by
  refine ⟨⟨143, 4, .active, up, startTrans 143 .active 4 up, rfl, ?_⟩,
   ⟨143, 4, .active, dorm, startTrans 143 .active 4 dorm, rfl, ?_⟩,
   ⟨143, 64, .rest, ret, startTrans 143 .rest 64 ret, rfl, ?_⟩,
   ⟨143, 4, .dormant, up, startTrans 143 .dormant 4 up, rfl, ?_⟩,
   ⟨63, ?_⟩⟩ <;> decide +kernel

def prk : State := {up with phases := up.phases.modify 95 (fun p => {p with st := .parked, en := false})}
def prkW : State := {prk with phases := prk.phases.modify 95 (fun p => {p with waking := some 1000301})}
def tripd : State := cl 143 (fun c => {c with t := {c.t with tripped := true, riseAt := 1000198, countFrom := 1000198}})
def bl (b : Blw) : State := cl 143 (fun c => {c with b := b})
def fdn : State := bl {st := .firing, fire := true, ending := true}
def cdn : State := bl {st := .charging, chg := true, ending := true}

theorem test_SentinelsAndBellows_met :
  (∃ (n : ClusterId) (uv : Int) (v : Int) (s : State), (v = 250 * (1200 + 5 * (s.cluster ↑n).v.sp.before s.clk.now - (40 + 10 * ↑(s.cluster ↑n).t.thresh) - if (s.cluster ↑n).droneOut = true then 72 else 0)) ∧
    uv ≤ v ∧ sentActive (s.cluster ↑n) = true ∧ (s.cluster ↑n).t.tripped = false) ∧
  (∃ (n : ClusterId) (uv : Int) (v : Int) (s : State), (v = 250 * (1200 + 5 * (s.cluster ↑n).v.sp.before s.clk.now - (40 + 10 * ↑(s.cluster ↑n).t.thresh) - if (s.cluster ↑n).droneOut = true then 72 else 0)) ∧
    v < uv) ∧
  (∃ (g : Nat) (s : State) (t : State), t = fallNow (Soon.unpark g) s ∧ g < 15) ∧
  (∃ (g : Nat) (s : State) (t : State) (i : Nat), t = fallNow (Soon.raiseEn g) s ∧ g < 15 ∧ i < 128) ∧
  (∃ (n : ClusterId) (uv : Int) (v : Int) (since : Nat) (s : State) (u : State), reach (max ((s.cluster ↑n).t.riseAt + 4) since + 2) s = some u ∧
    (s.cluster ↑n).t.tripped = true ∧
    (v = 250 * (1200 + 5 * (u.cluster ↑n).v.sp.cur - (40 + 10 * ↑(u.cluster ↑n).t.thresh) - if (u.cluster ↑n).droneOut = true then 72 else 0)) ∧
    v + 5000 ≤ uv) ∧
  (∃ (n : ClusterId) (uv : Int) (v : Int) (since : Nat) (s : State) (u : State), reach (max ((s.cluster ↑n).t.riseAt + 4) since + 2) s = some u ∧
    (s.cluster ↑n).t.tripped = true ∧
    (v = 250 * (1200 + 5 * (u.cluster ↑n).v.sp.cur - (40 + 10 * ↑(u.cluster ↑n).t.thresh) - if (u.cluster ↑n).droneOut = true then 72 else 0)) ∧
    uv < v + 5000) ∧
  (∃ (n : ClusterId) (s : State) (u : State) (b : Blw) (low : Bool), (low = true ∧ u = s ∨ low = false ∧ reach b.fireEnd s = some u) ∧
    b = (s.cluster ↑n).b ∧ b.st = BlwState.firing ∧ b.ending = false) ∧
  (∃ (n : ClusterId) (s : State) (u : State) (b : Blw) (low : Bool), (low = true ∧ u = s ∨ low = false ∧ reach b.fireEnd s = some u) ∧
    b = (s.cluster ↑n).b ∧ b.st = BlwState.firing ∧ b.ending = false) ∧
  (∃ (n : ClusterId) (s : State) (u : State) (b : Blw) (m : Nat) (freed : Nat) (at_ : Nat), reach at_ s = some u ∧
    b = (s.cluster ↑n).b ∧ b.st = BlwState.waiting ∧ m = max s.clk.now b.askAt ∧
    (freed = if s.blwCfg.freedAt = m then s.blwCfg.freedCnt else 0) ∧ slotsHeld s < 32 ∧
    (at_ = if slotsHeld s + freed < 32 then m else m + 1) ∧
    ((s.cl.places fun m c => decide (m < ↑n) && c.b.st == BlwState.waiting && decide (c.b.askAt ≤ at_)) = [])) ∧
  (∃ (n : ClusterId) (s : State) (b : Blw), b = (s.cluster ↑n).b ∧ b.st = BlwState.charging ∧ b.ending = false) ∧
  (∃ (n : ClusterId) (s : State) (u : State) (b : Blw), reach (chargeDue b) s = some u ∧ b = (s.cluster ↑n).b ∧
    b.st = BlwState.charging ∧ b.ending = false ∧ s.clk.p0Pending = false ∧ u.evt.fresh = []) ∧
  (∃ (n : ClusterId) (s : State) (b : Blw), b = (s.cluster ↑n).b ∧ b.st ≠ BlwState.off ∧ b.st ≠ BlwState.fault ∧ s.evt.fresh = []) ∧
  (∃ (n : ClusterId) (s : State) (t : State) (b : Blw), t = fallNow (Soon.fireEnd ↑n) s ∧ b = (s.cluster ↑n).b ∧
    b.st = BlwState.firing) ∧
  (∃ (n : ClusterId) (s : State) (t : State) (b : Blw), t = fallNow (Soon.chargeEnd ↑n) s ∧ b = (s.cluster ↑n).b ∧
    b.st = BlwState.charging) ∧
  (∃ (n : ClusterId) (s : State) (t : State) (b : Blw) (cause : Nat), t = fallNow (Soon.blwFault (↑n) cause) s ∧
    b = (s.cluster ↑n).b ∧ b.st ≠ BlwState.off ∧ b.st ≠ BlwState.fault) := by
  refine ⟨⟨143, 645000, 645000, up, ?_⟩,
   ⟨143, 645001, 645000, up, ?_⟩,
   ⟨11, prk, fallNow (.unpark 11) prk, rfl, ?_⟩,
   ⟨11, prkW, fallNow (.raiseEn 11) prkW, 95, rfl, ?_⟩,
   ⟨143, 650000, 645000, 1000200, tripd, {tripd with clk := {tripd.clk with now := 1000204}}, rfl, ?_⟩,
   ⟨143, 649999, 645000, 1000200, tripd, {tripd with clk := {tripd.clk with now := 1000204}}, rfl, ?_⟩,
   ⟨143, bl {st := .firing, fireEnd := 1000300, fire := true}, {bl {st := .firing, fireEnd := 1000300, fire := true} with clk := {up.clk with now := 1000300}}, {st := .firing, fireEnd := 1000300, fire := true}, false, (Or.inr ⟨rfl, rfl⟩), ?_⟩,
   ⟨143, bl {st := .firing, leaveWhenDone := true, fireEnd := 1000300, fire := true}, bl {st := .firing, leaveWhenDone := true, fireEnd := 1000300, fire := true}, {st := .firing, leaveWhenDone := true, fireEnd := 1000300, fire := true}, true, (Or.inl ⟨rfl, rfl⟩), ?_⟩,
   ⟨143, bl {st := .waiting, askAt := 1000202}, {bl {st := .waiting, askAt := 1000202} with clk := {up.clk with now := 1000202}}, {st := .waiting, askAt := 1000202}, 1000202, 0, 1000202, rfl, ?_⟩,
   ⟨143, bl {st := .charging}, {st := .charging}, ?_⟩,
   ⟨143, bl {st := .charging, grantAt := 998300}, {bl {st := .charging, grantAt := 998300} with clk := {up.clk with now := 1000300}}, {st := .charging, grantAt := 998300}, rfl, ?_⟩,
   ⟨143, bl {st := .ready}, {st := .ready}, ?_⟩,
   ⟨143, fdn, fallNow (.fireEnd 143) fdn, {st := .firing, fire := true, ending := true}, rfl, ?_⟩,
   ⟨143, cdn, fallNow (.chargeEnd 143) cdn, {st := .charging, chg := true, ending := true}, rfl, ?_⟩,
   ⟨143, cdn, fallNow (.blwFault 143 2) cdn, {st := .charging, chg := true, ending := true}, 2, rfl, ?_⟩⟩ <;> decide +kernel

def evl (l : Nat) : State := {up with eng := {up.eng with inputs := [{slot := 319, lane := 9, last := l}]}}

theorem test_EngineEvaluation_met :
  (∃ (s : State) (u : State), reach (s.clk.paceStart + 512) s = some u ∧ s.clk.running = true ∧ s.clk.p0Pending = false) ∧
  (∃ (s : State) (u : State), reach (s.clk.paceStart + 512) s = some u ∧ s.clk.running = true ∧ s.clk.p0Pending = false) := by
  refine ⟨⟨evl 507, {evl 507 with clk := {up.clk with now := 1000512}}, rfl, ?_⟩,
   ⟨evl 508, {evl 508 with clk := {up.clk with now := 1000512}}, rfl, ?_⟩⟩ <;> decide +kernel

def swp (_ : BitVec 32) : State := {up with eng := {up.eng with swapPend := true}}
def swe (e a : Nat) : State := {up with eng := {up.eng with swapPend := true, swapEdge := some e, swapAge := a}}

theorem test_EnginePlan_met :
  (∃ (s : State), s.fwRuns = true ∧ s.eng.swapPend = false) ∧
  (∃ (s : State), s.fwRuns = true ∧ s.eng.swapPend = true) ∧
  (∃ (s : State) (parity : List Nat) (slot : Nat) (reason : Nat), s.eng.swapPend = true ∧ s.eng.swapEdge = none ∧
    planCheck (shadowBank s) parity = some (slot, reason) ∧ s.evt.fresh = []) ∧
  (∃ (s : State) (parity : List Nat), s.eng.swapPend = true ∧ s.eng.swapEdge = none ∧ planCheck (shadowBank s) parity = none) ∧
  (∃ (s : State) (e : Nat) (t : State), t = engineSwap s ∧ s.eng.swapPend = true ∧ s.eng.swapEdge = some e ∧
    e ≤ s.eng.swapAge + 1) ∧
  (∃ (s : State) (e : Nat) (t : State), t = engineSwap s ∧ s.eng.swapPend = true ∧ s.eng.swapEdge = some e ∧
    s.eng.swapAge + 1 < e) ∧
  (∃ (s : State) (addr : Nat), s.fwRuns = true ∧ 2097152 ≤ addr ∧ addr < 2228224) ∧
  (∃ (s : State) (addr : Nat), s.fwRuns = true ∧ 2097152 ≤ addr ∧ addr < 2228224) ∧
  (∃ (s : State) (addr : Nat), s.fwRuns = true ∧ 2097152 ≤ addr ∧ addr < 2228224) := by
  refine ⟨⟨up, ?_⟩,
   ⟨swp 0, ?_⟩,
   ⟨swp 0, [319], 319, 12, ?_⟩,
   ⟨swp 0, [], ?_⟩,
   ⟨swe 2 1, 2, engineSwap (swe 2 1), rfl, ?_⟩,
   ⟨swe 2 0, 2, engineSwap (swe 2 0), rfl, ?_⟩,
   ⟨up, 0x21FFFC, ?_⟩,
   ⟨up, 0x200000, ?_⟩,
   ⟨swp 0, 0x210000, ?_⟩⟩ <;> decide +kernel

def cv : State := {up with adc := {up.adc with on := true}, convs := up.convs.map (fun v => {v with lowPower := false, pos := 41})}
def cvr : State := {cv with convs := cv.convs.modify 7 (fun v => {v with pipe := [{chan := 311, due := 1000240}]})}
def cvu : State := {cv with convs := cv.convs.modify 7 (fun v => {v with pipe := [{chan := 311, due := 1000240, urgent := true}]})}

theorem test_AdcResult_met :
  (∃ (c : ChanId) (d : Nat) (urgent : Bool) (s : State) (u : State) (e : AdcSample) (rest : List AdcSample), (reach e.due (s.updConv (↑c % 16) fun _ => Conv.ahead s (↑c % 16)) = some u) ∧
    ↑c < 312 ∧ d ≤ 4095 ∧ (Conv.ahead s (↑c % 16)).pipe = e :: rest ∧ e.chan = ↑c ∧ e.urgent = urgent) ∧
  (∃ (c : ChanId) (d : Nat) (urgent : Bool) (s : State) (u : State) (e : AdcSample) (rest : List AdcSample), (reach e.due (s.updConv (↑c % 16) fun _ => Conv.ahead s (↑c % 16)) = some u) ∧
    ↑c < 312 ∧ d ≤ 4095 ∧ (Conv.ahead s (↑c % 16)).pipe = e :: rest ∧ e.chan = ↑c ∧ e.urgent = urgent) ∧
  (∃ (v : Conv) (c : Nat), v.carry = some c) ∧
  (∃ (v : Conv) (c : Nat) (rest : List Nat), v.carry = none ∧ v.urgQ = c :: rest) ∧
  (∃ (v : Conv), v.carry = none ∧ v.urgQ = []) := by
  refine ⟨⟨311, 4095, false, cvr, {cvr with clk := {cvr.clk with now := 1000240}}, {chan := 311, due := 1000240}, [], rfl, ?_⟩,
   ⟨311, 0, true, cvu, {cvu with clk := {cvu.clk with now := 1000240}}, {chan := 311, due := 1000240, urgent := true}, [], rfl, ?_⟩,
   ⟨{carry := some 23}, 23, ?_⟩,
   ⟨{urgQ := [311, 7]}, 311, [7], ?_⟩,
   ⟨{}, ?_⟩⟩ <;> decide +kernel

def sw (l : Tab 64 (BitVec 32)) : State := {up with convs := up.convs.modify 15 (fun v => {v with swapReq := true, swapAt := 1607, shadow := l})}

theorem test_AdcSequences_met :
  (∃ (s : State), s.fwRuns = true) ∧
  (∃ (s : State), s.fwRuns = true) ∧
  (∃ (s : State) (u : ConvId) (q : Nat), (s.conv ↑u).swapReq = true ∧ (s.conv ↑u).swapWait = none ∧
    seqCheck (↑u) (s.conv ↑u).shadow.val = some q ∧ s.evt.fresh = []) ∧
  (∃ (s : State) (u : ConvId), (s.conv ↑u).swapReq = true ∧ (s.conv ↑u).swapWait = none ∧
    seqCheck (↑u) (s.conv ↑u).shadow.val = none) ∧
  (∃ (s : State) (c : Nat) (w : State), s.fwRuns = true ∧ w = convTo (c % 16) s.clk.now s ∧ c < 312 ∧
    (w.conv (c % 16)).urgQ.length < 4) ∧
  (∃ (s : State) (c : Nat) (w : State), s.fwRuns = true ∧ w = convTo (c % 16) s.clk.now s ∧
    (312 ≤ c ∨ 4 ≤ (w.conv (c % 16)).urgQ.length)) := by
  refine ⟨⟨up, ?_⟩,
   ⟨{up with convs := up.convs.modify 15 (fun v => {v with swapReq := true})}, ?_⟩,
   ⟨sw ((Tab.replicate 64 15#32).set 63 0), 15, 63, ?_⟩,
   ⟨sw (Tab.replicate 64 15), 15, ?_⟩,
   ⟨cv, 311, convTo 7 1000200 cv, ?_⟩,
   ⟨cv, 312, convTo 8 1000200 cv, ?_⟩⟩ <;> decide +kernel

def cb : State := {cv with convs := cv.convs.modify 15 (fun v => {v with calBusy := true, calMode := false, calEnd := some 1000300}), adc := {on := true, cals := [{pkt := pk (pad 16 [0, 0x80]), left := 0x8000, due := 100}]}}
def cbw : State := {cb with clk := {cb.clk with now := 1000300}}
def bg : State := {cv with convs := cv.convs.modify 15 (fun v => {v with calMode := true, spareStage := 10, spareSince := 36, calEnd := some 1000300})}
def bgw : State := {bg with clk := {bg.clk with now := 1000300}}

theorem test_AdcCalibration_met :
  (∃ (u : ConvId) (s : State) (v : State) (w : State) (sz : Nat) (sr : Nat) (at_ : Nat), v = convTo (↑u) s.clk.now s ∧
    (v.conv ↑u).calEnd = some at_ ∧ reach at_ v = some w ∧ (v.conv ↑u).calBusy = true ∧ (v.conv ↑u).calAccept = false ∧
    ofsOk (ofsEstimate sz) = true ∧ gainOk (gainEst sz sr) = true) ∧
  (∃ (u : ConvId) (s : State) (v : State) (w : State) (sz : Nat) (at_ : Nat), v = convTo (↑u) s.clk.now s ∧
    (v.conv ↑u).calEnd = some at_ ∧ reach at_ v = some w ∧ (v.conv ↑u).calBusy = true ∧ (v.conv ↑u).calAccept = false ∧
    ofsOk (ofsEstimate sz) = false ∧ w.evt.fresh = []) ∧
  (∃ (u : ConvId) (s : State) (v : State) (w : State) (sz : Nat) (sr : Nat) (at_ : Nat), v = convTo (↑u) s.clk.now s ∧
    (v.conv ↑u).calEnd = some at_ ∧ reach at_ v = some w ∧ (v.conv ↑u).calMode = true ∧ ofsOk (ofsEstimate sz) = true ∧
    gainOk (gainEst sz sr) = true) ∧
  (∃ (u : ConvId) (s : State) (v : State) (w : State) (sz : Nat) (sr : Nat) (at_ : Nat), v = convTo (↑u) s.clk.now s ∧
    (v.conv ↑u).calEnd = some at_ ∧ reach at_ v = some w ∧ (v.conv ↑u).calMode = true ∧
    (ofsOk (ofsEstimate sz) && gainOk (gainEst sz sr)) = false) ∧
  (∃ (u : ConvId) (s : State), convsRun s = true ∧ (s.conv ↑u).calMode = true ∧ (s.conv ↑u).spareStage ≠ 0 ∧
    (s.conv ↑u).spareSince + 64 ≤ s.clk.stage) ∧
  (∃ (u : ConvId) (s : State) (k : AdcCal), s.clk.p0Pending = false ∧
    (List.find? (fun k => decide (k.due ≤ s.clk.stage)) s.adc.cals = some k) ∧ k.left.testBit ↑u = true) ∧
  (∃ (p : Packet) (s : State) (m : Nat), s.ready p = true ∧ p.payload.length = 16 ∧ m = field p.payload 0 2 ∧
    (∃ u < 16, m.testBit u = true) ∧ zeros p.payload 2 14 = true ∧
    (∀ u < 16, m.testBit u = true → (s.conv u).calMode = false ∧ (s.conv u).calBusy = false) ∧ (s.rail 3).enabled = true ∧
    (s.rail 3).inWindow = true) ∧
  (∃ (p : Packet) (s : State) (m : Nat), s.ready p = true ∧ p.payload.length = 16 ∧ m = field p.payload 0 2 ∧
    (∃ u < 16, m.testBit u = true) ∧ (field p.payload 2 1 ≤ 1 ∨ field p.payload 2 1 = 255) ∧
    (field p.payload 3 1 ≤ 1 ∨ field p.payload 3 1 = 255) ∧ zeros p.payload 4 12 = true ∧
    (∀ u < 16, m.testBit u = true → (s.conv u).calBusy = false)) ∧
  (∃ (se : Nat) (m : Nat) (mode : Nat) (power : Nat) (u : Nat) (s : State) (t : State), t = applyAct se (Act.calMode m mode power) s ∧
    u < 16) := by
  refine ⟨⟨15, cb, cb, cbw, 160, 768160, 1000300, rfl, ?_⟩,
   ⟨15, cb, cb, cbw, 20000, 1000300, rfl, ?_⟩,
   ⟨15, bg, bg, bgw, 160, 768160, 1000300, rfl, ?_⟩,
   ⟨15, bg, bg, bgw, 160, 160, 1000300, rfl, ?_⟩,
   ⟨15, bg, ?_⟩,
   ⟨15, cb, {pkt := pk (pad 16 [0, 0x80]), left := 0x8000, due := 100}, ?_⟩,
   ⟨pk (pad 16 [0, 0x80]), {up with convs := up.convs.modify 15 (fun v => {v with calMode := false})}, 0x8000, ?_⟩,
   ⟨pk (pad 16 [0, 0x80, 1, 0xFF]), up, 0x8000, ?_⟩,
   ⟨0, 0x8000, 1, 0xFF, 15, up, applyAct 0 (.calMode 0x8000 1 0xFF) up, rfl, ?_⟩⟩ <;> decide +kernel

def ml : Packet := pk (pad 16 ([0x40, 0, 0, 0, 0, 0, 0, 1] ++ leBytes 4 10304))
def lg : State := {up with man := {up.man with st := .loading, load := some ml, len := 10304, due := 100}}
def hdr0 : List Byte := pad 1020 (leBytes 4 0x5A484D46 ++ [1, 40, 4, 1, 144, 0, 1, 0, 0, 0])
def hdr : List Byte := hdr0 ++ leBytes 4 (crc32c hdr0).toNat

theorem hdr_field (c : Nat) (h : c < 2 ^ 32) : field (hdr0 ++ leBytes 4 c) 1020 4 = c := by
  have b : (hdr0 ++ leBytes 4 c).drop 1020 = leBytes 4 c := List.drop_left' (by decide +kernel)
  rw [field, slice, b]
  simp only [leBytes, leNat, BitVec.toNat_ofNat, List.take]
  omega

theorem hdr_check : (crc32c (hdr.take 1020)).toNat = field hdr 1020 4 := by
  have a : hdr.take 1020 = hdr0 := List.take_left' (by decide +kernel)
  rw [a]
  exact (hdr_field _ (crc32c hdr0).isLt).symm

theorem test_ManifestLoading_met :
  (∃ (s : State) (p : Packet), s.ready p = true ∧ p.payload.length = 16 ∧ field p.payload 0 8 % 64 = 0 ∧
    zeros p.payload 12 4 = true ∧ field p.payload 8 4 ≠ 4294967295 ∧ 10304 ≤ field p.payload 8 4 ∧ s.fbOk = true ∧
    s.man.st ≠ ManState.loading ∧ s.man.st ≠ ManState.running) ∧
  (∃ (s : State) (p : Packet), s.man.st = ManState.loading ∧ s.man.hdrDone = false ∧ s.man.load = some p) ∧
  (∃ (s : State) (p : Packet), s.man.st = ManState.loading ∧ s.man.due ≤ s.clk.stage ∧ s.man.load = some p ∧
    s.clk.p0Pending = false) ∧
  (∃ (s : State) (d : List Byte), (crc32c (List.take 1020 d)).toNat = field d 1020 4 ∧ d.length = 1024 ∧
    s.man.st = ManState.loading ∧ s.man.hdrDone = false ∧ headerOk d = true ∧ s.man.len = 1024 + 9280 * field d 10 2) := by
  refine ⟨⟨up, ml, ?_⟩,
   ⟨lg, ml, ?_⟩,
   ⟨lg, ml, ?_⟩,
   ⟨lg, hdr, hdr_check, ?_⟩⟩ <;> decide +kernel

def slot (m : ManSlot) : State := {up with man := {up.man with st := .running, s0 := 97, nblk := 2, slots := up.man.slots.set 13 m}}
def served : State := {slot {} with man := {(slot {}).man with slots := up.man.slots.set 0 {seq := some 0, stored := true, storedIn := 90, tileOk := Tab.replicate 9 true}}}
def servedOk : State := good 520 served

theorem test_ManifestBlocks_met :
  (∃ (s : State) (slot : Nat) (q : Nat), slot < 14 ∧ (manSlot s slot).seq = some q ∧ (manSlot s slot).stored = false ∧
    (manSlot s slot).refused = false ∧ (manSlot s slot).condemned = false ∧ s.man.st ≠ ManState.loading ∧ s.evt.fresh = []) ∧
  (∃ (s : State) (slot : Nat) (q : Nat), slot < 14 ∧ (manSlot s slot).seq = some q ∧ s.man.st = ManState.running ∧
    (manSlot s slot).refused = false ∧ (manSlot s slot).lateDone = false ∧ firstStageOf s q ≤ s.clk.stage + 2 ∧
    ((manSlot s slot).stored = false ∨ firstStageOf s q < (manSlot s slot).storedIn + 2) ∧ s.clk.p0Pending = false) ∧
  (∃ (s : State) (k : Nat) (q : Nat), tilePasses s (512 + k) false = true ∧ k < 126 ∧ seqOf s (s.clk.stage + 2) = some q ∧
    k / 9 = q % 14 ∧ (manSlot s (q % 14)).seq = some q ∧ (manSlot s (q % 14)).refused = false ∧
    (manSlot s (q % 14)).stored = true ∧ (manSlot s (q % 14)).storedIn + 2 ≤ s.clk.stage + 2 ∧
    (manSlot s (q % 14)).tileOk.get (k % 9) = true ∧ tileBad s (512 + k) = false) ∧
  (∃ (s : State) (k : Nat) (q : Nat), k < 126 ∧ seqOf s (s.clk.stage + 2) = some q ∧ k / 9 = q % 14 ∧
    (manSlot s (q % 14)).seq = some q ∧ (manSlot s (q % 14)).refused = false ∧ (manSlot s (q % 14)).stored = true ∧
    (manSlot s (q % 14)).storedIn + 2 ≤ s.clk.stage + 2 ∧ (manSlot s (q % 14)).tileOk.get (k % 9) = true ∧
    tileBad s (512 + k) = false ∧ s.evt.fresh = []) := by
  refine ⟨⟨slot {seq := some 13}, 13, 13, ?_⟩,
   ⟨slot {seq := some 0}, 13, 0, ?_⟩,
   ⟨servedOk, 8, 0, passes_good _ _ (by decide), ?_⟩,
   ⟨served, 8, 0, ?_⟩⟩ <;> decide +kernel

def loaded : State := {up with man := {up.man with st := .loaded}}
def eng : Packet := rk (pad 32 ([0,0,0,0,0,0,0,0,0,0,0,0,0,0,0,0,0,0x80, 1, 2, 0,0,0,0] ++ leBytes 6 104))

theorem test_ManifestEngageRelease_met :
  (∃ (p : Packet) (s : State), s.ready p = true ∧ p.payload.length = 32 ∧ engageLegal s.clk.stage p.payload = true ∧
    field p.payload 18 1 = 1 ∧ s.man.st = ManState.loaded) ∧
  (∃ (p : Packet) (s : State), s.ready p = true ∧ p.payload.length = 32 ∧ engageLegal s.clk.stage p.payload = true ∧
    field p.payload 18 1 = 0 ∧ s.man.st = ManState.running) ∧
  (∃ (p : Packet) (s : State), s.ready p = true ∧ p.payload.length = 32 ∧ engageLegal s.clk.stage p.payload = true ∧
    field p.payload 18 1 = 0 ∧ s.man.st = ManState.running) ∧
  (∃ (p : Packet) (s : State), s.ready p = true ∧ p.payload.length = 24 ∧ releaseLegal p.payload = true ∧
    s.man.st ≠ ManState.empty ∧ s.man.st ≠ ManState.loading) ∧
  (∃ (p : Packet) (s : State), s.ready p = true ∧ p.payload.length = 24 ∧ releaseLegal p.payload = true ∧
    s.man.st ≠ ManState.empty ∧ s.man.st ≠ ManState.loading) := by
  refine ⟨⟨eng, loaded, ?_⟩,
   ⟨rk (pad 32 [0,0,0,0,0,0,0,0,0,0,0,0,0,0,0,0,0,0x80, 0, 3]), slot {}, ?_⟩,
   ⟨rk (pad 32 [0,0,0,0,0,0,0,0,0,0,0,0,0,0,0,0,0,0x80, 0, 2]), slot {}, ?_⟩,
   ⟨rk (pad 24 [0,0,0,0,0,0,0,0,0,0,0,0,0,0,0,0,0,0x80]), slot {}, ?_⟩,
   ⟨rk (pad 24 [0,0,0,0,0,0,0,0,0,0,0,0,0,0,0,0,0,0, 1]), slot {}, ?_⟩⟩ <;> decide +kernel

def curv : State := good 480 up
def calt : State := good 471 {up with led := {up.led with calReq := [215]}}

theorem test_SealedTiles_met :
  (∃ (k : Nat) (s : State), tilePasses s (472 + k) false = true ∧ k < 9 ∧ tileBad s (472 + k) = false) ∧
  (∃ (k : Nat) (s : State), k < 9 ∧ tileBad s (472 + k) = false ∧ s.evt.fresh = []) ∧
  (∃ (k : Nat) (s : State) (rest : List Nat), tilePasses s (256 + k) false = true ∧ k < 216 ∧ s.led.calReq = k :: rest ∧
    tileBad s (256 + k) = false) ∧
  (∃ (k : Nat) (s : State), (tileBad s (256 + k) = true ∨ tilePasses s (256 + k) false = true) ∧ s.led.calReq = [] ∧
    k = s.led.scrubNext ∧ k < 216) ∧
  (∃ (k : Nat) (s : State), k < 216 ∧ k = calNext s.led ∧ tileBad s (256 + k) = false ∧ s.evt.fresh = []) ∧
  (∃ (s : State) (tile : Nat), tile < 1024 ∧ s.led.sealBusy = none ∧ s.fwRuns = true ∧ 256 ≤ tile ∧ tile < 512) ∧
  (∃ (s : State) (tile : Nat), tile < 1024 ∧ s.led.sealBusy = none ∧ s.fwRuns = true ∧ (tile < 256 ∨ 512 ≤ tile)) ∧
  (∃ (s : State) (k : Nat), s.led.sealBusy = some k ∧ k < 510) := by
  refine ⟨⟨8, curv, passes_good _ _ (by decide), ?_⟩,
   ⟨8, up, ?_⟩,
   ⟨215, calt, [], passes_good _ _ (by decide), ?_⟩,
   ⟨215, good 471 {up with led := {up.led with scrubNext := 215}}, (Or.inr (passes_good _ _ (by decide))), ?_⟩,
   ⟨215, {up with led := {up.led with calReq := [215]}}, ?_⟩,
   ⟨up, 511, ?_⟩,
   ⟨up, 512, ?_⟩,
   ⟨{up with led := {up.led with sealBusy := some 509}}, 509, ?_⟩⟩ <;> decide +kernel

theorem test_Governor_met :
  (∃ (p : Packet) (s : State), (∀ (k c : Nat) (b : Bool), Act.level k c b ∈ levelActs p.payload → fixedLevel s ≠ some k) ∧
    s.ready p = true ∧ p.payload.length = 32 ∧ levelLegal p.payload = true ∧
    tableOk s.fuses (editTable (pendingTable s) (levelActs p.payload)) = true ∧ s.inConvoy = false) ∧
  (∃ (p : Packet) (s : State), s.ready p = true ∧ p.payload.length = 16 ∧ fixedLegal s p.payload = true ∧
    (field p.payload 0 1 = 1 → (s.lvl (field p.payload 1 1)).boost = false) ∧ (field p.payload 0 1 = 2 → s.inConvoy = false)) ∧
  (∃ (p : Packet) (s : State), s.ready p = true ∧ p.payload.length = 16 ∧ fixedLegal s p.payload = true ∧
    (field p.payload 0 1 = 1 → (s.lvl (field p.payload 1 1)).boost = false) ∧ (field p.payload 0 1 = 2 → s.inConvoy = false)) ∧
  (∃ (p : Packet) (s : State), s.ready p = true ∧ p.payload.length = 16 ∧ fixedLegal s p.payload = true ∧
    (field p.payload 0 1 = 1 → (s.lvl (field p.payload 1 1)).boost = false) ∧ (field p.payload 0 1 = 2 → s.inConvoy = false)) ∧
  (∃ (p : Packet) (s : State), s.ready p = true ∧ p.payload.length = 24 ∧ swellLegal p.payload = true) ∧
  (∃ (p : Packet) (s : State), s.ready p = true ∧ p.payload.length = 48 ∧ limitsLegal p.payload = true) ∧
  (∃ (p : Packet) (s : State), s.ready p = true ∧ p.payload.length = 32 ∧ prefLegal p.payload = true) ∧
  (∃ (se : Nat) (s : State) (t : State) (k : Nat) (c : Nat) (b : Bool), t = applyAct se (Act.level k c b) s ∧ k < 16) ∧
  (∃ (se : Nat) (s : State) (t : State) (n : Nat) (c : Nat), t = applyAct se (Act.swell n c) s ∧ n < 144) ∧
  (∃ (se : Nat) (s : State) (t : State) (l : Nat) (v : Option Nat), t = applyAct se (Act.pref l v) s ∧ l < 64) ∧
  (∃ (se : Nat) (s : State) (t : State) (n : Nat) (w : Nat) (v : Nat), t = applyAct se (Act.limit (256 + n) w v) s ∧ n < 144) ∧
  (∃ (se : Nat) (s : State) (t : State) (w : Nat) (v : Nat), t = applyAct se (Act.limit 32 w v) s) ∧
  (∃ (se : Nat) (s : State) (t : State) (r : Nat) (w : Nat) (v : Nat), t = applyAct se (Act.limit r w v) s ∧ r < 4) ∧
  (∃ (se : Nat) (s : State) (t : State) (g : Nat), t = applyAct se (Act.revoke g) s) := by
  refine ⟨⟨rk (pad 32 ([0, 0, 0, 0x40, 0,0,0,0,0,0,0,0,0,0,0,0,0,0,71])), {up with seq := {up.seq with table := levelTable up.fuses.gf up.fuses.boostCeil}}, (fun _ _ _ _ h => nomatch (show (none : Option Nat) = some _ from h)), ?_⟩,
   ⟨rk (pad 16 [1, 14]), up, ?_⟩,
   ⟨rk (pad 16 [2, 0, 72]), up, ?_⟩,
   ⟨rk (pad 16 []), up, ?_⟩,
   ⟨rk (pad 24 [0,0,0,0,0,0,0,0,0,0,0,0,0,0,0,0,0,0x80,15]), up, ?_⟩,
   ⟨rk (pad 48 ([1,0,0,0,0,0,0,0,0x8F,1,0,0,25,0,25,0])), up, ?_⟩,
   ⟨rk (pad 32 ([1,15,63,15] ++ (List.range 14).flatMap (fun k => [BitVec.ofNat 8 k, 0xFF]))), up, ?_⟩,
   ⟨0, up, applyAct 0 (.level 15 80 true) up, 15, 80, true, rfl, ?_⟩,
   ⟨0, up, applyAct 0 (.swell 143 15) up, 143, 15, rfl, ?_⟩,
   ⟨0, up, applyAct 0 (.pref 63 (some 15)) up, 63, some 15, rfl, ?_⟩,
   ⟨0, up, applyAct 0 (.limit 399 0 1638425) up, 143, 0, 1638425, rfl, ?_⟩,
   ⟨0, up, applyAct 0 (.limit 0x20 10 2000) up, 10, 2000, rfl⟩,
   ⟨0, up, applyAct 0 (.limit 3 64 4) up, 3, 64, 4, rfl, ?_⟩,
   ⟨0, {up with gov := {up.gov with guar := up.gov.guar.set 63 {gid := 5, kind := 1}}}, applyAct 0 (.revoke 5) {up with gov := {up.gov with guar := up.gov.guar.set 63 {gid := 5, kind := 1}}}, 5, rfl⟩⟩ <;> decide +kernel

def gs : State := good 511 up

theorem corner_good : cornerBad gs = false := by
  unfold cornerBad
  rw [show tilePasses gs 511 false = true from passes_good 511 up (by decide)]
  decide +kernel

def gp : Packet := rk (pad 32 [5, 0, 1, 63, 0xFF, 14])

theorem test_Guarantees_met :
  (∃ (p : Packet) (s : State) (i : Nat), (admission s p.payload).1 = 0 ∧ s.ready p = true ∧ p.payload.length = 32 ∧
    admitLegal s p.payload = true ∧ (∀ g ∈ s.gov.guar.val, g.gid ≠ field p.payload 0 2) ∧ i < 64 ∧
    ((s.gov.guar.places fun _ g => g.gid == 0).head? = some i)) ∧
  (∃ (p : Packet) (s : State) (reason : Nat) (need : Nat) (have_ : Nat), s.ready p = true ∧ p.payload.length = 32 ∧
    admitLegal s p.payload = true ∧ (∀ g ∈ s.gov.guar.val, g.gid ≠ field p.payload 0 2) ∧
    admission s p.payload = (reason, need, have_) ∧ reason ≠ 0) ∧
  (∃ (p : Packet) (s : State), s.ready p = true ∧ p.payload.length = 16 ∧ zeros p.payload 2 14 = true ∧ field p.payload 0 2 ≠ 0 ∧
    field p.payload 0 2 ≠ 65535 ∧ (∃ g ∈ s.gov.guar.val, g.gid = field p.payload 0 2)) := by
  refine ⟨⟨gp, gs, 0, (by unfold admission; rw [corner_good]; decide +kernel), ?_⟩,
   ⟨gp, spoilt 511 up, 5, 0, 0, ?_⟩,
   ⟨rk (pad 16 [5]), {up with gov := {up.gov with guar := up.gov.guar.set 63 {gid := 5, kind := 1}}}, ?_⟩⟩ <;> decide +kernel

theorem test_FrequencyDone_met :
  (∃ (s : State), s.seq.awaitDone = true ∧ s.seq.doneLate = false ∧ (s.clk.stage = s.seq.applyStage → s.clk.pace ≠ 0) ∧
    s.evt.fresh = [] ∧ s.clk.p0Pending = false) := by
  refine ⟨{up with seq := {up.seq with awaitDone := true, applyStage := 100, applyOld := 50}}, ?_⟩ <;> decide +kernel

def rp : Packet := rk (pad 48 ([0,0,0,0,0,0,0,0,0,0,0,0,0,0,0,0,0,0x80, 3, 0] ++ leBytes 6 102 ++ [0, 0] ++ leBytes 4 7 ++ leBytes 4 7))
def rr (k w : Nat) (l : List RecharRes) : Rechar := { pkt := rp, mask := 2 ^ 143, curve := true, cellsOn := true, w, now := 7, prev := some 7, step := k, res := l }
def rs (k w : Nat) (l : List RecharRes) : State := {withCl 143 (fun c => {c with s := {c.s with st := .rest, req := .rest, ack := .rest}}) up with rech := some (rr k w l), cells := up.cells.modify 1727 (fun c => {c with mode := .isolated, cause := .openPath})}
def se (v : Int) : List RecharRes := [{n := 143, begun := true, todo := [3, 5], trial := v, runFrom := some 1600}]

theorem test_Recharacterize_met :
  (∃ (s : State) (p : Packet) (m : Nat) (fl : Nat) (w : Nat) (hn : Nat) (hl : Nat), s.ready p = true ∧ p.payload.length = 48 ∧
    m = field p.payload 0 18 ∧ fl = field p.payload 18 1 ∧ w = field p.payload 20 6 ∧ hn = field p.payload 28 4 ∧
    hl = field p.payload 32 4 ∧ m ≠ 0 ∧ 1 ≤ fl ∧ fl ≤ 3 ∧ zeros p.payload 19 1 = true ∧ zeros p.payload 26 2 = true ∧
    zeros p.payload 36 12 = true ∧ s.clk.stage + 2 ≤ w ∧ hn ≠ 4294967295 ∧ (hl ≠ 4294967295 → hl ≤ hn) ∧
    (∀ n ∈ maskBits 144 m, (s.cluster n).s.st ≠ CState.dormant ∧ (s.cluster n).s.trans = none ∧ (s.cluster n).inWake = false ∧ (s.cluster n).d.st = DroneSt.none ∧ (fl % 2 = 1 → (s.cluster n).s.st ≠ CState.retain)) ∧
    s.rech = none) ∧
  (∃ (s : State) (r : Rechar), s.rech = some r ∧ r.w ≤ s.clk.stage ∧ r.step = 0) ∧
  (∃ (s : State) (n : ClusterId) (pass : Bool) (r : Rechar) (p : Nat) (rest : List Nat), s.rech = some r ∧ r.w ≤ s.clk.stage ∧
    r.step = 1 ∧ s.clk.stage < r.w + 80 ∧ r.mask.testBit ↑n = true ∧ searchable (s.cluster ↑n) = true ∧
    (r.resOf ↑n).todo = p :: rest ∧ (∃ k, (r.resOf ↑n).runFrom = some k ∧ k < s.clk.paceNo) ∧ pass = true) ∧
  (∃ (s : State) (n : ClusterId) (pass : Bool) (r : Rechar) (p : Nat) (rest : List Nat), s.rech = some r ∧ r.w ≤ s.clk.stage ∧
    r.step = 1 ∧ s.clk.stage < r.w + 80 ∧ r.mask.testBit ↑n = true ∧ searchable (s.cluster ↑n) = true ∧
    (r.resOf ↑n).todo = p :: rest ∧ (∃ k, (r.resOf ↑n).runFrom = some k ∧ k < s.clk.paceNo) ∧ pass = false ∧
    ↑((s.cluster ↑n).v.curve.get p).vmin + 24 ≤ (r.resOf ↑n).trial ∧ s.evt.fresh = []) ∧
  (∃ (s : State) (n : ClusterId) (pass : Bool) (r : Rechar) (p : Nat) (rest : List Nat), s.rech = some r ∧ r.w ≤ s.clk.stage ∧
    r.step = 1 ∧ s.clk.stage < r.w + 80 ∧ r.mask.testBit ↑n = true ∧ searchable (s.cluster ↑n) = true ∧
    (r.resOf ↑n).todo = p :: rest ∧ (∃ k, (r.resOf ↑n).runFrom = some k ∧ k < s.clk.paceNo) ∧ pass = false ∧
    (r.resOf ↑n).trial < ↑((s.cluster ↑n).v.curve.get p).vmin + 24) ∧
  (∃ (s : State) (n : ClusterId) (r : Rechar), s.rech = some r ∧ r.w ≤ s.clk.stage ∧ r.step = 1 ∧ r.w + 80 ≤ s.clk.stage ∧
    s.clk.stage < r.w + 90 ∧ r.mask.testBit ↑n = true ∧ r.cellsOn = true ∧ (r.resOf ↑n).retestFrom = none) ∧
  (∃ (s : State) (r : Rechar), s.rech = some r ∧ r.w ≤ s.clk.stage ∧ r.step = 1 ∧ r.w + 90 ≤ s.clk.stage) ∧
  (∃ (s : State) (r : Rechar), s.rech = some r ∧ r.w ≤ s.clk.stage ∧ r.step = 3 ∧ r.w + 96 ≤ s.clk.stage ∧
    (∀ k ∈ r.clusters, (s.cluster k).v.sp.cur = ↑(s.cluster k).v.target)) ∧
  (∃ (s : State) (r : Rechar), s.rech = some r ∧ r.w ≤ s.clk.stage ∧ r.step = 4 ∧
    (∀ k ∈ r.clusters, (s.cluster k).s.trans = none ∨ (s.cluster k).s.hsFault = true)) := by
  refine ⟨⟨up, rp, 2 ^ 143, 3, 102, 7, 7, ?_⟩,
   ⟨{up with rech := some (rr 0 100 [])}, rr 0 100 [], ?_⟩,
   ⟨rs 1 100 (se 9), 143, true, rr 1 100 (se 9), 3, [5], ?_⟩,
   ⟨rs 1 100 (se 24), 143, false, rr 1 100 (se 24), 3, [5], ?_⟩,
   ⟨rs 1 100 (se 23), 143, false, rr 1 100 (se 23), 3, [5], ?_⟩,
   ⟨rs 1 20 [], 143, rr 1 20 [], ?_⟩,
   ⟨rs 1 10 [], rr 1 10 [], ?_⟩,
   ⟨rs 3 4 [], rr 3 4 [], ?_⟩,
   ⟨rs 4 4 [], rr 4 4 [], ?_⟩⟩ <;> decide +kernel

def th (f : Therm → Therm) : State := {up with therm := f up.therm}

theorem test_ThermalTrip_met :
  (∃ (d : Int) (vf : Int) (s : State) (temp : Int), s.sys.porHigh = true ∧ 40000 ≤ d ∧ d ≤ 95000 ∧ 250 ≤ vf ∧ vf ≤ 900 ∧
    s.therm.sensorBad = false ∧ s.therm.resCfg = none ∧ s.therm.ofsNext = none ∧
    temp = rawTemp s.fuses.diodeGain d + s.therm.ofs ∧ (s.therm.first = true → s.therm.nextRes ≤ s.clk.now)) ∧
  (∃ (d : Int) (vf : Int) (s : State) (temp : Int), s.sys.porHigh = true ∧ 40000 ≤ d ∧ d ≤ 95000 ∧ 250 ≤ vf ∧ vf ≤ 900 ∧
    s.therm.sensorBad = false ∧ s.therm.resCfg = none ∧ s.therm.ofsNext = none ∧
    temp = rawTemp s.fuses.diodeGain d + s.therm.ofs ∧ (s.therm.first = true → s.therm.nextRes ≤ s.clk.now)) ∧
  (∃ (d : Int) (vf : Int) (s : State) (temp : Int), s.sys.porHigh = true ∧ 40000 ≤ d ∧ d ≤ 95000 ∧ 250 ≤ vf ∧ vf ≤ 900 ∧
    s.therm.sensorBad = false ∧ s.therm.resCfg = none ∧ s.therm.ofsNext = none ∧
    temp = rawTemp s.fuses.diodeGain d + s.therm.ofs ∧ (s.therm.first = true → s.therm.nextRes ≤ s.clk.now)) ∧
  (∃ (s : State) (u : State), (reach (if (s.clk.running && s.clk.now == s.clk.stageStart) = true then s.clk.now + 1 else s.clk.now) s = some u) ∧
    s.therm.trip = true ∧ s.therm.tripSeen = false ∧ s.islandUp = true ∧ s.evt.fresh = [] ∧ tripWaits s = false) := by
  refine ⟨⟨70000, 600, th (fun t => {t with tripRun := 1, first := true}), rawTemp up.fuses.diodeGain 70000 + up.therm.ofs, ?_⟩,
   ⟨95000, 900, th (fun t => {t with tripRun := 1, first := true}), rawTemp up.fuses.diodeGain 95000 + up.therm.ofs, ?_⟩,
   ⟨40000, 250, th (fun t => {t with trip := true, coolRun := 15, first := true}), rawTemp up.fuses.diodeGain 40000 + up.therm.ofs, ?_⟩,
   ⟨th (fun t => {t with trip := true}), th (fun t => {t with trip := true}), rfl, ?_⟩⟩ <;> decide +kernel

def rst (f : Therm → Therm) : State := {th f with rails := ⟨[{}, {}, {}, railOn 720], rfl⟩}

theorem test_ThermalRestart_met :
  (∃ (s : State), s.therm.release = true ∧ s.islandUp = true ∧ s.sys.pwrReq = true ∧ s.sys.descent = Descent.none) ∧
  (∃ (s : State), s.therm.release = true ∧ (s.islandUp = false ∨ s.sys.pwrReq = false ∨ s.sys.descent ≠ Descent.none)) ∧
  (∃ (s : State), s.therm.restart ≠ 0 ∧ restartFailed s = [] ∧ (∀ k ∈ s.starts, k.restart = true → k.phase = StartPhase.settle) ∧
    (∀ r ∈ restartRails s, (s.rail r).inWindow = true) ∧ s.therm.restart = 1) ∧
  (∃ (s : State), s.therm.restart ≠ 0 ∧ restartFailed s = [] ∧ (∀ k ∈ s.starts, k.restart = true → k.phase = StartPhase.settle) ∧
    (∀ r ∈ restartRails s, (s.rail r).inWindow = true) ∧ s.therm.restart = 2 ∧ s.evt.fresh = []) ∧
  (∃ (s : State), s.therm.restart ≠ 0 ∧ restartFailed s ≠ [] ∧ s.evt.fresh = []) := by
  refine ⟨⟨th (fun t => {t with release := true}), ?_⟩,
   ⟨{th (fun t => {t with release := true}) with sys := {up.sys with pwrReq := false}}, ?_⟩,
   ⟨rst (fun t => {t with restart := 1}), ?_⟩,
   ⟨th (fun t => {t with restart := 2}), ?_⟩,
   ⟨{State.reset with sys := up.sys, clk := up.clk, core := up.core, therm := {restart := 1}}, ?_⟩⟩ <;> decide +kernel

def sr (f : Therm → Therm) : State := {th f with sys := {up.sys with chip := .standbyReady}}

theorem test_ThermalCeilingAndConfig_met :
  (∃ (s : State) (e : Nat), s.therm.graceDue = some e ∧ s.clk.p0Pending = false ∧ e < s.clk.stage ∧ s.therm.throt = false) ∧
  (∃ (s : State) (e : Nat), s.therm.graceDue = some e ∧ s.clk.p0Pending = false ∧ e < s.clk.stage ∧ s.therm.throt = true ∧
    s.evt.fresh = []) ∧
  (∃ (s : State), s.therm.enforcing = true ∧ 10 ≤ s.therm.ceilPers ∧ s.therm.throt = true) ∧
  (∃ (s : State), s.therm.enforcing = true ∧ 10 ≤ s.therm.ceilPers ∧ s.therm.throt = false ∧ s.therm.ceil < 14) ∧
  (∃ (s : State), s.therm.enforcing = true ∧ 10 ≤ s.therm.ceilPers ∧ s.therm.throt = false ∧ 14 ≤ s.therm.ceil ∧ s.evt.fresh = []) ∧
  (∃ (s : State) (p : Packet) (w : Nat) (h : Nat) (c : Nat) (r : Nat), s.ready p = true ∧ p.payload.length = 16 ∧
    thermLegal s p.payload = true ∧ thermNew s p.payload = (w, h, c, r)) ∧
  (∃ (s : State) (p : Packet) (v : Int), s.ready p = true ∧ p.payload.length = 16 ∧ field p.payload 0 1 = 1 ∧
    field p.payload 1 1 = 0 ∧ zeros p.payload 4 12 = true ∧ v = signed 16 (field p.payload 2 2) ∧ -640 ≤ v ∧ v ≤ 2000 ∧
    s.sys.chip = Chip.standbyReady ∧ 100 ≤ s.therm.dormantPers ∧ s.therm.cal = none) ∧
  (∃ (s : State) (k : ThermCal) (o : Int), s.therm.cal = some k ∧ 64 ≤ k.n ∧ o = k.tref - (k.sum + 32) / 64 ∧ -256 ≤ o ∧ o ≤ 256) ∧
  (∃ (s : State) (k : ThermCal) (o : Int), s.therm.cal = some k ∧ 64 ≤ k.n ∧ o = k.tref - (k.sum + 32) / 64 ∧
    (o < -256 ∨ 256 < o)) := by
  refine ⟨⟨th (fun t => {t with graceDue := some 99}), 99, ?_⟩,
   ⟨{th (fun t => {t with graceDue := some 99, throt := true}) with seq := {up.seq with level := 5}}, 99, ?_⟩,
   ⟨th (fun t => {t with enforcing := true, ceilPers := 10, throt := true, ceil := 3}), ?_⟩,
   ⟨th (fun t => {t with enforcing := true, ceilPers := 10, ceil := 13}), ?_⟩,
   ⟨th (fun t => {t with enforcing := true, ceilPers := 10, ceil := 14}), ?_⟩,
   ⟨up, rk (pad 16 [0, 31, 60, 70, 118, 90, 0xE8, 3]), 60, 70, 118, 90, ?_⟩,
   ⟨sr (fun t => {t with dormantPers := 100}), rk (pad 16 [1, 0, 0xD0, 7]), 2000, ?_⟩,
   ⟨th (fun t => {t with cal := some {pkt := rk [], tref := 300, sum := 64 * 44, n := 64}}), {pkt := rk [], tref := 300, sum := 64 * 44, n := 64}, 256, ?_⟩,
   ⟨th (fun t => {t with cal := some {pkt := rk [], tref := 301, sum := 64 * 44, n := 64}}), {pkt := rk [], tref := 301, sum := 64 * 44, n := 64}, 257, ?_⟩⟩ <;> decide +kernel

def ar : BitVec 128 := BitVec.ofNat 128 (143 + 63 * 256 + 4095 * 2 ^ 100 + 4 * 2 ^ 112)
def en (f : En → En) : State := {up with en := f up.en}
def per : EnPer := { seq := 2, accDone := true, model := [], addr := 0 }
def perP : EnPer := { seq := 2, accDone := true, reconciled := true, postOpen := true, lanes := List.replicate 264 (2 ^ 64 - 1) }
def enP : State := en (fun e => {e with pers := [perP], mirrors := e.mirrors.set 263 5})

theorem test_EnergyLedger_met :
  (∃ (r : BitVec 128) (s : State) (n : Nat), s.clk.running = true ∧ n = actField r 0 8 ∧ actBad r = false ∧ s.en.pacesSince ≠ 0 ∧
    actField r 112 4 = (s.clk.pace + 15) % 16 ∧ (s.cluster n).e.got = false) ∧
  (∃ (r : BitVec 128) (s : State) (n : Nat), s.clk.running = true ∧ n = actField r 0 8 ∧
    (actBad r = true ∨ s.en.pacesSince = 0 ∨ actField r 112 4 ≠ (s.clk.pace + 15) % 16 ∨ (s.cluster n).e.got = true)) ∧
  (∃ (r : BitVec 128) (s : State) (n : Nat), s.clk.running = true ∧ n = actField r 0 8 ∧
    (actBad r = true ∨ s.en.pacesSince = 0 ∨ actField r 112 4 ≠ (s.clk.pace + 15) % 16 ∨ (s.cluster n).e.got = true)) ∧
  (∃ (s : State) (p : EnPer), (List.find? (fun q => q.accDone && !q.reconciled) s.en.pers = some p) ∧ s.fwRuns = true) ∧
  (∃ (s : State) (p : EnPer), (List.find? (fun q => q.accDone && !q.reconciled) s.en.pers = some p) ∧ s.fwRuns = false) ∧
  (∃ (s : State) (p : EnPer) (st : DmaStatus), (List.find? (fun q => q.postOpen) s.en.pers = some p) ∧ st ≠ DmaStatus.error) ∧
  (∃ (s : State) (p : EnPer), (List.find? (fun q => q.postOpen) s.en.pers = some p) ∧ s.evt.fresh = []) := by
  refine ⟨⟨ar, en (fun e => {e with pacesSince := 1}), 143, ?_⟩,
   ⟨ar, en (fun e => {e with pacesSince := 0}), 143, ?_⟩,
   ⟨BitVec.ofNat 128 144, up, 144, ?_⟩,
   ⟨en (fun e => {e with pers := [per]}), per, ?_⟩,
   ⟨{en (fun e => {e with pers := [per]}) with core := {}}, per, ?_⟩,
   ⟨enP, perP, .ok, ?_⟩,
   ⟨enP, perP, ?_⟩⟩ <;> decide +kernel

def perF : EnPer := { seq := 2, accDone := true, reconciled := true, frameOpen := true, ringCount := 2 }
def enF : State := en (fun e => {e with pers := [perF], head := 1})
def perD : EnPer := { seq := 2, due := 100, frameHeld := true }

theorem test_FramesAndEnergyCommands_met :
  (∃ (s : State) (p : EnPer) (st : DmaStatus), (List.find? (fun q => q.frameOpen) s.en.pers = some p) ∧ p.ring = none ∧
    st ≠ DmaStatus.error) ∧
  (∃ (s : State) (p : EnPer), (List.find? (fun q => q.frameOpen) s.en.pers = some p) ∧ p.ring = none) ∧
  (∃ (s : State) (p : EnPer), (List.find? (fun q => !q.late && decide (q.due ≤ s.clk.stage)) s.en.pers = some p) ∧
    s.clk.p0Pending = false) ∧
  (∃ (p : Packet) (s : State), s.ready p = true ∧ p.payload.length = 24 ∧ ledgerLegal p.payload = true ∧
    (∀ q ∈ s.en.pers, q.postOpen = false)) ∧
  (∃ (p : Packet) (s : State), s.ready p = true ∧ p.payload.length = 24 ∧ ringLegal p.payload = true) ∧
  (∃ (p : Packet) (s : State), s.ready p = true ∧ p.indirect = true ∧ p.payload.length = 64 ∧ modelLegal p.payload = true ∧
    s.fbOk = true) := by
  refine ⟨⟨enF, perF, .ok, ?_⟩,
   ⟨enF, perF, ?_⟩,
   ⟨en (fun e => {e with pers := [perD]}), perD, ?_⟩,
   ⟨rk (pad 24 [0, 1, 0, 0, 0, 0, 0, 0, 0x40]), up, ?_⟩,
   ⟨rk (pad 24 [1, 0, 0, 0, 0, 4, 0, 0, 0, 0x10]), up, ?_⟩,
   ⟨{rk (pad 64 (List.replicate 54 0 ++ [1])) with indirect := true}, {up with led := {up.led with parityBad := [0xC0000, 0xBFFFC, 0xC0040]}}, ?_⟩⟩ <;> decide +kernel

def rec1 (r : CvnRec) : State := {up with cvn := {up.cvn with recs := up.cvn.recs.set 3 r}}
def mp : Packet := rk (pad 16 [2, 0, 0, 0, 0x2C, 1])
def full : List Item := (List.range 1024).map (fun i => {opcode := 0x0601, act := .pref i none})

theorem test_CaravanLife_met :
  (∃ (p : Packet) (s : State) (id : Nat) (k : Nat), s.ready p = true ∧ s.calm = true ∧ p.payload.length = 16 ∧
    id = field p.payload 0 2 ∧ k < 4 ∧ id ≠ 0 ∧ id ≠ 65535 ∧ zeros p.payload 4 12 = true ∧ idHeld s id = false ∧
    openRecord s id = some k) ∧
  (∃ (p : Packet) (s : State) (id : Nat) (k : Nat), s.ready p = true ∧ s.calm = true ∧ p.payload.length = 16 ∧
    id = field p.payload 0 2 ∧ k < 4 ∧ id ≠ 0 ∧ id ≠ 65535 ∧ zeros p.payload 4 12 = true ∧ idHeld s id = false ∧
    openRecord s id = some k) ∧
  (∃ (p : Packet) (s : State) (id : Nat) (k : Nat), s.ready p = true ∧ s.calm = true ∧ p.payload.length = 16 ∧
    id = field p.payload 0 2 ∧ k < 4 ∧ memberAhead s p id = false ∧ cvnFind s id = some k ∧
    (s.cvn.recs.get k).st = CvnState.open_ ∧ commitLegal s p.payload = true ∧
    ((field p.payload 2 1).testBit 0 = true → firstEdge s ≤ field p.payload 4 6)) ∧
  (∃ (p : Packet) (s : State) (id : Nat) (k : Nat), s.ready p = true ∧ s.calm = true ∧ p.payload.length = 16 ∧
    id = field p.payload 0 2 ∧ k < 4 ∧ memberAhead s p id = false ∧ cvnFind s id = some k ∧
    (s.cvn.recs.get k).st = CvnState.open_ ∧ commitLegal s p.payload = true ∧
    ((field p.payload 2 1).testBit 0 = true → firstEdge s ≤ field p.payload 4 6)) ∧
  (∃ (p : Packet) (s : State) (id : Nat) (k : Nat), s.ready p = true ∧ s.calm = true ∧ p.payload.length = 16 ∧
    id = field p.payload 0 2 ∧ k < 4 ∧ memberAhead s p id = false ∧ cvnFind s id = some k ∧
    (s.cvn.recs.get k).st = CvnState.open_ ∧ zeros p.payload 2 14 = true ∧ id ≠ 65535) ∧
  (∃ (p : Packet) (s : State) (id : Nat) (k : Nat), s.ready p = true ∧ s.calm = true ∧ p.payload.length = 16 ∧
    id = field p.payload 0 2 ∧ k < 4 ∧ memberAhead s p id = false ∧ id = 65535) ∧
  (∃ (p : Packet) (op : Nat) (id : Nat) (k : Nat) (s : State) (items : List Item), s.ready p = true ∧ s.calm = true ∧ k < 4 ∧
    id ≠ 65535 ∧ mayJoin op p.payload = true ∧ firstFail (memberChecks s op p.payload) = none ∧ cvnFind s id = some k ∧
    (s.cvn.recs.get k).st = CvnState.open_ ∧
    (items = List.foldl (fun is a => stageItem { opcode := op, act := a } is) (s.cvn.recs.get k).items (memberActs op p.payload)) ∧
    items.length ≤ 1024) ∧
  (∃ (p : Packet) (op : Nat) (id : Nat) (k : Nat) (s : State) (items : List Item), s.ready p = true ∧ s.calm = true ∧ k < 4 ∧
    id ≠ 65535 ∧ mayJoin op p.payload = true ∧ firstFail (memberChecks s op p.payload) = none ∧ cvnFind s id = some k ∧
    (s.cvn.recs.get k).st = CvnState.open_ ∧
    (items = List.foldl (fun is a => stageItem { opcode := op, act := a } is) (s.cvn.recs.get k).items (memberActs op p.payload)) ∧
    1024 < items.length) := by
  refine ⟨⟨rk (pad 16 [5, 0, 0xFF, 0xFF]), up, 5, 0, ?_⟩,
   ⟨rk (pad 16 [5, 0]), rec1 {id := 5, st := .aborted}, 5, 3, ?_⟩,
   ⟨rk (pad 16 ([5, 0, 3, 14] ++ leBytes 6 101)), rec1 {id := 5, st := .open_, lastArr := 100}, 5, 3, ?_⟩,
   ⟨rk (pad 16 ([5, 0])), rec1 {id := 5, st := .open_, lastArr := 100}, 5, 3, ?_⟩,
   ⟨rk (pad 16 [5, 0]), rec1 {id := 5, st := .open_, lastArr := 100}, 5, 3, ?_⟩,
   ⟨rk (pad 16 [0xFF, 0xFF]), up, 0xFFFF, 0, ?_⟩,
   ⟨mp, 0x0203, 5, 3, rec1 {id := 5, st := .open_, lastArr := 90}, [{opcode := 0x0203, act := .railTarget 1 300}], ?_⟩,
   ⟨mp, 0x0203, 5, 3, rec1 {id := 5, st := .open_, lastArr := 90, items := full}, full ++ [{opcode := 0x0203, act := .railTarget 1 300}], ?_⟩⟩ <;> decide +kernel

theorem test_CaravanTime_met :
  (∃ (s : State) (k : Nat), k < 4 ∧ s.calm = true ∧ (s.cvn.recs.get k).st = CvnState.open_ ∧
    (s.cvn.recs.get k).lastArr + (s.cvn.recs.get k).timeout ≤ s.clk.stage ∧ s.evt.fresh = [] ∧ s.clk.p0Pending = false) ∧
  (∃ (s : State), s.clk.running = true ∧ s.clk.pace = 15 ∧ s.clk.p0Pending = false ∧ s.clk.now = s.clk.paceStart ∧
    s.clk.now + 1 < s.paceEnd) ∧
  (∃ (s : State) (u : State), reach (s.clk.paceStart + 1) s = some u ∧ s.clk.running = true ∧ s.clk.pace = 15 ∧
    s.clk.p0Pending = false) := by
  refine ⟨⟨rec1 {id := 5, st := .open_, lastArr := 90, timeout := 10}, 3, ?_⟩,
   ⟨{last with clk := {last.clk with now := 1000000}}, ?_⟩,
   ⟨{last with clk := {last.clk with now := 1000000}}, {last with clk := {last.clk with now := 1000001}}, rfl, ?_⟩⟩ <;> decide +kernel

def jp : Packet := rk (pad 48 ([5, 0, 2, 6, 0, 0] ++ (List.range 16).map (BitVec.ofNat 8)))
def jr : Packet := rk (pad 48 ([5, 0, 0, 0, 0x80, 0] ++ (List.range 16).map (BitVec.ofNat 8)))
def jg : Packet := rk (pad 48 ([5, 0, 2, 6, 0, 0] ++ (List.range 16).map (fun k => BitVec.ofNat 8 (k + 65))))
def cvy (f : Cvy → Cvy) : State := {up with cvy := f up.cvy}

theorem test_ConvoyCommands_met :
  (∃ (s : State) (p : Packet), (∀ (c : Nat), s.seq.fixed ≠ Fixed.code c) ∧ s.ready p = true ∧ p.payload.length = 48 ∧
    joinLegal p.payload = true ∧ joinGrade s p.payload = none ∧ s.cvy.st = CvySt.notJoined ∧ s.seq.pend = none ∧
    (s.lvl s.seq.level).boost = false ∧ s.man.st ≠ ManState.running ∧ caravanHeld s = false) ∧
  (∃ (s : State) (p : Packet), (∀ (c : Nat), s.seq.fixed ≠ Fixed.code c) ∧ s.ready p = true ∧ p.payload.length = 48 ∧
    joinLegal p.payload = true ∧ joinGrade s p.payload = none ∧ s.cvy.st = CvySt.notJoined ∧ s.seq.pend = none ∧
    (s.lvl s.seq.level).boost = false ∧ s.man.st ≠ ManState.running ∧ caravanHeld s = false) ∧
  (∃ (s : State) (p : Packet) (k : Nat), s.ready p = true ∧ p.payload.length = 48 ∧ joinLegal p.payload = true ∧
    joinGrade s p.payload = some k) ∧
  (∃ (s : State) (p : Packet), s.cvy.st = CvySt.aligning ∧ s.cvy.step < 4 ∧ s.cvy.joinDue ≤ s.clk.stage ∧ s.cvy.join = some p ∧
    s.cvy.oldTable = none ∧ s.clk.p0Pending = false) ∧
  (∃ (s : State) (p : Packet), s.ready p = true ∧ p.payload = [] ∧ s.cvy.st ≠ CvySt.notJoined ∧ s.cvy.kids = 0) ∧
  (∃ (s : State) (p : Packet), s.ready p = true ∧ p.payload.length = 16 ∧ zeros p.payload 2 14 = true ∧ cvyIn s = true ∧
    field p.payload 0 1 = 0 ∧ (field p.payload 1 1 ≤ 15 ∨ field p.payload 1 1 = 255)) ∧
  (∃ (s : State) (p : Packet), s.ready p = true ∧ p.payload.length = 16 ∧ zeros p.payload 2 14 = true ∧ cvyIn s = true ∧
    field p.payload 0 1 = 0 ∧ (field p.payload 1 1 ≤ 15 ∨ field p.payload 1 1 = 255)) ∧
  (∃ (s : State) (p : Packet), s.ready p = true ∧ p.payload.length = 16 ∧ zeros p.payload 2 14 = true ∧ cvyIn s = true ∧
    field p.payload 0 1 = 1 ∧ field p.payload 1 1 = 0 ∧ s.cvy.st = CvySt.skewed) ∧
  (∃ (s : State) (p : Packet), s.ready p = true ∧ p.payload.length = 16 ∧ zeros p.payload 2 14 = true ∧ cvyIn s = true ∧
    field p.payload 0 1 = 2 ∧ field p.payload 1 1 ∈ kidsOf s) := by
  refine ⟨⟨up, jp, (fun _ h => Fixed.noConfusion h), ?_⟩,
   ⟨up, jr, (fun _ h => Fixed.noConfusion h), ?_⟩,
   ⟨up, jg, 0, ?_⟩,
   ⟨cvy (fun c => {c with st := .aligning, id := 5, role := 2, step := 3, joinDue := 100, join := some jp}), jp, ?_⟩,
   ⟨cvy (fun c => {c with st := .joined, id := 5, role := 2}), rk [], ?_⟩,
   ⟨cvy (fun c => {c with st := .joined, id := 5, role := 0, children := 0x80, kids := 0x80}), rk (pad 16 [0, 15]), ?_⟩,
   ⟨cvy (fun c => {c with st := .joined, id := 5, role := 0, children := 0x80, kids := 0x80}), rk (pad 16 [0, 0xFF]), ?_⟩,
   ⟨cvy (fun c => {c with st := .skewed, id := 5, role := 0, children := 0x80, kids := 0x80}), rk (pad 16 [1, 0]), ?_⟩,
   ⟨cvy (fun c => {c with st := .joined, id := 5, role := 0, children := 0x80, kids := 0x80}), rk (pad 16 [2, 8]), ?_⟩⟩ <;> decide +kernel

theorem test_ConvoyMessages_met :
  (∃ (m : ConvoyMsg) (s : State), Hears 1 m s ∧ (s.cvy.st = CvySt.aligning → 2 ≤ s.cvy.step)) ∧
  (∃ (m : ConvoyMsg) (s : State), Hears 1 m s ∧ (s.cvy.st = CvySt.aligning → 2 ≤ s.cvy.step)) ∧
  (∃ (m : ConvoyMsg) (s : State), Hears 2 m s) ∧
  (∃ (m : ConvoyMsg) (s : State) (e : Nat × Nat), Hears 3 m s ∧ (List.find? (fun e => e.1 == m.body 10 2) s.cvy.echoAt = some e) ∧
    s.cvy.st = CvySt.aligning ∧ s.cvy.step = 1) ∧
  (∃ (m : ConvoyMsg) (s : State) (e : Nat × Nat), Hears 3 m s ∧ (List.find? (fun e => e.1 == m.body 10 2) s.cvy.echoAt = some e) ∧
    s.cvy.st = CvySt.aligning ∧ s.cvy.step = 1) ∧
  (∃ (m : ConvoyMsg) (s : State), Hears 4 m s) ∧
  (∃ (m : ConvoyMsg) (s : State), Hears 5 m s) ∧
  (∃ (m : ConvoyMsg) (s : State), Hears 6 m s ∧ cvyIn s = true ∧ m.port ∈ kidsOf s ∧ m.stage = s.clk.stage - s.clk.stage % 64 ∧
    (∀ r ∈ s.cvy.reports, r.1 ≠ m.port)) ∧
  (∃ (m : ConvoyMsg) (s : State), Hears 7 m s ∧ cvyActs s = true) ∧
  (∃ (m : ConvoyMsg) (s : State), Hears 8 m s ∧ s.cvy.annFor = some m.stage ∧ m.port ∈ kidsOf s ∧
    (∀ a ∈ s.cvy.acks, a.1 ≠ m.port)) ∧
  (∃ (m : ConvoyMsg) (s : State), Hears 9 m s ∧ cvyActs s = true ∧ s.evt.fresh = []) ∧
  (∃ (m : ConvoyMsg) (s : State), Hears 10 m s) ∧
  (∃ (m : ConvoyMsg) (s : State), Hears 10 m s) ∧
  (∃ (m : ConvoyMsg) (s : State), Hears 11 m s ∧ cvyActs s = true) := by
  refine ⟨⟨msg 1 0 100 ([0x64,0,0,0, 7, 8] ++ leBytes 6 102), member 1 id, (by unfold Hears; decide +kernel), ?_⟩,
   ⟨msg 1 0 100 ([0x64,0,0,0, 7, 0xFF]), member 1 (fun c => {c with st := .aligning, step := 2}), (by unfold Hears; decide +kernel), ?_⟩,
   ⟨msg 2 8 100 [3, 0], member 1 id, (by unfold Hears; decide +kernel)⟩,
   ⟨msg 3 0 100 ([3, 0, 50, 0, 0, 0]), member 1 (fun c => {c with st := .aligning, step := 1, echoGot := 15, echoAt := [(3, 1000000)]}), (3, 1000000), (by unfold Hears; decide +kernel), ?_⟩,
   ⟨msg 3 0 100 ([3, 0, 50, 0, 0, 0]), member 1 (fun c => {c with st := .aligning, step := 1, echoGot := 14, echoAt := [(3, 1000000)]}), (3, 1000000), (by unfold Hears; decide +kernel), ?_⟩,
   ⟨msg 4 8 100 [], member 0 (fun c => {c with kids := 0}), (by unfold Hears; decide +kernel)⟩,
   ⟨msg 5 8 100 [], member 0 id, (by unfold Hears; decide +kernel)⟩,
   ⟨msg 6 8 64 [15, 0, 15, 0, 1, 2, 3, 4, 2, 0], member 1 id, (by unfold Hears; decide +kernel), ?_⟩,
   ⟨msg 7 0 128 [7, 0, 3, 0], member 1 id, (by unfold Hears; decide +kernel), ?_⟩,
   ⟨msg 8 8 128 [2, 0], member 1 (fun c => {c with annFor := some 128}), (by unfold Hears; decide +kernel), ?_⟩,
   ⟨msg 9 0 128 [2, 0], member 1 (fun c => {c with annFor := some 128}), (by unfold Hears; decide +kernel), ?_⟩,
   ⟨msg 10 8 128 [2, 1], member 0 id, (by unfold Hears; decide +kernel)⟩,
   ⟨msg 10 8 128 [2, 1], member 1 id, (by unfold Hears; decide +kernel)⟩,
   ⟨msg 11 0 102 [2, 1], member 1 id, (by unfold Hears; decide +kernel), ?_⟩⟩ <;> decide +kernel

def at8 (s : State) (n : Nat) : State := {s with clk := {s.clk with stage := n}}
def cpU (f : Cvy → Cvy) : State := at8 (member 1 (fun c => f {c with checked := true})) 74
def cpT : State := at8 (member 1 (fun c => {c with checked := true, depth := 6})) 73
def cpR (f : Cvy → Cvy) (n : Nat) : State := at8 (member 0 (fun c => f {c with checked := true, skewT := 64})) n

theorem test_ConvoyMoments_met :
  (∃ (s : State), cvyIn s = true ∧ s.clk.stage % 64 = 8 ∧ s.cvy.cpDone = false) ∧
  (∃ (s : State), cvyIn s = true ∧ s.clk.stage % 64 = 8 ∧ s.cvy.cpDone = false) ∧
  (∃ (s : State) (u : State), cvyIn s = true ∧ s.cvy.checked = true ∧ s.clk.p0Pending = false ∧ s.cvy.role ≠ 0 ∧
    (if 9 < s.clk.stage % 64 then u = s else reach (cvyDeadline s ((6 - s.cvy.depth) * 2560)) s = some u)) ∧
  (∃ (s : State) (u : State), cvyIn s = true ∧ s.cvy.checked = true ∧ s.clk.p0Pending = false ∧ s.cvy.role ≠ 0 ∧
    (if 9 < s.clk.stage % 64 then u = s else reach (cvyDeadline s ((6 - s.cvy.depth) * 2560)) s = some u)) ∧
  (∃ (s : State) (u : State), cvyIn s = true ∧ s.cvy.checked = true ∧ s.clk.p0Pending = false ∧ s.cvy.role ≠ 0 ∧
    (if 9 < s.clk.stage % 64 then u = s else reach (cvyDeadline s ((6 - s.cvy.depth) * 2560)) s = some u)) ∧
  (∃ (s : State) (u : State) (r : CvyUp), cvyIn s = true ∧ s.cvy.checked = true ∧ s.clk.p0Pending = false ∧ s.cvy.role = 0 ∧
    (if 9 < s.clk.stage % 64 then u = s else silentKids s = [] ∨ reach (cvyDeadline s (6 * 2560)) s = some u) ∧
    (silentKids s = [] → u = s) ∧ r = cvyReport s !(silentKids s).isEmpty) ∧
  (∃ (s : State) (u : State) (r : CvyUp), cvyIn s = true ∧ s.cvy.checked = true ∧ s.clk.p0Pending = false ∧ s.cvy.role = 0 ∧
    (if 9 < s.clk.stage % 64 then u = s else silentKids s = [] ∨ reach (cvyDeadline s (6 * 2560)) s = some u) ∧
    (silentKids s = [] → u = s) ∧ r = cvyReport s !(silentKids s).isEmpty) ∧
  (∃ (s : State) (e : Nat) (port : Nat), cvyIn s = true ∧ s.cvy.annFor = some e ∧ s.cvy.role = 0 ∧ e ≤ s.clk.stage + 8 ∧
    (List.find? (fun p => !s.cvy.acks.any fun a => a.1 == p) (kidsOf s) = some port) ∧ s.evt.fresh = [] ∧ s.clk.p0Pending = false) ∧
  (∃ (s : State), cvyIn s = true ∧ s.cvy.role ≠ 0 ∧
    (4 ≤ s.cvy.noSync ∧ s.cvy.gotSync = false ∨ s.cvy.hasDelta = true ∧ 100 < s.cvy.delta.natAbs) ∧ s.evt.fresh = [] ∧
    s.clk.p0Pending = false) ∧
  (∃ (s : State), cvyIn s = true ∧ s.cvy.role ≠ 0 ∧
    (4 ≤ s.cvy.noSync ∧ s.cvy.gotSync = false ∨ s.cvy.hasDelta = true ∧ 100 < s.cvy.delta.natAbs) ∧ s.evt.fresh = [] ∧
    s.clk.p0Pending = false) := by
  refine ⟨⟨at8 (member 1 id) 72, ?_⟩,
   ⟨at8 (member 1 (fun c => {c with kids := 0})) 72, ?_⟩,
   ⟨cpU (fun c => {c with reports := [(8, {})]}), cpU (fun c => {c with reports := [(8, {})]}), ?_⟩,
   ⟨cpU id, cpU id, ?_⟩,
   ⟨cpT, cpT, ?_⟩,
   ⟨cpR (fun c => {c with reports := [(8, {})]}) 72, cpR (fun c => {c with reports := [(8, {})]}) 72, cvyReport (cpR (fun c => {c with reports := [(8, {})]}) 72) false, ?_⟩,
   ⟨cpR id 74, cpR id 74, {prop := 0, lmin := 0, lmax := 0, cmin := 0, cmax := 0, count := 1, skewed := 0, short := true}, ?_⟩,
   ⟨at8 (member 0 (fun c => {c with annFor := some 128})) 120, 128, 8, ?_⟩,
   ⟨member 1 (fun c => {c with noSync := 4}), ?_⟩,
   ⟨member 1 (fun c => {c with hasDelta := true, delta := -101}), ?_⟩⟩ <;> decide +kernel

def wl (s : State) : State := {s with sys := {s.sys with warmLow := true}}
def fl : InFlight := {org := .ring 5, seq := 9, opcode := 0x0504, desc := some (64, 4, (crc32c [1, 2, 3, 4]).toNat), asked := true}

theorem test_CommandPath_met :
  (∃ (s : State), s.islandUp = true ∧ s.sys.warmLow = true) ∧
  (∃ (s : State) (tail : Nat), s.islandUp = true ∧ s.sys.warmLow = false ∧ tail % 256 ≠ s.cmd.cmdTail) ∧
  (∃ (s : State), s.islandUp = true ∧ s.sys.warmLow = true) ∧
  (∃ (s : State), s.islandUp = true ∧ s.sys.warmLow = false ∧ s.cmd.mbxBusy = true) ∧
  (∃ (s : State), s.islandUp = true ∧ s.sys.warmLow = false ∧ s.cmd.mbxBusy = false ∧ s.calm = true ∧
    (takenOf Origin.mailbox s.clk.stage (some (ofWords s.cmd.mbxCmd.val))).fails = none) ∧
  (∃ (s : State), s.islandUp = true) ∧
  (∃ (s : State) (b : List Byte) (rest : List (Option (List Byte))) (k : Nat) (since : Nat) (cov : List (Nat × Nat)), s.cmd.fetched = some b :: rest ∧
    s.cmd.covered = (k, since) :: cov ∧ mayTake s = true ∧ s.calm = true ∧ (takenOf (Origin.ring k) since (some b)).fails = none) ∧
  (∃ (s : State) (o : Origin) (data : List Byte) (f : InFlight) (addr : Nat) (n : Nat) (crc : Nat), f ∈ s.cmd.inflight ∧
    f.org = o ∧ f.desc = some (addr, n, crc) ∧ f.asked = true ∧ s.calm = true ∧ data.length = n ∧ (crc32c data).toNat = crc ∧
    f.opcode ≠ 770 ∧ (∀ g ∈ s.cmd.inflight, g.org = o → g = f)) := by
  refine ⟨⟨wl up, ?_⟩,
   ⟨up, 255, ?_⟩,
   ⟨wl up, ?_⟩,
   ⟨{up with cmd := {up.cmd with mbxBusy := true}}, ?_⟩,
   ⟨{up with cmd := {up.cmd with mbxCmd := Tab.ofFn 16 (fun k => BitVec.ofNat 32 (field slotB (4 * k) 4))}}, ?_⟩,
   ⟨{up with cmd := {up.cmd with asked := 2, fetched := [none]}}, ?_⟩,
   ⟨{up with cmd := {up.cmd with asked := 1, cmdHead := 255, fetched := [some slotB], covered := [(255, 99)]}}, slotB, [], 255, 99, [], ?_⟩,
   ⟨{up with cmd := {up.cmd with inflight := [fl]}}, .ring 5, [1, 2, 3, 4], fl, 64, 4, (crc32c [1, 2, 3, 4]).toNat, ?_⟩⟩ <;> decide +kernel

def rep : Reply := {org := .ring 5, seq := 9, status := .ok, data := [], opcode := 0x0101}

theorem test_Rings_met :
  (∃ (s : State) (r : Reply) (rest : List Reply), s.cmd.hold = r :: rest ∧ s.rplOpen = true) ∧
  (∃ (s : State) (e : Event) (q : List Event), s.evt.queue = e :: q ∧ s.evt.reserved = none ∧ s.evt.lost = 0 ∧ s.evtOpen = true ∧
    (s.cmd.evtHead + 1) % 1024 ≠ s.cmd.evtTail) ∧
  (∃ (s : State) (o : Origin), s.clk.p0Pending = false ∧
    (∃ f ∈ s.cmd.inflight, f.org = o ∧ f.late = false ∧ ∃ d, f.due = some d ∧ d ≤ s.clk.stage)) ∧
  (∃ (s : State) (k : Nat), s.clk.p0Pending = false ∧ (∀ f ∈ s.cmd.inflight, f.org ≠ Origin.ring k) ∧ slotLate s k = true) ∧
  (∃ (s : State), s.islandUp = true) ∧
  (∃ (s : State), s.islandUp = true) ∧
  (∃ (s : State), s.islandUp = true) ∧
  (∃ (s : State), s.islandUp = true) := by
  refine ⟨⟨{up with cmd := {up.cmd with hold := [rep], rplHead := 255}}, rep, [], ?_⟩,
   ⟨{up with cmd := {up.cmd with evtHead := 1023, evtTail := 1}, evt := {queue := [default]}}, default, [], ?_⟩,
   ⟨{up with cmd := {up.cmd with inflight := [{fl with due := some 100}]}}, .ring 5, ?_⟩,
   ⟨{up with cmd := {up.cmd with covered := [(5, 92)]}}, 5, ?_⟩,
   ⟨{up with cmd := {cmdHead := 3, cmdTail := 4, evtHead := 9, evtTail := 8}}, ?_⟩,
   ⟨up, ?_⟩,
   ⟨{up with rails := up.rails.map (fun r => {r with windowFault := true})}, ?_⟩,
   ⟨up, ?_⟩⟩ <;> decide +kernel

theorem test_RegisterWindow_met :
  (∃ (s : State), s.islandUp = true) ∧
  (∃ (s : State) (k : Nat), s.islandUp = true ∧ k < 264) ∧
  (∃ (s : State) (off : Nat), s.islandUp = true ∧ off < 1048576 ∧ off % 4 = 0) ∧
  (∃ (s : State) (off : Nat), s.islandUp = true ∧ off < 1048576 ∧ off % 4 = 0) ∧
  (∃ (s : State) (off : Nat), s.islandUp = true ∧ off % 4 = 0 ∧ off < 1048576) ∧
  (∃ (s : State) (off : Nat) (size : Nat), s.islandUp = true ∧ (size ≠ 4 ∨ off % 4 ≠ 0)) ∧
  (∃ (s : State), s.islandUp = true) ∧
  (∃ (s : State), s.islandUp = true ∧ s.cmd.cmdEn = true) ∧
  (∃ (s : State), s.islandUp = true ∧ s.cmd.cmdEn = false) ∧
  (∃ (s : State), s.islandUp = true) := by
  refine ⟨⟨{up with clk := {up.clk with stage := 2 ^ 48 - 1}}, ?_⟩,
   ⟨{up with en := {up.en with mirrors := up.en.mirrors.set 263 (2 ^ 64 - 1)}}, 263, ?_⟩,
   ⟨{up with led := {up.led with ram := [(0xFFFFC, 1), (0xFFFFF, 3)]}}, 0xFFFFC, ?_⟩,
   ⟨{up with led := {up.led with parityBad := [0x40000]}}, 0x40000, ?_⟩,
   ⟨up, 0xFFFFC, ?_⟩,
   ⟨up, 0x40, 2, ?_⟩,
   ⟨up, ?_⟩,
   ⟨up, ?_⟩,
   ⟨{up with cmd := {}}, ?_⟩,
   ⟨up, ?_⟩⟩ <;> decide +kernel

def trp : Packet := rk (pad 16 ([0x40, 0, 0, 0, 0, 0, 0, 0] ++ leBytes 4 0 ++ [0, 0x20]))
def trS : State := {up with trc := {next := 1, recs := [default]}}

theorem test_SystemCommands_met :
  (∃ (p : Packet) (s : State), s.ready p = true ∧ p.payload.length = 32 ∧ armLegal 0 p.payload = true) ∧
  (∃ (p : Packet) (s : State), s.ready p = true ∧ p.payload.length = 32 ∧ armLegal 0 p.payload = true) ∧
  (∃ (p : Packet) (s : State), s.ready p = true ∧ p.payload.length = 32 ∧ armLegal 1 p.payload = true) ∧
  (∃ (p : Packet) (s : State) (op : Nat) (m : Nat) (cs : List Nat) (u : State), s.ready p = true ∧ p.payload.length = 48 ∧
    maskLegal s p.payload = true ∧ op = field p.payload 0 1 ∧ m = field p.payload 2 2 ∧ cs = maskCodes p.payload ∧
    u = fallNow (Soon.masks op m cs) s) ∧
  (∃ (p : Packet) (s : State) (op : Nat) (m : Nat) (cs : List Nat) (u : State), s.ready p = true ∧ p.payload.length = 48 ∧
    maskLegal s p.payload = true ∧ op = field p.payload 0 1 ∧ m = field p.payload 2 2 ∧ cs = maskCodes p.payload ∧
    u = fallNow (Soon.masks op m cs) s) ∧
  (∃ (p : Packet) (s : State) (op : Nat) (m : Nat) (cs : List Nat) (u : State), s.ready p = true ∧ p.payload.length = 48 ∧
    maskLegal s p.payload = true ∧ op = field p.payload 0 1 ∧ m = field p.payload 2 2 ∧ cs = maskCodes p.payload ∧
    u = fallNow (Soon.masks op m cs) s) ∧
  (∃ (p : Packet) (s : State) (op : Nat) (m : Nat) (cs : List Nat) (u : State), s.ready p = true ∧ p.payload.length = 48 ∧
    maskLegal s p.payload = true ∧ op = field p.payload 0 1 ∧ m = field p.payload 2 2 ∧ cs = maskCodes p.payload ∧
    u = fallNow (Soon.masks op m cs) s) ∧
  (∃ (p : Packet) (s : State) (a : Nat) (k : Nat), s.ready p = true ∧ p.payload.length = 16 ∧ field p.payload 0 8 % 64 = 0 ∧
    1 ≤ field p.payload 12 2 ∧ field p.payload 12 2 ≤ 8192 ∧
    (field p.payload 8 4 ≠ 4294967295 → field p.payload 8 4 ≤ s.trc.next) ∧ zeros p.payload 14 2 = true ∧ s.fbOk = true ∧
    traceSpan s (field p.payload 8 4) (field p.payload 12 2) = (a, k) ∧ k ≠ 0) ∧
  (∃ (s : State) (c : TraceCopy) (rest : List TraceCopy), s.cmd.traceReq = c :: rest) ∧
  (∃ (n : Nat), n < 144) := by
  refine ⟨⟨rk (pad 32 [0, 1, 15, 14, 0,0,0,0,0,0,0,0,0,0,0,0,0,0,0,0,0,0x80]), up, ?_⟩,
   ⟨rk (pad 32 [0, 4]), up, ?_⟩,
   ⟨rk (pad 32 [1, 2, 0, 0, 0,0,0,0,0,0,0,0,0,0,0,0,0,0,0,0,0,0x80]), up, ?_⟩,
   ⟨rk (pad 48 [0, 0, 0xFE, 0x0F]), up, 0, 0x0FFE, [], fallNow (.masks 0 0x0FFE []) up, ?_⟩,
   ⟨rk (pad 48 [1, 1, 0, 0, 0x20, 0x05]), {up with evt := {codes := [0x0521]}}, 1, 0, [0x0520], fallNow (.masks 1 0 [0x0520]) {up with evt := {codes := [0x0521]}}, ?_⟩,
   ⟨rk (pad 48 [2, 1, 0, 0, 0x20, 0x05]), {up with evt := {codes := [0x0521, 0x0520]}}, 2, 0, [0x0520], fallNow (.masks 2 0 [0x0520]) {up with evt := {codes := [0x0521, 0x0520]}}, ?_⟩,
   ⟨rk (pad 48 [3]), {up with evt := {codes := [0x0521], catMask := 2}}, 3, 0, [], fallNow (.masks 3 0 []) {up with evt := {codes := [0x0521], catMask := 2}}, ?_⟩,
   ⟨trp, trS, 0, 1, ?_⟩,
   ⟨{up with cmd := {up.cmd with traceReq := [{pkt := trp, first := 0, count := 1, next := 1}]}}, {pkt := trp, first := 0, count := 1, next := 1}, [], ?_⟩,
   ⟨143, ?_⟩⟩ <;> decide +kernel

def fwp : Packet := rk (pad 16 ([0x40, 0, 0, 0, 0, 0, 0, 0] ++ leBytes 4 524288))
def ld (st : LoadStep) (a : Bool) (e : Nat) : FwLoad := {pkt := fwp, addr := 64, len := 1024, due := 100, step := st, authentic := a, header := padTo 1024 (leBytes 64 (e * 2 ^ 64))}
def sld (st : LoadStep) (a : Bool) (e c : Nat) : State := {up with fw := {up.fw with load := some (ld st a e)}, fuses := {up.fuses with counter := c}}

theorem test_FirmwareLoad_met :
  (∃ (s : State) (p : Packet), s.ready p = true ∧ p.payload.length = 16 ∧ 1024 ≤ field p.payload 8 4 ∧
    field p.payload 8 4 ≤ 524288 ∧ field p.payload 0 8 % 64 = 0 ∧ zeros p.payload 12 4 = true ∧ s.fbOk = true ∧
    s.dbg.unlocked = false ∧ s.fw.load = none ∧ caravanHeld s = false) ∧
  (∃ (s : State) (f : FwLoad), s.fw.load = some f ∧ (f.step = LoadStep.header ∨ f.step = LoadStep.body)) ∧
  (∃ (s : State) (f : FwLoad), s.fw.load = some f ∧ (f.step = LoadStep.header ∨ f.step = LoadStep.body)) ∧
  (∃ (s : State) (f : FwLoad), s.fw.load = some f ∧ f.step = LoadStep.auth ∧ f.authentic = false) ∧
  (∃ (s : State) (f : FwLoad), s.fw.load = some f ∧ f.step = LoadStep.auth ∧ f.authentic = true ∧
    imgEpoch f.header < s.fuses.counter) ∧
  (∃ (s : State) (f : FwLoad), s.fw.load = some f ∧ f.step = LoadStep.auth ∧ f.authentic = true ∧
    s.fuses.counter ≤ imgEpoch f.header) ∧
  (∃ (s : State) (f : FwLoad), s.fw.load = some f ∧ f.due ≤ s.clk.stage ∧ s.clk.p0Pending = false) := by
  refine ⟨⟨up, fwp, ?_⟩,
   ⟨sld .header true 0 0, ld .header true 0, ?_⟩,
   ⟨sld .body true 0 0, ld .body true 0, ?_⟩,
   ⟨sld .auth false 0 0, ld .auth false 0, ?_⟩,
   ⟨sld .auth true 0 1, ld .auth true 0, ?_⟩,
   ⟨sld .auth true 0 0, ld .auth true 0, ?_⟩,
   ⟨sld .accepted true 0 0, ld .accepted true 0, ?_⟩⟩ <;> decide +kernel

theorem test_CoreEvents_met :
  (∃ (s : State) (cause : Nat), s.fwRuns = true ∧ s.fw.loaded = true ∧ (cause = 1 ∨ cause = 2) ∧ s.evt.fresh = []) ∧
  (∃ (s : State) (k : Nat), tilePasses s k false = true ∧ k < 640 ∧ s.core.on = true ∧ tileBad s k = false) ∧
  (∃ (s : State) (cause : Nat) (index : Nat) (ctx : CoreCtx), s.fwRuns = true ∧ haltHolds s cause index ctx.pc = true ∧
    s.evt.fresh = []) ∧
  (∃ (s : State) (cause : Nat) (index : Nat) (ctx : CoreCtx), s.fwRuns = true ∧ haltHolds s cause index ctx.pc = true ∧
    s.evt.fresh = []) ∧
  (∃ (s : State) (off : Nat), s.fwRuns = true ∧ off % 4 = 0) ∧
  (∃ (s : State) (off : Nat), s.fwRuns = true ∧ off % 4 = 0) := by
  refine ⟨⟨up, 2, ?_⟩,
   ⟨good 639 {up with led := {up.led with tileBuf := [1,2,3,4,5,6,7,8]}}, 639, passes_good _ _ (by decide), ?_⟩,
   ⟨{up with dbg := {haltReq := true, match_ := (Tab.replicate 12 0).set 2 0x00100005}}, 2, 2, {pc := 0x00100004, regs := [0, 7, 8]}, ?_⟩,
   ⟨{up with dbg := {haltReq := true}}, 1, 0, {pc := 0x00100005, regs := [0, 7, 8]}, ?_⟩,
   ⟨up, 0x1A23C, ?_⟩,
   ⟨up, 0x400, ?_⟩⟩ <;> decide +kernel

def ul (f : Dbg → Dbg) : State := {up with dbg := f {State.reset.dbg with unlocked := true}}
def hl : State := ul (fun d => {d with halted := true})

theorem test_DebugOperations_met :
  (∃ (s : State) (c : Instr), s.islandUp = true ∧
    c ∈ [Instr.nop, Instr.submit, Instr.lock, Instr.halt, Instr.resume, Instr.step] ∧ s.dbg.busy = true) ∧
  (∃ (s : State), s.islandUp = true ∧ (s.dbg.busy = true ∨ s.dbg.busyLost = true)) ∧
  (∃ (s : State), s.islandUp = true ∧ s.dbg.busy = false ∧ s.dbg.busyLost = false ∧ s.dbg.status < 16) ∧
  (∃ (s : State), s.islandUp = true ∧ s.dbg.busy = false) ∧
  (∃ (s : State) (a : Nat), s.islandUp = true ∧ s.dbg.busy = false ∧ a ≤ 7) ∧
  (∃ (s : State) (c : Instr), s.islandUp = true ∧ s.dbg.busy = false ∧ s.dbg.unlocked = false ∧
    c ∈ [Instr.lock, Instr.halt, Instr.resume, Instr.step]) ∧
  (∃ (s : State), s.islandUp = true ∧ s.dbg.busy = false ∧ s.dbg.unlocked = true) ∧
  (∃ (s : State), s.islandUp = true ∧ s.dbg.busy = false ∧ s.dbg.unlocked = true ∧ s.dbg.halted = false) ∧
  (∃ (s : State), s.islandUp = true ∧ s.dbg.busy = false ∧ s.dbg.unlocked = true ∧ s.dbg.halted = true) ∧
  (∃ (s : State), s.islandUp = true ∧ s.dbg.busy = false ∧ s.dbg.unlocked = true ∧ s.dbg.halted = true) ∧
  (∃ (s : State), s.islandUp = true ∧ s.dbg.busy = false ∧ s.dbg.unlocked = true ∧ s.dbg.halted = false) ∧
  (∃ (s : State) (a : Nat), s.islandUp = true ∧ s.dbg.busy = false ∧ s.dbg.unlocked = true ∧ a ≤ 11) ∧
  (∃ (s : State) (c : Nat) (v : Conv), s.islandUp = true ∧ s.dbg.busy = false ∧ s.dbg.unlocked = true ∧ c < 312 ∧
    v = (convTo (c % 16) s.clk.now s).conv (c % 16)) ∧
  (∃ (s : State) (c : Nat) (v : Conv), s.islandUp = true ∧ s.dbg.busy = false ∧ s.dbg.unlocked = true ∧ c < 312 ∧
    v = (convTo (c % 16) s.clk.now s).conv (c % 16)) ∧
  (∃ (s : State) (a : BitVec 32), s.islandUp = true ∧ s.dbg.busy = false ∧ s.dbg.unlocked = true ∧ a.toNat < 1048576 ∧
    a.toNat % 4 = 0 ∧ tileOf a.toNat = none) ∧
  (∃ (s : State) (a : BitVec 32), s.islandUp = true ∧ s.dbg.busy = false ∧ s.dbg.unlocked = true ∧ a.toNat % 4 ≠ 0) ∧
  (∃ (s : State) (a : BitVec 32), s.islandUp = true ∧ s.dbg.busy = false ∧ s.dbg.unlocked = true ∧ a.toNat % 4 = 0 ∧
    a.toNat < 1048576 ∧ ledgerMay true a.toNat s = BusRes.ok) ∧
  (∃ (s : State) (n : BitVec 32), s.islandUp = true ∧ s.dbg.busy = false ∧ s.dbg.unlocked = true ∧ s.dbg.halted = true ∧
    n.toNat < 32) ∧
  (∃ (s : State) (n : BitVec 32), s.islandUp = true ∧ s.dbg.busy = false ∧ s.dbg.unlocked = true ∧ s.dbg.halted = true ∧
    n.toNat < 32) ∧
  (∃ (s : State) (n : BitVec 32), s.islandUp = true ∧ s.dbg.busy = false ∧ s.dbg.unlocked = true ∧ s.dbg.halted = true ∧
    n.toNat < 32) ∧
  (∃ (s : State) (w : BitVec 32), s.islandUp = true ∧ s.dbg.busy = false ∧ s.dbg.unlocked = true ∧ s.dbg.halted = true ∧
    w.getLsbD 0 = false) ∧
  (∃ (s : State), s.islandUp = true ∧ s.dbg.busy = false ∧ s.dbg.unlocked = true ∧ s.dbg.halted = false) := by
  refine ⟨⟨{up with dbg := {busy := true}}, .step, ?_⟩,
   ⟨{up with dbg := {busyLost := true}}, ?_⟩,
   ⟨{up with dbg := {status := 8, rdata := 0xB0001A40}}, ?_⟩,
   ⟨{up with dbg := {busyLost := true}}, ?_⟩,
   ⟨up, 7, ?_⟩,
   ⟨up, .step, ?_⟩,
   ⟨ul (fun d => {d with halted := true}), ?_⟩,
   ⟨ul id, ?_⟩,
   ⟨ul (fun d => {d with halted := true, cause := 2, bpIndex := 3}), ?_⟩,
   ⟨ul (fun d => {d with halted := true}), ?_⟩,
   ⟨ul id, ?_⟩,
   ⟨ul id, 11, ?_⟩,
   ⟨ul id, 311, (ul id).conv 7, ?_⟩,
   ⟨{ul id with convs := up.convs.modify 7 (fun v => {v with urgQ := [7, 7, 7, 7]})}, 311, {up.conv 7 with urgQ := [7, 7, 7, 7]}, ?_⟩,
   ⟨{ul id with led := {up.led with ram := [(0x40000, 5)], parityBad := [0x40000]}}, 0x40000, ?_⟩,
   ⟨ul id, 0x40001, ?_⟩,
   ⟨{ul id with led := {up.led with parityBad := [0x5FFFC]}}, 0x5FFFC, ?_⟩,
   ⟨hl, 31, ?_⟩,
   ⟨hl, 31, ?_⟩,
   ⟨hl, 0, ?_⟩,
   ⟨hl, 0x00100002, ?_⟩,
   ⟨ul id, ?_⟩⟩ <;> decide +kernel

theorem test_DebugUnlock_met :
  (∃ (s : State), s.islandUp = true ∧ s.dbg.busy = false ∧ s.dbg.withheld = 0) ∧
  (∃ (s : State) (c : BitVec 128), s.islandUp = true ∧ s.dbg.busy = false ∧ s.dbg.challenge = some c) ∧
  (∃ (s : State), s.dbg.busy = true ∧ s.dbg.submit = true ∧ s.evt.fresh = []) ∧
  (∃ (s : State), s.dbg.challenge.isSome = true ∧ 100 ≤ s.dbg.challengeAge ∧ s.clk.p0Pending = false) ∧
  (∃ (s : State), s.dbg.withheld = 1) := by
  refine ⟨⟨up, ?_⟩,
   ⟨{up with dbg := {challenge := some 5}}, 5, ?_⟩,
   ⟨{up with dbg := {busy := true, submit := true, status := 0}}, ?_⟩,
   ⟨{up with dbg := {challenge := some 5, challengeAge := 100}}, ?_⟩,
   ⟨{up with dbg := {withheld := 1}}, ?_⟩⟩ <;> decide +kernel

end Sys2Proof.Tests
end

section
/-! SUPPORT. The frame of a packet that is processed in its turn, and the end of a command where no packet waits for its rejection:
the caravans stay as they are. -/

namespace Sys2Proof.Machine

/-! ### A calm command interface (R378, R381) -/

theorem firstTaken_mem (p : InFlight → Bool) {f : InFlight} :
    ∀ (l ahead : List InFlight), firstTaken p ahead l = some f → f ∈ l
  | [], _, h => by simp [firstTaken] at h
  | g :: gs, ahead, h => by
    unfold firstTaken at h
    split at h
    · exact List.mem_cons.2 (.inl (Option.some.inj h).symm)
    · exact List.mem_cons_of_mem g (firstTaken_mem p gs _ h)

theorem nextTaken_mem {l : List InFlight} {f : InFlight} (h : nextTaken l = some f) : f ∈ l := by
  unfold nextTaken at h
  split at h
  · next g hg => exact Option.some.inj h ▸ firstTaken_mem _ _ _ hg
  · exact firstTaken_mem _ _ _ h

/-- With no failed packet in flight, none is rejected. -/
theorem rejectFailed_of_calm {s : State} (hc : s.calm = true) (n : Nat) : rejectFailed n s = s := by
  cases n with
  | zero => rfl
  | succ n =>
    unfold rejectFailed
    split
    · rfl
    · split
      · rfl
      · next f hf =>
        have hnone : f.fails = none := by simpa using List.all_eq_true.1 hc f (nextTaken_mem hf)
        rw [hnone]

/-- A change of the commands in flight that leaves their failed checks leaves the interface calm. -/
theorem calm_of_inflight_map {s t : State} (f : InFlight → InFlight) (hf : ∀ x, (f x).fails = x.fails)
    (h : t.cmd.inflight = s.cmd.inflight.map f) (hc : s.calm = true) : t.calm = true := by
  unfold State.calm at *
  rw [h, List.all_map]
  simpa [Function.comp_def, hf] using hc

theorem mem_of_mem_dropInflight (o : Origin) (n : Nat) {g : InFlight} : ∀ l : List InFlight, g ∈ dropInflight o n l → g ∈ l
  | [], h => h
  | f :: fs, h => by
    unfold dropInflight at h
    split at h
    · exact List.mem_cons_of_mem f h
    · rcases List.mem_cons.1 h with rfl | h
      · simp
      · exact List.mem_cons_of_mem f (mem_of_mem_dropInflight o n fs h)

theorem calm_of_dropInflight {s t : State} (o : Origin) (n : Nat) (h : t.cmd.inflight = dropInflight o n s.cmd.inflight)
    (hc : s.calm = true) : t.calm = true := by
  unfold State.calm at *
  rw [List.all_eq_true] at *
  rw [h]
  exact fun g hg => hc g (mem_of_mem_dropInflight o n _ hg)

theorem mailboxReply_inflight (r : Reply) (s : State) :
    (mailboxReply r s).cmd.inflight = dropInflight r.org r.seq s.cmd.inflight := by
  unfold mailboxReply
  dsimp only
  split <;> rfl

/-- A reply leaves the interface calm. -/
theorem reply_calm (p : Packet) (op : Nat) (st : Status) (d : List Byte) {s : State} (hc : s.calm = true) :
    (reply p op st d s).calm = true := by
  unfold reply putReply
  split
  · exact calm_of_dropInflight _ _ (mailboxReply_inflight _ s) hc
  · split
    · exact calm_of_dropInflight _ _ rfl hc
    · exact calm_of_inflight_map _ (fun x => by split <;> rfl) rfl hc

/-! ### What leaves the caravan unit as it is -/

@[simp] theorem raiseEv_cvn (e : Event) (s : State) : (raiseEv e s).cvn = s.cvn := by
  unfold raiseEv; split <;> rfl

@[simp] theorem raise_cvn (c k : Nat) (d : List Byte) (s : State) : (raise c k d s).cvn = s.cvn := raiseEv_cvn _ _

@[simp] theorem causeSet_cvn (c : Nat) (s : State) : (causeSet c s).cvn = s.cvn := by
  unfold causeSet; split <;> rfl

@[simp] theorem evTrace_cvn (e : Event) (f : Nat) (s : State) : (evTrace e f s).cvn = s.cvn := rfl

@[simp] theorem countLost_cvn (c : Nat) (s : State) : (countLost c s).cvn = s.cvn := rfl

@[simp] theorem reportLost_cvn (s : State) : (reportLost s).cvn = s.cvn := by
  unfold reportLost; split
  · rfl
  · simp only [evTrace_cvn, causeSet_cvn]; rfl

@[simp] theorem evEnter_cvn (e : Event) (s : State) : (evEnter e s).cvn = s.cvn := by
  unfold evEnter; split
  · rfl
  · dsimp only
    split
    · simp only [evTrace_cvn, causeSet_cvn]; rfl
    · split
      · split
        · simp only [countLost_cvn, evTrace_cvn, causeSet_cvn]; rfl
        · simp only [countLost_cvn, evTrace_cvn]; rfl
      · simp only [countLost_cvn, evTrace_cvn]; rfl

@[simp] theorem enterEvents_cvn (s : State) : (enterEvents s).cvn = s.cvn := by
  unfold enterEvents
  rw [reportLost_cvn, foldl_keeps State.cvn _ (fun s e => evEnter_cvn e s)]

@[simp] theorem postBoostEnd_cvn (s : State) : (postBoostEnd s).cvn = s.cvn := by
  unfold postBoostEnd; split <;> rfl

@[simp] theorem boostCheck_cvn (s : State) : (boostCheck s).cvn = s.cvn := by
  unfold boostCheck
  dsimp only
  split
  · rfl
  · split
    · rw [raise_cvn, postBoostEnd_cvn]
    · rfl

@[simp] theorem mailboxReply_cvn (r : Reply) (s : State) : (mailboxReply r s).cvn = s.cvn := by
  unfold mailboxReply
  dsimp only
  split <;> rfl

@[simp] theorem reply_cvn (p : Packet) (op : Nat) (st : Status) (d : List Byte) (s : State) :
    (reply p op st d s).cvn = s.cvn := by
  unfold reply putReply
  split
  · exact mailboxReply_cvn _ s
  · split <;> rfl

/-- The end of a command leaves the caravans where no member packet waits for its rejection (R248). -/
theorem finish_cvn {s : State} (hc : s.calm = true) : (finish s).cvn = s.cvn := by
  unfold finish
  rw [rejectFailed_of_calm hc]
  dsimp only
  split
  · exact boostCheck_cvn s
  · rw [enterEvents_cvn, boostCheck_cvn]

/-! ### A packet in its turn (R378, R381, R382) -/

theorem ready_iff {s : State} {p : Packet} :
    s.ready p = true ↔ s.fwRuns = true ∧ turn s p = true ∧ s.cmd.tookAt ≠ some s.clk.now := by
  simp [State.ready, and_assoc]

/-- A packet that is ready is processed in the present cycle. -/
theorem inTurn_of_ready {s : State} {p : Packet} (h : s.ready p = true) (f : State → Host.Outcome State Fault Refusal) :
    inTurn p s f = f s := by
  obtain ⟨hr, ht, hk⟩ := ready_iff.1 h
  simp [inTurn, hr, ht, hk]

theorem fwRuns_of_ready {s : State} {p : Packet} (h : s.ready p = true) : s.fwRuns = true := (ready_iff.1 h).1

/-- The command takes effect in the present cycle (R382). -/
def State.took (s : State) : State := { s with cmd := { s.cmd with tookAt := some s.clk.now } }

@[simp] theorem took_apart (s : State) : s.took.apart = s.apart := rfl

theorem took_calm {s : State} (h : s.calm = true) : s.took.calm = true := h

theorem command_effect {p : Packet} {op : Nat} {checks : List (Bool × Status)} {s : State} (hr : s.fwRuns = true)
    (hc : firstFail checks = none) (effect : State → State) : command p op checks effect s = .next (finish (effect s.took)) := by
  simp [command, hr, hc, State.took]

theorem command_rejects {p : Packet} {op : Nat} {checks : List (Bool × Status)} {st : Status} {s : State} (hr : s.fwRuns = true)
    (hc : firstFail checks = some st) (effect : State → State) :
    command p op checks effect s = .next (finish (reply p op st [] s)) := by
  simp [command, hr, hc]

/-- A rejection is answered and changes nothing apart (R380). -/
theorem answered_rejected (p : Packet) (op : Nat) (st : Status) (s : State) :
    Answered p op st [] s (finish (reply p op st [] s)) ∧ (finish (reply p op st [] s)).apart = s.apart :=
  ⟨answered_finish p op st [] s s rfl rfl rfl rfl rfl, by rw [finish_apart, reply_apart]⟩

/-! ### Bytes of a payload -/

theorem leNat_lt : ∀ l : List Byte, leNat l < 256 ^ l.length
  | [] => by simp [leNat]
  | b :: bs => by
    have ih := leNat_lt bs
    have hb := b.isLt
    rw [leNat, List.length_cons, Nat.pow_succ]
    omega

/-- A field of `k` bytes is a number of `k` bytes. -/
theorem field_lt (l : List Byte) (a k : Nat) : field l a k < 256 ^ k :=
  (leNat_lt _).trans_le (Nat.pow_le_pow_right (by decide) (List.length_take_le k _))

end Sys2Proof.Machine
end

section
/-! SUPPORT. A cycle in which a single event is raised, and the cause bits (R9, R384 to R388). -/

namespace Sys2Proof.Machine

/-! ### The events of a cycle (R9, R384 to R388) -/

theorem boostCheck_of_not_boosting {s : State} (h : boosting s = false) :
    boostCheck s = { s with seq := { s.seq with boostHeld := boostMask s } } := by
  have h' : boosting { s with seq := { s.seq with boostHeld := boostMask s } } = false := h
  unfold boostCheck
  dsimp only
  rw [h']
  split <;> rfl

theorem boosting_of_not_boost {s : State} (h : (s.lvl s.seq.level).boost = false) : boosting s = false := by
  simp [boosting, h]

/-- Outside the edge cycle, with no packet to reject and no boost to end, the events of the cycle enter the event path. -/
theorem finish_eq_enterEvents {s : State} (hp : s.clk.p0Pending = false) (hc : s.calm = true)
    (hb : (s.lvl s.seq.level).boost = false) :
    finish s = enterEvents { s with seq := { s.seq with boostHeld := boostMask s } } := by
  unfold finish
  rw [rejectFailed_of_calm hc, boostCheck_of_not_boosting (boosting_of_not_boost hb)]
  simp [hp]

theorem raise_of_no_fresh {s : State} (h : s.evt.fresh = []) (code source : Nat) (data : List Byte) :
    raise code source data s = { s with evt := { s.evt with
      fresh := [{ code, source, stage := s.clk.stage, data, moment := s.clk.now }] } } := by
  simp [raise, raiseEv, h]

theorem enterEvents_of_one {s : State} {e : Event} (h : s.evt.fresh = [e]) :
    enterEvents s = reportLost (evEnter e { s with evt := { s.evt with fresh := [] } }) := by
  simp [enterEvents, h, sortByCode, insertByCode]

/-- The only event of such a cycle enters the event path, and what the path has discarded is reported behind it. -/
theorem finish_raise_of_no_fresh {s : State} (hp : s.clk.p0Pending = false) (hc : s.calm = true)
    (hb : (s.lvl s.seq.level).boost = false) (hf : s.evt.fresh = []) (code source : Nat) (data : List Byte) :
    ∃ (u : State) (e : Event), u.evt = { s.evt with fresh := [] } ∧
      e = { code, source, stage := s.clk.stage, data, moment := s.clk.now } ∧
      finish (raise code source data s) = reportLost (evEnter e u) := by
  have h := (finish_eq_enterEvents (s := { s with evt := { s.evt with
    fresh := [{ code, source, stage := s.clk.stage, data, moment := s.clk.now }] } }) hp hc hb).trans (enterEvents_of_one rfl)
  rw [raise_of_no_fresh hf]
  exact ⟨_, _, rfl, rfl, h⟩

@[simp] theorem evTrace_evt (e : Event) (f : Nat) (s : State) : (evTrace e f s).evt = s.evt := rfl

/-- Setting the category bit of an event leaves the queue, the numbers and the count of discards. -/
theorem causeSet_frame (c : Nat) (s : State) :
    (causeSet c s).evt.queue = s.evt.queue ∧ (causeSet c s).evt.seq = s.evt.seq ∧ (causeSet c s).evt.lost = s.evt.lost := by
  unfold causeSet; split <;> exact ⟨rfl, rfl, rfl⟩

theorem reportLost_of_none_lost {s : State} (h : s.evt.lost = 0) : reportLost s = s := by
  simp [reportLost, h]

/-- A masked event is counted; it takes no number. -/
theorem evEnter_masked {e : Event} {s : State} (h : evMasked s e.code = true) :
    (evEnter e s).evt = { s.evt with masked := min 65535 (s.evt.masked + 1) } := by
  rw [evEnter, if_pos h]
  rfl

/-- An event that finds room takes the next number and its place in the queue; none is discarded. -/
theorem evEnter_room {e : Event} {s : State} (h : evMasked s e.code = false) (hq : s.evt.queue.length < 64) :
    (evEnter e s).evt.queue = queueIn { e with seq := s.evt.seq } s.evt.queue ∧
    (evEnter e s).evt.seq = (s.evt.seq + 1) % 65536 ∧ (evEnter e s).evt.lost = s.evt.lost := by
  have henter : (evEnter e s).evt = (causeSet e.code { s with evt := { s.evt with
      seq := (s.evt.seq + 1) % 65536, queue := queueIn { e with seq := s.evt.seq } s.evt.queue } }).evt := by
    simp [evEnter, evNumber, h, hq]
  rw [henter]
  exact causeSet_frame _ _

/-- An event goes behind those in the queue if none of its own cycle has a greater code. -/
theorem queueIn_last (e : Event) : ∀ q : List Event, (∀ f ∈ q, f.moment = e.moment → f.code ≤ e.code) → queueIn e q = q ++ [e]
  | [], _ => rfl
  | f :: fs, h => by
    have hf : (f.moment == e.moment && decide (e.code < f.code)) = false := by
      have := h f (by simp)
      simp only [Bool.and_eq_false_imp, beq_iff_eq, decide_eq_false_iff_not]
      omega
    rw [queueIn, hf, queueIn_last e fs (fun g hg => h g (by simp [hg]))]
    rfl

theorem testBit_foldl_or_two_pow (i : Nat) :
    ∀ (l : List Nat) (m : Nat), (l.foldl (fun m k => m ||| 2 ^ k) m).testBit i = (m.testBit i || l.contains i)
  | [], m => by simp
  | k :: l, m => by
    rw [List.foldl_cons, testBit_foldl_or_two_pow i l, Nat.testBit_or, Nat.testBit_two_pow, List.contains_cons, Bool.or_assoc]
    rw [show decide (k = i) = (i == k) from decide_eq_decide.2 eq_comm]

/-- The bits of a mask are those listed. -/
theorem bitsMask_testBit (l : List Nat) (i : Nat) : (bitsMask l).testBit i = l.contains i := by
  unfold bitsMask
  rw [testBit_foldl_or_two_pow]
  simp

/-- A write-1-to-clear bit set in this cycle is among those that a clear leaves (R9). -/
theorem justSet_noteSet_same (off bit : Nat) (s : State) : (justSet (noteSet off bit s) off).testBit bit = true := by
  simp [justSet, noteSet, bitsMask_testBit]

theorem justSet_of_other_cycle {s : State} (h : s.evt.setAt ≠ s.clk.now) (off : Nat) : justSet s off = 0 := by
  simp [justSet, h]

/-- What a write of ones to the category bits leaves of one of them (R9, R387). -/
theorem causeClear_getLsbD (w : BitVec 32) (s : State) {c : Nat} (hc : c < 12) :
    (causeClear w s).evt.cause.getLsbD c
      = (s.evt.cause.getLsbD c && !(w.getLsbD c && !(justSet s 0x1040).testBit c)) := by
  have h32 : c < 32 := by omega
  simp only [causeClear, clears, BitVec.getLsbD_and, BitVec.getLsbD_not, BitVec.truncate_eq_setWidth, BitVec.getLsbD_setWidth,
    BitVec.getLsbD_ofNat, hc, h32, decide_true, Bool.true_and]

theorem getLsbD_ofNat_two_pow {w c : Nat} (hc : c < w) : (BitVec.ofNat w (2 ^ c)).getLsbD c = true := by
  rw [BitVec.getLsbD_ofNat, Nat.testBit_two_pow_self, decide_eq_true hc, Bool.and_self]

theorem causeSet_getLsbD {code : Nat} (hu : isUrgent code = true) (hc : code / 256 < 12) (s : State) :
    (causeSet code s).evt.cause.getLsbD (code / 256) = true := by
  rw [causeSet, if_pos hu]
  simp only [noteSet, BitVec.getLsbD_or, getLsbD_ofNat_two_pow hc, Bool.or_true]

/-- Settles O8: a single event of a cycle by way of `evEnter`, and the cause bits one by one. -/
theorem eventPath : Obligations.EventPath := by
  unfold Obligations.EventPath
  refine ⟨fun s code source data hp hf hl hc hb => ?_, fun s c code hc hu hcode => ⟨?_, fun hat => ?_⟩⟩
  · obtain ⟨u, e, hu, he, hfin⟩ := finish_raise_of_no_fresh hp hc hb hf code source data
    have hlu : u.evt.lost = 0 := by rw [hu]; exact hl
    have hmask : evMasked u e.code = evMasked s code := by simp only [evMasked, hu, he]
    rw [hfin]
    refine ⟨fun hm => ?_, fun hm hq hlast => ?_⟩
    · have hevt := evEnter_masked (hmask.trans hm)
      rw [reportLost_of_none_lost (by rw [hevt]; exact hlu), hevt, hu]
      exact ⟨rfl, rfl, rfl⟩
    · obtain ⟨hqueue, hseq, hlost⟩ := evEnter_room (hmask.trans hm) (by rw [hu]; exact hq)
      rw [reportLost_of_none_lost (hlost.trans hlu), hqueue, hseq, hu, he]
      exact ⟨queueIn_last _ _ hlast, rfl⟩
  · subst hcode
    have hjust : (justSet (causeSet code s) 0x1040).testBit (code / 256) = true := by
      rw [causeSet, if_pos hu]
      exact justSet_noteSet_same _ _ _
    rw [causeClear_getLsbD _ _ hc, causeSet_getLsbD hu hc, hjust]
    simp
  · rw [causeClear_getLsbD _ _ hc, justSet_of_other_cycle hat, getLsbD_ofNat_two_pow (by omega)]
    simp

end Sys2Proof.Machine
end

section
/-! SUPPORT. The loop plan of the control engine: the request of a swap, its validation, the swap, and the core's writes to the
banks (R153, R156 to R158). -/

namespace Sys2Proof.Machine

theorem exec_swap {s : State} (hr : s.fwRuns = true) : exec .swap s = .next (finish (swapRequest s)) := by
  simp [exec, execSwap, done, hr]

theorem exec_planValidationDone_reject {s : State} {parity : List Nat} {slot reason : Nat} (hp : s.eng.swapPend = true)
    (he : s.eng.swapEdge = none) (hc : planCheck (shadowBank s) parity = some (slot, reason)) :
    exec (.planValidationDone parity) s = .next (finish (planReject slot reason s)) := by
  simp [exec, execPlanValidationDone, done, hp, he, hc]

/-- A shadow bank that passes is set for the first edge after its SWAP if its validation ends in time, else for the second. -/
theorem exec_planValidationDone_pass {s : State} {parity : List Nat} (hp : s.eng.swapPend = true) (he : s.eng.swapEdge = none)
    (hc : planCheck (shadowBank s) parity = none) :
    exec (.planValidationDone parity) s = .next (finish { s with eng := { s.eng with
      swapEdge := some (if s.eng.swapAge = 0 ∧ (s.clk.pace < 15 ∨ s.cycle = 0) then 1 else 2) } }) := by
  simp [exec, execPlanValidationDone, done, hp, he, hc]

theorem exec_engineBankWrite {s : State} {addr : Nat} (w : BitVec 32) (hr : s.fwRuns = true) (hlo : 0x200000 ≤ addr)
    (hhi : addr < 0x220000) : exec (.engineBankWrite addr w) s = .next (finish (bankWrite addr w s)) := by
  simp [exec, execEngineBankWrite, done, hr, hlo, hhi]

theorem planReject_apart (slot reason : Nat) (s : State) :
    (planReject slot reason s).apart = ({ s with eng := { s.eng with
      swapPend := s.eng.swapAgain == some s.clk.now, swapAge := 0, swapAgain := none
      swapFail := true, failSlot := slot, failReason := reason } } : State).apart := by
  rw [planReject, noteSet_apart, raise_apart]

/-- A rejected plan is reported with its slot and reason. -/
theorem planReject_raised {s : State} (hf : s.evt.fresh = []) (slot reason : Nat) :
    Raised 0x0122 slot [BitVec.ofNat 8 reason] (finish (planReject slot reason s)) := by
  refine ⟨_, { code := 0x0122, source := slot, stage := s.clk.stage, data := [BitVec.ofNat 8 reason], moment := s.clk.now },
    ?_, rfl, rfl, rfl, rfl⟩
  rw [planReject, raise_of_no_fresh (by exact hf)]
  exact List.mem_singleton_self _

theorem bankAt_modify_other (l : Tab 2 (Tab 320 Descr)) {i j : Nat} (f : Tab 320 Descr → Tab 320 Descr) (h : i ≠ j) :
    bankAt (l.modify i f) j = bankAt l j := by
  have hget := listModify_getD f (Tab.replicate 320 (Tab.replicate 20 0)) l.val i j
  rw [if_neg (fun hij => h hij.1)] at hget
  exact hget

/-- A write to the banks is dropped and the drop marked, or lies past the last descriptor, or changes the bank that is not
active (R153, R158). -/
theorem bankWrite_cases (addr : Nat) (w : BitVec 32) (s : State) :
    bankWrite addr w s = noteSet 0x120 26 { s with eng := { s.eng with wrDrop := true } } ∨ bankWrite addr w s = s ∨
    ∃ i f, i ≠ s.eng.bank ∧ bankWrite addr w s = { s with eng := { s.eng with banks := s.eng.banks.modify i f } } := by
  unfold bankWrite
  dsimp only
  split
  · exact .inl rfl
  · next hshadow =>
    split
    · exact .inr (.inl rfl)
    · exact .inr (.inr ⟨_, _, fun h => hshadow (by simp [h]), rfl⟩)

/-- Such a write touches the banks and the mark of a drop alone. -/
theorem bankWrite_apart (addr : Nat) (w : BitVec 32) (s : State) :
    (bankWrite addr w s).apart = ({ s with eng := { s.eng with
      banks := (bankWrite addr w s).eng.banks, wrDrop := (bankWrite addr w s).eng.wrDrop } } : State).apart := by
  rcases bankWrite_cases addr w s with h | h | ⟨i, f, -, h⟩
  · rw [h]; rfl
  · rw [h]
  · rw [h]

theorem bankWrite_active (addr : Nat) (w : BitVec 32) (s : State) :
    bankAt (bankWrite addr w s).eng.banks s.eng.bank = bankAt s.eng.banks s.eng.bank := by
  rcases bankWrite_cases addr w s with h | h | ⟨i, f, hi, h⟩
  · rw [h]; rfl
  · rw [h]
  · rw [h]; exact bankAt_modify_other _ f hi

/-- A write to the active bank, or while a swap is pending, is dropped (R158). -/
theorem bankWrite_dropped {addr : Nat} {s : State} (w : BitVec 32)
    (h : (addr - 0x200000) / 0x10000 = s.eng.bank ∨ s.eng.swapPend = true) :
    (bankWrite addr w s).eng.wrDrop = true ∧ (bankWrite addr w s).eng.banks = s.eng.banks := by
  rw [bankWrite, if_pos (by simpa using h)]
  exact ⟨rfl, rfl⟩

theorem engineSwap_due {s : State} {e : Nat} (hp : s.eng.swapPend = true) (he : s.eng.swapEdge = some e)
    (hdue : e ≤ s.eng.swapAge + 1) : engineSwap s = bankSwap { s with eng := { s.eng with swapAge := s.eng.swapAge + 1 } } := by
  simp [engineSwap, hp, he, hdue]

theorem engineSwap_early {s : State} {e : Nat} (hp : s.eng.swapPend = true) (he : s.eng.swapEdge = some e)
    (hdue : s.eng.swapAge + 1 < e) : engineSwap s = { s with eng := { s.eng with swapAge := s.eng.swapAge + 1 } } := by
  simp [engineSwap, hp, he, hdue]

/-- Settles O31: one lemma for each of the ways the swap and the writes go. -/
theorem enginePlan : Obligations.EnginePlan := by
  unfold Obligations.EnginePlan
  intro s
  refine ⟨fun hr hp => ⟨_, exec_swap hr, ?_⟩, fun hr hp => ⟨_, exec_swap hr, ?_⟩, fun parity slot reason hp he hc hf =>
    ⟨_, exec_planValidationDone_reject hp he hc, ?_, planReject_raised hf slot reason⟩, fun parity hp he hc =>
    ⟨_, exec_planValidationDone_pass hp he hc, finish_apart _⟩, fun e t hp he ht => ⟨fun hdue => ?_, fun hdue => ?_⟩,
    fun addr w hr hlo hhi => ⟨_, exec_engineBankWrite w hr hlo hhi, ?_, ?_, fun h => ?_⟩⟩
  · rw [finish_apart, swapRequest, if_neg (by simp [hp])]
  · rw [finish_apart, swapRequest, if_pos hp]
  · rw [finish_apart, planReject_apart]
  · rw [ht, engineSwap_due hp he hdue]
    exact ⟨rfl, rfl, rfl⟩
  · rw [ht, engineSwap_early hp he hdue]
  · rw [finish_eng, bankWrite_active]
  · rw [finish_apart, finish_eng]
    exact bankWrite_apart addr w s
  · rw [finish_eng]
    exact bankWrite_dropped w h

end Sys2Proof.Machine
end

section
/-! SUPPORT. The sequences of the converters and their urgent conversions (R179, R183). -/

namespace Sys2Proof.Machine

theorem State.conv_updConv_same (s : State) {u : Nat} (f : Conv → Conv) (h : u < 16) : (s.updConv u f).conv u = f (s.conv u) :=
  Tab.get_modify_same s.convs u f h

theorem State.conv_updConv_other (s : State) {u x : Nat} (f : Conv → Conv) (h : u ≠ x) : (s.updConv u f).conv x = s.conv x :=
  Tab.get_modify_other s.convs u x f h

/-- A change of the converters of a list without repetition reaches each of them once, and no other. -/
theorem conv_forEach_updConv (f : Clk → Conv → Conv) {x : Nat} (hx : x < 16) :
    ∀ (l : List Nat) (s : State), l.Nodup →
      (forEach l (fun u s => s.updConv u (f s.clk)) s).conv x = if x ∈ l then f s.clk (s.conv x) else s.conv x
  | [], _, _ => by simp [forEach]
  | u :: l, s, hl => by
    obtain ⟨hu, hl⟩ := List.nodup_cons.1 hl
    have ih := conv_forEach_updConv f hx l (s.updConv u (f s.clk)) hl
    rw [forEach] at ih
    rw [forEach, List.foldl_cons, ih]
    by_cases hxu : u = x
    · subst hxu
      simp [hu, State.conv_updConv_same s _ hx]
    · simp [State.conv_updConv_other s _ hxu, Ne.symm hxu]

/-- Such changes leave everything but the converters. -/
theorem forEach_updConv_eq (f : State → Conv → Conv) (l : List Nat) (s : State) :
    forEach l (fun u s => s.updConv u (f s)) s = { s with convs := (forEach l (fun u s => s.updConv u (f s)) s).convs } := by
  have h : { forEach l (fun u s => s.updConv u (f s)) s with convs := s.convs } = s :=
    forEach_keeps (fun t : State => { t with convs := s.convs }) (fun u s => s.updConv u (f s)) (fun _ _ => rfl) l s
  exact congrArg (fun t : State => { t with convs := (forEach l (fun u s => s.updConv u (f s)) s).convs }) h

theorem maskBits_nodup (n m : Nat) : (maskBits n m).Nodup := List.nodup_range.filter _

theorem mem_maskBits {n m i : Nat} : i ∈ maskBits n m ↔ i < n ∧ m.testBit i = true := by
  simp [maskBits]

/-- A write of SEQ_SWAP reaches the converters it names: one that validates keeps the write for the end of its validation, the
others wait for their pace (R10, R179). -/
theorem seqSwapRequest_conv (mask : Nat) (s : State) {u : Nat} (hu : u < 16) :
    (seqSwapRequest mask s).conv u = if mask.testBit u then
      (if (s.conv u).swapReq then { s.conv u with swapAgain := some s.clk.now }
        else { s.conv u with swapReq := true, swapAt := seqSwapPace s }) else s.conv u := by
  have h := conv_forEach_updConv (fun clk v =>
    if v.swapReq then { v with swapAgain := some clk.now } else { v with swapReq := true, swapAt := seqSwapPace s }) hu
    (maskBits 16 mask) s (maskBits_nodup _ _)
  simp only [mem_maskBits, hu, true_and] at h
  exact h

/-- It changes the converters alone. -/
theorem seqSwapRequest_apart (mask : Nat) (s : State) :
    (seqSwapRequest mask s).apart = ({ s with convs := (seqSwapRequest mask s).convs } : State).apart :=
  congrArg State.apart (forEach_updConv_eq _ (maskBits 16 mask) s)

theorem exec_seqSwap {s : State} (hr : s.fwRuns = true) (mask : BitVec 16) :
    exec (.seqSwap mask) s = .next (finish (seqSwapRequest mask.toNat s)) := by
  simp [exec, execSeqSwap, done, hr]

theorem exec_seqValidationDone_reject {s : State} {u : ConvId} {q : Nat} (hreq : (s.conv u).swapReq = true)
    (hwait : (s.conv u).swapWait = none) (hc : seqCheck u (s.conv u).shadow.val = some q) :
    exec (.seqValidationDone u) s = .next (finish (seqReject u q s)) := by
  simp [exec, execSeqValidationDone, done, hreq, hwait, hc]

theorem exec_seqValidationDone_pass {s : State} {u : ConvId} (hreq : (s.conv u).swapReq = true)
    (hwait : (s.conv u).swapWait = none) (hc : seqCheck u (s.conv u).shadow.val = none) :
    exec (.seqValidationDone u) s
      = .next (finish (s.updConv u (fun v => { v with swapWait := some v.swapAt, seqNext := v.shadow }))) := by
  simp [exec, execSeqValidationDone, done, hreq, hwait, hc]

theorem exec_adcUrgentRequest {s : State} (hr : s.fwRuns = true) (c : Nat) :
    exec (.adcUrgentRequest c) s = .next (finish (urgentRequest c s)) := by
  simp [exec, execAdcUrgentRequest, done, hr]

theorem seqReject_apart (u q : Nat) (s : State) : (seqReject u q s).apart = (s.updConv u (fun v => { v with
    swapReq := v.swapAgain == some s.clk.now, swapAgain := none, seqFail := true, swapAt := seqSwapPace s })).apart := by
  rw [seqReject, noteSet_apart, raise_apart]

/-- A rejected sequence is reported with its converter and slot. -/
theorem seqReject_raised {s : State} (hf : s.evt.fresh = []) (u q : Nat) :
    Raised 0x0A21 u [BitVec.ofNat 8 q] (finish (seqReject u q s)) := by
  refine ⟨_, { code := 0x0A21, source := u, stage := s.clk.stage, data := [BitVec.ofNat 8 q], moment := s.clk.now },
    ?_, rfl, rfl, rfl, rfl⟩
  rw [seqReject, raise_of_no_fresh (by exact hf)]
  exact List.mem_singleton_self _

theorem urgentRequest_queued {c : Nat} {s : State} (hc : c < 312)
    (hq : ((convTo (c % 16) s.clk.now s).conv (c % 16)).urgQ.length < 4) :
    urgentRequest c s = (convTo (c % 16) s.clk.now s).updConv (c % 16) (fun v => { v with urgQ := v.urgQ ++ [c] }) := by
  simp [urgentRequest, hc, hq]

theorem urgentRequest_dropped {c : Nat} {s : State}
    (h : 312 ≤ c ∨ 4 ≤ ((convTo (c % 16) s.clk.now s).conv (c % 16)).urgQ.length) :
    (urgentRequest c s).apart
      = ((convTo (c % 16) s.clk.now s).updConv (c % 16) (fun v => { v with urgDrop := true })).apart := by
  rw [urgentRequest, if_pos (by simpa using h), noteSet_apart]

/-- Settles O33: the request converter by converter, the two ends of a validation, and the urgent queue. -/
theorem adcSequences : Obligations.AdcSequences := by
  unfold Obligations.AdcSequences
  intro s
  refine ⟨fun mask hr => ⟨_, exec_seqSwap hr mask, fun u hu => ?_, ?_⟩, fun u hreq hwait => ⟨fun q hc hf =>
    ⟨_, exec_seqValidationDone_reject hreq hwait hc, ?_, seqReject_raised hf u q⟩, fun hc =>
    ⟨_, exec_seqValidationDone_pass hreq hwait hc, finish_apart _⟩⟩, fun c w hr hw => ⟨fun hc hq =>
    ⟨_, exec_adcUrgentRequest hr c, ?_⟩, fun h => ⟨_, exec_adcUrgentRequest hr c, ?_⟩⟩⟩
  · rw [State.conv, finish_convs]
    exact seqSwapRequest_conv mask.toNat s hu
  · rw [finish_apart, finish_convs]
    exact seqSwapRequest_apart mask.toNat s
  · rw [finish_apart, seqReject_apart]
    rfl
  · subst hw
    rw [finish_apart, urgentRequest_queued hc hq]
  · subst hw
    rw [finish_apart, urgentRequest_dropped h]

end Sys2Proof.Machine
end

section
/-! SUPPORT. The life of a caravan: open, members, commit and abort (R241 to R247, R250, R251, R258, R259). -/

namespace Sys2Proof.Machine

/-! ### Records -/

@[simp] theorem updRec_apart (k : Nat) (f : CvnRec → CvnRec) (s : State) : (updRec k f s).apart = s.apart := rfl

theorem updRec_calm (k : Nat) (f : CvnRec → CvnRec) (s : State) : (updRec k f s).calm = s.calm := rfl

@[simp] theorem cvnAbort_apart (k c : Nat) (s : State) : (cvnAbort k c s).apart = s.apart := rfl

/-- At the end of a command that has changed record `k` alone, with no packet to reject, the record is as changed and the others
are as before. -/
theorem finish_rec {s u : State} {k : Nat} (hk : k < 4) (f : CvnRec → CvnRec) (hu : u.cvn.recs = s.cvn.recs.modify k f)
    (hc : u.calm = true) : (finish u).cvn.recs.get k = f (s.cvn.recs.get k) ∧
      ∀ j, j ≠ k → (finish u).cvn.recs.get j = s.cvn.recs.get j := by
  rw [finish_cvn hc, hu]
  exact ⟨Tab.get_modify_same _ _ _ hk, fun j hj => Tab.get_modify_other _ _ _ _ hj.symm⟩

/-- The same where the packet that changes the record is answered and changes nothing else. -/
theorem effect_answered {s u : State} {k : Nat} (hk : k < 4) (f : CvnRec → CvnRec) (hu : u.cvn.recs = s.cvn.recs.modify k f)
    (ha : u.apart = s.apart) (hc : u.calm = true) (p : Packet) (op : Nat) (st : Status) (d : List Byte) :
    (finish (reply p op st d u)).cvn.recs.get k = f (s.cvn.recs.get k) ∧
    (∀ j, j ≠ k → (finish (reply p op st d u)).cvn.recs.get j = s.cvn.recs.get j) ∧
    (finish (reply p op st d u)).apart = s.apart := by
  have h := finish_rec (s := s) (u := reply p op st d u) hk f (by rw [reply_cvn, hu]) (reply_calm p op st d hc)
  exact ⟨h.1, h.2, by rw [finish_apart, reply_apart, ha]⟩

/-! ### CARAVAN_OPEN (R241 to R244) -/

/-- The record that CARAVAN_OPEN writes: Open, without items, its time-out as given or 256 (R243). -/
def openedRec (l : List Byte) (stage : Nat) : CvnRec :=
  { id := BitVec.ofNat 16 (field l 0 2), st := .open_, timeout := if field l 2 2 = 0 then 256 else field l 2 2, lastArr := stage }

theorem openedRec_id (l : List Byte) (stage : Nat) : (openedRec l stage).id.toNat = field l 0 2 := by
  rw [openedRec, BitVec.toNat_ofNat]
  exact Nat.mod_eq_of_lt (field_lt l 0 2)

theorem exec_caravanOpen {p : Packet} {s : State} {k : Nat} (h : s.ready p = true) (hl : p.payload.length = 16)
    (h0 : field p.payload 0 2 ≠ 0) (hn : field p.payload 0 2 ≠ 0xFFFF) (hz : zeros p.payload 4 12 = true)
    (hi : idHeld s (field p.payload 0 2) = false) (ho : openRecord s (field p.payload 0 2) = some k) :
    ∃ d, exec (.caravanOpen p) s
      = .next (finish (reply p 0x0401 .ok d (updRec k (fun _ => openedRec p.payload s.clk.stage) s.took))) := by
  have hk : k = (openRecord s.took (field p.payload 0 2)).getD 0 := (congrArg (Option.getD · 0) ho).symm
  rw [exec, execCaravanOpen, inTurn_of_ready h, hk]
  rw [command_effect (fwRuns_of_ready h) (by simp [firstFail, idReserved, hl, h0, hn, hz, hi, ho])]
  exact ⟨_, rfl⟩

/-! ### CARAVAN_COMMIT (R250, R251) -/

/-- The record that a commit leaves: Committed for its edge, with the command to be answered (R250, R251). -/
def committedRec (p : Packet) (edge order : Nat) (r : CvnRec) : CvnRec :=
  { r with st := .committed, tag := some p, targeted := (field p.payload 2 1).testBit 0, edge, order, passed := false
           bind := if (field p.payload 2 1).testBit 1 then some (field p.payload 3 1) else none }

/-- The edge of a commit: the one it targets, else the first whose cut-off it meets (R250, R251). -/
def commitEdge (p : Packet) (s : State) : Nat :=
  if (field p.payload 2 1).testBit 0 then field p.payload 4 6 else firstEdge s

/-- The place of a commit in the order of commits and aborts is taken (R251). -/
def nextOrder (s : State) : State := { s with cvn := { s.cvn with order := s.cvn.order + 1 } }

theorem nextOrder_apart (s : State) : (nextOrder s).apart = s.apart := rfl

theorem nextOrder_calm {s : State} (hc : s.calm = true) : (nextOrder s).calm = true := hc

/-- A commit whose edge can still be met commits its record. -/
theorem commitRecord_eq {p : Packet} {s : State} {k : Nat}
    (he : (field p.payload 2 1).testBit 0 = true → firstEdge s ≤ field p.payload 4 6) :
    ∃ order, commitRecord p k s = setDue p (commitEdge p s + 1) (updRec k (committedRec p (commitEdge p s) order)
      (markEffect p .hardware (nextOrder s))) := by
  refine ⟨s.cvn.order + 1, ?_⟩
  have hlate : ((field p.payload 2 1).testBit 0 && decide (commitEdge p s < firstEdge s)) = false := by
    cases ht : (field p.payload 2 1).testBit 0 with
    | false => rfl
    | true => simpa [commitEdge, ht] using he ht
  exact if_neg (by rw [Bool.not_eq_true]; exact hlate)

/-- A commit of an Open record that is legal and that no member packet is ahead of takes effect. -/
theorem exec_caravanCommit {p : Packet} {s : State} {k : Nat} (h : s.ready p = true) (hl : p.payload.length = 16)
    (ha : memberAhead s p (field p.payload 0 2) = false) (hf : cvnFind s (field p.payload 0 2) = some k)
    (ho : (s.cvn.recs.get k).st = .open_) (hg : commitLegal s p.payload = true) :
    exec (.caravanCommit p) s = .next (finish (commitRecord p k s.took)) := by
  have hf' : (cvnFind s.took (field p.payload 0 2)).getD 0 = k := congrArg (Option.getD · 0) hf
  have hst : (cvnFind s (field p.payload 0 2)).map (fun k => (recAt s k).st) = some .open_ := by rw [hf, ← ho]; rfl
  rw [exec, execCaravanCommit, inTurn_of_ready h]
  dsimp only
  rw [ha, hst, if_neg Bool.false_ne_true, command_effect (fwRuns_of_ready h) (by simp [firstFail, hl, hg]), hf']

theorem markEffect_calm (p : Packet) (e : Effect) {s : State} (hc : s.calm = true) : (markEffect p e s).calm = true :=
  calm_of_inflight_map _ (fun x => by split <;> rfl) rfl hc

theorem setDue_calm (p : Packet) (d : Nat) {s : State} (hc : s.calm = true) : (setDue p d s).calm = true :=
  calm_of_inflight_map _ (fun x => by split <;> rfl) rfl hc

/-- At the end of such a commit its record is Committed, and nothing else has changed. -/
theorem finish_commitRecord {p : Packet} {s : State} {k : Nat} (hk : k < 4) (hc : s.calm = true)
    (he : (field p.payload 2 1).testBit 0 = true → firstEdge s ≤ field p.payload 4 6) :
    (∃ order, (finish (commitRecord p k s)).cvn.recs.get k = committedRec p (commitEdge p s) order (s.cvn.recs.get k)) ∧
    (∀ j, j ≠ k → (finish (commitRecord p k s)).cvn.recs.get j = s.cvn.recs.get j) ∧
    (finish (commitRecord p k s)).apart = s.apart := by
  obtain ⟨order, hcommit⟩ := commitRecord_eq (k := k) he
  rw [hcommit]
  have hmark := markEffect_calm p .hardware (nextOrder_calm hc)
  have hcalm := setDue_calm p (commitEdge p s + 1) ((updRec_calm k (committedRec p (commitEdge p s) order) _).trans hmark)
  obtain ⟨hrec, hother⟩ := finish_rec (s := s) hk (committedRec p (commitEdge p s) order) rfl hcalm
  exact ⟨⟨order, hrec⟩, hother, by rw [finish_apart, setDue_apart, updRec_apart, markEffect_apart, nextOrder_apart]⟩

/-! ### CARAVAN_ABORT (R258, R259) -/

/-- The record that an abort leaves: its items are discarded and counted (R258, R259). -/
def abortedRec (cause order : Nat) (r : CvnRec) : CvnRec :=
  { r with st := .aborted, count := r.items.length, items := [], edge := 0, cause, order, tag := none, passed := false }

theorem cvnAbort_recs (k cause : Nat) (s : State) :
    (cvnAbort k cause s).cvn.recs = s.cvn.recs.modify k (abortedRec cause s.cvn.order) := rfl

/-- An abort of an Open record is answered. -/
theorem exec_caravanAbort {p : Packet} {s : State} {k : Nat} (h : s.ready p = true) (hl : p.payload.length = 16)
    (ha : memberAhead s p (field p.payload 0 2) = false) (hf : cvnFind s (field p.payload 0 2) = some k)
    (ho : (s.cvn.recs.get k).st = .open_) (hz : zeros p.payload 2 14 = true) (hn : field p.payload 0 2 ≠ 0xFFFF) :
    exec (.caravanAbort p) s = .next (finish (reply p 0x0404 .ok [] (cvnAbort k 1 s.took))) := by
  have hst : (recAt s k).st = .open_ := ho
  rw [exec, execCaravanAbort, inTurn_of_ready h]
  dsimp only
  rw [ha, hf, Option.getD_some, hst, if_neg Bool.false_ne_true,
    command_effect (fwRuns_of_ready h) (by simp [firstFail, hl, hz, idNone, hn])]

/-- An abort that names the reserved id is rejected (R8). -/
theorem exec_caravanAbort_reserved {p : Packet} {s : State} (h : s.ready p = true) (hl : p.payload.length = 16)
    (ha : memberAhead s p (field p.payload 0 2) = false) (hn : field p.payload 0 2 = 0xFFFF) :
    exec (.caravanAbort p) s = .next (finish (reply p 0x0404 .badParam [] s)) := by
  rw [exec, execCaravanAbort, inTurn_of_ready h]
  dsimp only
  rw [ha, if_neg Bool.false_ne_true, command_rejects (st := .badParam) (fwRuns_of_ready h) (by simp [firstFail, hl, idNone, hn])]

/-! ### Members (R245 to R248) -/

/-- A member packet that names the reserved id is rejected (R8). -/
theorem exec_caravanMember_reserved {p : Packet} {s : State} (h : s.ready p = true) (op : Nat) :
    exec (.caravanMember p op 0xFFFF) s = .next (finish (reply p op .badParam [] s)) := by
  rw [exec, execCaravanMember, inTurn_of_ready h]
  simp [fwRuns_of_ready h, idNone, done]

/-- The items of a record with those of a member packet staged (R246, R249). -/
def stagedItems (op : Nat) (l : List Byte) (items : List Item) : List Item :=
  (memberActs op l).foldl (fun is a => stageItem { opcode := op, act := a } is) items

/-- The record that a member packet leaves: the items staged and counted, the arrival noted (R244, R246). -/
def stagedRec (items : List Item) (stage : Nat) (r : CvnRec) : CvnRec := { r with items, count := items.length, lastArr := stage }

/-- A member packet that passes its checks is staged in the Open record it names and answered with the items added and held, or
fails if the record would hold more than 1,024 (R245 to R248). -/
theorem exec_caravanMember {p : Packet} {op id k : Nat} {s : State} {items : List Item} (h : s.ready p = true) (hn : id ≠ 0xFFFF)
    (hj : mayJoin op p.payload = true) (hc : firstFail (memberChecks s op p.payload) = none) (hf : cvnFind s id = some k)
    (ho : (s.cvn.recs.get k).st = .open_) (hi : items = stagedItems op p.payload (s.cvn.recs.get k).items) :
    (items.length ≤ 1024 → exec (.caravanMember p op id) s = .next (finish (reply p op .ok
      (leBytes 2 id ++ leBytes 2 (items.length - (s.cvn.recs.get k).items.length) ++ leBytes 2 items.length)
      (updRec k (stagedRec items s.clk.stage) s)))) ∧
    (1024 < items.length → exec (.caravanMember p op id) s = .next (finish (reply p op .badParam [] (cvnAbort k 3 s)))) := by
  have hst : (recAt s k).st = .open_ := ho
  have hall : firstFail ((!mayJoin op p.payload, Status.badState) :: memberChecks s op p.payload) = none := by
    simp [firstFail, hj, hc]
  have hfails : memberFails id .badParam 3 s = (.badParam, cvnAbort k 3 s) := by simp [memberFails, hf, ho]
  subst hi
  rw [exec, execCaravanMember, inTurn_of_ready h]
  dsimp only
  rw [hall, hf]
  dsimp only
  rw [hst]
  simp only [fwRuns_of_ready h, idNone, hn, hfails]
  refine ⟨fun hle => ?_, fun hlt => ?_⟩
  · exact if_neg (Nat.not_lt.2 hle)
  · exact if_pos hlt

/-- Settles O48: what each of the four packets leaves of its record, with the end of the command by `effect_answered`. -/
theorem caravanLife : Obligations.CaravanLife := by
  unfold Obligations.CaravanLife
  refine ⟨fun p s id k h hc hl hid hk => ?_, fun p op id k s items h hc hk hn hj hchk hf ho hi => ⟨fun hle => ?_, fun hlt => ?_⟩⟩
  · subst hid
    refine ⟨fun h0 hn hz hheld hopen => ?_, fun ha hf ho hg he => ?_, fun ha hf ho hz hn => ?_, fun ha hn => ⟨?_, fun op => ?_⟩⟩
    · obtain ⟨d, hexec⟩ := exec_caravanOpen h hl h0 hn hz hheld hopen
      obtain ⟨hrec, hother, hapart⟩ := effect_answered hk (fun _ => openedRec p.payload s.clk.stage)
        (u := updRec k (fun _ => openedRec p.payload s.clk.stage) s.took) (s := s) rfl rfl hc p 0x0401 .ok d
      refine ⟨_, hexec, ?_, ?_, ?_, ?_, ?_, hother, hapart⟩ <;> rw [hrec]
      · rfl
      · exact openedRec_id _ _
      · rfl
      · rfl
      · rfl
    · obtain ⟨⟨order, hrec⟩, hother, hapart⟩ := finish_commitRecord (s := s.took) hk (took_calm hc) he
      refine ⟨_, exec_caravanCommit h hl ha hf ho hg, ?_, ?_, ?_, ?_, ?_, hother, hapart.trans (took_apart s)⟩
      all_goals rw [hrec]; rfl
    · obtain ⟨hrec, hother, hapart⟩ := effect_answered hk (abortedRec 1 s.cvn.order) (cvnAbort_recs k 1 s.took)
        (cvnAbort_apart k 1 s.took) (took_calm hc) p 0x0404 .ok []
      refine ⟨_, exec_caravanAbort h hl ha hf ho hz hn, ?_, ?_, ?_, hother, answered_finish _ _ _ _ _ _ rfl rfl rfl rfl rfl, hapart⟩
      all_goals rw [hrec]; rfl
    · exact ⟨_, exec_caravanAbort_reserved h hl ha hn, answered_rejected _ _ _ _⟩
    · rw [hn]
      exact ⟨_, exec_caravanMember_reserved h op, answered_rejected _ _ _ _⟩
  · obtain ⟨hrec, hother, hapart⟩ := effect_answered hk (stagedRec items s.clk.stage)
      (u := updRec k (stagedRec items s.clk.stage) s) (s := s) rfl rfl hc p op .ok
      (leBytes 2 id ++ leBytes 2 (items.length - (s.cvn.recs.get k).items.length) ++ leBytes 2 items.length)
    refine ⟨_, (exec_caravanMember h hn hj hchk hf ho hi).1 hle, ?_, ?_, ?_, hother,
      answered_finish _ _ _ _ _ _ rfl rfl rfl rfl rfl, hapart⟩ <;> rw [hrec]
    · rfl
    · exact ho
    · rfl
  · obtain ⟨hrec, -, hapart⟩ := effect_answered hk (abortedRec 3 s.cvn.order) (cvnAbort_recs k 3 s) (cvnAbort_apart k 3 s) hc
      p op .badParam []
    refine ⟨_, (exec_caravanMember h hn hj hchk hf ho hi).2 hlt, ?_, ?_, answered_finish _ _ _ _ _ _ rfl rfl rfl rfl rfl, hapart⟩
    all_goals rw [hrec]; rfl

end Sys2Proof.Machine
end

section
/-! SUPPORT. The evaluation of the control engine at cycle 512 (R29, R42, R45, R173, R174): what the time up to it leaves, the
lane times, and the state that the evaluation leaves. -/

namespace Sys2Proof.Machine

/-! ### What falls in a later cycle leaves the engine, the deadline status and the edge cycle as they are -/

/-- What an evaluation reads of the state at its cycle: the engine, the deadline status, and whether an edge cycle still owes the
boundary of p0. -/
def State.evalView (s : State) : Eng × Dl × Bool := (s.eng, s.dl, s.clk.p0Pending)

theorem evalView_eq_iff {s t : State} :
    s.evalView = t.evalView ↔ s.eng = t.eng ∧ s.dl = t.dl ∧ s.clk.p0Pending = t.clk.p0Pending := by
  simp [State.evalView]

theorem evalView_of_apart {s t : State} (h : s.apart = t.apart) : s.evalView = t.evalView := by
  have hview : s.apart.evalView = t.apart.evalView := congrArg State.evalView h
  exact hview

theorem forEach_evalView {α : Type} {f : α → State → State} (h : ∀ a s, (f a s).evalView = s.evalView) (l : List α) (s : State) :
    (forEach l f s).evalView = s.evalView :=
  forEach_keeps State.evalView f h l s

@[simp] theorem soonIn_evalView (k : Nat) (w : Soon) (s : State) : (soonIn k w s).evalView = s.evalView := rfl

@[simp] theorem updPh_evalView (i : Nat) (f : Phase → Phase) (s : State) : (s.updPh i f).evalView = s.evalView := rfl

@[simp] theorem updGrp_evalView (g : Nat) (f : Group → Group) (s : State) : (s.updGrp g f).evalView = s.evalView := rfl

@[simp] theorem updCl_evalView (n : Nat) (f : Cluster → Cluster) (s : State) : (s.updCl n f).evalView = s.evalView := rfl

@[simp] theorem updCell_evalView (i : Nat) (f : Cell → Cell) (s : State) : (s.updCell i f).evalView = s.evalView := rfl

@[simp] theorem raise_evalView (c k : Nat) (d : List Byte) (s : State) : (raise c k d s).evalView = s.evalView :=
  evalView_of_apart (raise_apart c k d s)

@[simp] theorem ripTo_evalView (g : Nat) (s : State) : (ripTo g s).evalView = s.evalView := by
  unfold ripTo
  dsimp only
  split
  · rfl
  · rw [forEach_evalView (fun _ _ => updPh_evalView _ _ _), updGrp_evalView, updGrp_evalView]

@[simp] theorem refreshOn_evalView (g : Nat) (s : State) : (refreshOn g s).evalView = s.evalView := ripTo_evalView g s

@[simp] theorem unparkAll_evalView (g : Nat) (s : State) : (unparkAll g s).evalView = s.evalView := rfl

@[simp] theorem startPulse_evalView (g i : Nat) (s : State) : (startPulse g i s).evalView = s.evalView := ripTo_evalView g s

@[simp] theorem pulseOrWait_evalView (g : Nat) (s : State) : (pulseOrWait g s).evalView = s.evalView := by
  unfold pulseOrWait
  split
  · exact startPulse_evalView g _ s
  · dsimp only
    split <;> rfl

@[simp] theorem pulseDue_evalView (g : Nat) (s : State) : (pulseDue g s).evalView = s.evalView := by
  unfold pulseDue
  split
  · exact pulseOrWait_evalView g s
  · rfl

@[simp] theorem endPulse_evalView (i : Nat) (s : State) : (endPulse i s).evalView = s.evalView := by
  unfold endPulse
  dsimp only
  split <;> simp

@[simp] theorem inhibitDue_evalView (i : Nat) (s : State) : (inhibitDue i s).evalView = s.evalView := by
  unfold inhibitDue
  dsimp only
  split
  · rfl
  · split <;> simp

@[simp] theorem disablePhase_evalView (i : Nat) (c : PhCause) (s : State) : (disablePhase i c s).evalView = s.evalView := by
  unfold disablePhase
  split
  · rfl
  · exact ripTo_evalView _ s

@[simp] theorem disableDue_evalView (i : Nat) (c : PhCause) (s : State) : (disableDue i c s).evalView = s.evalView := by
  unfold disableDue
  dsimp only
  split
  · exact disablePhase_evalView i c s
  · rfl

@[simp] theorem phaseLoss_evalView (i : Nat) (c : PhCause) (s : State) : (phaseLoss i c s).evalView = s.evalView := by
  unfold phaseLoss
  dsimp only
  split <;> split <;> simp

@[simp] theorem calSettle_evalView (n : Nat) (s : State) : (calSettle n s).evalView = s.evalView := by
  unfold calSettle
  dsimp only
  split
  · rw [updCl_evalView, forEach_evalView]
    intro i u
    split
    · exact updCell_evalView i _ u
    · rfl
  · rfl

@[simp] theorem chargeEnded_evalView (n : Nat) (s : State) : (chargeEnded n s).evalView = s.evalView := by
  unfold chargeEnded
  dsimp only
  split
  · rfl
  · split <;> rfl

@[simp] theorem blwFaulted_evalView (n c : Nat) (s : State) : (blwFaulted n c s).evalView = s.evalView := by
  unfold blwFaulted
  dsimp only
  split
  · rfl
  · split <;> rfl

@[simp] theorem stretchHigh_evalView (n stage : Nat) (d : List Byte) (s : State) :
    (stretchHigh n stage d s).evalView = s.evalView := by
  unfold stretchHigh
  split
  · rfl
  · exact evalView_of_apart (raiseEv_apart _ _)

theorem fallNow_evalView (w : Soon) (s : State) : (fallNow w s).evalView = s.evalView := by
  cases w with
  | refresh r => exact forEach_evalView refreshOn_evalView _ s
  | tickLow => rfl
  | unpark g => rfl
  | raiseEn g => rfl
  | pulse g => exact pulseDue_evalView g s
  | inhibit i => exact inhibitDue_evalView i s
  | disable i c => exact disableDue_evalView i c s
  | loss i c => exact phaseLoss_evalView i c s
  | calSettle n => exact calSettle_evalView n s
  | fireEnd n => rfl
  | chargeEnd n => exact chargeEnded_evalView n s
  | blwFault n c => exact blwFaulted_evalView n c s
  | stretchHigh n st d => exact stretchHigh_evalView n st d s
  | masks op m cs => rfl

theorem fallTo_evalView (t : Nat) : ∀ (fuel : Nat) (s : State), (fallTo t fuel s).evalView = s.evalView
  | 0, _ => rfl
  | fuel + 1, s => by
    unfold fallTo
    split
    · rfl
    · next e _ =>
      have hfall (u : State) : (boostCheck (fallNow e.what u)).evalView = u.evalView :=
        (evalView_of_apart (boostCheck_apart _)).trans (fallNow_evalView e.what u)
      dsimp only
      rw [fallTo_evalView t fuel]
      split
      · exact hfall _
      · exact (evalView_of_apart (enterEvents_apart _)).trans (hfall _)

theorem passTo_evalView (t : Nat) (s : State) : (passTo t s).evalView = s.evalView := by
  unfold passTo
  split
  · rfl
  · exact fallTo_evalView t _ s

/-- The moment of a timed command finds the engine, the deadline status and the edge cycle as they were. -/
theorem reach_evalView {due : Nat} {s u : State} (h : reach due s = some u) : u.evalView = s.evalView := by
  unfold reach at h
  split at h
  · rw [Option.some.inj h]
  · split at h
    · rw [← Option.some.inj h, passTo_evalView]
    · simp at h

/-! ### Lane times (R172, R173) -/

/-- The slots latched with the cycles in which their results are complete. -/
def laneEnds (s : State) : List (Nat × Nat) := s.eng.inputs.map (fun i => (i.slot, stalled s.eng.stalls i.lane i.last + 5))

/-- Those that run past the budget of 512 cycles. -/
def overruns (s : State) : List (Nat × Nat) := (laneEnds s).filter (fun x => decide (512 < x.2))

theorem overruns_eq_nil_iff {s : State} :
    overruns s = [] ↔ ∀ i ∈ s.eng.inputs, stalled s.eng.stalls i.lane i.last + 5 ≤ 512 := by
  simp [overruns, laneEnds, List.filter_eq_nil_iff]

/-- The latest cycle of a list of lane times. -/
def latest (l : List (Nat × Nat)) : Nat := l.foldl (fun m x => max m x.2) 0

theorem le_foldl_max_snd : ∀ (l : List (Nat × Nat)) (m : Nat),
    m ≤ l.foldl (fun m x => max m x.2) m ∧ ∀ x ∈ l, x.2 ≤ l.foldl (fun m x => max m x.2) m
  | [], m => ⟨le_rfl, by simp⟩
  | y :: l, m => by
    obtain ⟨hstart, hall⟩ := le_foldl_max_snd l (max m y.2)
    refine ⟨(le_max_left _ _).trans hstart, fun x hx => ?_⟩
    rcases List.mem_cons.1 hx with rfl | hx
    · exact (le_max_right _ _).trans hstart
    · exact hall x hx

theorem laneEnd_le_latest {s : State} {i : EngIn} (hi : i ∈ s.eng.inputs) :
    stalled s.eng.stalls i.lane i.last + 5 ≤ latest (laneEnds s) :=
  (le_foldl_max_snd (laneEnds s) 0).2 _ (List.mem_map_of_mem (f := fun i => (i.slot, stalled s.eng.stalls i.lane i.last + 5)) hi)

/-! ### The state that the evaluation leaves (R45, R170, R173, R174) -/

/-- LAST_CYCLE: the latest lane time, or 1023 after an overrun. -/
def evalLast (s : State) : Nat := if (overruns s).isEmpty then latest (laneEnds s) else 1023

/-- The engine after the evaluation. -/
def evaluatedEng (parity : List Nat) (s : State) : Eng :=
  { s.eng with
    slots := s.eng.inputs.foldl (fun t i => engineSlot (activeBank s) s.eng.stalls parity i t)
      (s.eng.slots.map (fun st => { st with held := false }))
    inputs := [], lastCycle := evalLast s, maxCycle := max s.eng.maxCycle (evalLast s)
    ovrSlot := match overruns s with | x :: _ => x.1 | [] => s.eng.ovrSlot }

/-- The engine has evaluated, and each slot with a parity error has raised its event. -/
def evaluatedFits (parity : List Nat) (s : State) : State :=
  forEach (s.eng.inputs.filter (fun i => parity.contains i.slot)) (fun i => raisePeriod 0x0113 i.slot [])
    { s with eng := evaluatedEng parity s }

/-- An evaluation that has run past the budget counts a miss as well. -/
def missCounted (s : State) : State := { s with dl := { s.dl with engineMisses := min 65535 (s.dl.engineMisses + 1) } }

/-- The deadline status after an overrun: the ENGINE bit and the count (R45). -/
def missedDl (d : Dl) : Dl := { d with status := d.status ||| 1#8, engineMisses := min 65535 (d.engineMisses + 1) }

theorem missedDl_engineBit (d : Dl) : (missedDl d).status.getLsbD 0 = true := by simp [missedDl]

/-- The effect of ENGINE_EVAL_DEADLINE. -/
def evaluated (parity : List Nat) (s : State) : State :=
  match overruns s with
  | [] => evaluatedFits parity s
  | x :: _ => dlSet 0 (raiseMiss 0x0110 x.1 (leBytes 2 (overruns s).length ++ leBytes 2 s.eng.stalls.length)
      (missCounted (evaluatedFits parity s)))

theorem exec_engineEvalDeadline {parity : List Nat} {s u : State} (hrun : s.clk.running = true) (hp : u.clk.p0Pending = false)
    (hu : reach (s.clk.paceStart + 512) s = some u) :
    exec (.engineEvalDeadline parity) s = .next (tick (finish (evaluated parity u))) := by
  have harm : exec (.engineEvalDeadline parity) s
      = if !s.clk.running then idle s else lapseAt (s.clk.paceStart + 512) (evaluated parity) s := rfl
  rw [harm, lapseAt, hu]
  simp [hrun, lapse, hp]

theorem evaluatedFits_apart (parity : List Nat) (s : State) :
    (evaluatedFits parity s).apart = ({ s with eng := evaluatedEng parity s } : State).apart :=
  forEach_keeps State.apart _ (fun _ _ => raisePeriod_apart _ _ _ _) _ _

/-- An evaluation within the budget changes the engine alone. -/
theorem evaluated_apart_of_fits (parity : List Nat) {s : State} (h : overruns s = []) :
    (evaluated parity s).apart = ({ s with eng := evaluatedEng parity s } : State).apart := by
  rw [evaluated, h]
  exact evaluatedFits_apart parity s

/-- One that has run past it counts its miss and sets the ENGINE bit (R45). -/
theorem evaluated_apart_of_overrun (parity : List Nat) {s : State} (h : overruns s ≠ []) :
    (evaluated parity s).apart = ({ s with eng := evaluatedEng parity s, dl := missedDl s.dl } : State).apart := by
  obtain ⟨x, l, hx⟩ := List.exists_cons_of_ne_nil h
  rw [evaluated, hx]
  have hmiss : (raiseMiss 0x0110 x.1 (leBytes 2 (x :: l).length ++ leBytes 2 s.eng.stalls.length)
      (missCounted (evaluatedFits parity s))).apart = (missCounted { s with eng := evaluatedEng parity s }).apart :=
    (raiseMiss_apart _ _ _ _).trans (congrArg missCounted (evaluatedFits_apart parity s))
  exact congrArg (fun t : State => { t with dl := { t.dl with status := t.dl.status ||| 1#8 } }) hmiss

/-- Settles O30: the time up to cycle 512 leaves what the evaluation reads, and its effect is known for each of the two ways it
can end. -/
theorem engineEvaluation : Obligations.EngineEvaluation := by
  unfold Obligations.EngineEvaluation
  intro parity s u hrun hp0 hu
  obtain ⟨heng, hdl, hp⟩ := evalView_eq_iff.1 (reach_evalView hu)
  refine ⟨_, exec_engineEvalDeadline hrun (hp.trans hp0) hu, ?_⟩
  rw [finish_apart, finish_eng, finish_dl, ← heng, ← hdl]
  by_cases h : overruns u = []
  · have ha := evaluated_apart_of_fits parity h
    obtain ⟨he, hd, -⟩ := evalView_eq_iff.1 (evalView_of_apart ha)
    rw [ha, he, hd]
    refine ⟨rfl, rfl, fun ⟨i, hi, hlt⟩ => ?_, fun _ => ⟨rfl, ?_, fun i hi => ?_⟩⟩
    · exact absurd (overruns_eq_nil_iff.1 h i hi) (Nat.not_le.2 hlt)
    · simp [evaluatedEng, h]
    · simpa [evaluatedEng, evalLast, h] using laneEnd_le_latest hi
  · have ha := evaluated_apart_of_overrun parity h
    obtain ⟨he, hd, -⟩ := evalView_eq_iff.1 (evalView_of_apart ha)
    rw [ha, he, hd]
    have hlast : evalLast u = 1023 := by simp [evalLast, h]
    exact ⟨rfl, rfl, fun _ => ⟨missedDl_engineBit u.dl, rfl, hlast⟩, fun hall => absurd (overruns_eq_nil_iff.2 hall) h⟩

end Sys2Proof.Machine
end

section
/-! SUPPORT. The stage frame: a state whose tick is to fall in the edge cycle itself (R31, R36). -/

namespace Sys2Proof.Machine

/-- The stage generator runs in the last pace of a stage, and the tick is to fall in the cycle in which the stage ends. -/
def tickFallsAtEdge : State :=
  { clk := { running := true, now := 9600, paceStart := 9600, pace := 15, soon := [{ due := 10240, what := .tickLow }] }
    sys := { porHigh := true, pwrReq := true, island := .up, chip := .run } }

/-- The tick in the state that a command answers. -/
def tickAfter : Host.Outcome State Fault Refusal → Option Bool
  | .next t => some t.clk.tick
  | _ => none

/-- The edge drives the tick (R31), and the protections of the same cycle, which let fall what is due in it, lower it again. -/
theorem tick_low_after_stageEdge : tickAfter (exec (.stageEdge ⟨none, []⟩) tickFallsAtEdge) = some false := by decide +kernel

/-- Refutes O16: of STAGE_EDGE it claims for every state that the tick is high after it; where a fall of the tick waits for the
edge cycle itself, it is low. The statement has no premise on what waits in `clk.soon`; that a run from reset comes to this state
is not claimed, since a stage opens with the fall of its tick ten cycles later. -/
theorem not_stageFrame : ¬ Obligations.StageFrame := by
  unfold Obligations.StageFrame
  intro h
  obtain ⟨hedge, -⟩ := h.1 tickFallsAtEdge rfl
  obtain ⟨t, hnext, -, -, -, -, -, -, -, htick, -⟩ := hedge none [] rfl rfl
  have hlow := tick_low_after_stageEdge
  rw [hnext] at hlow
  simp [tickAfter, htick] at hlow

end Sys2Proof.Machine
end

section
/-! SUPPORT. The queue of commands, first part: no shared operation and no operation of the rails' phases, the converters, the clusters and the
level sequencer touches the commands that wait. One lemma for each, in the order and under the name of the model's files. -/

namespace Sys2Proof.Machine

/-- The commands waiting in `t` are those waiting in `s`; a structure, which `simp` opens by `sameQueue_iff` alone. -/
structure SameQueue (s t : State) : Prop where
  pending_eq : t.pending = s.pending

@[simp] theorem sameQueue_iff {s t : State} : SameQueue s t ↔ t.pending = s.pending := ⟨SameQueue.pending_eq, SameQueue.mk⟩

@[simp] theorem ite_pending (c : Prop) [Decidable c] (a b : State) :
    (if c then a else b).pending = if c then a.pending else b.pending := apply_ite State.pending c a b

@[simp] theorem forEach_pending {α : Type} {f : α → State → State} (h : ∀ a s, SameQueue s (f a s)) (l : List α) (s : State) :
    (forEach l f s).pending = s.pending := forEach_keeps State.pending f (fun a s => (h a s).pending_eq) l s

@[simp] theorem foldl_pending {α : Type} {f : State → α → State} (h : ∀ s a, SameQueue s (f s a)) (l : List α) (s : State) :
    (l.foldl f s).pending = s.pending := foldl_keeps State.pending f (fun s a => (h s a).pending_eq) l s

/-- The same for a state carried along with a result. -/
theorem foldl_pair_pending {α β : Type} {f : α → β × State → β × State} (h : ∀ a x, (f a x).2.pending = x.2.pending) (l : List α)
    (x : β × State) : (l.foldl (fun x a => f a x) x).2.pending = x.2.pending := by
  induction l generalizing x with
  | nil => rfl
  | cons a l ih => exact (ih (f a x)).trans (h a x)

/-! ### Ops -/

@[simp] theorem raiseEv_pending (e : Event) (s : State) : (raiseEv e s).pending = s.pending := by simp [raiseEv]
@[simp] theorem raise_pending (code source : Nat) (data : List Byte) (s : State) :
    (raise code source data s).pending = s.pending := by simp [raise]
@[simp] theorem soonIn_pending (k : Nat) (w : Soon) (s : State) : (soonIn k w s).pending = s.pending := by simp [soonIn]
@[simp] theorem raisePeriod_pending (code source : Nat) (data : List Byte) (s : State) :
    (raisePeriod code source data s).pending = s.pending := by simp [raisePeriod]
@[simp] theorem raiseMiss_pending (code source : Nat) (data : List Byte) (s : State) :
    (raiseMiss code source data s).pending = s.pending := by simp [raiseMiss]
@[simp] theorem causeSet_pending (code : Nat) (s : State) : (causeSet code s).pending = s.pending := by simp [causeSet]
@[simp] theorem evTrace_pending (e : Event) (flags : Nat) (s : State) :
    (evTrace e flags s).pending = s.pending := by simp [evTrace]
@[simp] theorem evNumber_pending (e : Event) (s : State) : (evNumber e s).2.pending = s.pending := by simp [evNumber]
@[simp] theorem reportLost_pending (s : State) : (reportLost s).pending = s.pending := by simp [reportLost]
@[simp] theorem countLost_pending (code : Nat) (s : State) : (countLost code s).pending = s.pending := by simp [countLost]

@[simp] theorem evEnter_pending (e : Event) (s : State) : (evEnter e s).pending = s.pending := by
  unfold evEnter
  dsimp only
  repeat' split
  all_goals simp

@[simp] theorem postBoostEnd_pending (s : State) : (postBoostEnd s).pending = s.pending := by simp [postBoostEnd]
@[simp] theorem boostCheck_pending (s : State) :
    (boostCheck s).pending = s.pending := by unfold boostCheck; dsimp only; split <;> simp
@[simp] theorem rplTrace_pending (r : Reply) (s : State) : (rplTrace r s).pending = s.pending := by simp [rplTrace]
@[simp] theorem dma_pending (r : DmaReq) (s : State) : (dma r s).pending = s.pending := by simp [dma]
@[simp] theorem dmaRead_pending (addr beats most : Nat) (due : Option (Nat × Nat)) (s : State) :
    (dmaRead addr beats most due s).pending = s.pending := by simp [dmaRead]
@[simp] theorem ringReply_pending (r : Reply) (s : State) : (ringReply r s).pending = s.pending := by simp [ringReply]
@[simp] theorem mailboxReply_pending (r : Reply) (s : State) : (mailboxReply r s).pending = s.pending := by simp [mailboxReply]
@[simp] theorem putReply_pending (r : Reply) (s : State) :
    (putReply r s).pending = s.pending := by unfold putReply; split <;> simp
@[simp] theorem reply_pending (p : Packet) (opcode : Nat) (st : Status) (data : List Byte) (s : State) :
    (reply p opcode st data s).pending = s.pending := by simp [reply]
@[simp] theorem cvnAbort_pending (k cause : Nat) (s : State) : (cvnAbort k cause s).pending = s.pending := by simp [cvnAbort]

@[simp] theorem memberFails_pending (id : Nat) (st : Status) (cause : Nat) (s : State) :
    (memberFails id st cause s).2.pending = s.pending := by
  unfold memberFails
  repeat' split
  all_goals simp

@[simp] theorem enterEvents_pending (s : State) : (enterEvents s).pending = s.pending := by simp [enterEvents]
@[simp] theorem applyEventMask_pending (op catMask : Nat) (codes : List Nat) (s : State) :
    (applyEventMask op catMask codes s).pending = s.pending := by simp [applyEventMask]

/-! ### Voltage -/

@[simp] theorem feedUpdate_pending (s : State) : (feedUpdate s).pending = s.pending := by simp [feedUpdate]
@[simp] theorem retargetAll_pending (at_ : Nat) (s : State) : (retargetAll at_ s).pending = s.pending := by simp [retargetAll]
@[simp] theorem droneRecalc_pending (s : State) : (droneRecalc s).pending = s.pending := by simp [droneRecalc]
@[simp] theorem droneRide_pending (s : State) : (droneRide s).pending = s.pending := by simp [droneRide]

/-! ### Groups -/

@[simp] theorem ripTo_pending (g : Nat) (s : State) : (ripTo g s).pending = s.pending := by simp [ripTo]
@[simp] theorem refreshOn_pending (g : Nat) (s : State) : (refreshOn g s).pending = s.pending := by simp [refreshOn]
@[simp] theorem refreshRail_pending (r : Nat) (s : State) : (refreshRail r s).pending = s.pending := by simp [refreshRail]
@[simp] theorem unparkAll_pending (g : Nat) (s : State) : (unparkAll g s).pending = s.pending := by simp [unparkAll]
@[simp] theorem raiseEn_pending (g : Nat) (s : State) : (raiseEn g s).pending = s.pending := by simp [raiseEn]
@[simp] theorem unparkOne_pending (g : Nat) (s : State) :
    (unparkOne g s).pending = s.pending := by unfold unparkOne; split <;> simp
@[simp] theorem unparkAtPace_pending (g forecast : Nat) (s : State) :
    (unparkAtPace g forecast s).pending = s.pending := by simp [unparkAtPace]

@[simp] theorem shedAtEdge_pending (g forecast : Nat) (s : State) : (shedAtEdge g forecast s).pending = s.pending := by
  unfold shedAtEdge
  dsimp only
  repeat' split
  all_goals simp

@[simp] theorem phaseLoss_pending (i : Nat) (cause : PhCause) (s : State) :
    (phaseLoss i cause s).pending = s.pending := by simp [phaseLoss]
@[simp] theorem disablePhase_pending (i : Nat) (cause : PhCause) (s : State) :
    (disablePhase i cause s).pending = s.pending := by simp [disablePhase]
@[simp] theorem disableDue_pending (i : Nat) (cause : PhCause) (s : State) :
    (disableDue i cause s).pending = s.pending := by simp [disableDue]
@[simp] theorem judgeFlags_pending (l : List Nat) (s : State) : (judgeFlags l s).pending = s.pending := by simp [judgeFlags]
@[simp] theorem phaseSample_pending (i : Nat) (u : Int) (s : State) :
    (phaseSample i u s).pending = s.pending := by simp [phaseSample]
@[simp] theorem trimGroup_pending (g : Nat) (s : State) : (trimGroup g s).pending = s.pending := by simp [trimGroup]
@[simp] theorem phaseAverages_pending (s : State) : (phaseAverages s).pending = s.pending := by simp [phaseAverages]
@[simp] theorem groupCurrents_pending (s : State) : (groupCurrents s).pending = s.pending := by simp [groupCurrents]
@[simp] theorem startPulse_pending (g i : Nat) (s : State) : (startPulse g i s).pending = s.pending := by simp [startPulse]

@[simp] theorem pulseOrWait_pending (g : Nat) (s : State) : (pulseOrWait g s).pending = s.pending := by
  unfold pulseOrWait
  dsimp only
  repeat' split
  all_goals simp

@[simp] theorem pulseDue_pending (g : Nat) (s : State) : (pulseDue g s).pending = s.pending := by simp [pulseDue]
@[simp] theorem endPulse_pending (i : Nat) (s : State) : (endPulse i s).pending = s.pending := by simp [endPulse]
@[simp] theorem inhibitDue_pending (i : Nat) (s : State) : (inhibitDue i s).pending = s.pending := by simp [inhibitDue]

/-! ### Positions -/

@[simp] theorem convTo_pending (u t : Nat) (s : State) : (convTo u t s).pending = s.pending := by simp [convTo]
@[simp] theorem convsTo_pending (t : Nat) (s : State) : (convsTo t s).pending = s.pending := by simp [convsTo]
@[simp] theorem urgentRequest_pending (c : Nat) (s : State) : (urgentRequest c s).pending = s.pending := by simp [urgentRequest]
@[simp] theorem calFinish_pending (u result : Nat) (s : State) :
    (calFinish u result s).pending = s.pending := by unfold calFinish; dsimp only; split <;> simp
@[simp] theorem calAbandon_pending (s : State) : (calAbandon s).pending = s.pending := by simp [calAbandon]
@[simp] theorem convsStop_pending (s : State) : (convsStop s).pending = s.pending := by simp [convsStop]

/-! ### Ram -/

@[simp] theorem sealTile_pending (t : Nat) (bs : List Byte) (s : State) :
    (sealTile t bs s).pending = s.pending := by simp [sealTile]
@[simp] theorem markBad_pending (t : Nat) (s : State) : (markBad t s).pending = s.pending := by simp [markBad]

/-! ### Cells -/

@[simp] theorem calSettle_pending (n : Nat) (s : State) : (calSettle n s).pending = s.pending := by simp [calSettle]
@[simp] theorem setCells_pending (n : Nat) (m : CellMode) (s : State) : (setCells n m s).pending = s.pending := by simp [setCells]
@[simp] theorem shareTrims_pending (n : Nat) (s : State) : (shareTrims n s).pending = s.pending := by simp [shareTrims]
@[simp] theorem healthRuns_pending (n : Nat) (s : State) : (healthRuns n s).pending = s.pending := by simp [healthRuns]

@[simp] theorem cellWords_pending (ws : List CellWord) (s : State) : (cellWords ws s).pending = s.pending := by
  simp [cellWords]

@[simp] theorem commandCluster_pending (n : Nat) (s : State) :
    (commandCluster n s).pending = s.pending := by simp [commandCluster]
@[simp] theorem cellCommands_pending (s : State) : (cellCommands s).pending = s.pending := by simp [cellCommands]
@[simp] theorem isolate_pending (c : Nat) (cause : CellCause) (s : State) :
    (isolate c cause s).pending = s.pending := by simp [isolate]
@[simp] theorem recountCells_pending (n : Nat) (s : State) : (recountCells n s).pending = s.pending := by simp [recountCells]

@[simp] theorem reportIsolations_pending (m : Nat) (l : List IsoRec) (s : State) : (reportIsolations m l s).pending = s.pending := by
  induction l generalizing m s with
  | nil => rfl
  | cons r rs ih => simp [reportIsolations, ih]

@[simp] theorem accountIsolations_pending (n : Nat) (s : State) :
    (accountIsolations n s).pending = s.pending := by simp [accountIsolations]

/-! ### Droop -/

@[simp] theorem countStretch_pending (edge : Bool) (n : Nat) (s : State) :
    (countStretch edge n s).pending = s.pending := by simp [countStretch]
@[simp] theorem stretchHigh_pending (n stage : Nat) (data : List Byte) (s : State) :
    (stretchHigh n stage data s).pending = s.pending := by simp [stretchHigh]
@[simp] theorem stretchEnd_pending (n : Nat) (s : State) : (stretchEnd n s).pending = s.pending := by simp [stretchEnd]
@[simp] theorem stretchClose_pending (n : Nat) (s : State) : (stretchClose n s).pending = s.pending := by simp [stretchClose]
@[simp] theorem stuckReport_pending (n : Nat) (s : State) : (stuckReport n s).pending = s.pending := by simp [stuckReport]
@[simp] theorem stretchPace_pending (s : State) : (stretchPace s).pending = s.pending := by simp [stretchPace]
@[simp] theorem blwFire_pending (n cur cause : Nat) (s : State) : (blwFire n cur cause s).pending = s.pending := by simp [blwFire]
@[simp] theorem blwTrip_pending (n : Nat) (s : State) :
    (blwTrip n s).pending = s.pending := by unfold blwTrip; dsimp only; split <;> simp
@[simp] theorem trip_pending (n : Nat) (uv : Int) (s : State) : (trip n uv s).pending = s.pending := by simp [trip]
@[simp] theorem trips_pending (l : List Crossing) (s : State) : (trips l s).pending = s.pending := by simp [trips]

@[simp] theorem forecastFire_pending (n : Nat) (s : State) : (forecastFire n s).pending = s.pending := by
  unfold forecastFire
  dsimp only
  repeat' split
  all_goals simp

@[simp] theorem fireEnded_pending (n : Nat) (s : State) : (fireEnded n s).pending = s.pending := by simp [fireEnded]
@[simp] theorem slotFreed_pending (s : State) : (slotFreed s).pending = s.pending := by simp [slotFreed]
@[simp] theorem chargeEnded_pending (n : Nat) (s : State) : (chargeEnded n s).pending = s.pending := by simp [chargeEnded]
@[simp] theorem blwFaulted_pending (n cause : Nat) (s : State) :
    (blwFaulted n cause s).pending = s.pending := by simp [blwFaulted]
@[simp] theorem bellowsOff_pending (s : State) : (bellowsOff s).pending = s.pending := by simp [bellowsOff]
@[simp] theorem bellowsWake_pending (s : State) : (bellowsWake s).pending = s.pending := by simp [bellowsWake]
@[simp] theorem blwArm_pending (n : Nat) (s : State) : (blwArm n s).pending = s.pending := by simp [blwArm]
@[simp] theorem blwDisarm_pending (n : Nat) (s : State) : (blwDisarm n s).pending = s.pending := by simp [blwDisarm]

/-! ### Time -/

@[simp] theorem fallNow_pending (w : Soon) (s : State) : (fallNow w s).pending = s.pending := by unfold fallNow; split <;> simp

@[simp] theorem fallTo_pending (t fuel : Nat) (s : State) : (fallTo t fuel s).pending = s.pending := by
  induction fuel generalizing s with
  | zero => rfl
  | succ fuel ih =>
    unfold fallTo
    split
    · rfl
    · simp [ih]

@[simp] theorem passTo_pending (t : Nat) (s : State) : (passTo t s).pending = s.pending := by simp [passTo]
@[simp] theorem tick_pending (s : State) : (tick s).pending = s.pending := by simp [tick]

/-! ### Phases -/

@[simp] theorem applyGroup_pending (g shedEn minSw shedA addA ripAmp ripTau : Nat) (s : State) :
    (applyGroup g shedEn minSw shedA addA ripAmp ripTau s).pending = s.pending := by simp [applyGroup]
@[simp] theorem startCheck_pending (c : PhCheck) (s : State) : (startCheck c s).pending = s.pending := by simp [startCheck]
@[simp] theorem joinChecked_pending (i : Nat) (s : State) : (joinChecked i s).pending = s.pending := by simp [joinChecked]

/-! ### Adc -/

@[simp] theorem seqSwapRequest_pending (mask : Nat) (s : State) :
    (seqSwapRequest mask s).pending = s.pending := by simp [seqSwapRequest]
@[simp] theorem seqReject_pending (u q : Nat) (s : State) : (seqReject u q s).pending = s.pending := by simp [seqReject]
@[simp] theorem convApply_pending (s : State) : (convApply s).pending = s.pending := by simp [convApply]
@[simp] theorem windowCheck_pending (c : Nat) (u : Int) (s : State) :
    (windowCheck c u s).pending = s.pending := by simp [windowCheck]
@[simp] theorem senseSample_pending (c : Nat) (u : Int) (s : State) :
    (senseSample c u s).pending = s.pending := by simp [senseSample]
@[simp] theorem writeResult_pending (c : Nat) (u : Int) (urgent : Bool) (s : State) :
    (writeResult c u urgent s).pending = s.pending := by simp [writeResult]
@[simp] theorem takeResult_pending (u d : Nat) (s : State) :
    (takeResult u d s).pending = s.pending := by unfold takeResult; split <;> simp

theorem reach_pending {due : Nat} {s u : State} (h : reach due s = some u) : u.pending = s.pending := by
  unfold reach at h
  split at h
  · exact Option.some.inj h ▸ rfl
  · split at h
    · exact Option.some.inj h ▸ passTo_pending due s
    · exact absurd h (by simp)

@[simp] theorem boundaryResults_pending (l : List AdcCode) (s : State) : (boundaryResults l s).pending = s.pending :=
  forEach_pending (fun _ _ => by split <;> simp) _ _

@[simp] theorem snapshot_pending (s : State) : (snapshot s).pending = s.pending := by simp [snapshot]
@[simp] theorem idleMin_pending (len : Nat) (s : State) : (idleMin len s).pending = s.pending := by simp [idleMin]
@[simp] theorem convPower_pending (s : State) : (convPower s).pending = s.pending := by simp [convPower]
@[simp] theorem convRun_pending (axWas : Bool) (s : State) : (convRun axWas s).pending = s.pending := by simp [convRun]
@[simp] theorem sysCalJudge_pending (u sz sr : Nat) (s : State) :
    (sysCalJudge u sz sr s).pending = s.pending := by simp [sysCalJudge]
@[simp] theorem blockJudge_pending (u sz sr : Nat) (s : State) :
    (blockJudge u sz sr s).pending = s.pending := by simp [blockJudge]
@[simp] theorem applyCalMode_pending (mask mode power : Nat) (s : State) :
    (applyCalMode mask mode power s).pending = s.pending := by simp [applyCalMode]
@[simp] theorem convPeriod_pending (s : State) : (convPeriod s).pending = s.pending := by simp [convPeriod]

/-! ### Transient -/

@[simp] theorem blwFault_pending (n cause : Nat) (s : State) : (blwFault n cause s).pending = s.pending := by simp [blwFault]

/-! ### Clusters -/

@[simp] theorem settle_pending (n : Nat) (st : CState) (s : State) : (settle n st s).pending = s.pending := by simp [settle]
@[simp] theorem echoed_pending (n : Nat) (t : Trans) (last : Bool) (s : State) :
    (echoed n t last s).pending = s.pending := by simp [echoed]
@[simp] theorem driveCode_pending (free : Bool) (n : Nat) (t : Trans) (s : State) :
    (driveCode free n t s).pending = s.pending := by simp [driveCode]
@[simp] theorem startTrans_pending (n : Nat) (target : CState) (deadline : Nat) (s : State) :
    (startTrans n target deadline s).pending = s.pending := by simp [startTrans]
@[simp] theorem leaveDrone_pending (n : Nat) (st : DroneSt) (s : State) :
    (leaveDrone n st s).pending = s.pending := by simp [leaveDrone]
@[simp] theorem powerOff_pending (n : Nat) (s : State) : (powerOff n s).pending = s.pending := by simp [powerOff]

@[simp] theorem paceTrans_pending (n : Nat) (s : State) : (paceTrans n s).pending = s.pending := by
  unfold paceTrans
  dsimp only
  repeat' split
  all_goals simp

@[simp] theorem headrooms_pending (s : State) : (headrooms s).pending = s.pending := by simp [headrooms]
@[simp] theorem wakeComplete_pending (n : Nat) (s : State) : (wakeComplete n s).pending = s.pending := by simp [wakeComplete]
@[simp] theorem admitWake_pending (n slope : Nat) (late : Bool) (s : State) :
    (admitWake n slope late s).pending = s.pending := by unfold admitWake; dsimp only; split <;> simp
@[simp] theorem sentinelTest_pending (n : Nat) (ok : Bool) (s : State) :
    (sentinelTest n ok s).pending = s.pending := by simp [sentinelTest]
@[simp] theorem saRelease_pending (s : State) : (saRelease s).pending = s.pending := by simp [saRelease]
@[simp] theorem lostEvent_pending (n cause d : Nat) (s : State) :
    (lostEvent n cause d s).pending = s.pending := by simp [lostEvent]
@[simp] theorem holdRetain_pending (n cause d : Nat) (s : State) :
    (holdRetain n cause d s).pending = s.pending := by simp [holdRetain]
@[simp] theorem droneStart_pending (n : Nat) (s : State) : (droneStart n s).pending = s.pending := by simp [droneStart]
@[simp] theorem droneJudge_pending (n : Nat) (s : State) : (droneJudge n s).pending = s.pending := by simp [droneJudge]

@[simp] theorem cellLoss_pending (n : Nat) (s : State) : (cellLoss n s).pending = s.pending := by
  unfold cellLoss
  dsimp only
  repeat' split
  all_goals simp

@[simp] theorem deadOff_pending (n : Nat) (s : State) : (deadOff n s).pending = s.pending := by simp [deadOff]
@[simp] theorem paceCells_pending (n : Nat) (s : State) : (paceCells n s).pending = s.pending := by simp [paceCells]
@[simp] theorem paceDrone_pending (n : Nat) (s : State) :
    (paceDrone n s).pending = s.pending := by unfold paceDrone; dsimp only; split <;> simp
@[simp] theorem droneLeave_pending (n : Nat) (s : State) : (droneLeave n s).pending = s.pending := by simp [droneLeave]
@[simp] theorem droneExitDone_pending (n : Nat) (s : State) : (droneExitDone n s).pending = s.pending := by simp [droneExitDone]

@[simp] theorem rampReached_pending (n : Nat) (s : State) : (rampReached n s).pending = s.pending := by
  unfold rampReached
  dsimp only
  repeat' split
  all_goals simp

@[simp] theorem stepCluster_pending (n : Nat) (s : State) : (stepCluster n s).pending = s.pending := by simp [stepCluster]
@[simp] theorem emptyRamp_pending (n : Nat) (s : State) : (emptyRamp n s).pending = s.pending := by simp [emptyRamp]
@[simp] theorem applyDroneEnter_pending (n : Nat) (chip : Bool) (s : State) :
    (applyDroneEnter n chip s).pending = s.pending := by simp [applyDroneEnter]
@[simp] theorem applyDroneExit_pending (n : Nat) (chip : Bool) (s : State) :
    (applyDroneExit n chip s).pending = s.pending := by simp [applyDroneExit]
@[simp] theorem applySetState_pending (n : Nat) (t : CState) (d : Nat) (s : State) :
    (applySetState n t d s).pending = s.pending := by simp [applySetState]
@[simp] theorem applyOffset_pending (n sel : Nat) (ofs : Int) (thresh : Nat) (s : State) :
    (applyOffset n sel ofs thresh s).pending = s.pending := by simp [applyOffset]
@[simp] theorem bankPinned_pending (b : Nat) (s : State) : (bankPinned b s).pending = s.pending := by simp [bankPinned]
@[simp] theorem saRequest_pending (s : State) : (saRequest s).pending = s.pending := by simp [saRequest]

/-! ### Levels -/

@[simp] theorem post_pending (code level stage : Nat) (src : PendSource) (s : State) :
    (post code level stage src s).pending = s.pending := by simp [post]
@[simp] theorem hostPost_pending (code level : Nat) (src : PendSource) (s : State) :
    (hostPost code level src s).pending = s.pending := by simp [hostPost]
@[simp] theorem deriveLevel_pending (s : State) : (deriveLevel s).pending = s.pending := by unfold deriveLevel; split <;> simp
@[simp] theorem endHold_pending (s : State) : (endHold s).pending = s.pending := by simp [endHold]
@[simp] theorem tableEdited_pending (old : Tab 16 LvlEnt) (s : State) :
    (tableEdited old s).pending = s.pending := by unfold tableEdited; dsimp only; split <;> simp
@[simp] theorem applyLevel_pending (k code : Nat) (boost : Bool) (s : State) :
    (applyLevel k code boost s).pending = s.pending := by simp [applyLevel]
@[simp] theorem applyFixed_pending (kind lv code : Nat) (s : State) :
    (applyFixed kind lv code s).pending = s.pending := by simp [applyFixed]
@[simp] theorem holdStep_pending (p : Pend) (reason n : Nat) (gap : Int) (s : State) :
    (holdStep p reason n gap s).pending = s.pending := by simp [holdStep]
@[simp] theorem applyStep_pending (p : Pend) (s : State) : (applyStep p s).pending = s.pending := by simp [applyStep]

@[simp] theorem levelEdge_pending (judge s : State) : (levelEdge judge s).pending = s.pending := by
  unfold levelEdge
  dsimp only
  repeat' split
  all_goals simp

@[simp] theorem freqDrive_pending (s : State) : (freqDrive s).pending = s.pending := by unfold freqDrive; split <;> simp
@[simp] theorem judgeCurves_pending (s : State) : (judgeCurves s).pending = s.pending := by simp [judgeCurves]
@[simp] theorem takeBrackets_pending (t : Nat) (b : List Byte) (s : State) :
    (takeBrackets t b s).pending = s.pending := by simp [takeBrackets]
@[simp] theorem calAdvance_pending (s : State) : (calAdvance s).pending = s.pending := by simp [calAdvance]
@[simp] theorem recharOpen_pending (r : Rechar) (s : State) : (recharOpen r s).pending = s.pending := by simp [recharOpen]

@[simp] theorem searchPoint_pending (n : Nat) (todo : List Nat) (s : State) : (searchPoint n todo s).pending = s.pending := by
  unfold searchPoint
  dsimp only
  repeat' split
  all_goals simp

@[simp] theorem searchUp_pending (n : Nat) (v : Int) (s : State) :
    (searchUp n v s).pending = s.pending := by unfold searchUp; split <;> simp
@[simp] theorem searchResult_pending (n : Nat) (q : RecharPoint) (rest : List Nat) (s : State) :
    (searchResult n q rest s).pending = s.pending := by unfold searchResult; split <;> simp
@[simp] theorem searchRun_pending (n : Nat) (pass : Bool) (x : RecharRes) (s : State) :
    (searchRun n pass x s).pending = s.pending := by unfold searchRun; split <;> simp
@[simp] theorem retestBegin_pending (n : Nat) (bad : List Nat) (r : Rechar) (s : State) :
    (retestBegin n bad r s).pending = s.pending := by simp [retestBegin]
@[simp] theorem retestFail_pending (i : Nat) (s : State) : (retestFail i s).pending = s.pending := by simp [retestFail]
@[simp] theorem retestDrop_pending (n k : Nat) (s : State) :
    (retestDrop n k s).pending = s.pending := by unfold retestDrop; split <;> simp
@[simp] theorem retestPace_pending (x : RecharRes) (s : State) :
    (retestPace x s).pending = s.pending := by unfold retestPace; split <;> simp
@[simp] theorem recharPace_pending (s : State) : (recharPace s).pending = s.pending := by unfold recharPace; split <;> simp
@[simp] theorem writeCurve_pending (n : Nat) (s : State) : (writeCurve n s).pending = s.pending := by simp [writeCurve]
@[simp] theorem writeCal_pending (r : Rechar) (c : Nat) (pts : List (Nat × Nat)) (s : State) :
    (writeCal r c pts s).pending = s.pending := by simp [writeCal]

@[simp] theorem writeSearched_pending (r : Rechar) (n : Nat) (x : RecharSum × State) : (writeSearched r n x).2.pending = x.2.pending := by
  unfold writeSearched
  dsimp only
  split
  · rfl
  · generalize remaining r _ _ = rem
    cases rem <;> simp

@[simp] theorem returnCells_pending (r : Rechar) (n : Nat) (x : RecharSum × State) : (returnCells r n x).2.pending = x.2.pending := by
  simp [returnCells]

@[simp] theorem recharWrite_pending (r : Rechar) (s : State) : (recharWrite r s).pending = s.pending := by
  have hw := fun l x => foldl_pair_pending (writeSearched_pending r) l x
  have hc := fun l x => foldl_pair_pending (returnCells_pending r) l x
  simp [recharWrite, apply_ite Prod.snd, hw, hc]

@[simp] theorem recharReturn_pending (r : Rechar) (s : State) : (recharReturn r s).pending = s.pending := by simp [recharReturn]
@[simp] theorem recharEnd_pending (r : Rechar) (s : State) : (recharEnd r s).pending = s.pending := by simp [recharEnd]

@[simp] theorem recharReport_pending (r : Rechar) (n : Nat) (pass : Bool) (bad : List Nat) (s : State) :
    (recharReport r n pass bad s).pending = s.pending := by
  unfold recharReport
  dsimp only
  repeat' split
  all_goals simp

end Sys2Proof.Machine
end

section
/-! SUPPORT. The queue of commands, second part: nor does any operation of the other units, from the rails to the stage frame. -/

namespace Sys2Proof.Machine

/-! ### Rails -/

@[simp] theorem railMirrors_pending (s : State) : (railMirrors s).pending = s.pending := by simp [railMirrors]
@[simp] theorem segWindowAt_pending (s0 : State) (x : Nat) (s : State) :
    (segWindowAt s0 x s).pending = s.pending := by simp [segWindowAt]
@[simp] theorem railWindowAcross_pending (run : Nat) (s : State) :
    (railWindowAcross run s).pending = s.pending := by simp [railWindowAcross]
@[simp] theorem railWindowAt_pending (axComp : Bool) (s0 : State) (r : Nat) (s : State) :
    (railWindowAt axComp s0 r s).pending = s.pending := by simp [railWindowAt]
@[simp] theorem railWindows_pending (axComp : Bool) (s : State) :
    (railWindows axComp s).pending = s.pending := by simp [railWindows]
@[simp] theorem windowClear_pending (s : State) : (windowClear s).pending = s.pending := by simp [windowClear]
@[simp] theorem joinPhases_pending (r : Nat) (s : State) : (joinPhases r s).pending = s.pending := by simp [joinPhases]
@[simp] theorem railJoin_pending (r : Nat) (s : State) : (railJoin r s).pending = s.pending := by simp [railJoin]
@[simp] theorem railOff_pending (r : Nat) (s : State) : (railOff r s).pending = s.pending := by simp [railOff]
@[simp] theorem sparesToReserve_pending (r : Nat) (s : State) :
    (sparesToReserve r s).pending = s.pending := by simp [sparesToReserve]
@[simp] theorem answerStart_pending (t : TrackStart) (st : Status) (pre win : Nat) (s : State) :
    (answerStart t st pre win s).pending = s.pending := by unfold answerStart; split <;> simp
@[simp] theorem beginStart_pending (t : TrackStart) (s : State) : (beginStart t s).pending = s.pending := by simp [beginStart]
@[simp] theorem rampRail_pending (t : TrackStart) (axUv : Int) (rr r : Nat) (s : State) :
    (rampRail t axUv rr r s).pending = s.pending := by simp [rampRail]
@[simp] theorem rampTopRail_pending (t : TrackStart) (r : Nat) (s : State) :
    (rampTopRail t r s).pending = s.pending := by simp [rampTopRail]
@[simp] theorem stepStart_pending (t : TrackStart) (axUv : Int) (s : State) :
    (stepStart t axUv s).pending = s.pending := by simp [stepStart]
@[simp] theorem paceStart_pending (t : TrackStart) (s : State) :
    (paceStart t s).pending = s.pending := by unfold paceStart; split <;> simp
@[simp] theorem endStartFor_pending (m : Nat) (t : TrackStart) (s : State) :
    (endStartFor m t s).pending = s.pending := by simp [endStartFor]

@[simp] theorem stopRailOff_pending (r : Nat) (s : State) : (stopRailOff r s).pending = s.pending := by
  unfold stopRailOff
  dsimp only
  repeat' split
  all_goals simp

@[simp] theorem holdLow_pending (r : Nat) (s : State) : (holdLow r s).pending = s.pending := by simp [holdLow]
@[simp] theorem beginStop_pending (t : TrackStop) (s : State) : (beginStop t s).pending = s.pending := by simp [beginStop]
@[simp] theorem stepStop_pending (t : TrackStop) (s : State) : (stepStop t s).pending = s.pending := by simp [stepStop]
@[simp] theorem paceTracking_pending (s : State) : (paceTracking s).pending = s.pending := by simp [paceTracking]
@[simp] theorem applyRailTarget_pending (r code : Nat) (s : State) :
    (applyRailTarget r code s).pending = s.pending := by simp [applyRailTarget]
@[simp] theorem senseFallback_pending (r line since : Nat) (s : State) :
    (senseFallback r line since s).pending = s.pending := by simp [senseFallback]
@[simp] theorem senseOffsets_pending (s : State) : (senseOffsets s).pending = s.pending := by simp [senseOffsets]

/-! ### Governor -/

@[simp] theorem addPace_pending (s : State) : (addPace s).pending = s.pending := by simp [addPace]
@[simp] theorem checkLimit_pending (id kind : Nat) (m : Frac) (limit window : Nat) (s : State) :
    (checkLimit id kind m limit window s).pending = s.pending := by simp [checkLimit]
@[simp] theorem closeSums_pending (s : State) : (closeSums s).pending = s.pending := by simp [closeSums]
@[simp] theorem stageLimits_pending (s : State) : (stageLimits s).pending = s.pending := by simp [stageLimits]
@[simp] theorem integrate_pending (s : State) : (integrate s).pending = s.pending := by simp [integrate]

@[simp] theorem governPeriod_pending (len : Nat) (s : State) : (governPeriod len s).pending = s.pending := by
  unfold governPeriod
  extract_lets g s₁ g₁ s₂ s₃ excess o mj g₂ s₄ n g₃ s₅
  have h₃ : s₃.pending = s₂.pending := forEach_pending (fun r u => by simp) _ _
  have h₄ : s₄.pending = s₃.pending := by simp [s₄]
  have h₅ : s₅.pending = s₄.pending := by simp [s₅]
  dsimp only
  rw [h₅, h₄, h₃]

@[simp] theorem keepOne_pending (v : GovEval) (q : Nat × Nat) (s : State) :
    (keepOne v q s).pending = s.pending := by simp [keepOne]
@[simp] theorem govPost_pending (l : Nat) (s : State) : (govPost l s).pending = s.pending := by simp [govPost]

@[simp] theorem govDecide_pending (l : Nat) (s : State) : (govDecide l s).pending = s.pending := by
  unfold govDecide
  dsimp only
  repeat' split
  all_goals simp

@[simp] theorem applyLimit_pending (id param value : Nat) (s : State) :
    (applyLimit id param value s).pending = s.pending := by simp [applyLimit]
@[simp] theorem applyPref_pending (label : Nat) (lvl : Option Nat) (s : State) :
    (applyPref label lvl s).pending = s.pending := by simp [applyPref]
@[simp] theorem shadowSet_pending (x : Nat × BitVec 32) (s : State) : (shadowSet x s).pending = s.pending := by simp [shadowSet]
@[simp] theorem govLatch_pending (x : GovEval × List (Nat × Nat)) (s : State) :
    (govLatch x s).pending = s.pending := by simp [govLatch]
@[simp] theorem clampRelease_pending (s : State) : (clampRelease s).pending = s.pending := by simp [clampRelease]
@[simp] theorem driveSwell_pending (s : State) : (driveSwell s).pending = s.pending := by simp [driveSwell]
@[simp] theorem applySwell_pending (n code : Nat) (s : State) : (applySwell n code s).pending = s.pending := by simp [applySwell]
@[simp] theorem applyAdmit_pending (i : Nat) (s : State) : (applyAdmit i s).pending = s.pending := by simp [applyAdmit]
@[simp] theorem applyRevoke_pending (gid : Nat) (s : State) : (applyRevoke gid s).pending = s.pending := by simp [applyRevoke]

/-! ### Convoy -/

@[simp] theorem cvySend_pending (port : Nat) (prio : Bool) (m : List Byte) (s : State) :
    (cvySend port prio m s).pending = s.pending := by simp [cvySend]
@[simp] theorem cvyDown_pending (prio : Bool) (m : List Byte) (s : State) :
    (cvyDown prio m s).pending = s.pending := by simp [cvyDown]
@[simp] theorem cvyForward_pending (m : ConvoyMsg) (s : State) : (cvyForward m s).pending = s.pending := by simp [cvyForward]
@[simp] theorem cvyDiscard_pending (port : Nat) (s : State) : (cvyDiscard port s).pending = s.pending := by simp [cvyDiscard]
@[simp] theorem cvyPost_pending (lvl stage : Nat) (s : State) : (cvyPost lvl stage s).pending = s.pending := by simp [cvyPost]
@[simp] theorem cvyAgree_pending (lvl stage : Nat) (s : State) : (cvyAgree lvl stage s).pending = s.pending := by simp [cvyAgree]
@[simp] theorem clearPend_pending (s : State) : (clearPend s).pending = s.pending := by simp [clearPend]
@[simp] theorem expectAt_pending (stage lvl : Nat) (s : State) : (expectAt stage lvl s).pending = s.pending := by simp [expectAt]
@[simp] theorem cvyPace_pending (s : State) : (cvyPace s).pending = s.pending := by simp [cvyPace]
@[simp] theorem takeTable_pending (s : State) : (takeTable s).pending = s.pending := by simp [takeTable]
@[simp] theorem cvyLoaded_pending (s : State) :
    (cvyLoaded s).pending = s.pending := by unfold cvyLoaded; dsimp only; split <;> simp
@[simp] theorem noteMissing_pending (s : State) : (noteMissing s).pending = s.pending := by simp [noteMissing]
@[simp] theorem sendUp_pending (s : State) : (sendUp s).pending = s.pending := by simp [sendUp]
@[simp] theorem tryUp_pending (s : State) : (tryUp s).pending = s.pending := by simp [tryUp]
@[simp] theorem tryAck_pending (s : State) : (tryAck s).pending = s.pending := by simp [tryAck]
@[simp] theorem enterSkewed_pending (s : State) : (enterSkewed s).pending = s.pending := by simp [enterSkewed]
@[simp] theorem hearAnnounce_pending (level t exp : Nat) (skew : Bool) (s : State) :
    (hearAnnounce level t exp skew s).pending = s.pending := by simp [hearAnnounce]
@[simp] theorem sendAnnounce_pending (s : State) : (sendAnnounce s).pending = s.pending := by simp [sendAnnounce]
@[simp] theorem cancelAt_pending (t acked source : Nat) (s : State) :
    (cancelAt t acked source s).pending = s.pending := by simp [cancelAt]
@[simp] theorem prioNote_pending (s : State) : (prioNote s).pending = s.pending := by simp [prioNote]
@[simp] theorem hearPrio_pending (t level cause : Nat) (s : State) :
    (hearPrio t level cause s).pending = s.pending := by simp [hearPrio]
@[simp] theorem rootPrio_pending (s : State) : (rootPrio s).pending = s.pending := by unfold rootPrio; dsimp only; split <;> simp
@[simp] theorem prioApplied_pending (s : State) : (prioApplied s).pending = s.pending := by unfold prioApplied; split <;> simp
@[simp] theorem dropKid_pending (port : Nat) (s : State) : (dropKid port s).pending = s.pending := by simp [dropKid]
@[simp] theorem cvyOut_pending (s : State) : (cvyOut s).pending = s.pending := by simp [cvyOut]
@[simp] theorem joinAnswered_pending (s : State) : (joinAnswered s).pending = s.pending := by unfold joinAnswered; split <;> simp
@[simp] theorem joinFails_pending (s : State) :
    (joinFails s).pending = s.pending := by unfold joinFails; dsimp only; split <;> simp
@[simp] theorem joinDone_pending (s : State) : (joinDone s).pending = s.pending := by unfold joinDone; dsimp only; split <;> simp
@[simp] theorem cvyLeaves_pending (s : State) : (cvyLeaves s).pending = s.pending := by simp [cvyLeaves]
@[simp] theorem windowEdge_pending (s : State) : (windowEdge s).pending = s.pending := by simp [windowEdge]
@[simp] theorem rootSync_pending (s : State) : (rootSync s).pending = s.pending := by simp [rootSync]
@[simp] theorem cvyCounts_pending (s : State) : (cvyCounts s).pending = s.pending := by simp [cvyCounts]
@[simp] theorem cvyEdge_pending (loads : Bool) (s : State) : (cvyEdge loads s).pending = s.pending := by simp [cvyEdge]
@[simp] theorem cvyPeriod_pending (s : State) : (cvyPeriod s).pending = s.pending := by simp [cvyPeriod]

/-! ### Energy -/

@[simp] theorem actEvent_pending (n : Nat) (s : State) : (actEvent n s).pending = s.pending := by simp [actEvent]
@[simp] theorem enContribute_pending (s : State) : (enContribute s).pending = s.pending := by simp [enContribute]
@[simp] theorem enHandOver_pending (s : State) : (enHandOver s).pending = s.pending := by unfold enHandOver; split <;> simp
@[simp] theorem enPace_pending (len : Nat) (s : State) : (enPace len s).pending = s.pending := by simp [enPace]
@[simp] theorem enCapture_pending (s : State) : (enCapture s).pending = s.pending := by simp [enCapture]

@[simp] theorem enPeriod_pending (s : State) : (enPeriod s).pending = s.pending := by
  unfold enPeriod
  dsimp only
  repeat' split
  all_goals simp

@[simp] theorem retirePers_pending (s : State) : (retirePers s).pending = s.pending := by simp [retirePers]
@[simp] theorem dropFrame_pending (cause : Nat) (s : State) : (dropFrame cause s).pending = s.pending := by simp [dropFrame]

@[simp] theorem issueFrame_pending (s : State) : (issueFrame s).pending = s.pending := by
  unfold issueFrame
  dsimp only
  repeat' split
  all_goals simp

@[simp] theorem issueFrames_pending (s : State) : (issueFrames s).pending = s.pending := by simp [issueFrames]

@[simp] theorem postLanes_pending (p : EnPer) (s : State) : (postLanes p s).2.pending = s.pending := by
  unfold postLanes
  dsimp only
  repeat' split
  all_goals simp

@[simp] theorem rangeEvents_pending (p : EnPer) (s : State) : (rangeEvents p s).pending = s.pending := by simp [rangeEvents]
@[simp] theorem takeShares_pending (p : EnPer) (s : State) : (takeShares p s).pending = s.pending := by simp [takeShares]
@[simp] theorem enLatch_pending (s : State) : (enLatch s).pending = s.pending := by simp [enLatch]
@[simp] theorem applyLedger_pending (addr : Nat) (zero : Bool) (s : State) :
    (applyLedger addr zero s).pending = s.pending := by simp [applyLedger]
@[simp] theorem applyFrameRing_pending (addr count : Nat) (s : State) :
    (applyFrameRing addr count s).pending = s.pending := by simp [applyFrameRing]

/-! ### Manifest -/

@[simp] theorem updSlot_pending (b : Nat) (f : ManSlot → ManSlot) (s : State) :
    (updSlot b f s).pending = s.pending := by simp [updSlot]
@[simp] theorem fetchSeq_pending (q : Nat) (deadline : Option (Nat × Nat)) (s : State) :
    (fetchSeq q deadline s).pending = s.pending := by unfold fetchSeq; split <;> simp
@[simp] theorem manEmpty_pending (s : State) : (manEmpty s).pending = s.pending := by simp [manEmpty]
@[simp] theorem loadFail_pending (result rule nblk block stage pace cluster tile : Nat) (s : State) :
    (loadFail result rule nblk block stage pace cluster tile s).pending = s.pending := by unfold loadFail; split <;> simp
@[simp] theorem loadFailAt_pending (result nblk block : Nat) (s : State) :
    (loadFailAt result nblk block s).pending = s.pending := by simp [loadFailAt]
@[simp] theorem storeBlock_pending (b : Nat) (d : List Byte) (good ramp : List Nat) (s : State) :
    (storeBlock b d good ramp s).pending = s.pending := by simp [storeBlock]

@[simp] theorem loadBlock_pending (b q i : Nat) (d : List Byte) (s : State) : (loadBlock b q i d s).pending = s.pending := by
  unfold loadBlock
  dsimp only
  repeat' split
  all_goals simp

@[simp] theorem runBlock_pending (b q i : Nat) (d : List Byte) (s : State) :
    (runBlock b q i d s).pending = s.pending := by unfold runBlock; split <;> simp
@[simp] theorem shiftEntries_pending (s : State) : (shiftEntries s).pending = s.pending := by simp [shiftEntries]

@[simp] theorem manifestEdge_pending (s : State) : (manifestEdge s).pending = s.pending := by
  unfold manifestEdge
  dsimp only
  repeat' split
  all_goals simp

@[simp] theorem divergence_pending (n : Nat) (s : State) : (divergence n s).pending = s.pending := by simp [divergence]
@[simp] theorem manifestCluster_pending (n : Nat) (s : State) :
    (manifestCluster n s).pending = s.pending := by simp [manifestCluster]
@[simp] theorem unserve_pending (s : State) : (unserve s).pending = s.pending := by simp [unserve]
@[simp] theorem manifestPace_pending (s : State) : (manifestPace s).pending = s.pending := by simp [manifestPace]
@[simp] theorem guards_pending (s : State) : (guards s).pending = s.pending := by simp [guards]
@[simp] theorem liftAt_pending (stage lift : Nat) (s : State) : (liftAt stage lift s).pending = s.pending := by simp [liftAt]
@[simp] theorem engageAt_pending (e : EngEv) (n : Nat) (s : State) : (engageAt e n s).pending = s.pending := by simp [engageAt]
@[simp] theorem applyEngage_pending (se n : Nat) (setStart : Bool) (lift start : Nat) (s : State) :
    (applyEngage se n setStart lift start s).pending = s.pending := by simp [applyEngage]
@[simp] theorem applyRelease_pending (se n : Nat) (unload : Bool) (s : State) :
    (applyRelease se n unload s).pending = s.pending := by simp [applyRelease]

/-! ### Thermal -/

@[simp] theorem estimateTemp_pending (s : State) : (estimateTemp s).pending = s.pending := by simp [estimateTemp]
@[simp] theorem warnEdge_pending (s : State) : (warnEdge s).pending = s.pending := by simp [warnEdge]
@[simp] theorem throtEdge_pending (s : State) : (throtEdge s).pending = s.pending := by simp [throtEdge]
@[simp] theorem thermalEdge_pending (s : State) : (thermalEdge s).pending = s.pending := by unfold thermalEdge; split <;> simp
@[simp] theorem thermalPeriod_pending (s : State) : (thermalPeriod s).pending = s.pending := by simp [thermalPeriod]
@[simp] theorem noteAwake_pending (s : State) : (noteAwake s).pending = s.pending := by simp [noteAwake]
@[simp] theorem forcePads_pending (s : State) : (forcePads s).pending = s.pending := by simp [forcePads]
@[simp] theorem assertTrip_pending (s : State) : (assertTrip s).pending = s.pending := by simp [assertTrip]
@[simp] theorem tellSensor_pending (s : State) : (tellSensor s).pending = s.pending := by simp [tellSensor]
@[simp] theorem judgeSensor_pending (broken : Bool) (s : State) :
    (judgeSensor broken s).pending = s.pending := by simp [judgeSensor]
@[simp] theorem diodeResult_pending (dUv vf : Int) (s : State) :
    (diodeResult dUv vf s).pending = s.pending := by simp [diodeResult]
@[simp] theorem tripCluster_pending (n : Nat) (s : State) : (tripCluster n s).pending = s.pending := by simp [tripCluster]

@[simp] theorem endTracking_pending (s : State) : (endTracking s).pending = s.pending :=
  (forEach_pending (fun _ _ => by split <;> simp) _ _).trans (by simp)

@[simp] theorem tripActs_pending (s : State) : (tripActs s).pending = s.pending := by simp [tripActs]
@[simp] theorem restartEnd_pending (result mask : Nat) (s : State) :
    (restartEnd result mask s).pending = s.pending := by simp [restartEnd]

/-! ### Acts -/

@[simp] theorem applyArm_pending (action fireWin fireI mask : Nat) (s : State) :
    (applyArm action fireWin fireI mask s).pending = s.pending := by simp [applyArm]
@[simp] theorem applyDisarm_pending (action mask : Nat) (s : State) :
    (applyDisarm action mask s).pending = s.pending := by simp [applyDisarm]
@[simp] theorem applyAct_pending (se : Nat) (a : Act) (s : State) :
    (applyAct se a s).pending = s.pending := by unfold applyAct; split <;> simp
@[simp] theorem applyActs_pending (se : Nat) (acts : List Act) (s : State) :
    (applyActs se acts s).pending = s.pending := by simp [applyActs]
@[simp] theorem applyDeferred_pending (l : List Deferred) (s : State) :
    (applyDeferred l s).pending = s.pending := by simp [applyDeferred]
@[simp] theorem applyNext_pending (s : State) : (applyNext s).pending = s.pending := by simp [applyNext]
@[simp] theorem applyEdge_pending (s : State) : (applyEdge s).pending = s.pending := by simp [applyEdge]

/-! ### Caravan -/

@[simp] theorem updRec_pending (k : Nat) (f : CvnRec → CvnRec) (s : State) :
    (updRec k f s).pending = s.pending := by simp [updRec]
@[simp] theorem abortEvent_pending (r : CvnRec) (cause : Nat) (s : State) :
    (abortEvent r cause s).pending = s.pending := by simp [abortEvent]
@[simp] theorem commitReply_pending (p : Packet) (st : Status) (data : List Byte) (s : State) :
    (commitReply p st data s).pending = s.pending := by simp [commitReply]
@[simp] theorem abortCommitted_pending (k cause : Nat) (fail : Option (Nat × Nat × Status)) (s : State) :
    (abortCommitted k cause fail s).pending = s.pending := by unfold abortCommitted; dsimp only; split <;> simp

@[simp] theorem checkRecord_pending (k : Nat) (x : State × State) : (checkRecord k x).2.pending = x.2.pending := by
  unfold checkRecord
  dsimp only
  repeat' split
  all_goals simp

@[simp] theorem edgeCheck_pending (s : State) : (edgeCheck s).pending = s.pending :=
  foldl_pair_pending checkRecord_pending _ _

@[simp] theorem commitRecord_pending (p : Packet) (k : Nat) (s : State) :
    (commitRecord p k s).pending = s.pending := by simp [commitRecord]
@[simp] theorem applyCaravan_pending (k : Nat) (s : State) : (applyCaravan k s).pending = s.pending := by simp [applyCaravan]
@[simp] theorem caravanEdge_pending (s : State) : (caravanEdge s).pending = s.pending := by simp [caravanEdge]

@[simp] theorem caravanReplies_pending (s : State) : (caravanReplies s).pending = s.pending :=
  forEach_pending (fun _ _ => by dsimp only; split <;> simp) _ _

@[simp] theorem caravanWarm_pending (s : State) : (caravanWarm s).pending = s.pending :=
  forEach_pending (fun _ _ => by dsimp only; split <;> simp) _ _

@[simp] theorem caravanPeriod_pending (s : State) : (caravanPeriod s).pending = s.pending := by simp [caravanPeriod]

/-! ### Commands -/

@[simp] theorem askPayload_pending (f : InFlight) (s : State) :
    (askPayload f s).pending = s.pending := by unfold askPayload; split <;> simp
@[simp] theorem cmdFetch_pending (s : State) : (cmdFetch s).pending = s.pending := by simp [cmdFetch]
@[simp] theorem doorbell_pending (tail : Nat) (s : State) : (doorbell tail s).pending = s.pending := by simp [doorbell]
@[simp] theorem hostDoorbell_pending (tail : Nat) (s : State) :
    (hostDoorbell tail s).pending = s.pending := by simp [hostDoorbell]
@[simp] theorem takeSlot_pending (o : Origin) (since : Nat) (slot : Option (List Byte)) (late : Bool) (s : State) :
    (takeSlot o since slot late s).pending = s.pending := by simp [takeSlot]
@[simp] theorem mailboxTake_pending (s : State) : (mailboxTake s).pending = s.pending := by simp [mailboxTake]
@[simp] theorem hostGo_pending (s : State) : (hostGo s).pending = s.pending := by simp [hostGo]

@[simp] theorem eventVector_pending (e : Event) (s : State) : (eventVector e s).pending = s.pending := by
  simp [eventVector]

@[simp] theorem ringControl_pending (w : BitVec 32) (s : State) : (ringControl w s).pending = s.pending := by simp [ringControl]
@[simp] theorem causeClear_pending (w : BitVec 32) (s : State) : (causeClear w s).pending = s.pending := by simp [causeClear]
@[simp] theorem apertureWrite_pending (s : State) : (apertureWrite s).pending = s.pending := by simp [apertureWrite]
@[simp] theorem mailboxCtrl_pending (w : BitVec 32) (s : State) : (mailboxCtrl w s).pending = s.pending := by simp [mailboxCtrl]
@[simp] theorem regWrite_pending (off : Nat) (w : BitVec 32) (s : State) :
    (regWrite off w s).pending = s.pending := by simp [regWrite]
@[simp] theorem parityRead_pending (a : Nat) (s : State) : (parityRead a s).pending = s.pending := by simp [parityRead]
@[simp] theorem markParity_pending (upset : Bool) (a : Nat) (s : State) :
    (markParity upset a s).pending = s.pending := by simp [markParity]
@[simp] theorem readEffect_pending (off : Nat) (s : State) : (readEffect off s).pending = s.pending := by simp [readEffect]
@[simp] theorem hostRead_pending (off size : Nat) (s : State) : (hostRead off size s).pending = s.pending := by simp [hostRead]
@[simp] theorem dmaWrite_pending (addr : Nat) (data : List Byte) (n : Nat) (s : State) :
    (dmaWrite addr data n s).pending = s.pending := by simp [dmaWrite]

/-! ### Engine -/

@[simp] theorem engineStall_pending (t : Nat) (s : State) : (engineStall t s).pending = s.pending := by simp [engineStall]
@[simp] theorem engineApply_pending (s : State) : (engineApply s).pending = s.pending := by simp [engineApply]
@[simp] theorem engineLatch_pending (s : State) : (engineLatch s).pending = s.pending := by simp [engineLatch]
@[simp] theorem swapRequest_pending (s : State) : (swapRequest s).pending = s.pending := by simp [swapRequest]
@[simp] theorem planReject_pending (slot reason : Nat) (s : State) :
    (planReject slot reason s).pending = s.pending := by simp [planReject]
@[simp] theorem bankSwap_pending (s : State) : (bankSwap s).pending = s.pending := by simp [bankSwap]

@[simp] theorem engineSwap_pending (s : State) : (engineSwap s).pending = s.pending := by
  unfold engineSwap
  dsimp only
  repeat' split
  all_goals simp

@[simp] theorem bankWrite_pending (addr : Nat) (w : BitVec 32) (s : State) :
    (bankWrite addr w s).pending = s.pending := by simp [bankWrite]
@[simp] theorem engineWarm_pending (s : State) : (engineWarm s).pending = s.pending := by simp [engineWarm]

/-! ### Bus -/

@[simp] theorem failTile_pending (t : Nat) (s : State) : (failTile t s).pending = s.pending := by
  unfold failTile
  dsimp only
  repeat' split
  all_goals simp

@[simp] theorem tileWritten_pending (t : Nat) (s : State) : (tileWritten t s).pending = s.pending := by
  unfold tileWritten
  dsimp only
  repeat' split
  all_goals simp

@[simp] theorem bufferTile_pending (t : Nat) (upset : Bool) (s : State) : (bufferTile t upset s).2.pending = s.pending := by
  unfold bufferTile
  dsimp only
  repeat' split
  all_goals simp

@[simp] theorem busRead_pending (a : Nat) (s : State) : (busRead a s).2.pending = s.pending := by
  unfold busRead
  dsimp only
  repeat' split
  all_goals simp

@[simp] theorem sealGo_pending (tile : Nat) (s : State) : (sealGo tile s).pending = s.pending := by simp [sealGo]
@[simp] theorem controlWrite_pending (off : Nat) (w : BitVec 32) (s : State) :
    (controlWrite off w s).pending = s.pending := by unfold controlWrite; split <;> simp
@[simp] theorem converterWrite_pending (off : Nat) (w : BitVec 32) (s : State) :
    (converterWrite off w s).pending = s.pending := by simp [converterWrite]
@[simp] theorem windowWrite_pending (off : Nat) (w : BitVec 32) (s : State) :
    (windowWrite off w s).pending = s.pending := by simp [windowWrite]
@[simp] theorem openStore_pending (a : Nat) (w : BitVec 32) (lanes : Nat) (s : State) :
    (openStore a w lanes s).pending = s.pending := by simp [openStore]

@[simp] theorem busWrite_pending (port : Bool) (a : Nat) (w : BitVec 32) (lanes : Nat) (s : State) :
    (busWrite port a w lanes s).2.pending = s.pending := by
  unfold busWrite
  dsimp only
  simp only [apply_ite Prod.snd, ite_pending]
  split
  · split <;> simp
  · simp

/-! ### Hart -/

@[simp] theorem setX_pending (k : Nat) (v : BitVec 32) (s : State) : (setX k v s).pending = s.pending := by simp [setX]
@[simp] theorem csrWrite_pending (num : Nat) (v : BitVec 32) (s : State) :
    (csrWrite num v s).pending = s.pending := by simp [csrWrite]
@[simp] theorem fallback_pending (cause : Nat) (addr : BitVec 32) (s : State) :
    (fallback cause addr s).pending = s.pending := by simp [fallback]
@[simp] theorem enterTrap_pending (cause : Nat) (tval : BitVec 32) (s : State) :
    (enterTrap cause tval s).pending = s.pending := by simp [enterTrap]
@[simp] theorem coreTrap_pending (cause : Nat) (tval : BitVec 32) (s : State) :
    (coreTrap cause tval s).pending = s.pending := by simp [coreTrap]
@[simp] theorem coreLoad_pending (a k : Nat) (s : State) :
    (coreLoad a k s).2.pending = s.pending := by unfold coreLoad; split <;> simp

@[simp] theorem coreStore_pending (a k v : Nat) (s : State) : (coreStore a k v s).2.pending = s.pending := by
  unfold coreStore
  dsimp only
  repeat' split
  all_goals simp

@[simp] theorem runHart_pending {trap : Nat → BitVec 32 → State → State} (ht : ∀ c a s, (trap c a s).pending = s.pending)
    (i : HInstr) (raw : BitVec 32) (len : Nat) (s : State) : (runHart trap i raw len s).pending = s.pending := by
  unfold runHart
  dsimp only
  repeat' split
  all_goals simp [ht]

@[simp] theorem fetchHalf_pending (a : Nat) (s : State) :
    (fetchHalf a s).2.pending = s.pending := by unfold fetchHalf; split <;> simp

@[simp] theorem fetchHart_pending (s : State) : (fetchHart s).2.pending = s.pending := by
  unfold fetchHart
  dsimp only
  repeat' split
  all_goals simp

@[simp] theorem fetchFails_pending {trap : Nat → BitVec 32 → State → State} (ht : ∀ c a s, (trap c a s).pending = s.pending)
    (a : Nat) (s : State) : (fetchFails trap a s).pending = s.pending := by
  simp [fetchFails, ht]

/-! ### Debug -/

@[simp] theorem dbgResult_pending (st : DbgSt) (rdata : BitVec 32) (s : State) :
    (dbgResult st rdata s).pending = s.pending := by simp [dbgResult]
@[simp] theorem dbgBusy_pending (s : State) : (dbgBusy s).pending = s.pending := by simp [dbgBusy]
@[simp] theorem dbgLock_pending (s : State) : (dbgLock s).pending = s.pending := by simp [dbgLock]

@[simp] theorem submitDone_pending (s : State) : (submitDone s).pending = s.pending := by
  unfold submitDone
  dsimp only
  repeat' split
  all_goals simp

@[simp] theorem dbgPeriod_pending (s : State) : (dbgPeriod s).pending = s.pending := by simp [dbgPeriod]
@[simp] theorem haltWith_pending (cause index : Nat) (s : State) :
    (haltWith cause index s).pending = s.pending := by simp [haltWith]
@[simp] theorem stepHalt_pending (t : Touch) (s : State) :
    (stepHalt t s).pending = s.pending := by unfold stepHalt; split <;> simp
@[simp] theorem stepHart_pending (s : State) : (stepHart s).pending = s.pending := by unfold stepHart; dsimp only; split <;> simp

/-! ### Firmware -/

@[simp] theorem loadEnd_pending (result : Nat) (s : State) :
    (loadEnd result s).pending = s.pending := by unfold loadEnd; split <;> simp
@[simp] theorem updLoad_pending (f : FwLoad → FwLoad) (s : State) : (updLoad f s).pending = s.pending := by simp [updLoad]

@[simp] theorem loadEdge_pending (s : State) : (loadEdge s).pending = s.pending := by
  unfold loadEdge
  dsimp only
  repeat' split
  all_goals simp

@[simp] theorem sealTiles_pending (t : Nat) (b : List Byte) (s : State) :
    (sealTiles t b s).pending = s.pending := by simp [sealTiles]
@[simp] theorem storeImage_pending (h b : List Byte) (s : State) : (storeImage h b s).pending = s.pending := by simp [storeImage]
@[simp] theorem restoreCluster_pending (tr : List Byte) (n : Nat) (s : State) :
    (restoreCluster tr n s).pending = s.pending := by simp [restoreCluster]
@[simp] theorem applyRecord_pending (b : List Byte) (s : State) : (applyRecord b s).pending = s.pending := by simp [applyRecord]
@[simp] theorem recordResumes_pending (f : FwLoad) (s : State) :
    (recordResumes f s).pending = s.pending := by simp [recordResumes]

/-! ### Power -/

@[simp] theorem islandReset_pending (s : State) : (islandReset s).pending = s.pending := by simp [islandReset]
@[simp] theorem closeSwitch_pending (s : State) : (closeSwitch s).pending = s.pending := by simp [closeSwitch]
@[simp] theorem islandLoads_pending (s : State) : (islandLoads s).pending = s.pending := by simp [islandLoads]
@[simp] theorem stageTick_pending (stage : Nat) (s : State) : (stageTick stage s).pending = s.pending := by simp [stageTick]
@[simp] theorem copyTile_pending (t : Nat) (b : List Byte) (s : State) :
    (copyTile t b s).pending = s.pending := by simp [copyTile]

@[simp] theorem copier_pending (s : State) : (copier s).pending = s.pending := by
  unfold copier
  extract_lets f s₁ s₂ s₃ s₄ s₅
  have h₁ : s₁.pending = s.pending := forEach_pending (fun t u => by simp) _ _
  have h₂ : s₂.pending = s₁.pending := forEach_pending (fun t u => by split <;> simp) _ _
  have h₃ : s₃.pending = s₂.pending := by simp only [s₃]; split <;> simp
  have h₄ : s₄.pending = s₃.pending := copyTile_pending _ _ _
  exact h₄.trans (h₃.trans (h₂.trans h₁))

@[simp] theorem chipEdge_pending (s : State) : (chipEdge s).pending = s.pending := by simp [chipEdge]
@[simp] theorem beginDescent_pending (s : State) : (beginDescent s).pending = s.pending := by simp [beginDescent]
@[simp] theorem paceDescent_pending (s : State) : (paceDescent s).pending = s.pending := by simp [paceDescent]
@[simp] theorem descentStop_pending (m : Nat) (s : State) : (descentStop m s).pending = s.pending := by simp [descentStop]
@[simp] theorem warmCommands_pending (s : State) : (warmCommands s).pending = s.pending := by simp [warmCommands]
@[simp] theorem warmRechar_pending (s : State) : (warmRechar s).pending = s.pending := by unfold warmRechar; split <;> simp
@[simp] theorem coreRestart_pending (s : State) : (coreRestart s).pending = s.pending := by simp [coreRestart]

/-! ### Frame -/

@[simp] theorem rollPeriod_pending (s : State) : (rollPeriod s).pending = s.pending := by simp [rollPeriod]
@[simp] theorem rollEvents_pending (s : State) : (rollEvents s).pending = s.pending := by simp [rollEvents]
@[simp] theorem endPace_pending (s : State) : (endPace s).pending = s.pending := by simp [endPace]
@[simp] theorem closeClock_pending (s : State) : (closeClock s).pending = s.pending := by simp [closeClock]
@[simp] theorem closeStage_pending (s : State) : (closeStage s).pending = s.pending := by simp [closeStage]
@[simp] theorem openStage_pending (stage : Nat) (s : State) : (openStage stage s).pending = s.pending := by simp [openStage]
@[simp] theorem latchPolicy_pending (x : Option (GovEval × List (Nat × Nat))) (s : State) :
    (latchPolicy x s).pending = s.pending := by unfold latchPolicy; split <;> simp
@[simp] theorem shedGroups_pending (s : State) : (shedGroups s).pending = s.pending := by simp [shedGroups]
@[simp] theorem retentionEdge_pending (s : State) : (retentionEdge s).pending = s.pending := by simp [retentionEdge]
@[simp] theorem unitsEdge_pending (loads : Bool) (s : State) : (unitsEdge loads s).pending = s.pending := by simp [unitsEdge]
@[simp] theorem edgeProtections_pending (crossings : List Crossing) (s : State) :
    (edgeProtections crossings s).pending = s.pending := by simp [edgeProtections]
@[simp] theorem edgeEffects_pending (x : Option (GovEval × List (Nat × Nat))) (loads : Bool) (s : State) :
    (edgeEffects x loads s).pending = s.pending := by simp [edgeEffects]
@[simp] theorem boundaryClock_pending (s : State) : (boundaryClock s).pending = s.pending := by simp [boundaryClock]
@[simp] theorem vinPace_pending (s : State) : (vinPace s).pending = s.pending := by simp [vinPace]
@[simp] theorem paceMeasures_pending (len : Nat) (inp : PaceIn) (s : State) :
    (paceMeasures len inp s).pending = s.pending := by simp [paceMeasures]
@[simp] theorem paceUnits_pending (s : State) : (paceUnits s).pending = s.pending := by simp [paceUnits]
@[simp] theorem paceResults_pending (s : State) : (paceResults s).pending = s.pending := by simp [paceResults]
@[simp] theorem paceTargets_pending (s : State) : (paceTargets s).pending = s.pending := by simp [paceTargets]
@[simp] theorem paceTrims_pending (s : State) : (paceTrims s).pending = s.pending := by simp [paceTrims]
@[simp] theorem paceDrives_pending (s : State) : (paceDrives s).pending = s.pending := by simp [paceDrives]

@[simp] theorem armNext_pending (s : State) : (armNext s).pending = s.pending := by
  refine forEach_pending (fun a u => ?_) _ _
  cases a with
  | arm k w i m =>
    by_cases hk : k = 1
    · subst hk; simp
    · simp [hk]
  | _ => simp

@[simp] theorem paceWork_pending (len : Nat) (inp : PaceIn) (s : State) :
    (paceWork len inp s).pending = s.pending := by simp [paceWork]
@[simp] theorem stepRail_pending (r : Nat) (s : State) : (stepRail r s).pending = s.pending := by simp [stepRail]
@[simp] theorem closePeriod_pending (s : State) : (closePeriod s).pending = s.pending := by simp [closePeriod]

end Sys2Proof.Machine
end

section
/-! SUPPORT. Every command goes on: the frames of the commands, then one lemma for each command, in the order of the model's files; from
them the statements about all commands and all steps (R49, R50, R378, R385). -/

namespace Sys2Proof.Machine

/-! ### How a command goes on -/

/-- From `s` a command goes on to a next state: the commands waiting are those of `s`, and the event path is settled if it is
in `s`. -/
def GoesOn (s : State) (o : Host.Outcome State Fault Refusal) : Prop :=
  ∃ t, o = .next t ∧ t.pending = s.pending ∧ (s.settledEvents → t.settledEvents)

theorem goesOn_next {s t : State} : GoesOn s (.next t) ↔ t.pending = s.pending ∧ (s.settledEvents → t.settledEvents) := by
  simp [GoesOn]

/-- A command may start from a state with the same queue and an event path as settled. -/
theorem GoesOn.of_start {s u : State} {o : Host.Outcome State Fault Refusal} (h : GoesOn u o) (hp : u.pending = s.pending)
    (he : s.settledEvents → u.settledEvents) : GoesOn s o := by
  obtain ⟨t, ho, hq, hs⟩ := h
  exact ⟨t, ho, hq.trans hp, hs ∘ he⟩

@[simp] theorem goesOn_idle (s : State) : GoesOn s (idle s) := goesOn_next.2 ⟨rfl, id⟩

@[simp] theorem goesOn_next_finish {s u : State} : GoesOn s (.next (finish u)) ↔ u.pending = s.pending := by
  simp [goesOn_next, finish_settled]

@[simp] theorem goesOn_done {s u : State} : GoesOn s (done u) ↔ u.pending = s.pending := goesOn_next_finish

@[simp] theorem goesOn_ite (s : State) (c : Prop) [Decidable c] (a b : Host.Outcome State Fault Refusal) :
    GoesOn s (if c then a else b) ↔ if c then GoesOn s a else GoesOn s b := by split <;> rfl

/-! ### Time that passes keeps the event path settled -/

/-- What falls on the way enters the event path at once, but in an edge cycle. -/
theorem fallTo_settled (t fuel : Nat) {s : State} (h : s.settledEvents) : (fallTo t fuel s).settledEvents := by
  induction fuel generalizing s with
  | zero => exact h
  | succ fuel ih =>
    unfold fallTo
    split
    · exact h
    · dsimp only
      apply ih
      split
      · next hp => exact fun hq => absurd (hp.symm.trans hq) (by decide)
      · exact fun _ => enterEvents_fresh _

theorem passTo_settled (t : Nat) {s : State} (h : s.settledEvents) : (passTo t s).settledEvents := by
  unfold passTo
  split
  · exact h
  · exact fallTo_settled t _ h

theorem reach_settled {due : Nat} {s u : State} (h : reach due s = some u) (hs : s.settledEvents) : u.settledEvents := by
  unfold reach at h
  split at h
  · exact Option.some.inj h ▸ hs
  · split at h
    · exact Option.some.inj h ▸ passTo_settled due hs
    · exact absurd h (by simp)

theorem tick_settled {s : State} (h : s.settledEvents) : (tick s).settledEvents := by
  unfold tick
  split
  · exact h
  · exact passTo_settled _ h

theorem goesOn_tick (s : State) : GoesOn s (.next (tick s)) := goesOn_next.2 ⟨tick_pending s, tick_settled⟩

/-! ### The frames of the commands -/

@[simp] theorem goesOn_atTime {f : State → State} (hf : ∀ u, SameQueue u (f u)) (due : Nat) (s : State) :
    GoesOn s (atTime due f s) := by
  unfold atTime
  split
  · next u hu => rw [goesOn_done, (hf u).pending_eq, reach_pending hu]
  · exact goesOn_idle s

@[simp] theorem goesOn_lapse {f : State → State} (hf : ∀ u, SameQueue u (f u)) (s : State) : GoesOn s (lapse f s) := by
  unfold lapse
  split
  · exact goesOn_idle s
  · exact (goesOn_tick _).of_start (by rw [finish_pending, (hf s).pending_eq]) (fun _ => finish_settled _)

@[simp] theorem goesOn_lapseAt {f : State → State} (hf : ∀ u, SameQueue u (f u)) (due : Nat) (s : State) :
    GoesOn s (lapseAt due f s) := by
  unfold lapseAt
  split
  · next u hu => exact (goesOn_lapse hf u).of_start (reach_pending hu) (reach_settled hu)
  · exact goesOn_idle s

@[simp] theorem goesOn_inTurn {f : State → Host.Outcome State Fault Refusal} (hf : ∀ u, GoesOn u (f u)) (p : Packet) (s : State) :
    GoesOn s (inTurn p s f) := by
  unfold inTurn
  split
  · exact goesOn_idle s
  · split
    · exact hf s
    · split
      · exact goesOn_idle s
      · exact (hf (tick s)).of_start (tick_pending s) tick_settled

@[simp] theorem goesOn_command {effect : State → State} (he : ∀ u, SameQueue u (effect u)) (p : Packet) (op : Nat)
    (checks : List (Bool × Status)) (s : State) : GoesOn s (command p op checks effect s) := by
  unfold command
  split
  · exact goesOn_idle s
  · split <;> simp [(he _).pending_eq]

@[simp] theorem goesOn_cvyReceive {f : State → State} (hf : ∀ u, SameQueue u (f u)) (type : Nat) (m : ConvoyMsg)
    (s : State) : GoesOn s (cvyReceive type m f s) := by
  simp [cvyReceive, (hf _).pending_eq]

@[simp] theorem goesOn_dbgOp {effect : State → State} (he : ∀ u, SameQueue u (effect u)) (op : Nat) (whenLocked : Bool)
    (s : State) : GoesOn s (dbgOp op whenLocked effect s) := by
  simp [dbgOp, (he _).pending_eq]

/-- The positions that a converter passes leave the event path and the stage frame as they are. -/
theorem convTo_settled (u t : Nat) {s : State} (h : s.settledEvents) : (convTo u t s).settledEvents := by
  unfold convTo; split <;> exact h

/-! ### Cells -/

@[simp] theorem execCellCurrentLimit_goesOn (x : CellVolt) (s : State) :
    GoesOn s (execCellCurrentLimit x s) := by simp [execCellCurrentLimit]
@[simp] theorem execCellHealthFault_goesOn (x : CellSense) (cause : CellCause) (s : State) :
    GoesOn s (execCellHealthFault x cause s) := by simp [execCellHealthFault]
@[simp] theorem execCellIsolationComplete_goesOn (c : CellId) (s : State) :
    GoesOn s (execCellIsolationComplete c s) := by unfold execCellIsolationComplete; split <;> simp

/-! ### Phases -/

@[simp] theorem execPhasePulseStart_goesOn (g : GroupId) (sense : Int) (s : State) :
    GoesOn s (execPhasePulseStart g sense s) := by simp [execPhasePulseStart]
@[simp] theorem execPhasePulseEnd_goesOn (i : PhaseId) (s : State) :
    GoesOn s (execPhasePulseEnd i s) := by simp [execPhasePulseEnd]
@[simp] theorem execPhaseOvercurrent_goesOn (i : PhaseId) (below : Bool) (s : State) :
    GoesOn s (execPhaseOvercurrent i below s) := by simp [execPhaseOvercurrent]
@[simp] theorem execPhaseFaultFlag_goesOn (i : PhaseId) (low : Bool) (s : State) :
    GoesOn s (execPhaseFaultFlag i low s) := by simp [execPhaseFaultFlag]
@[simp] theorem execPhaseParkDisable_goesOn (i : PhaseId) (amps : Nat) (s : State) :
    GoesOn s (execPhaseParkDisable i amps s) := by simp [execPhaseParkDisable]
@[simp] theorem execPhaseUnparkReady_goesOn (i : PhaseId) (s : State) :
    GoesOn s (execPhaseUnparkReady i s) := by unfold execPhaseUnparkReady; dsimp only; split <;> simp
@[simp] theorem execPhaseGroupSettings_goesOn (p : Packet) (s : State) :
    GoesOn s (execPhaseGroupSettings p s) := by simp [execPhaseGroupSettings]
@[simp] theorem execPhaseDisableByHost_goesOn (p : Packet) (s : State) :
    GoesOn s (execPhaseDisableByHost p s) := by simp [execPhaseDisableByHost]
@[simp] theorem execPhaseReenable_goesOn (p : Packet) (s : State) :
    GoesOn s (execPhaseReenable p s) := by simp [execPhaseReenable]
@[simp] theorem execSpareIntoService_goesOn (p : Packet) (s : State) :
    GoesOn s (execSpareIntoService p s) := by simp [execSpareIntoService]
@[simp] theorem execSpareToReserve_goesOn (p : Packet) (s : State) :
    GoesOn s (execSpareToReserve p s) := by simp [execSpareToReserve]

@[simp] theorem execPhaseCheckDone_goesOn (i : PhaseId) (curr : Int) (s : State) : GoesOn s (execPhaseCheckDone i curr s) := by
  unfold execPhaseCheckDone
  dsimp only
  repeat' split
  all_goals simp

/-! ### Adc -/

@[simp] theorem execSeqSwap_goesOn (mask : BitVec 16) (s : State) : GoesOn s (execSeqSwap mask s) := by simp [execSeqSwap]

@[simp] theorem execSeqValidationDone_goesOn (u : ConvId) (s : State) : GoesOn s (execSeqValidationDone u s) := by
  unfold execSeqValidationDone
  dsimp only
  repeat' split
  all_goals simp

@[simp] theorem execAdcResult_goesOn (c : ChanId) (d : Nat) (urgent : Bool) (s : State) : GoesOn s (execAdcResult c d urgent s) := by
  unfold execAdcResult
  dsimp only
  split
  · exact goesOn_idle s
  · split
    · exact goesOn_idle s
    · exact (goesOn_atTime (by simp) _ _).of_start rfl id

@[simp] theorem execAdcUrgentRequest_goesOn (c : Nat) (s : State) :
    GoesOn s (execAdcUrgentRequest c s) := by simp [execAdcUrgentRequest]

@[simp] theorem execAdcSyscalDone_goesOn (u : ConvId) (sz sr : Nat) (s : State) : GoesOn s (execAdcSyscalDone u sz sr s) := by
  unfold execAdcSyscalDone
  dsimp only
  split
  · split
    · exact (goesOn_atTime (by simp) _ _).of_start (by simp) (convTo_settled _ _)
    · exact goesOn_idle s
  · exact goesOn_idle s

@[simp] theorem execAdcBgBlockDone_goesOn (u : ConvId) (sz sr : Nat) (s : State) : GoesOn s (execAdcBgBlockDone u sz sr s) := by
  unfold execAdcBgBlockDone
  dsimp only
  split
  · split
    · exact (goesOn_atTime (by simp) _ _).of_start (by simp) (convTo_settled _ _)
    · exact goesOn_idle s
  · exact goesOn_idle s

@[simp] theorem execAdcSpareExchange_goesOn (u : ConvId) (w : Int) (s : State) :
    GoesOn s (execAdcSpareExchange u w s) := by simp [execAdcSpareExchange]
@[simp] theorem execAdcCalibrateSystem_goesOn (p : Packet) (s : State) :
    GoesOn s (execAdcCalibrateSystem p s) := by simp [execAdcCalibrateSystem]
@[simp] theorem execAdcCalTimeout_goesOn (s : State) :
    GoesOn s (execAdcCalTimeout s) := by unfold execAdcCalTimeout; split <;> simp
@[simp] theorem execAdcSetCalMode_goesOn (p : Packet) (s : State) :
    GoesOn s (execAdcSetCalMode p s) := by simp [execAdcSetCalMode]

/-! ### Transient -/

@[simp] theorem execSentinelTrip_goesOn (x : DomainVolt) (s : State) :
    GoesOn s (execSentinelTrip x s) := by simp [execSentinelTrip]

@[simp] theorem execStretchRelease_goesOn (x : DomainSince) (s : State) : GoesOn s (execStretchRelease x s) := by
  unfold execStretchRelease
  dsimp only
  split
  · exact goesOn_idle s
  · split
    · next u hu => simp [reach_pending hu]
    · exact goesOn_idle s

@[simp] theorem execBellowsFireEnd_goesOn (n : ClusterId) (low : Bool) (s : State) :
    GoesOn s (execBellowsFireEnd n low s) := by simp [execBellowsFireEnd]
@[simp] theorem execBellowsSlotGrant_goesOn (n : ClusterId) (s : State) :
    GoesOn s (execBellowsSlotGrant n s) := by unfold execBellowsSlotGrant; dsimp only; split <;> simp
@[simp] theorem execBellowsChargeDone_goesOn (n : ClusterId) (s : State) :
    GoesOn s (execBellowsChargeDone n s) := by simp [execBellowsChargeDone]
@[simp] theorem execBellowsChargeTimeout_goesOn (n : ClusterId) (s : State) :
    GoesOn s (execBellowsChargeTimeout n s) := by simp [execBellowsChargeTimeout]
@[simp] theorem execBellowsFlagConflict_goesOn (n : ClusterId) (s : State) :
    GoesOn s (execBellowsFlagConflict n s) := by simp [execBellowsFlagConflict]

/-! ### Clusters -/

@[simp] theorem execClusterStateEcho_goesOn (n : ClusterId) (code : Nat) (s : State) :
    GoesOn s (execClusterStateEcho n code s) := by
  unfold execClusterStateEcho
  dsimp only
  repeat' split
  all_goals simp

@[simp] theorem execHandshakeTimeout_goesOn (n : ClusterId) (s : State) :
    GoesOn s (execHandshakeTimeout n s) := by unfold execHandshakeTimeout; dsimp only; split <;> simp

@[simp] theorem execWakeAdmission_goesOn (n : ClusterId) (s : State) : GoesOn s (execWakeAdmission n s) := by
  unfold execWakeAdmission
  dsimp only
  repeat' split
  all_goals simp

@[simp] theorem execWakeDeadlineExpiry_goesOn (n : ClusterId) (s : State) :
    GoesOn s (execWakeDeadlineExpiry n s) := by unfold execWakeDeadlineExpiry; dsimp only; split <;> simp
@[simp] theorem execWakeSelfTestEnd_goesOn (n : ClusterId) (badCells : List Nat) (sentinelOk : Bool) (s : State) :
    GoesOn s (execWakeSelfTestEnd n badCells sentinelOk s) := by unfold execWakeSelfTestEnd; split <;> simp
@[simp] theorem execClusterWakeEdge_goesOn (n : ClusterId) (s : State) :
    GoesOn s (execClusterWakeEdge n s) := by simp [execClusterWakeEdge]
@[simp] theorem execWakeLatchReplay_goesOn (n : ClusterId) (s : State) :
    GoesOn s (execWakeLatchReplay n s) := by simp [execWakeLatchReplay]
@[simp] theorem execDroneEnter_goesOn (p : Packet) (s : State) : GoesOn s (execDroneEnter p s) := by simp [execDroneEnter]
@[simp] theorem execDroneExit_goesOn (p : Packet) (s : State) : GoesOn s (execDroneExit p s) := by simp [execDroneExit]
@[simp] theorem execClusterSetState_goesOn (p : Packet) (s : State) :
    GoesOn s (execClusterSetState p s) := by simp [execClusterSetState]
@[simp] theorem execClusterSetOffset_goesOn (p : Packet) (s : State) :
    GoesOn s (execClusterSetOffset p s) := by simp [execClusterSetOffset]
@[simp] theorem execSaRetentionAck_goesOn (banks : List Nat) (s : State) :
    GoesOn s (execSaRetentionAck banks s) := by simp [execSaRetentionAck]
@[simp] theorem execSaBankPinned_goesOn (b : Nat) (pinned : Bool) (s : State) :
    GoesOn s (execSaBankPinned b pinned s) := by simp [execSaBankPinned]

/-! ### Levels -/

@[simp] theorem execSetLevelTable_goesOn (p : Packet) (s : State) :
    GoesOn s (execSetLevelTable p s) := by simp [execSetLevelTable]
@[simp] theorem execSetFixedFrequency_goesOn (p : Packet) (s : State) :
    GoesOn s (execSetFixedFrequency p s) := by simp [execSetFixedFrequency]
@[simp] theorem execFreqDone_goesOn (s : State) : GoesOn s (execFreqDone s) := by simp [execFreqDone]
@[simp] theorem execFreqNoDoneTimeout_goesOn (s : State) : GoesOn s (execFreqNoDoneTimeout s) := by simp [execFreqNoDoneTimeout]
@[simp] theorem execCurveTileReadDone_goesOn (t : Nat) (upset : Bool) (s : State) :
    GoesOn s (execCurveTileReadDone t upset s) := by simp [execCurveTileReadDone]
@[simp] theorem execCalTileReadDone_goesOn (t : Nat) (upset : Bool) (s : State) :
    GoesOn s (execCalTileReadDone t upset s) := by simp [execCalTileReadDone]
@[simp] theorem execCellRecharacterize_goesOn (p : Packet) (s : State) :
    GoesOn s (execCellRecharacterize p s) := by simp [execCellRecharacterize]
@[simp] theorem execRecharWindowStep_goesOn (n : ClusterId) (pass : Bool) (bad : List Nat) (s : State) :
    GoesOn s (execRecharWindowStep n pass bad s) := by unfold execRecharWindowStep; split <;> simp

/-! ### Rails -/

@[simp] theorem execRailEnable_goesOn (p : Packet) (s : State) : GoesOn s (execRailEnable p s) := by simp [execRailEnable]
@[simp] theorem execTrackingPrecheck_goesOn (meas : List PreCheck) (s : State) :
    GoesOn s (execTrackingPrecheck meas s) := by unfold execTrackingPrecheck; split <;> simp
@[simp] theorem execRailDisable_goesOn (p : Packet) (s : State) : GoesOn s (execRailDisable p s) := by simp [execRailDisable]
@[simp] theorem execTrackingStopLowSideEnd_goesOn (r : Nat) (below : Bool) (s : State) :
    GoesOn s (execTrackingStopLowSideEnd r below s) := by unfold execTrackingStopLowSideEnd; split <;> simp
@[simp] theorem execRailSetTarget_goesOn (p : Packet) (s : State) :
    GoesOn s (execRailSetTarget p s) := by simp [execRailSetTarget]

@[simp] theorem execSenseLineLoss_goesOn (r : Nat) (x : SenseIn) (s : State) : GoesOn s (execSenseLineLoss r x s) := by
  unfold execSenseLineLoss
  repeat' split
  all_goals simp

/-! ### Governor -/

@[simp] theorem execSetLimits_goesOn (p : Packet) (s : State) : GoesOn s (execSetLimits p s) := by simp [execSetLimits]
@[simp] theorem execSetLevelPreference_goesOn (p : Packet) (s : State) :
    GoesOn s (execSetLevelPreference p s) := by simp [execSetLevelPreference]
@[simp] theorem execSetSwell_goesOn (p : Packet) (s : State) : GoesOn s (execSetSwell p s) := by simp [execSetSwell]
@[simp] theorem execAdmitGuarantee_goesOn (p : Packet) (s : State) :
    GoesOn s (execAdmitGuarantee p s) := by simp [execAdmitGuarantee]
@[simp] theorem execRevokeGuarantee_goesOn (p : Packet) (s : State) :
    GoesOn s (execRevokeGuarantee p s) := by simp [execRevokeGuarantee]

/-! ### Convoy -/

@[simp] theorem execSync_goesOn (m : ConvoyMsg) (s : State) : GoesOn s (execSync m s) := by simp [execSync]
@[simp] theorem execEchoReq_goesOn (m : ConvoyMsg) (s : State) : GoesOn s (execEchoReq m s) := by simp [execEchoReq]

@[simp] theorem execEchoRsp_goesOn (m : ConvoyMsg) (s : State) : GoesOn s (execEchoRsp m s) :=
  goesOn_cvyReceive (fun _ => by split <;> simp) _ m s

@[simp] theorem execStageTrimDecision_goesOn (s : State) :
    GoesOn s (execStageTrimDecision s) := by unfold execStageTrimDecision; dsimp only; split <;> simp
@[simp] theorem execConvoyCheckpoint_goesOn (s : State) : GoesOn s (execConvoyCheckpoint s) := by simp [execConvoyCheckpoint]
@[simp] theorem execConvoyUpDeadline_goesOn (s : State) : GoesOn s (execConvoyUpDeadline s) := by simp [execConvoyUpDeadline]
@[simp] theorem execUp_goesOn (m : ConvoyMsg) (s : State) : GoesOn s (execUp m s) := by simp [execUp]
@[simp] theorem execRootAnnounce_goesOn (s : State) : GoesOn s (execRootAnnounce s) := by simp [execRootAnnounce]
@[simp] theorem execAnnounce_goesOn (m : ConvoyMsg) (s : State) : GoesOn s (execAnnounce m s) := by simp [execAnnounce]
@[simp] theorem execAck_goesOn (m : ConvoyMsg) (s : State) : GoesOn s (execAck m s) := by simp [execAck]

@[simp] theorem execConvoyAckDeadline_goesOn (s : State) : GoesOn s (execConvoyAckDeadline s) := by
  unfold execConvoyAckDeadline
  dsimp only
  repeat' split
  all_goals simp

@[simp] theorem execCancel_goesOn (m : ConvoyMsg) (s : State) : GoesOn s (execCancel m s) := by simp [execCancel]
@[simp] theorem execPrioReq_goesOn (m : ConvoyMsg) (s : State) : GoesOn s (execPrioReq m s) := by simp [execPrioReq]
@[simp] theorem execPrioAnnounce_goesOn (m : ConvoyMsg) (s : State) :
    GoesOn s (execPrioAnnounce m s) := by simp [execPrioAnnounce]
@[simp] theorem execJoined_goesOn (m : ConvoyMsg) (s : State) : GoesOn s (execJoined m s) := by simp [execJoined]
@[simp] theorem execLeft_goesOn (m : ConvoyMsg) (s : State) : GoesOn s (execLeft m s) := by simp [execLeft]
@[simp] theorem execConvoySyncLoss_goesOn (s : State) : GoesOn s (execConvoySyncLoss s) := by simp [execConvoySyncLoss]
@[simp] theorem execConvoyJoinTimeout_goesOn (s : State) : GoesOn s (execConvoyJoinTimeout s) := by simp [execConvoyJoinTimeout]
@[simp] theorem execConvoyJoin_goesOn (p : Packet) (s : State) : GoesOn s (execConvoyJoin p s) := by simp [execConvoyJoin]
@[simp] theorem execConvoyLeave_goesOn (p : Packet) (s : State) : GoesOn s (execConvoyLeave p s) := by simp [execConvoyLeave]
@[simp] theorem execConvoyHostProposal_goesOn (p : Packet) (s : State) :
    GoesOn s (execConvoyHostProposal p s) := by simp [execConvoyHostProposal]
@[simp] theorem execConvoyClearSkew_goesOn (p : Packet) (s : State) :
    GoesOn s (execConvoyClearSkew p s) := by simp [execConvoyClearSkew]
@[simp] theorem execConvoyDropPort_goesOn (p : Packet) (s : State) :
    GoesOn s (execConvoyDropPort p s) := by simp [execConvoyDropPort]
@[simp] theorem execConvoyStatus_goesOn (p : Packet) (s : State) : GoesOn s (execConvoyStatus p s) := by simp [execConvoyStatus]

/-! ### Energy -/

@[simp] theorem execActivityRecord_goesOn (rec : BitVec 128) (s : State) :
    GoesOn s (execActivityRecord rec s) := by simp [execActivityRecord]
@[simp] theorem execEnergyReconcile_goesOn (s : State) :
    GoesOn s (execEnergyReconcile s) := by unfold execEnergyReconcile; split <;> simp
@[simp] theorem execFrameDeadlineExpiry_goesOn (s : State) :
    GoesOn s (execFrameDeadlineExpiry s) := by unfold execFrameDeadlineExpiry; split <;> simp
@[simp] theorem execLedgerPostAck_goesOn (st : DmaStatus) (s : State) :
    GoesOn s (execLedgerPostAck st s) := by unfold execLedgerPostAck; split <;> simp
@[simp] theorem execFrameWriteDone_goesOn (st : DmaStatus) (s : State) :
    GoesOn s (execFrameWriteDone st s) := by unfold execFrameWriteDone; split <;> simp
@[simp] theorem execEnergySetLedgerAddr_goesOn (p : Packet) (s : State) :
    GoesOn s (execEnergySetLedgerAddr p s) := by simp [execEnergySetLedgerAddr]
@[simp] theorem execEnergySetFrameRing_goesOn (p : Packet) (s : State) :
    GoesOn s (execEnergySetFrameRing p s) := by simp [execEnergySetFrameRing]
@[simp] theorem execEnergyRead_goesOn (p : Packet) (s : State) : GoesOn s (execEnergyRead p s) := by simp [execEnergyRead]
@[simp] theorem execEnergyModelLoad_goesOn (p : Packet) (s : State) :
    GoesOn s (execEnergyModelLoad p s) := by simp [execEnergyModelLoad]

/-! ### Manifest -/

@[simp] theorem execManifestLoad_goesOn (p : Packet) (s : State) : GoesOn s (execManifestLoad p s) := by simp [execManifestLoad]

@[simp] theorem execManifestHeaderArrival_goesOn (data : Option (List Byte)) (s : State) :
    GoesOn s (execManifestHeaderArrival data s) := by
  unfold execManifestHeaderArrival
  dsimp only
  repeat' split
  all_goals simp

@[simp] theorem execManifestBlockArrival_goesOn (slot : Nat) (data : Option (List Byte)) (s : State) :
    GoesOn s (execManifestBlockArrival slot data s) := by
  unfold execManifestBlockArrival
  dsimp only
  repeat' split
  all_goals simp

@[simp] theorem execManifestLoadTimeout_goesOn (s : State) :
    GoesOn s (execManifestLoadTimeout s) := by simp [execManifestLoadTimeout]
@[simp] theorem execManifestLateExpiry_goesOn (slot : Nat) (s : State) :
    GoesOn s (execManifestLateExpiry slot s) := by unfold execManifestLateExpiry; dsimp only; split <;> simp
@[simp] theorem execManifestTileReadDone_goesOn (t : Nat) (upset : Bool) (s : State) :
    GoesOn s (execManifestTileReadDone t upset s) := by unfold execManifestTileReadDone; dsimp only; split <;> simp

@[simp] theorem execManifestEngage_goesOn (p : Packet) (s : State) : GoesOn s (execManifestEngage p s) := by
  refine goesOn_inTurn (fun u => goesOn_command (fun v => ⟨?_⟩) _ _ _ u) p s
  rw [reply_pending, forEach_pending]
  intro a w
  split <;> simp

@[simp] theorem execManifestRelease_goesOn (p : Packet) (s : State) : GoesOn s (execManifestRelease p s) := by
  refine goesOn_inTurn (fun u => goesOn_command (fun v => ⟨?_⟩) _ _ _ u) p s
  rw [markEffect_pending]
  refine forEach_pending (fun a w => ?_) _ _
  split <;> simp

@[simp] theorem execManifestStatus_goesOn (p : Packet) (s : State) :
    GoesOn s (execManifestStatus p s) := by simp [execManifestStatus]

/-! ### Thermal -/

@[simp] theorem execGraceExpiry_goesOn (s : State) : GoesOn s (execGraceExpiry s) := by unfold execGraceExpiry; split <;> simp
@[simp] theorem execThermalCeilingStep_goesOn (s : State) :
    GoesOn s (execThermalCeilingStep s) := by simp [execThermalCeilingStep]
@[simp] theorem execDiodeResult_goesOn (dUv vf : Int) (s : State) :
    GoesOn s (execDiodeResult dUv vf s) := by simp [execDiodeResult]
@[simp] theorem execRestartToStandbyReady_goesOn (s : State) :
    GoesOn s (execRestartToStandbyReady s) := by simp [execRestartToStandbyReady]
@[simp] theorem execRestartCoreRails_goesOn (s : State) : GoesOn s (execRestartCoreRails s) := by simp [execRestartCoreRails]
@[simp] theorem execThermalThresholds_goesOn (p : Packet) (s : State) :
    GoesOn s (execThermalThresholds p s) := by simp [execThermalThresholds]
@[simp] theorem execThermalCalibrate_goesOn (p : Packet) (s : State) :
    GoesOn s (execThermalCalibrate p s) := by simp [execThermalCalibrate]
@[simp] theorem execThermalCalDone_goesOn (s : State) :
    GoesOn s (execThermalCalDone s) := by unfold execThermalCalDone; split <;> simp
@[simp] theorem execThermalStatus_goesOn (p : Packet) (s : State) :
    GoesOn s (execThermalStatus p s) := by simp [execThermalStatus]

/-! ### Caravan -/

@[simp] theorem execCaravanOpen_goesOn (p : Packet) (s : State) : GoesOn s (execCaravanOpen p s) := by simp [execCaravanOpen]
@[simp] theorem execCaravanOpenTimeout_goesOn (k : Nat) (s : State) :
    GoesOn s (execCaravanOpenTimeout k s) := by simp [execCaravanOpenTimeout]

@[simp] theorem execCaravanMember_goesOn (p : Packet) (op id : Nat) (s : State) : GoesOn s (execCaravanMember p op id s) := by
  refine goesOn_inTurn (fun u => ?_) p s
  dsimp only
  repeat' split
  all_goals simp

@[simp] theorem execCaravanEdgeCheck_goesOn (s : State) : GoesOn s (execCaravanEdgeCheck s) := by simp [execCaravanEdgeCheck]
@[simp] theorem execThermalTrip_goesOn (s : State) : GoesOn s (execThermalTrip s) := by simp [execThermalTrip]
@[simp] theorem execCaravanCutoff_goesOn (s : State) : GoesOn s (execCaravanCutoff s) := by simp [execCaravanCutoff]
@[simp] theorem execCaravanCommit_goesOn (p : Packet) (s : State) :
    GoesOn s (execCaravanCommit p s) := by simp [execCaravanCommit]

@[simp] theorem execCaravanAbort_goesOn (p : Packet) (s : State) : GoesOn s (execCaravanAbort p s) := by
  refine goesOn_inTurn (fun u => ?_) p s
  dsimp only
  split
  · exact goesOn_idle u
  · refine goesOn_command (fun v => ⟨?_⟩) _ _ _ u
    rw [reply_pending]
    split <;> simp

@[simp] theorem execCaravanStatus_goesOn (p : Packet) (s : State) :
    GoesOn s (execCaravanStatus p s) := by simp [execCaravanStatus]

/-! ### Commands -/

@[simp] theorem execCommandDoorbell_goesOn (tail : Nat) (s : State) :
    GoesOn s (execCommandDoorbell tail s) := by simp [execCommandDoorbell]
@[simp] theorem execCommandSlotFetchDone_goesOn (slots : List (Option (List Byte))) (s : State) :
    GoesOn s (execCommandSlotFetchDone slots s) := by simp [execCommandSlotFetchDone]
@[simp] theorem execCommandSlotTake_goesOn (s : State) :
    GoesOn s (execCommandSlotTake s) := by unfold execCommandSlotTake; split <;> simp
@[simp] theorem execIndirectPayloadFetchDone_goesOn (o : Origin) (data : Option (List Byte)) (s : State) :
    GoesOn s (execIndirectPayloadFetchDone o data s) := by simp [execIndirectPayloadFetchDone]
@[simp] theorem execMailboxGo_goesOn (s : State) : GoesOn s (execMailboxGo s) := by simp [execMailboxGo]
@[simp] theorem slotExpiry_goesOn (o : Origin) (s : State) : GoesOn s (slotExpiry o s) := by unfold slotExpiry; split <;> simp
@[simp] theorem execReplyDeadlineExpiry_goesOn (o : Origin) (s : State) :
    GoesOn s (execReplyDeadlineExpiry o s) := by simp [execReplyDeadlineExpiry]
@[simp] theorem execReplyHoldDrain_goesOn (s : State) :
    GoesOn s (execReplyHoldDrain s) := by unfold execReplyHoldDrain; split <;> simp

@[simp] theorem execEventRingWrite_goesOn (s : State) : GoesOn s (execEventRingWrite s) := by
  unfold execEventRingWrite
  dsimp only
  repeat' split
  all_goals simp

@[simp] theorem execRingControlWrite_goesOn (w : BitVec 32) (s : State) :
    GoesOn s (execRingControlWrite w s) := by simp [execRingControlWrite]
@[simp] theorem execEventCauseClear_goesOn (w : BitVec 32) (s : State) :
    GoesOn s (execEventCauseClear w s) := by simp [execEventCauseClear]
@[simp] theorem execApertureWrite_goesOn (x : Access) (_w : BitVec 32) (s : State) :
    GoesOn s (execApertureWrite x _w s) := by simp [execApertureWrite]
@[simp] theorem execRegisterWrite_goesOn (x : Access) (w : BitVec 32) (s : State) :
    GoesOn s (execRegisterWrite x w s) := by simp [execRegisterWrite]
@[simp] theorem execStageLoRead_goesOn (s : State) : GoesOn s (execStageLoRead s) := by simp [execStageLoRead]
@[simp] theorem execLedgerLoRead_goesOn (x : LedgerRead) (s : State) :
    GoesOn s (execLedgerLoRead x s) := by simp [execLedgerLoRead]
@[simp] theorem execApertureRead_goesOn (x : Access) (upset : Bool) (s : State) :
    GoesOn s (execApertureRead x upset s) := by simp [execApertureRead]
@[simp] theorem execPing_goesOn (p : Packet) (s : State) : GoesOn s (execPing p s) := by simp [execPing]
@[simp] theorem execGetInfo_goesOn (p : Packet) (s : State) : GoesOn s (execGetInfo p s) := by simp [execGetInfo]
@[simp] theorem execArm_goesOn (p : Packet) (s : State) : GoesOn s (execArm p s) := by simp [execArm]
@[simp] theorem execDisarm_goesOn (p : Packet) (s : State) : GoesOn s (execDisarm p s) := by simp [execDisarm]
@[simp] theorem execSetEventMask_goesOn (p : Packet) (s : State) : GoesOn s (execSetEventMask p s) := by simp [execSetEventMask]
@[simp] theorem execRailGetStatus_goesOn (p : Packet) (s : State) :
    GoesOn s (execRailGetStatus p s) := by simp [execRailGetStatus]
@[simp] theorem execClusterGetStatus_goesOn (p : Packet) (s : State) :
    GoesOn s (execClusterGetStatus p s) := by simp [execClusterGetStatus]
@[simp] theorem execDiagReadTrace_goesOn (p : Packet) (s : State) :
    GoesOn s (execDiagReadTrace p s) := by simp [execDiagReadTrace]
@[simp] theorem execTraceCopyDone_goesOn (s : State) :
    GoesOn s (execTraceCopyDone s) := by unfold execTraceCopyDone; split <;> simp

/-! ### Engine -/

theorem evaluated_pending (parity : List Nat) (s : State) : (evaluated parity s).pending = s.pending := by
  by_cases h : overruns s = []
  · have hp := congrArg State.pending (evaluated_apart_of_fits parity h)
    exact hp
  · have hp := congrArg State.pending (evaluated_apart_of_overrun parity h)
    exact hp

@[simp] theorem execEngineEvalDeadline_goesOn (parity : List Nat) (s : State) : GoesOn s (execEngineEvalDeadline parity s) := by
  unfold execEngineEvalDeadline
  split
  · exact goesOn_idle s
  · exact goesOn_lapseAt (f := evaluated parity) (fun u => ⟨evaluated_pending parity u⟩) _ s

@[simp] theorem execSwap_goesOn (s : State) : GoesOn s (execSwap s) := by simp [execSwap]

@[simp] theorem execPlanValidationDone_goesOn (parity : List Nat) (s : State) : GoesOn s (execPlanValidationDone parity s) := by
  unfold execPlanValidationDone
  dsimp only
  repeat' split
  all_goals simp

@[simp] theorem execEngineBankWrite_goesOn (addr : Nat) (w : BitVec 32) (s : State) :
    GoesOn s (execEngineBankWrite addr w s) := by simp [execEngineBankWrite]

/-! ### Bus -/

@[simp] theorem execSealGo_goesOn (tile : Nat) (s : State) : GoesOn s (execSealGo tile s) := by simp [execSealGo]
@[simp] theorem execSealWriteDone_goesOn (s : State) :
    GoesOn s (execSealWriteDone s) := by unfold execSealWriteDone; split <;> simp
@[simp] theorem execCoreHostWindowWrite_goesOn (off : Nat) (w : BitVec 32) (s : State) :
    GoesOn s (execCoreHostWindowWrite off w s) := by simp [execCoreHostWindowWrite]

/-! ### Hart -/

@[simp] theorem execCoreTileReadDone_goesOn (t : Nat) (upset fetch : Bool) (s : State) :
    GoesOn s (execCoreTileReadDone t upset fetch s) := by simp [execCoreTileReadDone]
@[simp] theorem execFirmwareFallback_goesOn (cause : Nat) (addr : BitVec 32) (s : State) :
    GoesOn s (execFirmwareFallback cause addr s) := by simp [execFirmwareFallback]

/-! ### Debug -/

@[simp] theorem execNop_goesOn (s : State) : GoesOn s (execNop s) := by simp [execNop]

@[simp] theorem execChallenge_goesOn (addr : Nat) (s : State) : GoesOn s (execChallenge addr s) := by
  refine goesOn_dbgOp (fun u => ?_) _ _ s
  dsimp only
  repeat' split
  all_goals simp

@[simp] theorem execResponse_goesOn (addr : Nat) (w : BitVec 32) (s : State) :
    GoesOn s (execResponse addr w s) := by simp [execResponse]
@[simp] theorem execSubmit_goesOn (s : State) : GoesOn s (execSubmit s) := by simp [execSubmit]

@[simp] theorem execDebugOperationDone_goesOn (s : State) : GoesOn s (execDebugOperationDone s) := by
  unfold execDebugOperationDone
  dsimp only
  repeat' split
  all_goals simp

@[simp] theorem execDebugChallengeExpiry_goesOn (s : State) :
    GoesOn s (execDebugChallengeExpiry s) := by simp [execDebugChallengeExpiry]
@[simp] theorem execDebugWithholdEnd_goesOn (s : State) : GoesOn s (execDebugWithholdEnd s) := by simp [execDebugWithholdEnd]
@[simp] theorem execLock_goesOn (s : State) : GoesOn s (execLock s) := by simp [execLock]
@[simp] theorem execTestReset_goesOn (s : State) : GoesOn s (execTestReset s) := by simp [execTestReset]
@[simp] theorem execHalt_goesOn (s : State) : GoesOn s (execHalt s) := by simp [execHalt]
@[simp] theorem execResume_goesOn (s : State) : GoesOn s (execResume s) := by simp [execResume]
@[simp] theorem execStep_goesOn (s : State) : GoesOn s (execStep s) := by simp [execStep]
@[simp] theorem execCoreHalt_goesOn (cause index : Nat) (ctx : CoreCtx) (s : State) :
    GoesOn s (execCoreHalt cause index ctx s) := by simp [execCoreHalt]
@[simp] theorem execSetMatch_goesOn (addr : Nat) (w : BitVec 32) (s : State) :
    GoesOn s (execSetMatch addr w s) := by simp [execSetMatch]

@[simp] theorem execReadMem_goesOn (addr : BitVec 32) (s : State) : GoesOn s (execReadMem addr s) := by
  refine goesOn_dbgOp (fun u => ?_) _ _ s
  dsimp only
  repeat' split
  all_goals simp

@[simp] theorem execWriteMem_goesOn (addr w : BitVec 32) (s : State) : GoesOn s (execWriteMem addr w s) := by
  refine goesOn_dbgOp (fun u => ?_) _ _ s
  dsimp only
  repeat' split
  all_goals simp

@[simp] theorem execReadReg_goesOn (num : BitVec 32) (s : State) : GoesOn s (execReadReg num s) := by
  unfold execReadReg
  dsimp only
  refine goesOn_dbgOp (fun u => ?_) _ _ s
  repeat' split
  all_goals simp

@[simp] theorem execWriteReg_goesOn (num w : BitVec 32) (s : State) : GoesOn s (execWriteReg num w s) := by simp [execWriteReg]
@[simp] theorem execConvert_goesOn (chan : Nat) (s : State) : GoesOn s (execConvert chan s) := by simp [execConvert]

/-! ### Firmware -/

@[simp] theorem execLoadFirmware_goesOn (p : Packet) (s : State) : GoesOn s (execLoadFirmware p s) := by simp [execLoadFirmware]

@[simp] theorem execFirmwareFetchDone_goesOn (data : Option (List Byte)) (s : State) :
    GoesOn s (execFirmwareFetchDone data s) := by
  unfold execFirmwareFetchDone
  dsimp only
  repeat' split
  all_goals simp

@[simp] theorem execFirmwareAuthDone_goesOn (s : State) :
    GoesOn s (execFirmwareAuthDone s) := by unfold execFirmwareAuthDone; split <;> simp
@[simp] theorem execFirmwareLoadTimeout_goesOn (s : State) :
    GoesOn s (execFirmwareLoadTimeout s) := by unfold execFirmwareLoadTimeout; split <;> simp

/-! ### Power -/

@[simp] theorem execPowerOnReset_goesOn (req : Bool) (s : State) : GoesOn s (execPowerOnReset req s) := by simp [execPowerOnReset]
@[simp] theorem execPowerRequestUp_goesOn (s : State) : GoesOn s (execPowerRequestUp s) := by simp [execPowerRequestUp]
@[simp] theorem execClockGeneratorStart_goesOn (s : State) :
    GoesOn s (execClockGeneratorStart s) := by simp [execClockGeneratorStart]
@[simp] theorem execClockLock_goesOn (s : State) : GoesOn s (execClockLock s) := by simp [execClockLock]
@[simp] theorem execCopierDone_goesOn (s : State) : GoesOn s (execCopierDone s) := by simp [execCopierDone]
@[simp] theorem execPowerRequestDown_goesOn (s : State) : GoesOn s (execPowerRequestDown s) := by simp [execPowerRequestDown]
@[simp] theorem execDescentRailsStop_goesOn (s : State) :
    GoesOn s (execDescentRailsStop s) := by unfold execDescentRailsStop; split <;> simp
@[simp] theorem execDescentIslandOff_goesOn (s : State) : GoesOn s (execDescentIslandOff s) := by simp [execDescentIslandOff]
@[simp] theorem execWarmResetStart_goesOn (s : State) : GoesOn s (execWarmResetStart s) := by simp [execWarmResetStart]

@[simp] theorem execWarmResetEnd_goesOn (s : State) : GoesOn s (execWarmResetEnd s) := by
  unfold execWarmResetEnd
  dsimp only
  repeat' split
  all_goals simp

/-! ### Frame -/

@[simp] theorem execStageEdge_goesOn (x : EdgeIn) (s : State) : GoesOn s (execStageEdge x s) := by
  unfold execStageEdge
  dsimp only
  repeat' split
  all_goals simp

@[simp] theorem execPaceBoundary_goesOn (inp : PaceIn) (s : State) :
    GoesOn s (execPaceBoundary inp s) := by simp [execPaceBoundary]

@[simp] theorem execSetpointStep_goesOn (o : SpObj) (s : State) : GoesOn s (execSetpointStep o s) := by
  unfold execSetpointStep
  repeat' split
  all_goals simp

@[simp] theorem execPeriodClose_goesOn (s : State) : GoesOn s (execPeriodClose s) := by simp [execPeriodClose]

/-! ### All commands and all steps -/

/-- Each arm of the dispatcher is a call of the meaning of its command. -/
theorem exec_goesOn (c : Instr) (s : State) : GoesOn s (exec c s) := by
  cases c <;> simp [exec]

theorem step_nil {s : State} (h : s.pending = []) : step s = .next (tick s) := by
  rw [step, h]

theorem step_cons {s : State} {c : Instr} {rest : List Instr} (h : s.pending = c :: rest) :
    step s = exec c { s with pending := rest } := by
  rw [step, h]

/-- Settles O1: the step of a queue with a front is its second case. -/
theorem stepTakesTheFront : Obligations.StepTakesTheFront := by
  unfold Obligations.StepTakesTheFront
  intro c rest s
  exact step_cons rfl

theorem tick_passes {s : State} (h : s.clk.running = false ∨ s.clk.p0Pending = false ∧ s.clk.now + 1 < s.paceEnd) :
    tick s = passTo (s.clk.now + 1) s := by
  rcases h with h | ⟨hp, hn⟩
  · simp [tick, h]
  · simp [tick, hp, Nat.not_le.2 hn]

theorem tick_waits {s : State} (hr : s.clk.running = true) (h : s.clk.p0Pending = true ∨ s.paceEnd ≤ s.clk.now + 1) :
    tick s = s := by
  simp [tick, hr, h]

theorem passTo_of_no_soon {s : State} (h : s.clk.soon = []) {t : Nat} (ht : s.clk.now ≤ t) :
    passTo t s = { s with clk := { s.clk with now := t } } := by
  simp [passTo, h, ht]

/-- Settles O2: a tick passes or waits, and passing past nothing moves the clock alone. -/
theorem stepOnEmptyQueue : Obligations.StepOnEmptyQueue := by
  unfold Obligations.StepOnEmptyQueue
  intro s hq
  rw [step_nil hq]
  refine ⟨fun h => ⟨by rw [tick_passes h], fun hs => ?_⟩, fun hr h => by rw [tick_waits hr h]⟩
  rw [tick_passes h, passTo_of_no_soon hs (Nat.le_succ _)]

/-- Settles O3: every command goes on. -/
theorem everyCommandGoesOn : Obligations.EveryCommandGoesOn := by
  unfold Obligations.EveryCommandGoesOn
  intro c s
  obtain ⟨t, hexec, hpending, -⟩ := exec_goesOn c s
  exact ⟨t, hexec, hpending⟩

/-- A step goes on from the state whose queue is the rest, and so does a cycle without a command. -/
theorem step_goesOn (s : State) : GoesOn { s with pending := s.pending.tail } (step s) := by
  cases h : s.pending with
  | nil =>
    rw [step_nil h]
    exact (goesOn_tick s).of_start h id
  | cons c rest =>
    rw [step_cons h]
    exact exec_goesOn c _

/-- Settles O4: the end of every command and every passing of time leave the event path settled. -/
theorem stepSettlesEvents : Obligations.StepSettlesEvents := by
  unfold Obligations.StepSettlesEvents
  intro s t hs hstep
  obtain ⟨u, hu, -, hsettled⟩ := step_goesOn s
  obtain rfl : u = t := Host.Outcome.next.inj (hu.symm.trans hstep)
  exact hsettled hs

/-- Settles O6: the reset state is the default of every field. -/
theorem reset : Obligations.Reset := by
  unfold Obligations.Reset
  refine ⟨fun _ => rfl, reset_ram_wf, rfl, rfl, rfl, rfl, fun r hr => ?_, fun n hn => ?_, rfl, rfl, rfl, rfl, rfl, rfl⟩
  · exact congrArg Rail.enabled (Tab.get_replicate 4 {} r hr)
  · exact congrArg (fun c : Cluster => c.s.st) (Tab.get_replicate 144 {} n hn)

end Sys2Proof.Machine
end

section
/-! SUPPORT. The rings: a held reply leaves while a rejected packet's reply joins the hold (R374, R380, R381). -/

namespace Sys2Proof.Machine

/-- A reply that the hold keeps. -/
def keptReply : Reply := { org := .ring 0, seq := 1, status := .ok, data := [], opcode := 0x0101 }

/-- A packet taken from slot 2 that has failed a check and waits for its rejection. -/
def failedPacket : InFlight := { org := .ring 2, seq := 3, opcode := 0x0101, fails := some (.badLength, []) }

/-- The reply ring is open, two replies are held, and firmware runs with a failed packet next in turn. -/
def failedBehindHold : State :=
  { rails := Tab.replicate 4 { enabled := true, inWindow := true }
    core := { on := true }
    cmd := { rplEn := true, hold := [keptReply, keptReply], inflight := [failedPacket] } }

/-- The replies held in the state that a command answers. -/
def heldAfter : Host.Outcome State Fault Refusal → Option (List Reply)
  | .next t => some t.cmd.hold
  | _ => none

/-- The first reply leaves; at the end of the command the packet is rejected, and its reply waits behind the second (R374). -/
theorem hold_after_drain : heldAfter (exec .replyHoldDrain failedBehindHold)
    = some [keptReply, { org := .ring 2, seq := 3, status := .badLength, data := [], opcode := 0x0101 }] := by decide +kernel

/-- Refutes O54: of REPLY_HOLD_DRAIN it claims that the hold is then what it was without its first reply; where a failed packet is
next in turn, its rejection joins the hold at the end of the command. The statement has no premise that no packet waits for its
rejection (`State.calm`); that a run from reset comes to this state is not claimed. -/
theorem not_rings : ¬ Obligations.Rings := by
  unfold Obligations.Rings
  intro h
  obtain ⟨hdrain, -⟩ := h failedBehindHold
  obtain ⟨t, hnext, -, hhold, -⟩ := hdrain keptReply [keptReply] rfl (by decide)
  have hheld := hold_after_drain
  rw [hnext] at hheld
  simp [heldAfter, hhold] at hheld

end Sys2Proof.Machine
end

section
/-! SUPPORT. The register window: what a read and a write of one register do (R40, R69, R363, R371, R454). -/

namespace Sys2Proof.Machine

/-- An aligned access of 32 bits is taken (R69). -/
theorem accessOk_word {off : Nat} (h : off % 4 = 0) : accessOk off 4 = true := by simp [accessOk, h]

/-- Every other access is not (R69). -/
theorem accessOk_bad {off size : Nat} (h : size ≠ 4 ∨ off % 4 ≠ 0) : accessOk off size = false := by
  rcases h with h | h <;> simp [accessOk, h]

/-- An access that is not taken shows 0. -/
theorem hostRead_bad {off size : Nat} (h : accessOk off size = false) (s : State) :
    hostRead off size s = { s with clk := { s.clk with lastRead := 0 } } := by simp [hostRead, h]

/-- An access that is taken shows the word that stood there before the effect of reading it. -/
theorem hostRead_word {off : Nat} (h : off % 4 = 0) (s : State) :
    hostRead off 4 s = { readEffect off s with clk := { (readEffect off s).clk with lastRead := regRead s off } } := by
  simp [hostRead, accessOk_word h]

/-! ### Reads -/

/-- Reading BRX_STAGE_LO latches the upper bits of the counter (R40). -/
theorem readEffect_stageLo (s : State) :
    readEffect 0x100 s = { s with clk := { s.clk with hiLatch := s.clk.stage / 2 ^ 32 % 65536 } } := by simp [readEffect]

/-- Reading the LO of a ledger latches its HI (R363). -/
theorem readEffect_ledgerLo {k : Nat} (h : k < 264) (s : State) :
    readEffect (0x30000 + 8 * k) s = { s with en := { s.en with hi := s.en.hi.set k (s.en.mirrors.get k / 2 ^ 32) } } := by
  have h100 : 0x30000 + 8 * k ≠ 0x100 := by omega
  have hin : 0x30000 + 8 * k < 0x30840 := by omega
  have h8 : (0x30000 + 8 * k) % 8 = 0 := by omega
  simp [readEffect, h100, hin, h8]

/-- Reading the aperture reads a word of Ledger RAM with its parity (R69, R430). -/
theorem readEffect_aperture {off : Nat} (h4 : off % 4 = 0) (hoff : off < 0x100000) (s : State) :
    readEffect (0x100000 + off) s = parityRead off s := by
  have h100 : 0x100000 + off ≠ 0x100 := by omega
  have hout : ¬ 0x100000 + off < 0x30840 := by omega
  have hin : 0x100000 + off < 0x200000 := by omega
  have hal : (0x100000 + off) % 4 = 0 := by omega
  have hk : 0x100000 + off - 0x100000 = off := by omega
  simp [readEffect, h100, hout, hin, hal, hk]

/-- BRX_STAGE_HI shows the latch (R40, R463). -/
theorem regRead_stageHi (s : State) : regRead s 0x104 = BitVec.ofNat 32 s.clk.hiLatch := by
  simp [regRead, regAt, regMap, regsIdent, regsUnits]

/-- The aperture shows the words of Ledger RAM (R69). -/
theorem regRead_aperture {off : Nat} (h4 : off % 4 = 0) (hoff : off < 0x100000) (s : State) :
    regRead s (0x100000 + off) = BitVec.ofNat 32 (leNat (ramLoad s off 4)) := by
  have hin : ¬ 0x200000 ≤ 0x100000 + off := by omega
  have hal : (0x100000 + off) % 4 = 0 := by omega
  have hk : 0x100000 + off - 0x100000 = off := by omega
  simp [regRead, hin, hal, hk]

/-- A report changes no state of Ledger RAM. -/
@[simp] theorem raiseMiss_led (c k : Nat) (d : List Byte) (s : State) : (raiseMiss c k d s).led = s.led := by
  have h := congrArg State.led (raiseMiss_apart c k d s); exact h

/-- Reading a word counts its parity error and reports it, and changes nothing else (R430). -/
theorem parityRead_apart (a : Nat) (s : State) : (parityRead a s).apart
    = ({ s with led := { s.led with parityErrs := (parityRead a s).led.parityErrs } } : State).apart := by
  unfold parityRead
  dsimp only
  split
  · split
    · rfl
    · simp
  · rfl

/-- A word whose parity goes wrong is marked, and nothing else changes. -/
theorem markParity_eq (upset : Bool) (a : Nat) (s : State) :
    markParity upset a s = { s with led := { s.led with parityBad := (markParity upset a s).led.parityBad } } := by
  unfold markParity
  dsimp only
  split <;> rfl

/-- A mark on its parity changes no byte of Ledger RAM. -/
theorem ramLoad_markParity (upset : Bool) (a b n : Nat) (s : State) : ramLoad (markParity upset a s) b n = ramLoad s b n := by
  rw [markParity_eq]; rfl

/-! ### Writes -/

/-- SCRATCH holds what is written. -/
theorem regWrite_scratch (w : BitVec 32) (s : State) : regWrite 0x40 w s = { s with sys := { s.sys with scratch := w } } := by
  simp [regWrite]

/-- The base of the command ring is written only while the ring is disabled (R371). -/
theorem regWrite_cmdLo (w : BitVec 32) (s : State) :
    regWrite 0x1000 w s = { s with cmd := if s.cmd.cmdEn then s.cmd else { s.cmd with cmdLo := w &&& 0xFFFFF000#32 } } := by
  simp [regWrite, writeBase]

/-- BRX_STAGE_LO is read-only (R454). -/
theorem regWrite_stageLo (w : BitVec 32) (s : State) : regWrite 0x100 w s = s := by simp [regWrite]

/-! ### The commands of the window while the control island is up -/

section
variable {s : State} (up : s.islandUp = true)
include up

theorem exec_stageLoRead : exec .stageLoRead s = .next (finish (hostRead 0x100 4 s)) := by
  simp [exec, execStageLoRead, up, done]

theorem exec_ledgerLoRead {k : Nat} (hk : k < 264) (size : Nat) :
    exec (.ledgerLoRead ⟨k, size⟩) s = .next (finish (hostRead (0x30000 + 8 * k) size s)) := by
  simp [exec, execLedgerLoRead, up, done, Nat.not_le.mpr hk]

theorem exec_apertureRead {off : Nat} (hoff : off < 0x100000) (size : Nat) (upset : Bool) :
    exec (.apertureRead ⟨off, size⟩ upset) s
      = .next (finish (hostRead (0x100000 + off) size (if accessOk off size then markParity upset off s else s))) := by
  simp [exec, execApertureRead, up, done, Nat.not_le.mpr hoff]

theorem exec_apertureWrite {off : Nat} (h4 : off % 4 = 0) (hoff : off < 0x100000) (w : BitVec 32) :
    exec (.apertureWrite ⟨off, 4⟩ w) s = .next (finish (raisePeriod 0x0121 0 [] s)) := by
  simp [exec, execApertureWrite, apertureWrite, up, done, accessOk_word h4, Nat.not_le.mpr hoff]

theorem exec_registerWrite {off : Nat} (h4 : off % 4 = 0) (w : BitVec 32) :
    exec (.registerWrite ⟨off, 4⟩ w) s = .next (finish (regWrite off w s)) := by
  simp [exec, execRegisterWrite, up, done, accessOk_word h4]

end

/-- A write that is not 32 bits wide and aligned is ignored (R69). -/
theorem exec_write_bad {off size : Nat} (h : accessOk off size = false) (w : BitVec 32) (s : State) :
    exec (.registerWrite ⟨off, size⟩ w) s = .next s ∧ exec (.apertureWrite ⟨off, size⟩ w) s = .next s := by
  simp [exec, execRegisterWrite, execApertureWrite, h, idle]

/-- An aligned read of the aperture shows the word, and counts and reports its parity error (R69, R406, R430). -/
theorem apertureRead_apart {off : Nat} (h4 : off % 4 = 0) (hoff : off < 0x100000) (s : State) :
    (hostRead (0x100000 + off) 4 s).apart = ({ s with
      clk := { s.clk with lastRead := BitVec.ofNat 32 (leNat (ramLoad s off 4)) }
      led := (hostRead (0x100000 + off) 4 s).led } : State).apart ∧
    (hostRead (0x100000 + off) 4 s).led = { s.led with parityErrs := (hostRead (0x100000 + off) 4 s).led.parityErrs } := by
  have hal : (0x100000 + off) % 4 = 0 := by omega
  have hp := parityRead_apart off s
  have hclk : (parityRead off s).clk = s.clk := by have h := congrArg State.clk hp; exact h
  have hled : (parityRead off s).led = { s.led with parityErrs := (parityRead off s).led.parityErrs } := by
    have h := congrArg State.led hp; exact h
  rw [hostRead_word hal, readEffect_aperture h4 hoff, regRead_aperture h4 hoff, hclk]
  refine ⟨?_, hled⟩
  have h := congrArg (fun u : State =>
    { u with clk := { s.clk with lastRead := BitVec.ofNat 32 (leNat (ramLoad s off 4)) } }) hp
  rw [← hled] at h
  exact h

/-- Settles O55: each command is `finish` of one access of the window, and the facts above say what that access does. -/
theorem registerWindow : Obligations.RegisterWindow := by
  unfold Obligations.RegisterWindow
  intro s up
  refine ⟨?_, ?_, ?_, ?_, ?_, ?_⟩
  case refine_1 =>
    refine ⟨_, exec_stageLoRead up, ?_, ?_⟩
    · simp [hostRead_word, readEffect_stageLo]
    · simp [hostRead_word, readEffect_stageLo, regRead_stageHi]
  case refine_2 =>
    intro k hk
    refine ⟨_, exec_ledgerLoRead up hk 4, ?_⟩
    rintro lo rfl
    have hal : (0x30000 + 8 * k) % 4 = 0 := by omega
    rw [finish_apart, hostRead_word hal, readEffect_ledgerLo hk]
  case refine_3 =>
    intro off upset hoff h4
    refine ⟨_, exec_apertureRead up hoff 4 upset, ?_⟩
    obtain ⟨hread, hled⟩ := apertureRead_apart h4 hoff (markParity upset off s)
    rw [if_pos (accessOk_word h4), finish_apart, finish_led, hread, ramLoad_markParity, hled, markParity_eq]
  case refine_4 =>
    intro off w h4 hoff
    exact ⟨_, exec_apertureWrite up h4 hoff w, by simp⟩
  case refine_5 =>
    intro off size k upset hbad
    refine ⟨fun w => exec_write_bad (accessOk_bad hbad) w s, ?_, ?_⟩
    · intro hoff
      refine ⟨_, exec_apertureRead up hoff size upset, ?_⟩
      have hbad' : size ≠ 4 ∨ (0x100000 + off) % 4 ≠ 0 := by omega
      rw [accessOk_bad hbad, if_neg Bool.false_ne_true, finish_apart, hostRead_bad (accessOk_bad hbad')]
    · intro hsize
      refine ⟨hostRead_bad (accessOk_bad (.inl hsize)) s, fun hk => ⟨_, exec_ledgerLoRead up hk size, ?_⟩⟩
      rw [finish_apart, hostRead_bad (accessOk_bad (.inl hsize))]
  case refine_6 =>
    intro w
    refine ⟨?_, ?_, ?_, ?_⟩
    · exact ⟨_, exec_registerWrite up (by decide) w, by rw [finish_apart, regWrite_scratch]⟩
    · exact fun hen => ⟨_, exec_registerWrite up (by decide) w, by rw [finish_apart, regWrite_cmdLo, hen]; rfl⟩
    · exact fun hen => ⟨_, exec_registerWrite up (by decide) w, by rw [finish_apart, regWrite_cmdLo, hen]; rfl⟩
    · exact ⟨_, exec_registerWrite up (by decide) w, by rw [finish_apart, regWrite_stageLo]⟩

end Sys2Proof.Machine
end

section
/-! SUPPORT. Power-on and bring-up: what the time up to a moment leaves, what the copier leaves, and the opening of stage 0 (R39,
R282, R283, R418). -/

namespace Sys2Proof.Machine

/-! ### What falls in a later cycle leaves everything but the clock, the phases, the clusters and their cells -/

/-- A state without what may change while time passes: the clock, the event path, the phases and their groups, the clusters and
their cells, the charge slots of the bellows, and what every command may change (`State.apart`). -/
def State.still (s : State) : State :=
  { s.apart with
    clk := State.reset.clk, evt := State.reset.evt, groups := State.reset.groups, phases := State.reset.phases
    cl := State.reset.cl, cells := State.reset.cells, blwCfg := State.reset.blwCfg }

theorem still_of_apart {s t : State} (h : s.apart = t.apart) : s.still = t.still := by
  have hs : s.apart.still = t.apart.still := congrArg State.still h
  exact hs

theorem forEach_still {α : Type} {f : α → State → State} (h : ∀ a s, (f a s).still = s.still) (l : List α) (s : State) :
    (forEach l f s).still = s.still :=
  forEach_keeps State.still f h l s

@[simp] theorem soonIn_still (k : Nat) (w : Soon) (s : State) : (soonIn k w s).still = s.still := rfl

@[simp] theorem updPh_still (i : Nat) (f : Phase → Phase) (s : State) : (s.updPh i f).still = s.still := rfl

@[simp] theorem updGrp_still (g : Nat) (f : Group → Group) (s : State) : (s.updGrp g f).still = s.still := rfl

@[simp] theorem updCl_still (n : Nat) (f : Cluster → Cluster) (s : State) : (s.updCl n f).still = s.still := rfl

@[simp] theorem updCell_still (i : Nat) (f : Cell → Cell) (s : State) : (s.updCell i f).still = s.still := rfl

@[simp] theorem raise_still (c k : Nat) (d : List Byte) (s : State) : (raise c k d s).still = s.still :=
  still_of_apart (raise_apart c k d s)

@[simp] theorem ripTo_still (g : Nat) (s : State) : (ripTo g s).still = s.still := by
  unfold ripTo
  dsimp only
  split
  · rfl
  · rw [forEach_still (fun _ _ => updPh_still _ _ _), updGrp_still, updGrp_still]

@[simp] theorem refreshOn_still (g : Nat) (s : State) : (refreshOn g s).still = s.still := ripTo_still g s

@[simp] theorem unparkAll_still (g : Nat) (s : State) : (unparkAll g s).still = s.still := rfl

@[simp] theorem startPulse_still (g i : Nat) (s : State) : (startPulse g i s).still = s.still := ripTo_still g s

@[simp] theorem pulseOrWait_still (g : Nat) (s : State) : (pulseOrWait g s).still = s.still := by
  unfold pulseOrWait
  split
  · exact startPulse_still g _ s
  · dsimp only
    split <;> rfl

theorem pulseDue_still (g : Nat) (s : State) : (pulseDue g s).still = s.still := by
  unfold pulseDue
  split
  · exact pulseOrWait_still g s
  · rfl

@[simp] theorem endPulse_still (i : Nat) (s : State) : (endPulse i s).still = s.still := by
  unfold endPulse
  dsimp only
  split <;> simp

theorem inhibitDue_still (i : Nat) (s : State) : (inhibitDue i s).still = s.still := by
  unfold inhibitDue
  dsimp only
  split
  · rfl
  · split <;> simp

@[simp] theorem disablePhase_still (i : Nat) (c : PhCause) (s : State) : (disablePhase i c s).still = s.still := by
  unfold disablePhase
  split
  · rfl
  · exact ripTo_still _ s

theorem disableDue_still (i : Nat) (c : PhCause) (s : State) : (disableDue i c s).still = s.still := by
  unfold disableDue
  dsimp only
  split
  · exact disablePhase_still i c s
  · rfl

theorem phaseLoss_still (i : Nat) (c : PhCause) (s : State) : (phaseLoss i c s).still = s.still := by
  unfold phaseLoss
  dsimp only
  split <;> split <;> simp

theorem calSettle_still (n : Nat) (s : State) : (calSettle n s).still = s.still := by
  unfold calSettle
  dsimp only
  split
  · rw [updCl_still, forEach_still]
    intro i u
    split
    · exact updCell_still i _ u
    · rfl
  · rfl

theorem chargeEnded_still (n : Nat) (s : State) : (chargeEnded n s).still = s.still := by
  unfold chargeEnded
  dsimp only
  split
  · rfl
  · split <;> rfl

theorem blwFaulted_still (n c : Nat) (s : State) : (blwFaulted n c s).still = s.still := by
  unfold blwFaulted
  dsimp only
  split
  · rfl
  · split <;> rfl

theorem stretchHigh_still (n stage : Nat) (d : List Byte) (s : State) : (stretchHigh n stage d s).still = s.still := by
  unfold stretchHigh
  split
  · rfl
  · exact still_of_apart (raiseEv_apart _ _)

theorem fallNow_still (w : Soon) (s : State) : (fallNow w s).still = s.still := by
  cases w with
  | refresh r => exact forEach_still refreshOn_still _ s
  | tickLow => rfl
  | unpark g => rfl
  | raiseEn g => rfl
  | pulse g => exact pulseDue_still g s
  | inhibit i => exact inhibitDue_still i s
  | disable i c => exact disableDue_still i c s
  | loss i c => exact phaseLoss_still i c s
  | calSettle n => exact calSettle_still n s
  | fireEnd n => rfl
  | chargeEnd n => exact chargeEnded_still n s
  | blwFault n c => exact blwFaulted_still n c s
  | stretchHigh n st d => exact stretchHigh_still n st d s
  | masks op m cs => rfl

theorem fallTo_still (t : Nat) : ∀ (fuel : Nat) (s : State), (fallTo t fuel s).still = s.still
  | 0, _ => rfl
  | fuel + 1, s => by
    unfold fallTo
    split
    · rfl
    · next e _ =>
      have hfall (u : State) : (boostCheck (fallNow e.what u)).still = u.still :=
        (still_of_apart (boostCheck_apart _)).trans (fallNow_still e.what u)
      dsimp only
      rw [fallTo_still t fuel]
      split
      · exact hfall _
      · exact (still_of_apart (enterEvents_apart _)).trans (hfall _)

theorem passTo_still (t : Nat) (s : State) : (passTo t s).still = s.still := by
  unfold passTo
  split
  · rfl
  · exact fallTo_still t _ s

/-- The moment of a timed command finds all the rest as it was. -/
theorem reach_still {due : Nat} {s u : State} (h : reach due s = some u) : u.still = s.still := by
  unfold reach at h
  split at h
  · rw [Option.some.inj h]
  · split at h
    · rw [← Option.some.inj h, passTo_still]
    · simp at h

/-! ### What the copier writes (R418) -/

/-- Changing an entry in a way that a reading of it does not see. -/
theorem listModify_map {α β : Type} (g : α → β) (f : α → α) (h : ∀ a, g (f a) = g a) :
    ∀ (l : List α) (i : Nat), (listModify f l i).map g = l.map g
  | [], _ => rfl
  | a :: as, 0 => by simp [listModify, h]
  | a :: as, i + 1 => by simp [listModify, listModify_map g f h as i]

/-- Changing every entry in a way that a reading of it does not see. -/
theorem listMapFrom_map {α β : Type} (g : α → β) (f : Nat → α → α) (h : ∀ i a, g (f i a) = g a) :
    ∀ (k : Nat) (l : List α), (listMapFrom f k l).map g = l.map g
  | _, [] => rfl
  | k, a :: as => by simp [listMapFrom, h, listMapFrom_map g f h (k + 1) as]

/-- A state without what the copier may write: Ledger RAM and its tables, the energy and thermal models, the clusters and their
cells, the event path, and what every command may change. -/
def State.uncopied (s : State) : State :=
  { s.apart with
    evt := State.reset.evt, cl := State.reset.cl, cells := State.reset.cells, led := State.reset.led, therm := State.reset.therm
    en := State.reset.en }

/-- What the copier leaves as it is: all that it does not write, the states of the clusters, and the events of the cycle other
than FLT_SEAL. -/
def State.copyView (s : State) : State × List CState × List Event :=
  (s.uncopied, s.cl.val.map (fun c => c.s.st), s.evt.fresh.filter (fun e => e.code != 0x0A11))

theorem forEach_copyView {α : Type} {f : α → State → State} (h : ∀ a s, (f a s).copyView = s.copyView) (l : List α) (s : State) :
    (forEach l f s).copyView = s.copyView :=
  forEach_keeps State.copyView f h l s

theorem updCell_copyView (i : Nat) (f : Cell → Cell) (s : State) : (s.updCell i f).copyView = s.copyView := rfl

theorem updCl_copyView {f : Cluster → Cluster} (h : ∀ c, (f c).s.st = c.s.st) (n : Nat) (s : State) :
    (s.updCl n f).copyView = s.copyView := by
  have hst : (s.cl.modify n f).val.map (fun c => c.s.st) = s.cl.val.map (fun c => c.s.st) := listModify_map _ f h s.cl.val n
  exact congrArg (fun l => (s.uncopied, l, s.evt.fresh.filter (fun e => e.code != 0x0A11))) hst

theorem markBad_copyView (t : Nat) (s : State) : (markBad t s).copyView = s.copyView := rfl

theorem ramStore_copyView (a : Nat) (b : List Byte) (s : State) : (ramStore a b s).copyView = s.copyView := rfl

theorem sealTile_copyView (t : Nat) (b : List Byte) (s : State) : (sealTile t b s).copyView = s.copyView := rfl

/-- FLT_SEAL is the event that the copier may raise. -/
theorem raise_seal_copyView (k : Nat) (d : List Byte) (s : State) : (raise 0x0A11 k d s).copyView = s.copyView := by
  unfold raise raiseEv
  split
  · rfl
  · simp [State.copyView, State.uncopied, State.apart, Evt.apart]

theorem failTile_copyView (t : Nat) (s : State) : (failTile t s).copyView = s.copyView := by
  have hwait (u : State) (l : List Nat) :
      (forEach l (fun n s => s.updCl n (fun c => { c with v := { c.v with calWait := true } })) u).copyView = u.copyView := by
    refine forEach_copyView (fun n v => ?_) l u
    exact updCl_copyView (by intro; rfl) n v
  have hreport (u : State) (o : Option Nat) :
      (match o with | some src => raise 0x0A11 src [] u | none => u).copyView = u.copyView := by
    cases o with
    | none => rfl
    | some src => exact raise_seal_copyView src [] u
  unfold failTile
  split
  · rfl
  · dsimp only
    refine (hreport _ _).trans ?_
    split
    · rw [hwait, markBad_copyView]
    · split <;> rfl

theorem takeBrackets_copyView (t : Nat) (b : List Byte) (s : State) : (takeBrackets t b s).copyView = s.copyView :=
  forEach_copyView (fun _ _ => updCell_copyView _ _ _) _ s

theorem takeCurves_copyView (f : Nat → Cluster → Cluster) (h : ∀ n c, (f n c).s.st = c.s.st) (s : State) :
    ({ s with cl := s.cl.mapI f } : State).copyView = s.copyView := by
  have hst : (s.cl.mapI f).val.map (fun c => c.s.st) = s.cl.val.map (fun c => c.s.st) := listMapFrom_map _ f h 0 s.cl.val
  exact congrArg (fun l => (s.uncopied, l, s.evt.fresh.filter (fun e => e.code != 0x0A11))) hst

theorem tileWritten_copyView (t : Nat) (s : State) : (tileWritten t s).copyView = s.copyView := by
  unfold tileWritten
  split
  · exact takeBrackets_copyView _ _ s
  · split
    · refine takeCurves_copyView _ (fun n c => ?_) s
      split <;> rfl
    · split
      · split
        · rfl
        · exact failTile_copyView t s
      · rfl

theorem copyTile_copyView (t : Nat) (b : List Byte) (s : State) : (copyTile t b s).copyView = s.copyView := by
  rw [copyTile, tileWritten_copyView, sealTile_copyView]

theorem copyModel_copyView (m : List Byte) (s : State) : ({ s with en := { s.en with model := m } } : State).copyView = s.copyView := rfl

theorem copier_copyView (s : State) : (copier s).copyView = s.copyView := by
  have hcal (u : State) (f : Fuses) :
      (forEach (List.range 216) (fun t s => copyTile (256 + t) (factoryCal f t) s) u).copyView = u.copyView :=
    forEach_copyView (fun _ _ => copyTile_copyView _ _ _) _ u
  have hcurve (u : State) (f : Fuses) :
      (forEach (List.range 9) (fun t s => match f.curves.val.getD t none with
        | some c => copyTile (472 + t) (factoryCurves c) s
        | none => failTile (472 + t) s) u).copyView = u.copyView := by
    refine forEach_copyView (fun t v => ?_) _ u
    cases f.curves.val.getD t none with
    | none => exact failTile_copyView _ v
    | some c => exact copyTile_copyView _ _ v
  have htherm (u : State) (o : Option ThermModel) :
      (match o with | some m => copyTile 510 (thermBytes m) u | none => failTile 510 u).copyView = u.copyView := by
    cases o with
    | none => exact failTile_copyView _ u
    | some m => exact copyTile_copyView _ _ u
  unfold copier
  dsimp only
  rw [copyModel_copyView, ramStore_copyView, copyTile_copyView]
  exact (htherm _ _).trans ((hcurve _ _).trans (hcal _ _))

/-! ### Stage 0 opens (R31, R39, R282, R283) -/

/-- The clock, the core and the island as the stage generator starts to run. -/
def stageZero (s : State) : State :=
  { s with
    clk := { s.clk with stage := 0, pace := 0, running := true, stageStart := s.clk.now, paceStart := s.clk.now, p0Pending := true }
    sys := { s.sys with island := .up }
    core := { s.core with on := true, pc := 0x00100000#32 } }

/-- A broken sensor found before the island was up is told now. -/
def tellBroken (s : State) : State := if s.therm.sensorTell then tellSensor s else s

/-- A request that has gone begins a descent. -/
def descendUnasked (s : State) : State := if s.sys.pwrReq then s else beginDescent s

/-- The whole edge of stage 0. -/
def openZero (s : State) : State := descendUnasked (tellBroken (chipEdge (stageTick 0 (stageZero s))))

/-- COPIER_DONE, at its moment, fills the tables and opens stage 0. -/
theorem exec_copierDone {s u : State} (hi : s.sys.island = .copying) (hr : reach (s.clk.stageStart + 29056) s = some u) :
    exec .copierDone s = .next (finish (openZero (copier u))) := by
  simp only [exec, execCopierDone, hi, atTime, hr, done, Nat.reduceMul]
  rfl

/-- What the chip state and a begun descent leave as it is. -/
def State.edgeView (s : State) : Clk × Core × Fuses × Tab 4 Rail × Tab 128 Phase × Tab 16 Conv × Tab 16 LvlEnt × List Output × Island :=
  (s.clk, s.core, s.fuses, s.rails, s.phases, s.convs, s.seq.table, s.out, s.sys.island)

theorem raise_edgeView (c k : Nat) (d : List Byte) (s : State) : (raise c k d s).edgeView = s.edgeView := by
  unfold raise raiseEv
  split <;> rfl

theorem chipEdge_edgeView (s : State) : (chipEdge s).edgeView = s.edgeView := by
  unfold chipEdge
  dsimp only
  split
  · rfl
  · exact raise_edgeView _ _ _ _

theorem tellSensor_edgeView (s : State) : (tellSensor s).edgeView = s.edgeView := by
  unfold tellSensor
  split
  · exact raise_edgeView _ _ _ _
  · rfl

theorem beginDescent_edgeView (s : State) : (beginDescent s).edgeView = s.edgeView := by
  unfold beginDescent
  split <;> rfl

theorem tellBroken_edgeView (s : State) : (tellBroken s).edgeView = s.edgeView := by
  unfold tellBroken
  split
  · exact tellSensor_edgeView s
  · rfl

theorem descendUnasked_edgeView (s : State) : (descendUnasked s).edgeView = s.edgeView := by
  unfold descendUnasked
  split
  · rfl
  · exact beginDescent_edgeView s

/-- The whole edge leaves what its tick has left. -/
theorem openZero_edgeView (s : State) : (openZero s).edgeView = (stageTick 0 (stageZero s)).edgeView := by
  rw [openZero, descendUnasked_edgeView, tellBroken_edgeView, chipEdge_edgeView]

/-! ### The chip state as stage 0 opens (R282) -/

@[simp] theorem raise_sys (c k : Nat) (d : List Byte) (s : State) : (raise c k d s).sys = s.sys := by
  unfold raise raiseEv
  split <;> rfl

/-- Raising an event takes back none. -/
theorem raise_keeps_event {e : Event} {s : State} (he : e ∈ s.evt.fresh) (c k : Nat) (d : List Byte) : e ∈ (raise c k d s).evt.fresh := by
  unfold raise raiseEv
  split
  · exact he
  · exact List.mem_append_left _ he

theorem tellBroken_chip (s : State) : (tellBroken s).sys.chip = s.sys.chip := by
  unfold tellBroken tellSensor
  split
  · split <;> simp
  · rfl

theorem tellBroken_keeps_event {e : Event} {s : State} (he : e ∈ s.evt.fresh) : e ∈ (tellBroken s).evt.fresh := by
  unfold tellBroken tellSensor
  split
  · split
    · exact raise_keeps_event (s := { s with therm := { s.therm with sensorTell := false } }) he _ _ _
    · exact he
  · exact he

theorem descendUnasked_chip (s : State) : (descendUnasked s).sys.chip = s.sys.chip := by
  unfold descendUnasked beginDescent
  split
  · rfl
  · split <;> rfl

theorem descendUnasked_evt (s : State) : (descendUnasked s).evt = s.evt := by
  unfold descendUnasked beginDescent
  split
  · rfl
  · split <;> rfl

/-- With every cluster in Dormant and AX disabled the chip is powering (R282). -/
theorem chipAt_powering {s : State} (hcl : ∀ c ∈ s.cl.val, c.s.st = .dormant) (hax : (s.rail 3).enabled = false) :
    chipAt s = .powering := by
  have hrun : s.cl.any (fun c => c.s.st != .dormant) = false := by
    simpa [Tab.any] using hcl
  have hrails : s.rails.all (fun r => r.enabled && r.inWindow) = false := by
    have hlen : 3 < s.rails.val.length := by rw [s.rails.len]; decide
    have hget : s.rail 3 = s.rails.val[3] := by simp [State.rail, Tab.get, hlen]
    have hmem : s.rail 3 ∈ s.rails.val := hget ▸ List.getElem_mem hlen
    rw [Tab.all, List.all_eq_false]
    exact ⟨_, hmem, by simp [hax]⟩
  simp [chipAt, hrun, hrails]

theorem chipEdge_chip (s : State) : (chipEdge s).sys.chip = chipAt s := by
  unfold chipEdge
  dsimp only
  split
  · next h => exact (eq_of_beq h).symm
  · rw [raise_sys]

/-- A change of the chip state is reported, where the cycle has not reported one before (R282). -/
theorem chipEdge_reports {s : State} (hne : chipAt s ≠ s.sys.chip) (hf : ∀ e ∈ s.evt.fresh, e.code ≠ 0x0123) :
    ∃ e ∈ (chipEdge s).evt.fresh, e.code = 0x0123 ∧ e.source = 0 ∧ e.data = [BitVec.ofNat 8 (chipAt s).code] := by
  have hnone : s.evt.fresh.any (fun f => f.code == 0x0123 && f.source == 0) = false := by
    rw [List.any_eq_false]
    exact fun e he => by simp [hf e he]
  refine ⟨{ code := 0x0123, source := 0, stage := s.clk.stage, data := [BitVec.ofNat 8 (chipAt s).code], moment := s.clk.now },
    ?_, rfl, rfl, rfl⟩
  simp [chipEdge, hne, raise, raiseEv, hnone]

theorem openZero_chip (s : State) : (openZero s).sys.chip = chipAt (stageTick 0 (stageZero s)) := by
  rw [openZero, descendUnasked_chip, tellBroken_chip, chipEdge_chip]

/-- The same as stage 0 opens. -/
theorem stageZero_powering {v : State} (hcl : ∀ c ∈ v.cl.val, c.s.st = .dormant) (hax : (v.rail 3).enabled = false) :
    chipAt (stageTick 0 (stageZero v)) = .powering := chipAt_powering hcl hax

/-- The chip leaves Cold as stage 0 opens, and that is reported, whatever FLT_SEAL has been raised in the cycle. -/
theorem openZero_reports {v : State} (hchip : chipAt (stageTick 0 (stageZero v)) = .powering) (hcold : v.sys.chip = .cold)
    (hf : ∀ e ∈ v.evt.fresh, e.code = 0x0A11) :
    ∃ e ∈ (openZero v).evt.fresh, e.code = 0x0123 ∧ e.source = 0 ∧ e.data = [BitVec.ofNat 8 Chip.powering.code] := by
  have hwas : (stageTick 0 (stageZero v)).sys.chip = .cold := hcold
  obtain ⟨e, he, hcode, hsource, hdata⟩ := chipEdge_reports (s := stageTick 0 (stageZero v))
    (by rw [hchip, hwas]; decide) (fun e he => by rw [hf e he]; decide)
  refine ⟨e, ?_, hcode, hsource, by rw [hdata, hchip]⟩
  rw [openZero, descendUnasked_evt]
  exact tellBroken_keeps_event he

/-! ### Power-on, the clock, and the whole of bring-up -/

/-- The state of a power-on reset, before the request is looked at (R80, R464). -/
def powerOn (req : Bool) (s : State) : State :=
  { State.reset with
    clk := { now := s.clk.now }
    sys := { porHigh := true, pwrReq := req }
    fuses := s.fuses, freeCount := s.freeCount, out := s.out, pending := s.pending }

/-- The state in which the control island leaves reset (R283 step 3). -/
def clockLocked (s : State) : State :=
  let s := islandLoads (islandReset s)
  noteSet 0x44 0 { s with sys := { s.sys with island := .copying, powerUp := true }, clk := { s.clk with stageStart := s.clk.now } }

theorem exec_powerOnReset (req : Bool) (s : State) : exec (.powerOnReset req) s = .next (finish (closeSwitch (powerOn req s))) := rfl

theorem exec_powerRequestUp {s : State} (hp : s.sys.porHigh = true) :
    exec .powerRequestUp s = .next (finish (closeSwitch { s with sys := { s.sys with pwrReq := true } })) := by
  simp [exec, execPowerRequestUp, hp, done]

theorem exec_clockGeneratorStart {s u : State} (hi : s.sys.island = .switched) (hr : reach (s.sys.switchAt + 20000) s = some u) :
    exec .clockGeneratorStart s = .next (finish { u with sys := { u.sys with island := .started } }) := by
  simp [exec, execClockGeneratorStart, hi, atTime, hr, done]

theorem exec_clockLock {s : State} (hi : s.sys.island = .started) : exec .clockLock s = .next (finish (clockLocked s)) := by
  simp only [exec, execClockLock, hi, done]
  rfl

/-- With power-on reset high a request closes the switch in Cold, and only there (R283 step 1). -/
theorem closeSwitch_asked {s : State} (hp : s.sys.porHigh = true) :
    closeSwitch { s with sys := { s.sys with pwrReq := true } } = { s with
      sys := if s.sys.island = .off then { s.sys with pwrReq := true, island := .switched, switchAt := s.clk.now }
             else { s.sys with pwrReq := true } } := by
  by_cases h : s.sys.island = .off <;> simp [closeSwitch, hp, h]

theorem closeSwitch_unasked {s : State} (hr : s.sys.pwrReq = false) : closeSwitch s = s := by simp [closeSwitch, hr]

/-- What of the reset state, the power request and the fuses a power-on reset leaves (R39, R80, R283). -/
theorem powerOn_closed (req : Bool) (s : State) : (closeSwitch (powerOn req s)).apart = ({ State.reset with
    clk := { now := s.clk.now }
    sys := { porHigh := true, pwrReq := req, island := if req then .switched else .off, switchAt := if req then s.clk.now else 0 }
    fuses := s.fuses, freeCount := s.freeCount, pending := s.pending } : State).apart := by
  cases req with
  | true => exact (congrArg State.apart (closeSwitch_asked (s := powerOn false s) rfl)).trans rfl
  | false => rw [closeSwitch_unasked rfl]; rfl

/-- What the release of the control island from reset loads and keeps (R188, R264, R283). -/
theorem clockLocked_apart (s : State) : (clockLocked s).apart = ({ State.reset with
    clk := { now := s.clk.now, stageStart := s.clk.now }
    sys := { porHigh := s.sys.porHigh, pwrReq := s.sys.pwrReq, scratch := s.sys.scratch, switchAt := s.sys.switchAt
             island := .copying, powerUp := true }
    fuses := s.fuses, therm := (clockLocked s).therm, eng := { State.reset.eng with banks := (clockLocked s).eng.banks }
    convs := (clockLocked s).convs, seq := { State.reset.seq with table := levelTable s.fuses.gf s.fuses.boostCeil }
    dbg := { authFails := s.dbg.authFails, withheld := s.dbg.withheld }, freeCount := s.freeCount, pending := s.pending }
    : State).apart := rfl

/-- The converters start with the fused coefficients (R188). -/
theorem clockLocked_conv {u : Nat} (hu : u < 16) (s : State) : (clockLocked s).convs.get u
    = { ofs := s.fuses.adcOfs.get u, gain := s.fuses.adcGain.get u, seq := romSequence u } := Tab.get_ofFn 16 _ u hu

/-- What the moment of a timed command finds as it was of the parts that bring-up speaks of. -/
theorem still_parts {s u : State} (h : u.still = s.still) :
    u.fuses = s.fuses ∧ u.rails = s.rails ∧ u.convs = s.convs ∧ u.core = s.core ∧ u.sys = s.sys ∧ u.seq.table = s.seq.table := by
  simp only [State.still, State.apart, State.mk.injEq, Seq.mk.injEq] at h
  simp [h]

/-- What the copier leaves of them, and of the clock and the phases. -/
theorem copier_parts (u : State) :
    (copier u).fuses = u.fuses ∧ (copier u).rails = u.rails ∧ (copier u).convs = u.convs ∧ (copier u).core = u.core ∧
    (copier u).sys = u.sys ∧ (copier u).seq.table = u.seq.table ∧ (copier u).clk = u.clk ∧ (copier u).phases = u.phases := by
  have h := congrArg Prod.fst (copier_copyView u)
  generalize copier u = v at h ⊢
  simp only [State.copyView, State.uncopied, State.apart, State.mk.injEq, Seq.mk.injEq] at h
  simp [h]

/-- What the edge of stage 0 makes of them, with its tick put out. -/
theorem openZero_parts (v : State) :
    (openZero v).clk = { v.clk with
      stage := 0, pace := 0, running := true, stageStart := v.clk.now, paceStart := v.clk.now, p0Pending := true, tick := true
      soon := v.clk.soon ++ [{ due := v.clk.now + 10, what := .tickLow }] } ∧
    (openZero v).core = { v.core with on := true, pc := 0x00100000#32 } ∧ (openZero v).fuses = v.fuses ∧ (openZero v).rails = v.rails ∧
    (openZero v).phases = v.phases ∧ (openZero v).convs = v.convs ∧ (openZero v).seq.table = v.seq.table ∧
    (openZero v).out = .stageTick 0 :: v.out ∧ (openZero v).sys.island = .up := by
  have hview := openZero_edgeView v
  simp only [State.edgeView, Prod.mk.injEq] at hview
  exact hview

/-- What is put out in a command stays put out at its end. -/
theorem finish_keeps_output {o : Output} {s : State} (h : o ∈ s.out) : o ∈ (finish s).out := by
  obtain ⟨⟨l, hout⟩, -⟩ := finish_grows s
  rw [hout]
  exact List.mem_append_right l h

/-- The copier leaves clusters that are all in Dormant so. -/
theorem copier_dormant {u : State} (h : ∀ c ∈ u.cl.val, c.s.st = .dormant) : ∀ c ∈ (copier u).cl.val, c.s.st = .dormant := by
  have hst : (copier u).cl.val.map (fun c => c.s.st) = u.cl.val.map (fun c => c.s.st) :=
    congrArg (fun x : State × List CState × List Event => x.2.1) (copier_copyView u)
  intro c hc
  have hmem : c.s.st ∈ u.cl.val.map (fun c => c.s.st) := hst ▸ List.mem_map_of_mem hc
  obtain ⟨d, hd, hds⟩ := List.mem_map.mp hmem
  exact hds ▸ h d hd

/-- The only events that the copier raises are FLT_SEAL. -/
theorem copier_fresh {u : State} (h : u.evt.fresh = []) : ∀ e ∈ (copier u).evt.fresh, e.code = 0x0A11 := by
  have hfr : (copier u).evt.fresh.filter (fun e => e.code != 0x0A11) = u.evt.fresh.filter (fun e => e.code != 0x0A11) :=
    congrArg (fun x : State × List CState × List Event => x.2.2) (copier_copyView u)
  rw [h, List.filter_nil, List.filter_eq_nil_iff] at hfr
  intro e he
  simpa using hfr e he

/-- Settles O13: each command is `finish` of a state whose parts the facts above give. -/
theorem bringUp : Obligations.BringUp := by
  unfold Obligations.BringUp
  refine ⟨?_, ?_, ?_, ?_, ?_⟩
  case refine_1 =>
    intro req s
    exact ⟨_, exec_powerOnReset req s, by rw [finish_apart, powerOn_closed]⟩
  case refine_2 =>
    intro s hp
    refine ⟨_, exec_powerRequestUp hp, ?_⟩
    rw [finish_apart, closeSwitch_asked hp]
  case refine_3 =>
    intro s u hi hr
    exact ⟨_, exec_clockGeneratorStart hi hr, finish_apart _⟩
  case refine_4 =>
    intro s hi
    refine ⟨_, exec_clockLock hi, ?_, ?_, ?_, ?_⟩
    · rw [finish_apart, finish_therm, finish_eng, finish_convs]
      exact clockLocked_apart s
    · intro u hu
      simp [State.conv, clockLocked_conv hu]
    · rw [finish_therm]; rfl
    · rw [finish_therm]; rfl
  case refine_5 =>
    intro s u hi hr
    obtain ⟨ufuses, urails, uconvs, ucore, usys, utable⟩ := still_parts (reach_still hr)
    obtain ⟨cfuses, crails, cconvs, ccore, csys, ctable, cclk, cphases⟩ := copier_parts u
    obtain ⟨oclk, ocore, ofuses, orails, ophases, oconvs, otable, oout, oisland⟩ := openZero_parts (copier u)
    refine ⟨_, exec_copierDone hi hr, ?_, ?_, ?_, ?_, ?_, ?_, ?_, ?_, ?_, ?_⟩
    · rw [finish_clk, oclk, cclk]
    · rw [finish_sys, oisland]
    · rw [finish_core, ocore, ccore, ucore]
    · exact finish_keeps_output (by rw [oout]; exact List.mem_cons_self)
    · rw [finish_fuses, ofuses, cfuses, ufuses]
    · rw [finish_rails, orails, crails, urails]
    · rw [finish_phases, ophases, cphases]
    · rw [finish_convs, oconvs, cconvs, uconvs]
    · rw [finish_seq_table, otable, ctable, utable]
    · intro hcl hax
      have hax' : ((copier u).rail 3).enabled = false := by rwa [State.rail, crails, urails]
      have hchip := stageZero_powering (copier_dormant hcl) hax'
      refine ⟨by rw [finish_sys, openZero_chip, hchip], fun hcold hfresh => ?_⟩
      have hwas : (copier u).sys.chip = .cold := by rw [csys, usys, hcold]
      obtain ⟨e, he, hcode, hsource, hdata⟩ := openZero_reports hchip hwas (copier_fresh hfresh)
      exact ⟨_, e, he, hcode, hsource, hdata, rfl⟩

end Sys2Proof.Machine
end

section
/-! SUPPORT. The end of a frequency change (R63, R64, R268). -/

namespace Sys2Proof.Machine

/-- Recomputing a target changes the voltage part of a cluster alone. -/
theorem retarget_eq (s : State) (now : Nat) (c : Cluster) : retarget s now c = { c with v := (retarget s now c).v } := by
  unfold retarget
  dsimp only
  split
  · split <;> rfl
  · rfl

theorem retargetAll_cluster (now : Nat) (s : State) {n : Nat} (hn : n < 144) :
    (retargetAll now s).cluster n = { s.cluster n with v := ((retargetAll now s).cluster n).v } := by
  have hget : (retargetAll now s).cluster n
      = retarget { s with seq := { s.seq with vcode := s.seq.fvAt s.clk.paceNo } } now (s.cluster n) := Tab.get_map _ _ n hn
  rw [hget]
  exact retarget_eq _ _ _

/-- Recomputing every target changes the clusters and the code at which their curves are read. -/
theorem retargetAll_eq (now : Nat) (s : State) : retargetAll now s
    = { s with cl := (retargetAll now s).cl, seq := { s.seq with vcode := (retargetAll now s).seq.vcode } } := rfl

/-- A done has been sampled: the wait ends, and the hold of f_v with it, but for the hold of R64. -/
def doneSampled (s : State) : State :=
  { s with seq := { s.seq with
    awaitDone := false, fvHold := if s.seq.noDone then s.seq.fvHold else none
    fvFixed := if s.seq.noDone then s.seq.fvFixed else false } }

theorem exec_freqDone (s : State) : exec .freqDone s = .next (finish (retargetAll (s.clk.now + 1) (doneSampled s))) := by
  cases hd : s.seq.noDone <;> simp [exec, execFreqDone, done, doneSampled, hd]

/-- No done has been sampled in time: the hold of R64 begins, at the highest of the codes held. -/
def doneMissed (s : State) : State :=
  { s with seq := { s.seq with
    noDone := true, doneLate := true, fvFixed := true
    fvHold := some (max (s.seq.fvHold.getD 0) (max s.seq.applyOld s.seq.code)) } }

theorem exec_freqNoDoneTimeout {s : State} (hawait : s.seq.awaitDone = true) (hlate : s.seq.doneLate = false)
    (hpace : s.clk.stage = s.seq.applyStage → s.clk.pace ≠ 0) (hp : s.clk.p0Pending = false) :
    exec .freqNoDoneTimeout s = .next (tick (finish (raise 0x0611 0 [] (doneMissed s)))) := by
  have hdue : (s.clk.stage == s.seq.applyStage && s.clk.pace == 0) = false := by simpa using hpace
  simp [exec, execFreqNoDoneTimeout, lapse, hawait, hlate, hdue, hp, doneMissed]

/-- The only event of a cycle is raised in it. -/
theorem raised_of_no_fresh {s : State} (h : s.evt.fresh = []) (code source : Nat) (data : List Byte) :
    Raised code source data (finish (raise code source data s)) := by
  refine ⟨_, { code, source, stage := s.clk.stage, data, moment := s.clk.now }, ?_, rfl, rfl, rfl, rfl⟩
  rw [raise_of_no_fresh h]
  exact List.mem_singleton_self _

/-- Settles O41: a done by what recomputing the targets leaves, a missing one by the event of its cycle. -/
theorem frequencyDone : Obligations.FrequencyDone := by
  unfold Obligations.FrequencyDone
  intro s
  constructor
  · refine ⟨_, exec_freqDone s, ?_, ?_⟩
    · intro n hn
      have hcl : (finish (retargetAll (s.clk.now + 1) (doneSampled s))).cluster n
          = (retargetAll (s.clk.now + 1) (doneSampled s)).cluster n := by simp [State.cluster]
      rw [hcl]
      exact retargetAll_cluster (s.clk.now + 1) (doneSampled s) hn
    · rw [finish_apart, finish_cl, finish_seq_vcode]
      exact congrArg State.apart (retargetAll_eq (s.clk.now + 1) (doneSampled s))
  · intro hawait hlate hpace hfresh hp
    refine ⟨_, exec_freqNoDoneTimeout hawait hlate hpace hp, raised_of_no_fresh (s := doneMissed s) hfresh _ _ _, ?_⟩
    rw [finish_apart, raise_apart]
    rfl

end Sys2Proof.Machine
end

section
/-! SUPPORT. Changes of one entry of a table, of one cluster and of one phase, and what is read after them. -/

namespace Sys2Proof

theorem listModify_congr {α : Type} [Inhabited α] {f g : α → α} :
    ∀ {l : List α} {i : Nat}, f (l.getD i default) = g (l.getD i default) → listModify f l i = listModify g l i
  | [], _, _ => rfl
  | _ :: _, 0, h => congrArg (· :: _) h
  | _ :: _, _ + 1, h => congrArg (_ :: ·) (listModify_congr (by simpa using h))

theorem listModify_listModify {α : Type} (f g : α → α) :
    ∀ (l : List α) (i : Nat), listModify g (listModify f l i) i = listModify (fun a => g (f a)) l i
  | [], _ => rfl
  | _ :: _, 0 => rfl
  | _ :: l, i + 1 => congrArg (_ :: ·) (listModify_listModify f g l i)

theorem Tab.eq_of_val {n : Nat} {α : Type} {t u : Tab n α} (h : t.val = u.val) : t = u := by
  cases t; cases u; cases h; rfl

/-- Two changes that agree on the entry they reach are one change. -/
theorem Tab.modify_congr {n : Nat} {α : Type} [Inhabited α] {t : Tab n α} {i : Nat} {f g : α → α} (h : f (t.get i) = g (t.get i)) :
    t.modify i f = t.modify i g :=
  Tab.eq_of_val (listModify_congr h)

theorem Tab.modify_modify {n : Nat} {α : Type} (t : Tab n α) (i : Nat) (f g : α → α) :
    (t.modify i f).modify i g = t.modify i (fun a => g (f a)) :=
  Tab.eq_of_val (listModify_listModify f g t.val i)

/-- Past its end a table reads as the default. -/
theorem Tab.get_of_le {n : Nat} {α : Type} [Inhabited α] (t : Tab n α) {i : Nat} (h : n ≤ i) : t.get i = default :=
  List.getD_eq_default _ _ (by rw [t.len]; exact h)

end Sys2Proof

namespace Sys2Proof.Machine

theorem State.cluster_updCl_same (s : State) {n : Nat} (hn : n < 144) (f : Cluster → Cluster) :
    (s.updCl n f).cluster n = f (s.cluster n) :=
  Tab.get_modify_same s.cl n f hn

theorem State.updCl_congr {s : State} {n : Nat} {f g : Cluster → Cluster} (h : f (s.cluster n) = g (s.cluster n)) :
    s.updCl n f = s.updCl n g :=
  congrArg (fun cl => { s with cl := cl }) (Tab.modify_congr h)

theorem State.updCl_updCl (s : State) (n : Nat) (f g : Cluster → Cluster) :
    (s.updCl n f).updCl n g = s.updCl n (fun c => g (f c)) :=
  congrArg (fun cl => { s with cl := cl }) (Tab.modify_modify s.cl n f g)

theorem State.phase_updPh_same (s : State) {i : Nat} (hi : i < 128) (f : Phase → Phase) :
    (s.updPh i f).phase i = f (s.phase i) :=
  Tab.get_modify_same s.phases i f hi

theorem State.phase_updPh_other (s : State) {i j : Nat} (f : Phase → Phase) (h : i ≠ j) :
    (s.updPh i f).phase j = s.phase j :=
  Tab.get_modify_other s.phases i j f h

theorem State.group_updGrp_same (s : State) {g : Nat} (hg : g < 15) (f : Group → Group) : (s.updGrp g f).group g = f (s.group g) :=
  Tab.get_modify_same s.groups g f hg

/-! ### The parts of two states with the same rest -/

theorem clk_of_apart {s t : State} (h : t.apart = s.apart) : t.clk = s.clk := by
  have hclk := congrArg State.clk h; exact hclk

theorem cl_of_apart {s t : State} (h : t.apart = s.apart) : t.cl = s.cl := by
  have hcl := congrArg State.cl h; exact hcl

theorem cluster_of_apart {s t : State} (h : t.apart = s.apart) (n : Nat) : t.cluster n = s.cluster n := by
  rw [State.cluster, cl_of_apart h, State.cluster]

theorem phase_of_apart {s t : State} (h : t.apart = s.apart) (j : Nat) : t.phase j = s.phase j := by
  have hphases := congrArg State.phases h
  exact congrArg (fun l : Tab 128 Phase => l.get j) hphases

theorem sys_of_apart {s t : State} (h : t.apart = s.apart) : t.sys = s.sys := by
  have hsys := congrArg State.sys h; exact hsys

end Sys2Proof.Machine
end

section
/-! SUPPORT. The steps of a cluster's transition: what they leave of every other cluster and of the rest of the block, and what
they make of the cluster itself (R65, R101, R276 to R278). -/

namespace Sys2Proof.Machine

/-! ### What the transition of one cluster leaves -/

/-- A state beside cluster `n`: all that the steps of its transition leave, which is every other cluster, the wake latch of the
cluster itself, and the rest of the block but what waits to fall in a later cycle and what every command may change. -/
def State.beside (n : Nat) (s : State) : State :=
  { s.apart with
    clk := { s.clk with soon := [] }, cl := s.cl.modify n (fun c => { s := { latch := c.s.latch } }) }

theorem beside_of_apart {n : Nat} {s t : State} (h : t.apart = s.apart) : t.beside n = s.beside n := by
  have hview := congrArg (State.beside n) h
  exact hview

theorem updCl_beside {n : Nat} {f : Cluster → Cluster} (h : ∀ c, (f c).s.latch = c.s.latch) (s : State) :
    (s.updCl n f).beside n = s.beside n := by
  have hcl : (s.cl.modify n f).modify n (fun c => { s := { latch := c.s.latch } })
      = s.cl.modify n (fun c => { s := { latch := c.s.latch } }) := by
    rw [Tab.modify_modify]
    simp only [h]
  unfold State.beside
  rw [State.updCl_cl, hcl]
  rfl

theorem cluster_of_beside {n m : Nat} {s t : State} (h : t.beside n = s.beside n) (hm : m ≠ n) : t.cluster m = s.cluster m := by
  have hcl := congrArg (fun u : State => u.cl.get m) h
  simp only [State.beside, Tab.get_modify_other _ _ _ _ hm.symm] at hcl
  exact hcl

theorem latch_of_beside {n : Nat} {s t : State} (hn : n < 144) (h : t.beside n = s.beside n) :
    (t.cluster n).s.latch = (s.cluster n).s.latch := by
  have hcl := congrArg (fun u : State => (u.cl.get n).s.latch) h
  simp only [State.beside, Tab.get_modify_same _ _ _ hn] at hcl
  exact hcl

theorem cells_of_beside {n : Nat} {s t : State} (h : t.beside n = s.beside n) : t.cells = s.cells := by
  have hcells := congrArg State.cells h; exact hcells

theorem sys_of_beside {n : Nat} {s t : State} (h : t.beside n = s.beside n) : t.sys = s.sys := by
  have hsys := congrArg State.sys h; exact hsys

/-- Apart from the clusters and what waits to fall in a later cycle, such states have the same rest. -/
theorem apart_of_beside {n : Nat} {s t : State} (h : t.beside n = s.beside n) :
    t.apart = ({ s with cl := t.cl, clk := { s.clk with soon := t.clk.soon } } : State).apart := by
  have hback := congrArg (fun u : State => { u with cl := t.cl, clk := { u.clk with soon := t.clk.soon } }) h
  exact hback

theorem countStretch_beside (n : Nat) (s : State) : (countStretch false n s).beside n = s.beside n := by
  unfold countStretch
  dsimp only
  split
  · rfl
  · split <;> exact updCl_beside (by intro _; rfl) s

theorem stretchEnd_beside (n : Nat) (s : State) : (stretchEnd n s).beside n = s.beside n := by
  unfold stretchEnd
  split
  · exact (updCl_beside (by intro _; rfl) _).trans (countStretch_beside n s)
  · rfl

theorem settle_beside (n : Nat) (st : CState) (s : State) : (settle n st s).beside n = s.beside n := by
  unfold settle
  dsimp only
  refine (updCl_beside (by intro _; rfl) _).trans ?_
  split
  · exact stretchEnd_beside n s
  · rfl

theorem echoed_beside (n : Nat) (tr : Trans) (last : Bool) (s : State) : (echoed n tr last s).beside n = s.beside n := by
  unfold echoed
  dsimp only
  split
  · split
    · exact (updCl_beside (by intro _; rfl) _).trans (settle_beside n tr.target s)
    · exact settle_beside n tr.target s
  · exact updCl_beside (by intro _; rfl) s

theorem driveCode_beside (free : Bool) (n : Nat) (tr : Trans) (s : State) : (driveCode free n tr s).beside n = s.beside n := by
  unfold driveCode
  dsimp only
  split
  · exact updCl_beside (by intro _; rfl) s
  · split
    · exact echoed_beside n tr _ s
    · exact updCl_beside (by intro _; rfl) s

theorem startTrans_beside (n : Nat) (g : CState) (d : Nat) (s : State) : (startTrans n g d s).beside n = s.beside n := by
  unfold startTrans
  dsimp only
  split
  · rfl
  · split
    · exact updCl_beside (by intro _; rfl) s
    · split
      · exact (updCl_beside (by intro _; rfl) _).trans (updCl_beside (by intro _; rfl) s)
      · split
        · exact (updCl_beside (by intro _; rfl) _).trans (updCl_beside (by intro _; rfl) s)
        · exact (driveCode_beside _ n _ _).trans (updCl_beside (by intro _; rfl) s)

/-! ### What they make of the cluster -/

/-- A change of a cluster that leaves the standing of every cluster leaves that of the one it reaches. -/
theorem updCl_standing {n : Nat} (hn : n < 144) {f : Cluster → Cluster} (h : ∀ c, (f c).s = c.s) (s : State) :
    ((s.updCl n f).cluster n).s = (s.cluster n).s := by
  rw [State.cluster_updCl_same s hn, h]

theorem countStretch_standing {n : Nat} (hn : n < 144) (s : State) : ((countStretch false n s).cluster n).s = (s.cluster n).s := by
  unfold countStretch
  dsimp only
  split
  · rfl
  · split <;> exact updCl_standing hn (by intro _; rfl) s

theorem stretchEnd_standing {n : Nat} (hn : n < 144) (s : State) : ((stretchEnd n s).cluster n).s = (s.cluster n).s := by
  unfold stretchEnd
  split
  · exact (updCl_standing hn (by intro _; rfl) _).trans (countStretch_standing hn s)
  · rfl

/-- A cluster that settles stands in the state, with no transition and no edge set for its echo. -/
theorem settle_standing {n : Nat} (hn : n < 144) (st : CState) (s : State) :
    ((settle n st s).cluster n).s = { (s.cluster n).s with st, trans := none, hsEdge := none } := by
  unfold settle
  dsimp only
  rw [State.cluster_updCl_same _ hn]
  split
  · rw [stretchEnd_standing hn]
  · rfl

/-- The transition that follows the last echo: none, but the steps to Retain of a cluster whose cells were lost on the way to
Active or Rest (R101). -/
def afterLast (tr : Trans) : Option Trans :=
  if tr.lost = true ∧ (tr.target = .active ∨ tr.target = .rest) then some { target := .retain, phase := .ackWait } else none

theorem echoed_last_standing {n : Nat} (hn : n < 144) (tr : Trans) (s : State) :
    ((echoed n tr true s).cluster n).s = { (s.cluster n).s with st := tr.target, trans := afterLast tr, hsEdge := none } := by
  have hcond : (tr.lost && (tr.target == .active || tr.target == .rest)) = true
      ↔ tr.lost = true ∧ (tr.target = .active ∨ tr.target = .rest) := by simp
  unfold echoed afterLast
  simp only [if_true, hcond]
  split
  · rw [State.cluster_updCl_same _ hn, settle_standing hn]
  · exact settle_standing hn tr.target s

end Sys2Proof.Machine
end

section
/-! SUPPORT. How a cluster's transition starts, and the retention of the stage-array banks (R65, R76, R276 to R279). -/

namespace Sys2Proof.Machine

/-! ### How a transition starts (R276 to R278) -/

/-- A new transition clears what the one before has left. -/
def clearedTrans (n : Nat) (s : State) : State :=
  s.updCl n (fun c => { c with
    s := { c.s with hsFault := false, hsEdge := none, replayed := false, trans := none }, w := { c.w with pending := false } })

/-- A wake of a cluster begins, at the self-tests or waiting for admission. -/
def wakeBegun (n : Nat) (g : CState) (d : Nat) (phase : TPhase) (s : State) : State :=
  s.updCl n (fun c => { c with s := { c.s with trans := some { target := g, phase, due := s.clk.now + 200 } }, w := c.w.start d })

theorem startTrans_settled {n : Nat} {g : CState} {s : State} (hst : (s.cluster n).s.st = g) (htr : (s.cluster n).s.trans = none)
    (hf : (s.cluster n).s.hsFault = false) (d : Nat) : startTrans n g d s = s := by
  simp [startTrans, Cluster.starts, hst, htr, hf]

theorem startTrans_dormant {n : Nat} {g : CState} {s : State} (hst : (s.cluster n).s.st = .dormant) (hg : g ≠ .dormant)
    (htr : (s.cluster n).s.trans = none) (d : Nat) : startTrans n g d s = wakeBegun n g d .selfTest (clearedTrans n s) := by
  simp [startTrans, Cluster.starts, hst, htr, hg, hg.symm, wakeBegun, clearedTrans]

theorem startTrans_retain {n : Nat} {g : CState} {s : State} (hst : (s.cluster n).s.st = .retain) (hg : g = .active ∨ g = .rest)
    (d : Nat) : startTrans n g d s = wakeBegun n g d .unadmitted (clearedTrans n s) := by
  have hne : CState.retain ≠ g := by rintro rfl; simp at hg
  simp [startTrans, Cluster.starts, hst, hg, hne, wakeBegun, clearedTrans]

/-- From Active or Rest the code of the first step is driven. -/
theorem startTrans_drives {n : Nat} {g : CState} {s : State} (hst : (s.cluster n).s.st = .active ∨ (s.cluster n).s.st = .rest)
    (hg : (s.cluster n).s.st ≠ g) (d : Nat) : startTrans n g d s
      = driveCode (s.cluster n).s.hsFault n { target := g, phase := firstEcho (s.cluster n).s.st g } (clearedTrans n s) := by
  have hd : (s.cluster n).s.st ≠ .dormant := by rcases hst with h | h <;> simp [h]
  have hr : (s.cluster n).s.st ≠ .retain := by rcases hst with h | h <;> simp [h]
  simp [startTrans, Cluster.starts, hg, hd, hr, clearedTrans]

/-- The code driven is another and is acknowledged: at a cycle 0 of a pace the new one is driven (R65). -/
theorem driveCode_drives {n : Nat} {tr : Trans} {s : State} (hnow : s.clk.now = s.clk.paceStart)
    (hack : (s.cluster n).s.ack = (s.cluster n).s.req) (hreq : (s.cluster n).s.req ≠ tr.target) (free : Bool) :
    driveCode free n tr s = s.updCl n (fun c => { c with
      s := { c.s with req := tr.target, trans := some tr, hsEdge := some (s.clk.stage + 1) } }) := by
  simp [driveCode, hnow, hack, hreq]

/-- The code driven is not acknowledged: the new one waits (R65). -/
theorem driveCode_waits {n : Nat} {tr : Trans} {s : State} (hack : (s.cluster n).s.ack ≠ (s.cluster n).s.req) :
    driveCode false n tr s = s.updCl n (fun c => { c with s := { c.s with trans := some { tr with phase := .ackWait } } }) := by
  simp [driveCode, hack]

theorem clearedTrans_cluster {n : Nat} (hn : n < 144) (s : State) : (clearedTrans n s).cluster n = { s.cluster n with
    s := { (s.cluster n).s with hsFault := false, hsEdge := none, replayed := false, trans := none }
    w := { (s.cluster n).w with pending := false } } :=
  State.cluster_updCl_same s hn _

theorem wakeBegun_cluster {n : Nat} (hn : n < 144) (g : CState) (d : Nat) (phase : TPhase) (s : State) :
    (wakeBegun n g d phase s).cluster n = { s.cluster n with
      s := { (s.cluster n).s with trans := some { target := g, phase, due := s.clk.now + 200 } }, w := (s.cluster n).w.start d } :=
  State.cluster_updCl_same s hn _

/-- What a wake that starts makes of its cluster: the step that it waits in, and the deadline of its admission. -/
theorem wakeBegun_cleared {n : Nat} (hn : n < 144) (g : CState) (d : Nat) (phase : TPhase) (s : State) :
    ((wakeBegun n g d phase (clearedTrans n s)).cluster n).s.trans = some { target := g, phase, due := s.clk.now + 200 } ∧
    ((wakeBegun n g d phase (clearedTrans n s)).cluster n).w.deadline = d := by
  rw [wakeBegun_cluster hn]
  exact ⟨rfl, rfl⟩

/-! ### Retention of the stage-array banks (R76, R279) -/

theorem exec_saRetentionAck (banks : List Nat) (s : State) : exec (.saRetentionAck banks) s
    = .next (finish { s with sys := { s.sys with saAck := Tab.ofFn 64 (fun b => banks.contains b) } }) := rfl

/-- The pinned indication of a bank has been sampled: a request for it that is not acknowledged is dropped (R76). -/
def pinSampled (b : Nat) (pinned : Bool) (s : State) : State :=
  { s with sys := { s.sys with
    saPinned := s.sys.saPinned.set b pinned
    saReq := if pinned && s.sys.saReq.get b && !s.sys.saAck.get b then s.sys.saReq.set b false else s.sys.saReq } }

theorem exec_saBankPinned (b : Nat) (pinned : Bool) (s : State) :
    ∃ t, exec (.saBankPinned b pinned) s = .next t ∧ t.apart = (pinSampled b pinned s).apart := by
  cases hdrop : pinned && s.sys.saReq.get b && !s.sys.saAck.get b with
  | true =>
    refine ⟨finish (bankPinned b (pinSampled b pinned s)), ?_, ?_⟩
    · simp only [exec, execSaBankPinned, done, pinSampled, hdrop, if_true]
    · rw [finish_apart, bankPinned, raisePeriod_apart]
  | false =>
    refine ⟨finish (pinSampled b pinned s), ?_, finish_apart _⟩
    simp [exec, execSaBankPinned, done, pinSampled, hdrop]

/-- Settles O28: a case of `startTrans` for each state that the cluster stands in, and its frame by `startTrans_beside`. -/
theorem stateChange : Obligations.StateChange := by
  unfold Obligations.StateChange
  constructor
  · rintro n d g s _ rfl hn htr hf
    have hframe := startTrans_beside n g d s
    refine ⟨fun hst => startTrans_settled hst htr hf d, fun hst hg => ?_, fun hst hg => ?_, fun hst hg hreq => ⟨?_, ?_⟩,
      fun m hm => cluster_of_beside hframe hm, cells_of_beside hframe⟩
    · rw [startTrans_dormant hst hg htr]
      exact wakeBegun_cleared hn g d .selfTest s
    · rw [startTrans_retain hst hg]
      exact wakeBegun_cleared hn g d .unadmitted s
    all_goals
      have hne : (s.cluster n).s.st ≠ g := by rcases hst with h | h <;> rcases hg with rfl | rfl <;> simp [h]
      have hecho : firstEcho (s.cluster n).s.st g = .echo := by rcases hg with rfl | rfl <;> simp [firstEcho, hne]
      have hcleared := clearedTrans_cluster hn s
      rw [startTrans_drives hst hne, hf, hecho]
    · intro hnow hack
      rw [driveCode_drives (s := clearedTrans n s) hnow (by rw [hcleared]; exact hack) (by rw [hcleared]; exact hreq), State.cluster_updCl_same _ hn]
      exact ⟨rfl, rfl, rfl⟩
    · intro hack
      rw [driveCode_waits (by rw [hcleared]; exact hack), State.cluster_updCl_same _ hn, hcleared]
      exact ⟨rfl, rfl⟩
  · intro s
    exact ⟨fun banks => ⟨_, exec_saRetentionAck banks s, finish_apart _⟩, fun b pinned _ => exec_saBankPinned b pinned s⟩

end Sys2Proof.Machine
end

section
/-! SUPPORT. The state echo of a cluster and its time limit (R65, R101, R278). -/

namespace Sys2Proof.Machine

/-- The echo sampled is the state acknowledged (R65). -/
def echoSampled (n code : Nat) (s : State) : State :=
  s.updCl n (fun c => { c with s := { c.s with ack := CState.ofCode code } })

/-- An echo that answers the code driven is taken by the step that the transition stands at (R65, R278). -/
theorem exec_clusterStateEcho_answers {n : ClusterId} {code : Nat} {s : State} {tr : Trans} {last : Bool}
    (htr : (s.cluster n).s.trans = some tr) (hph : tr.phase = if last then .finalEcho else .echo)
    (hf : (s.cluster n).s.hsFault = false) (hreq : CState.ofCode code = (s.cluster n).s.req) :
    exec (.clusterStateEcho n code) s = .next (finish (echoed n tr last (echoSampled n code s))) := by
  cases last <;>
    simp [exec, execClusterStateEcho, done, echoSampled, State.cluster_updCl_same s n.isLt, htr, hf, ← hreq,
      hph]

/-- Any other echo is recorded alone. -/
theorem exec_clusterStateEcho_other {n : ClusterId} {code : Nat} {s : State}
    (h : CState.ofCode code ≠ (s.cluster n).s.req ∨ (s.cluster n).s.hsFault = true) :
    exec (.clusterStateEcho n code) s = .next (finish (echoSampled n code s)) := by
  have hbad : ((s.cluster n).s.hsFault || CState.ofCode code != (s.cluster n).s.req) = true := by
    rcases h with h | h <;> simp [h]
  simp only [exec, execClusterStateEcho, State.cluster_updCl_same s n.isLt, hbad, if_true]
  split <;> rfl

/-- No matching echo has come in time: the cluster's transition and its ramp stop where they are (R65). -/
def handshakeFailed (n : Nat) (s : State) : State :=
  s.updCl n (fun c => { c with
    s := { c.s with hsFault := true, hsEdge := none }, v := { c.v with sp := { c.v.sp with moving := false, tgt := c.v.sp.cur } } })

theorem exec_handshakeTimeout {n : ClusterId} {e : Nat} {s : State} (he : (s.cluster n).s.hsEdge = some e) (hdue : e ≤ s.clk.stage)
    (hack : (s.cluster n).s.ack ≠ (s.cluster n).s.req) (hp : s.clk.p0Pending = false) :
    exec (.handshakeTimeout n) s = .next (tick (finish (raise 0x0311 n
      [BitVec.ofNat 8 (s.cluster n).s.req.code, BitVec.ofNat 8 (s.cluster n).s.ack.code] (handshakeFailed n s)))) := by
  simp [exec, execHandshakeTimeout, lapse, he, hdue, hack, hp, handshakeFailed]

/-- Settles O25: the last echo by `echoed_last_standing`, and its frame by `echoed_beside`. -/
theorem handshake : Obligations.Handshake := by
  unfold Obligations.Handshake
  intro n s
  refine ⟨?_, ?_, ?_, ?_⟩
  case refine_1 =>
    intro code tr htr hph hf hreq
    have hrest := finish_apart (echoed n tr true (echoSampled n code s))
    have hframe : (echoed n tr true (echoSampled n code s)).beside n = s.beside n :=
      (echoed_beside n tr true _).trans (updCl_beside (by intro _; rfl) s)
    have hstand := echoed_last_standing n.isLt tr (echoSampled n code s)
    rw [echoSampled, State.cluster_updCl_same s n.isLt, ← echoSampled, ← cluster_of_apart hrest] at hstand
    refine ⟨_, exec_clusterStateEcho_answers (last := true) htr hph hf hreq, by rw [hstand], by rw [hstand], by rw [hstand]; rfl, ?_, ?_⟩
    · intro m hm
      rw [cluster_of_apart hrest]
      exact cluster_of_beside hframe hm
    · rw [finish_cl, finish_clk, finish_apart]
      exact apart_of_beside hframe
  case refine_2 =>
    intro code tr htr hph hf hreq
    refine ⟨_, exec_clusterStateEcho_answers (last := false) htr hph hf hreq, ?_⟩
    have htaken : echoed n tr false (echoSampled n code s) = s.updCl n (fun c => { c with s := { c.s with
        ack := CState.ofCode code, trans := some { tr with phase := .settle }, hsEdge := none
        held := c.s.held && (tr.target != .dormant || tr.lost) } }) := State.updCl_updCl s n _ _
    rw [finish_apart, htaken]
  case refine_3 =>
    intro code h
    exact ⟨_, exec_clusterStateEcho_other h, finish_apart _⟩
  case refine_4 =>
    intro e he hdue hack hp hfresh
    refine ⟨_, exec_handshakeTimeout he hdue hack hp, ?_, raised_of_no_fresh (s := handshakeFailed n s) hfresh _ _ _⟩
    rw [finish_apart, raise_apart]
    rfl

end Sys2Proof.Machine
end

section
/-! SUPPORT. The wake latch of a cluster: its edges and its replay (R66, R279 to R281). -/

namespace Sys2Proof.Machine

/-- An edge sets a latch that is clear (R66). -/
def latchSet (n : Nat) (s : State) : State :=
  s.updCl n (fun c => { c with s := { c.s with latch := true, latchStage := s.clk.stage, edgeAgain := none } })

/-- An edge that finds the latch set is noted with its cycle (R66, R281). -/
def edgeMerged (n : Nat) (s : State) : State := s.updCl n (fun c => { c with s := { c.s with edgeAgain := some s.clk.now } })

theorem exec_clusterWakeEdge_sets {n : ClusterId} {s : State} (hc : s.sys.chip ≠ .cold) (hl : (s.cluster n).s.latch = false) :
    exec (.clusterWakeEdge n) s = .next (finish (latchSet n s)) := by
  simp only [exec, execClusterWakeEdge, done, beq_iff_eq, hc, if_false]
  exact congrArg (fun u => Host.Outcome.next (finish u)) (State.updCl_congr (by simp [hl]))

theorem exec_clusterWakeEdge_merges {n : ClusterId} {s : State} (hc : s.sys.chip ≠ .cold) (hl : (s.cluster n).s.latch = true) :
    exec (.clusterWakeEdge n) s = .next (finish (edgeMerged n s)) := by
  simp only [exec, execClusterWakeEdge, done, beq_iff_eq, hc, if_false]
  exact congrArg (fun u => Host.Outcome.next (finish u)) (State.updCl_congr (by simp [hl]))

theorem exec_clusterWakeEdge_cold {n : ClusterId} {s : State} (hc : s.sys.chip = .cold) : exec (.clusterWakeEdge n) s = .next s := by
  simp [exec, execClusterWakeEdge, idle, hc]

/-- The latch has been replayed: it is clear, but where an edge has come in this very cycle (R281). -/
def latchReplayed (n : Nat) (s : State) : State :=
  s.updCl n (fun c => { c with s := { c.s with
    latch := (s.cluster n).s.edgeAgain == some s.clk.now
    latchStage := if (s.cluster n).s.edgeAgain == some s.clk.now then s.clk.stage else c.s.latchStage, edgeAgain := none } })

/-- The wake that a replay starts; the first wake ends the request for SA retention (R279, R280). -/
def replayBegun (n : Nat) (s : State) : State :=
  (startTrans n .active 4 (saRelease s)).updCl n (fun c => { c with s := { c.s with replayed := true } })

/-- The state after a replay with a result, before its event. -/
def replayed (n res : Nat) (s : State) : State := if res = 1 then replayBegun n (latchReplayed n s) else latchReplayed n s

theorem exec_wakeLatchReplay {n : ClusterId} {s : State} (h : replayDue s (s.cluster n) = true) :
    ∃ t, exec (.wakeLatchReplay n) s = .next t ∧ t.apart = (replayed n (replayResult s (s.cluster n)) s).apart := by
  refine ⟨finish (raisePeriod 0x0325 n ([BitVec.ofNat 8 (replayResult s (s.cluster n)), BitVec.ofNat 8 (s.cluster n).s.st.code]
    ++ leBytes 4 (s.cluster n).s.latchStage) (replayed n (replayResult s (s.cluster n)) s)), ?_, ?_⟩
  · simp only [exec, execWakeLatchReplay, h, if_true]
    rfl
  · rw [finish_apart, raisePeriod_apart]

theorem latchReplayed_cluster (n : ClusterId) (s : State) : (latchReplayed n s).cluster n = { s.cluster n with s := { (s.cluster n).s with
    latch := (s.cluster n).s.edgeAgain == some s.clk.now
    latchStage := if (s.cluster n).s.edgeAgain == some s.clk.now then s.clk.stage else (s.cluster n).s.latchStage
    edgeAgain := none } } :=
  State.cluster_updCl_same s n.isLt _

/-- The wake that a replay starts leaves what its transition leaves. -/
theorem replayBegun_beside (n : Nat) (s : State) : (replayBegun n s).beside n = (saRelease s).beside n :=
  (updCl_beside (by intro _; rfl) _).trans (startTrans_beside n .active 4 (saRelease s))

/-- A replay leaves every other cluster, and the rest of the block but the request for SA retention. -/
theorem replayed_frame (n : ClusterId) (res : Nat) (s : State) :
    ((replayed n res s).cluster n).s.latch = ((s.cluster n).s.edgeAgain == some s.clk.now) ∧
    (∀ m, m ≠ n.val → (replayed n res s).cluster m = s.cluster m) ∧
    (replayed n res s).apart = ({ s with
      clk := { s.clk with soon := (replayed n res s).clk.soon }, cl := (replayed n res s).cl
      sys := { s.sys with saReq := (replayed n res s).sys.saReq } } : State).apart := by
  have hlatch := congrArg (fun c : Cluster => c.s.latch) (latchReplayed_cluster n s)
  have hother (m : Nat) (hm : m ≠ n.val) : (latchReplayed n s).cluster m = s.cluster m :=
    Tab.get_modify_other s.cl _ _ _ hm.symm
  unfold replayed
  split
  · have hframe := replayBegun_beside n (latchReplayed n s)
    refine ⟨(latch_of_beside n.isLt hframe).trans hlatch, fun m hm => (cluster_of_beside hframe hm).trans (hother m hm), ?_⟩
    have hsys : (replayBegun n (latchReplayed n s)).sys = (saRelease (latchReplayed n s)).sys := sys_of_beside hframe
    rw [apart_of_beside hframe, hsys]
    rfl
  · exact ⟨hlatch, hother, rfl⟩

/-- A replay that begins a wake: the step that it waits in, the mark of the replay, and the deadline of its admission. -/
theorem replayBegun_of_wakeBegun (n : ClusterId) {s : State} {phase : TPhase}
    (hbegin : startTrans n .active 4 (saRelease s) = wakeBegun n .active 4 phase (clearedTrans n (saRelease s))) :
    ((replayBegun n s).cluster n).s.trans = some { target := .active, phase, due := s.clk.now + 200 } ∧
    ((replayBegun n s).cluster n).s.replayed = true ∧ ((replayBegun n s).cluster n).w.deadline = 4 := by
  obtain ⟨htrans, hdeadline⟩ := wakeBegun_cleared n.isLt .active 4 phase (saRelease s)
  rw [replayBegun, State.cluster_updCl_same _ n.isLt, hbegin]
  exact ⟨htrans, rfl, hdeadline⟩

/-- The wake that a replay starts ends the request for SA retention (R279). -/
theorem replayBegun_saReq (n : Nat) (s : State) {b : Nat} (hb : b < 64) : (replayBegun n s).sys.saReq.get b = false := by
  rw [sys_of_beside (replayBegun_beside n s)]
  exact Tab.get_replicate 64 false b hb

/-- Settles O24: the two edges of the latch, and a replay by its result. -/
theorem wakeLatch : Obligations.WakeLatch := by
  unfold Obligations.WakeLatch
  intro n s
  refine ⟨fun hc hl => ⟨_, exec_clusterWakeEdge_sets hc hl, finish_apart _⟩,
    fun hc hl => ⟨_, exec_clusterWakeEdge_merges hc hl, finish_apart _⟩, exec_clusterWakeEdge_cold, ?_⟩
  intro hlatch hnow hp hprog hf hrech hgrid hdesc
  have hdue : replayDue s (s.cluster n) = true := by simp [replayDue, hlatch, hnow, hp, hprog, hf, hrech, hgrid, hdesc]
  obtain ⟨t, hexec, hrest⟩ := exec_wakeLatchReplay hdue
  obtain ⟨hclear, hother, hframe⟩ := replayed_frame n (replayResult s (s.cluster n)) s
  have hwas := latchReplayed_cluster n s
  refine ⟨t, hexec, ?_, ?_, ?_, ?_, ?_, ?_⟩
  · rw [cluster_of_apart hrest, hclear]
  · intro m hm
    rw [cluster_of_apart hrest, hother m hm]
  · rw [clk_of_apart hrest, cl_of_apart hrest, sys_of_apart hrest, hrest]
    exact hframe
  · intro hidle
    have hres : replayed n (replayResult s (s.cluster n)) s = latchReplayed n s := by
      rcases hidle with h | h
      · simp [replayed, replayResult, h]
      · cases hheld : (s.cluster n).s.held <;> simp [replayed, replayResult, h, hheld]
    rw [hres] at hrest
    rw [cluster_of_apart hrest, hwas, sys_of_apart hrest, clk_of_apart hrest]
    exact ⟨rfl, rfl, rfl, rfl⟩
  · intro hheld hst htr hlive hhold
    have hres : replayed n (replayResult s (s.cluster n)) s = replayBegun n (latchReplayed n s) := by
      simp [replayed, replayResult, hheld, hst, hlive, hhold]
    rw [hres] at hrest
    rw [cluster_of_apart hrest, sys_of_apart hrest]
    obtain ⟨htrans, hmark, hdeadline⟩ := replayBegun_of_wakeBegun n (s := latchReplayed n s)
      (startTrans_dormant (s := saRelease (latchReplayed n s)) ((congrArg (·.s.st) hwas).trans hst) (by decide)
        ((congrArg (·.s.trans) hwas).trans htr) 4)
    exact ⟨htrans, hmark, hdeadline, fun b hb => replayBegun_saReq n _ hb⟩
  · intro hheld hst
    have hres : replayed n (replayResult s (s.cluster n)) s = replayBegun n (latchReplayed n s) := by
      simp [replayed, replayResult, hheld, hst]
    rw [hres] at hrest
    rw [cluster_of_apart hrest]
    obtain ⟨htrans, hmark, -⟩ := replayBegun_of_wakeBegun n (s := latchReplayed n s)
      (startTrans_retain (s := saRelease (latchReplayed n s)) ((congrArg (·.s.st) hwas).trans hst) (.inl rfl) 4)
    exact ⟨htrans, hmark⟩

end Sys2Proof.Machine
end

section
/-! SUPPORT. The fault flag, the parking and the unparking of a phase: what the operations of a group leave (R59, R112, R113, R116, R117,
R131, R132). -/

namespace Sys2Proof.Machine

/-! ### What the operations of a group leave -/

/-- A state away from its phases: all but the phases, their groups, what waits to fall in a later cycle, and what every command may
change. -/
def State.awayFromPhases (s : State) : State :=
  { s.apart with clk := { s.clk with soon := [] }, groups := State.reset.groups, phases := State.reset.phases }

theorem awayFromPhases_of_apart {s t : State} (h : t.apart = s.apart) : t.awayFromPhases = s.awayFromPhases := by
  have hview := congrArg State.awayFromPhases h
  exact hview

theorem apart_of_awayFromPhases {s t : State} (h : t.awayFromPhases = s.awayFromPhases) :
    t.apart = ({ s with clk := { s.clk with soon := t.clk.soon }, groups := t.groups, phases := t.phases } : State).apart := by
  have hback := congrArg (fun u : State =>
    { u with clk := { u.clk with soon := t.clk.soon }, groups := t.groups, phases := t.phases }) h
  exact hback

@[simp] theorem updPh_awayFromPhases (i : Nat) (f : Phase → Phase) (s : State) :
    (s.updPh i f).awayFromPhases = s.awayFromPhases := rfl

@[simp] theorem updGrp_awayFromPhases (g : Nat) (f : Group → Group) (s : State) :
    (s.updGrp g f).awayFromPhases = s.awayFromPhases := rfl

@[simp] theorem soonIn_awayFromPhases (k : Nat) (w : Soon) (s : State) : (soonIn k w s).awayFromPhases = s.awayFromPhases := rfl

@[simp] theorem raise_awayFromPhases (c k : Nat) (d : List Byte) (s : State) : (raise c k d s).awayFromPhases = s.awayFromPhases :=
  awayFromPhases_of_apart (raise_apart c k d s)

@[simp] theorem unparkAll_awayFromPhases (g : Nat) (s : State) : (unparkAll g s).awayFromPhases = s.awayFromPhases := rfl

@[simp] theorem ripTo_awayFromPhases (g : Nat) (s : State) : (ripTo g s).awayFromPhases = s.awayFromPhases := by
  unfold ripTo
  dsimp only
  split
  · rfl
  · rw [forEach_keeps State.awayFromPhases _ (fun _ _ => updPh_awayFromPhases _ _ _), updGrp_awayFromPhases, updGrp_awayFromPhases]

@[simp] theorem refreshOn_awayFromPhases (g : Nat) (s : State) : (refreshOn g s).awayFromPhases = s.awayFromPhases :=
  ripTo_awayFromPhases g s

@[simp] theorem judgeFlags_awayFromPhases (l : List Nat) (s : State) : (judgeFlags l s).awayFromPhases = s.awayFromPhases :=
  forEach_keeps State.awayFromPhases _ (fun _ _ => soonIn_awayFromPhases _ _ _) _ s

@[simp] theorem startPulse_awayFromPhases (g i : Nat) (s : State) : (startPulse g i s).awayFromPhases = s.awayFromPhases :=
  ripTo_awayFromPhases g s

@[simp] theorem pulseOrWait_awayFromPhases (g : Nat) (s : State) : (pulseOrWait g s).awayFromPhases = s.awayFromPhases := by
  unfold pulseOrWait
  split
  · exact startPulse_awayFromPhases g _ s
  · dsimp only
    split <;> rfl

@[simp] theorem pulseDue_awayFromPhases (g : Nat) (s : State) : (pulseDue g s).awayFromPhases = s.awayFromPhases := by
  unfold pulseDue
  split
  · exact pulseOrWait_awayFromPhases g s
  · rfl

/-! ### How a phase stands -/

/-- How a phase stands in its group: its state, its enable, its waking, and since when it has been in its state. -/
def Phase.standing (p : Phase) : PhState × Bool × Option Nat × Nat := (p.st, p.en, p.waking, p.since)

/-- How every phase stands. -/
def State.standings (s : State) (j : Nat) : PhState × Bool × Option Nat × Nat := (s.phase j).standing

theorem standings_of_phases {s t : State} (h : t.phases = s.phases) : t.standings = s.standings := by
  funext j
  rw [State.standings, State.phase, h]
  rfl

theorem updPh_standings {f : Phase → Phase} (h : ∀ p, (f p).standing = p.standing) (i : Nat) (s : State) :
    (s.updPh i f).standings = s.standings := by
  funext j
  have hget : (s.updPh i f).phase j = if i = j ∧ i < 128 then f (s.phase i) else s.phase j := Tab.get_modify s.phases i j f
  rw [State.standings, hget]
  split
  next hij => rw [h, hij.1]; rfl
  next => rfl

theorem mapI_standings {f : Nat → Phase → Phase} (h : ∀ i p, (f i p).standing = p.standing) (s : State) :
    ({ s with phases := s.phases.mapI f } : State).standings = s.standings := by
  funext j
  have hphase : ({ s with phases := s.phases.mapI f } : State).phase j = (s.phases.mapI f).get j := rfl
  rw [State.standings, hphase]
  rcases Nat.lt_or_ge j 128 with hj | hj
  · rw [Tab.get_mapI _ _ _ hj]
    exact h j _
  · rw [Tab.get_of_le _ hj, State.standings, State.phase, Tab.get_of_le _ hj]

/-- The emulator of a group computes ripple alone (R112). -/
theorem ripTo_standings (g : Nat) (s : State) : (ripTo g s).standings = s.standings := by
  unfold ripTo
  dsimp only
  split
  · rfl
  · exact (forEach_keeps State.standings _ (fun i u => updPh_standings (by intro _; rfl) i u) _ _)

theorem refreshOn_standings (g : Nat) (s : State) : (refreshOn g s).standings = s.standings :=
  (mapI_standings (by intro _ _; split <;> rfl) (ripTo g s)).trans (ripTo_standings g s)

theorem judgeFlags_standings (l : List Nat) (s : State) : (judgeFlags l s).standings = s.standings :=
  forEach_keeps State.standings _ (by intro _ _; rfl) _ s

/-- A pulse leaves how its phase stands. -/
theorem startPulse_standings (g i : Nat) (s : State) : (startPulse g i s).standings = s.standings :=
  (updPh_standings (by intro _; rfl) i (ripTo g s)).trans (ripTo_standings g s)

theorem pulseDue_standings (g : Nat) (s : State) : (pulseDue g s).standings = s.standings := by
  unfold pulseDue pulseOrWait
  split
  · split
    · exact startPulse_standings g _ s
    · dsimp only
      split <;> rfl
  · rfl

/-! ### The fault flag (R59, R131) -/

/-- A low flag has been sampled: what follows falls in the next cycle. -/
def flagLowSampled (i : Nat) (s : State) : State :=
  ({ s with clk := { s.clk with soon := s.clk.soon ++ [{ due := s.clk.now + 1, what := .inhibit i }] ++
    (if (s.phase i).live then [{ due := s.clk.now + 1, what := .disable i .faultFlag }] else []) } } : State).updPh i
      (fun p => { p with flagLow := true })

theorem exec_phaseFaultFlag_low (i : PhaseId) (s : State) : exec (.phaseFaultFlag i true) s = .next (finish (flagLowSampled i s)) := by
  cases hl : (s.phase i).live <;> simp [exec, execPhaseFaultFlag, done, flagLowSampled, soonIn, State.updPh, hl]

theorem exec_phaseFaultFlag_high (i : PhaseId) (s : State) : exec (.phaseFaultFlag i false) s
    = .next (finish (s.updPh i (fun p => { p with flagLow := false, inhibited := false }))) := rfl

/-- The pulse of a phase ends with its drive low. -/
theorem endPulse_pwm {i : Nat} (hi : i < 128) (s : State) : ((endPulse i s).phase i).pwm = false := by
  unfold endPulse
  dsimp only
  split <;>
    refine (congrArg Phase.pwm (State.phase_updPh_same (ripTo (groupOf s i) s) hi _)).trans ?_ <;>
    split <;> rfl

/-- The cycle after a low flag finds the phase inhibited, with no pulse in progress (R59). -/
theorem inhibitDue_phase {i : Nat} (hi : i < 128) {s : State} (hlow : (s.phase i).flagLow = true) :
    ((inhibitDue i s).phase i).inhibited = true ∧ ((inhibitDue i s).phase i).pwm = false := by
  have hinhibit (u : State) : (u.updPh i (fun p => { p with inhibited := true })).phase i = { u.phase i with inhibited := true } :=
    State.phase_updPh_same u hi _
  unfold inhibitDue
  simp only [hlow, Bool.not_true, Bool.false_eq_true, if_false, hinhibit, true_and]
  split
  next => exact endPulse_pwm hi s
  next hpwm => simpa using hpwm

/-- A fault flag disables a live phase; its pulse ends in the next cycle, with what completes the disabling (R131). -/
def flagDisabled (i : Nat) (s : State) : State :=
  soonIn 1 (.loss i .faultFlag) ((ripTo (groupOf s i) s).updPh i
    (fun p => { p.out .disabled .faultFlag with en := p.en && p.pwm, pwm := p.pwm }))

theorem disableDue_live {i : Nat} {s : State} (hlive : (s.phase i).live = true) : disableDue i .faultFlag s = flagDisabled i s := by
  have hst : (s.phase i).st ≠ .disabled := by
    intro h
    simp [Phase.live, h] at hlive
  simp [disableDue, disablePhase, hlive, hst, flagDisabled]

theorem ripTo_now (g : Nat) (s : State) : (ripTo g s).clk.now = s.clk.now := by
  have hnow := congrArg (fun u : State => u.clk.now) (ripTo_awayFromPhases g s)
  exact hnow

theorem flagDisabled_soon (i : Nat) (s : State) :
    { due := s.clk.now + 1, what := .loss i .faultFlag } ∈ (flagDisabled i s).clk.soon := by
  have hsoon : (flagDisabled i s).clk.soon = (ripTo (groupOf s i) s).clk.soon
      ++ [{ due := (ripTo (groupOf s i) s).clk.now + 1, what := .loss i .faultFlag }] := rfl
  rw [hsoon, ripTo_now]
  exact List.mem_append_right _ (List.mem_singleton_self _)

/-! ### The loss of a phase (R132) -/

/-- The driver of a phase that has been disabled goes off, and a pulse in progress ends. -/
def Phase.driverOff (now : Nat) (p : Phase) : Phase :=
  { p with pwm := false, en := p.en && p.st != .disabled, pulseEnd := if p.pwm then some now else p.pulseEnd }

/-- With the driver of the phase off, the parked phases of its group are woken. -/
def lossWoken (i : Nat) (s : State) : State := unparkAll (groupOf s i) (s.updPh i (Phase.driverOff s.clk.now))

/-- The loss is reported, but where the host has disabled the phase. -/
def lossTold (i : Nat) (c : PhCause) (d : List Byte) (s : State) : State :=
  if c == .host then s else raise 0x0220 i (BitVec.ofNat 8 c.code :: d) s

/-- The swell clamp of a segment that has too little left closes. -/
def clampedIf (g : Nat) (short : Bool) (s : State) : State :=
  if short then s.updGrp g (fun gr => { gr with swellClamp := true }) else s

theorem phaseLoss_eq (i : Nat) (c : PhCause) (s : State) :
    ∃ d short, phaseLoss i c s = clampedIf (groupOf s i) short (lossTold i c d (lossWoken i s)) :=
  ⟨_, _, rfl⟩

theorem wakePhase_keeps (now : Nat) (p : Phase) :
    (wakePhase now p).st = p.st ∧ (wakePhase now p).pwm = p.pwm ∧ (wakePhase now p).en = p.en := by
  unfold wakePhase
  split <;> exact ⟨rfl, rfl, rfl⟩

theorem lossWoken_phase {i : Nat} (hi : i < 128) {s : State} (hst : (s.phase i).st = .disabled) :
    ((lossWoken i s).phase i).st = .disabled ∧ ((lossWoken i s).phase i).pwm = false ∧ ((lossWoken i s).phase i).en = false := by
  have hphase : (lossWoken i s).phase i = wakePhase s.clk.now ((s.phase i).driverOff s.clk.now) := by
    have hget := Tab.get_mapI (s.phases.modify i (Phase.driverOff s.clk.now))
      (fun j p => if groupOf s j == groupOf s i then wakePhase s.clk.now p else p) i hi
    rw [Tab.get_modify_same _ _ _ hi, if_pos (beq_self_eq_true _)] at hget
    exact hget
  obtain ⟨hwst, hwpwm, hwen⟩ := wakePhase_keeps s.clk.now ((s.phase i).driverOff s.clk.now)
  rw [hphase, hwst, hwpwm, hwen]
  exact ⟨hst, rfl, by simp [Phase.driverOff, hst]⟩

theorem lossWoken_group {i : Nat} {s : State} (hg : groupOf s i < 15) : ((lossWoken i s).group (groupOf s i)).unparkNow = true :=
  congrArg Group.unparkNow (Tab.get_modify_same s.groups (groupOf s i) (fun gr => { gr with unparkNow := true }) hg)

theorem lossTold_parts (i : Nat) (c : PhCause) (d : List Byte) (s : State) :
    (lossTold i c d s).phases = s.phases ∧ (lossTold i c d s).groups = s.groups ∧ (lossTold i c d s).awayFromPhases = s.awayFromPhases := by
  unfold lossTold
  split
  · exact ⟨rfl, rfl, rfl⟩
  · have hrest := raise_apart 0x0220 i (BitVec.ofNat 8 c.code :: d) s
    have hphases := congrArg State.phases hrest
    have hgroups := congrArg State.groups hrest
    exact ⟨hphases, hgroups, awayFromPhases_of_apart hrest⟩

theorem clampedIf_parts {g : Nat} (hg : g < 15) (short : Bool) (s : State) :
    (clampedIf g short s).phases = s.phases ∧ ((clampedIf g short s).group g).unparkNow = (s.group g).unparkNow ∧
    (clampedIf g short s).evt = s.evt ∧ (clampedIf g short s).awayFromPhases = s.awayFromPhases := by
  cases short
  · exact ⟨rfl, rfl, rfl, rfl⟩
  · refine ⟨rfl, ?_, rfl, rfl⟩
    rw [clampedIf, if_pos rfl, State.group_updGrp_same s hg]

/-! ### Parking and unparking (R116, R117) -/

theorem exec_phaseParkDisable {i : PhaseId} {amps : Nat} {s u : State} (hst : (s.phase i).st = .parked)
    (hpark : (s.phase i).parking = true) (hpwm : (s.phase i).pwm = false)
    (hu : if amps < 200 then u = s else reach ((s.phase i).pulseEnd.getD (s.phase i).since + 2000) s = some u) :
    exec (.phaseParkDisable i amps) s = .next (finish (u.updPh i (fun p => { p with en := false, parking := false }))) := by
  by_cases hamps : amps < 200
  · rw [if_pos hamps] at hu
    simp [exec, execPhaseParkDisable, done, hst, hpark, hpwm, hamps, hu]
  · rw [if_neg hamps] at hu
    simp [exec, execPhaseParkDisable, atTime, done, hst, hpark, hpwm, hamps, hu]

/-- A phase whose time has come joins the switching phases, and a pulse that waits may start (R113, R117). -/
def unparked (i : Nat) (s : State) : State :=
  pulseDue (groupOf s i) (judgeFlags [i] (refreshOn (groupOf s i) (s.updPh i (Phase.join s.clk.now))))

theorem exec_phaseUnparkReady {i : PhaseId} {e : Nat} {s u : State} (hw : (s.phase i).waking = some e)
    (hst : (s.phase i).st = .parked) (hu : reach e s = some u) : exec (.phaseUnparkReady i) s = .next (finish (unparked i u)) := by
  simp [exec, execPhaseUnparkReady, atTime, done, hw, hst, hu, unparked]

theorem unparked_awayFromPhases (i : Nat) (s : State) : (unparked i s).awayFromPhases = s.awayFromPhases := by
  simp [unparked]

/-- The phase that joins stands as switching from now on, and every other as before. -/
theorem unparked_standings {i : Nat} (hi : i < 128) (s : State) :
    ((unparked i s).phase i).standing = (.switching, true, none, s.clk.now) ∧
    ∀ j, j ≠ i → ((unparked i s).phase j).standing = (s.phase j).standing := by
  have hstand : (unparked i s).standings = (s.updPh i (Phase.join s.clk.now)).standings := by
    rw [unparked, pulseDue_standings, judgeFlags_standings, refreshOn_standings]
  constructor
  · refine (congrFun hstand i).trans ?_
    rw [State.standings, State.phase_updPh_same s hi]
    rfl
  · intro j hj
    refine (congrFun hstand j).trans ?_
    rw [State.standings, State.phase_updPh_other s _ hj.symm]

theorem Phase.eq_inhibited {p : Phase} (hi : p.inhibited = true) (hp : p.pwm = false) : p = { p with inhibited := true, pwm := false } := by
  cases p
  cases hi
  cases hp
  rfl

/-- Settles O21: the flag, what falls in the cycles after it, and the two ends of parking, by the lemmas above. -/
theorem phaseFaultsAndParking : Obligations.PhaseFaultsAndParking := by
  unfold Obligations.PhaseFaultsAndParking
  intro i s
  refine ⟨⟨_, exec_phaseFaultFlag_low i s, finish_apart _⟩, ⟨_, exec_phaseFaultFlag_high i s, finish_apart _⟩, ?_, ?_, ?_, ?_, ?_⟩
  case refine_1 =>
    intro hlow
    obtain ⟨hinh, hpwm⟩ := inhibitDue_phase i.isLt hlow
    exact Phase.eq_inhibited hinh hpwm
  case refine_2 =>
    rintro hlive _ rfl
    have hdis : fallNow (.disable i .faultFlag) s = flagDisabled i s := disableDue_live hlive
    have hphase : (flagDisabled i s).phase i = _ := State.phase_updPh_same (ripTo (groupOf s i) s) i.isLt _
    rw [hdis]
    have hframe : (flagDisabled i s).awayFromPhases = s.awayFromPhases := ripTo_awayFromPhases _ s
    exact ⟨by rw [hphase]; rfl, by rw [hphase]; rfl, flagDisabled_soon i s, apart_of_awayFromPhases hframe⟩
  case refine_3 =>
    rintro c hst hg hfresh _ rfl
    obtain ⟨d, short, hloss⟩ := phaseLoss_eq i c s
    obtain ⟨htphases, htgroups, htaway⟩ := lossTold_parts i c d (lossWoken i s)
    obtain ⟨hcphases, hcgroup, hcevt, hcaway⟩ := clampedIf_parts hg short (lossTold i c d (lossWoken i s))
    have hphase : (fallNow (.loss i c) s).phase i = (lossWoken i s).phase i := by
      rw [fallNow, hloss, State.phase, hcphases, htphases, State.phase]
    have hgroup : ((fallNow (.loss i c) s).group (groupOf s i)).unparkNow = true := by
      rw [fallNow, hloss, hcgroup, State.group, htgroups]
      exact lossWoken_group hg
    have hevt : (fallNow (.loss i c) s).evt = (lossTold i c d (lossWoken i s)).evt := by rw [fallNow, hloss, hcevt]
    have haway : (fallNow (.loss i c) s).awayFromPhases = s.awayFromPhases := by
      rw [fallNow, hloss, hcaway, htaway]
      rfl
    have hnone : (lossWoken i s).evt.fresh = [] := hfresh
    obtain ⟨hdis, hpwm, hen⟩ := lossWoken_phase i.isLt hst
    rw [hphase, hevt]
    refine ⟨hdis, hpwm, hen, hgroup, ?_, ?_, apart_of_awayFromPhases haway⟩
    · rintro rfl
      exact hnone
    · intro hc
      have htold : lossTold i c d (lossWoken i s) = raise 0x0220 i (BitVec.ofNat 8 c.code :: d) (lossWoken i s) := by
        simp [lossTold, hc]
      rw [htold, raise_of_no_fresh hnone]
      exact ⟨_, d, rfl, rfl, rfl, rfl⟩
  case refine_4 =>
    intro amps u hst hpark hpwm hu
    exact ⟨_, exec_phaseParkDisable hst hpark hpwm hu, finish_apart _⟩
  case refine_5 =>
    intro e u hw hst hu
    have hrest := finish_apart (unparked i u)
    obtain ⟨hjoined, hother⟩ := unparked_standings i.isLt u
    simp only [Phase.standing, Prod.mk.injEq] at hjoined hother
    obtain ⟨hsw, hen, hwake, hsince⟩ := hjoined
    refine ⟨_, exec_phaseUnparkReady hw hst hu, ?_⟩
    simp only [phase_of_apart hrest]
    refine ⟨hsw, hen, hwake, hsince, fun j hj => (hother j hj).1, ?_⟩
    rw [finish_clk, finish_groups, finish_phases, hrest]
    exact apart_of_awayFromPhases (unparked_awayFromPhases i u)

end Sys2Proof.Machine
end

section
/-! SUPPORT. The reconciliation of energy: two periods that wait alike (R353, R357, R359). -/

namespace Sys2Proof.Machine

/-- A period whose sums are complete and whose shares are not computed. -/
def waitingPeriod : EnPer := { seq := 7, accDone := true }

/-- Firmware runs, and two such periods wait that agree in every field, their number among them. -/
def twinPeriods : State := { core := { on := true }, en := { pers := [waitingPeriod, waitingPeriod] } }

/-- The number of each period in the state that a command answers, and whether it is reconciled. -/
def reconciledAfter : Host.Outcome State Fault Refusal → Option (List (Nat × Bool))
  | .next t => some (t.en.pers.map (fun q => (q.seq, q.reconciled)))
  | _ => none

/-- Reconciling computes the shares of the first of the two; the second waits on. -/
theorem twins_after_reconcile : reconciledAfter (exec .energyReconcile twinPeriods) = some [(7, true), (7, false)] := by decide +kernel

theorem twinPeriods_alike {x : EnPer} (hx : x ∈ twinPeriods.en.pers) : x = waitingPeriod := by
  have hpers : twinPeriods.en.pers = [waitingPeriod, waitingPeriod] := rfl
  rw [hpers] at hx
  simpa using hx

/-- Refutes O46: of ENERGY_RECONCILE it claims that every period left with the number of the oldest that waits is reconciled, where
every period before with that number is equal to it. Being equal does not make it the only one: where two equal periods wait, the
first is reconciled and the second waits on with the same number. The statement has no premise that the numbers of the periods
differ; that a run from reset comes to this state is not claimed. -/
theorem not_energyLedger : ¬ Obligations.EnergyLedger := by
  unfold Obligations.EnergyLedger
  intro h
  obtain ⟨-, hreconcile, -⟩ := h
  obtain ⟨hruns, -⟩ := hreconcile twinPeriods waitingPeriod rfl
  obtain ⟨t, hnext, -, hall⟩ := hruns rfl
  have hafter := twins_after_reconcile
  rw [hnext, reconciledAfter, Option.some.injEq] at hafter
  have hleft : (7, false) ∈ t.en.pers.map (fun q => (q.seq, q.reconciled)) := by simp [hafter]
  obtain ⟨q, hq, hpair⟩ := List.mem_map.1 hleft
  rw [Prod.mk.injEq] at hpair
  obtain ⟨hseq, hwaits⟩ := hpair
  have hdone := hall q hq hseq (fun x hx _ => twinPeriods_alike hx)
  simp [hwaits] at hdone

end Sys2Proof.Machine
end

section
/-! SUPPORT. The checks of a packet that takes effect, and the changes it leaves to cycle 0 of the next pace (R378, R382). -/

namespace Sys2Proof.Machine

/-- Checks that all pass let the packet take effect. -/
theorem firstFail_eq_none {checks : List (Bool × Status)} (h : ∀ c ∈ checks, c.1 = false) : firstFail checks = none := by
  induction checks with
  | nil => rfl
  | cons c rest ih =>
    obtain ⟨hc, hrest⟩ := List.forall_mem_cons.1 h
    simpa [firstFail, hc] using ih hrest

/-- The checks of a list run before those of the next. -/
theorem firstFail_append_none {checks more : List (Bool × Status)} (h : firstFail checks = none) :
    firstFail (checks ++ more) = firstFail more := by
  induction checks with
  | nil => rfl
  | cons c rest ih =>
    cases hc : c.1
    · simp only [firstFail, hc, Bool.false_eq_true, if_false] at h
      simpa [firstFail, hc] using ih h
    · simp [firstFail, hc] at h

/-- What waits for cycle 0 of the next pace waits in a state with the rest of the one before. -/
@[simp] theorem defer_apart (p : Packet) (op : Nat) (acts : List Act) (s : State) :
    (defer p op acts s).apart = (s.awaiting p op acts).apart := rfl

/-- A field of one byte is the byte. -/
theorem field_singleton (b : Byte) : field [b] 0 1 = b.toNat := by simp [field, slice, leNat]

end Sys2Proof.Machine
end

section
/-! SUPPORT. The rail commands: tracking starts and stops that begin, and new targets (R87, R118, R119, R121, R122, R124, R394). -/

namespace Sys2Proof.Machine

theorem mem_railsIn {m r : Nat} : r ∈ railsIn m ↔ r < 4 ∧ m.testBit r = true := mem_maskBits

/-! ### RAIL_ENABLE (R118, R119) -/

/-- The codes that the rails of a start are to reach: those given, or the defaults where 0 is given (R118). -/
def startGoal (l : List Byte) : List Nat :=
  (List.range 4).map (fun r => if (field l 0 1).testBit r then
    (if field l (2 + 2 * r) 2 = 0 then railDefault r else field l (2 + 2 * r) 2) else 0)

/-- The tracking start that a RAIL_ENABLE asks for (R118, R119). -/
def startAsked (p : Packet) : TrackStart :=
  { mask := field p.payload 0 1, coincident := field p.payload 1 1 == 1, pkt := some p, goal := startGoal p.payload }

/-- The codes of a RAIL_ENABLE: a legal one or 0 for a rail of the mask, 0 for any other (R118). -/
def startCodesOk (l : List Byte) : Prop :=
  ∀ r, r < 4 → if (field l 0 1).testBit r then field l (2 + 2 * r) 2 = 0 ∨ railLegal r (field l (2 + 2 * r) 2) = true
    else field l (2 + 2 * r) 2 = 0

theorem any_startCode_bad {l : List Byte} (h : startCodesOk l) :
    (List.range 4).any (fun r => if (field l 0 1).testBit r then
      field l (2 + 2 * r) 2 != 0 && !railLegal r (field l (2 + 2 * r) 2) else field l (2 + 2 * r) 2 != 0) = false := by
  rw [List.any_eq_false]
  intro r hr
  have hcode := h r (List.mem_range.1 hr)
  by_cases hm : (field l 0 1).testBit r
  · simpa [hm, or_iff_not_imp_left] using hcode
  · simpa [hm] using hcode

theorem exec_railEnable {p : Packet} {s : State} (h : s.ready p = true) (hl : p.payload.length = 16)
    (hm0 : field p.payload 0 1 ≠ 0) (hm15 : field p.payload 0 1 ≤ 15)
    (hax : (field p.payload 0 1).testBit 3 = true → field p.payload 0 1 = 8) (hmode : field p.payload 1 1 ≤ 1)
    (hz : zeros p.payload 10 6 = true) (hcodes : startCodesOk p.payload)
    (hfree : ∀ r, r ∈ railsIn (field p.payload 0 1) → starting s r = false ∧ stopping s r = false ∧ (s.rail r).enabled = false)
    (hd : s.sys.descent = .none) (ht : s.thermHold = false) (hw : field p.payload 0 1 = 8 ∨ (s.rail 3).inWindow = true) :
    exec (.railEnable p) s
      = .next (finish (markEffect p .hardware { s.took with starts := s.starts ++ [startAsked p] })) := by
  have hbusy : (railsIn (field p.payload 0 1)).any (fun r => starting s r || stopping s r) = false :=
    List.any_eq_false.2 (fun r hr => by simp [hfree r hr])
  have hen : (railsIn (field p.payload 0 1)).any (fun r => (s.rail r).enabled) = false :=
    List.any_eq_false.2 (fun r hr => by simp [hfree r hr])
  have hbad := any_startCode_bad hcodes
  rw [exec, execRailEnable, inTurn_of_ready h]
  refine command_effect (fwRuns_of_ready h) (firstFail_eq_none ?_) _
  simp only [List.forall_mem_cons, List.not_mem_nil, false_implies, implies_true, and_true, hbusy, hen, hbad]
  refine ⟨by simp [hl], ?_, ?_⟩
  · simpa [hm0, hm15, hmode, hz] using hax
  · simpa [hd, ht, or_iff_not_imp_left] using hw

/-! ### RAIL_DISABLE (R121) -/

/-- Effects that are to fall `k` cycles on wait in the order of their list. -/
theorem forEach_soonIn {α : Type} (k : Nat) (w : α → Soon) : ∀ (l : List α) (s : State),
    forEach l (fun a s => soonIn k (w a) s) s
      = { s with clk := { s.clk with soon := s.clk.soon ++ l.map (fun a => { due := s.clk.now + k, what := w a }) } }
  | [], s => by simp [forEach]
  | a :: l, s => by
    have ih := forEach_soonIn k w l (soonIn k (w a) s)
    rw [forEach] at ih
    rw [forEach, List.foldl_cons, ih]
    simp [soonIn]

/-- A change for each element of the list of each element is a change for each element of the joined list. -/
theorem forEach_forEach {α β : Type} (g : α → List β) (f : β → State → State) (l : List α) (s : State) :
    forEach l (fun a s => forEach (g a) f s) s = forEach (l.flatMap g) f s :=
  List.foldl_flatMap.symm

/-- Every group is among the groups of its rail (R107). -/
theorem mem_groupsOfRail {g : Nat} (h : g < 15) : railOfGroup g < 4 ∧ g ∈ groupsOfRail (railOfGroup g) := by
  unfold railOfGroup groupsOfRail
  split
  · simpa
  · rw [if_neg (by omega), List.mem_singleton]
    omega

/-- The tracking stop that a RAIL_DISABLE asks for (R121). -/
def stopAsked (p : Packet) : TrackStop :=
  { mask := field p.payload 0 1, coincident := field p.payload 1 1 == 1, pkt := some p }

/-- The groups of the rails of a stop are to be unparked in the next cycle (R116, R121). -/
def unparkSoon (m : Nat) (s : State) : State :=
  { s with clk := { s.clk with soon := s.clk.soon ++
      ((railsIn m).flatMap groupsOfRail).map (fun g => { due := s.clk.now + 1, what := .unpark g }) } }

theorem mem_unparkSoon {m g : Nat} (hg : g < 15) (hm : m.testBit (railOfGroup g) = true) (s : State) :
    { due := s.clk.now + 1, what := .unpark g } ∈ (unparkSoon m s).clk.soon := by
  obtain ⟨hr, hmem⟩ := mem_groupsOfRail hg
  refine List.mem_append_right _ (List.mem_map.2 ⟨g, ?_, rfl⟩)
  exact List.mem_flatMap.2 ⟨railOfGroup g, mem_railsIn.2 ⟨hr, hm⟩, hmem⟩

theorem exec_railDisable {p : Packet} {s : State} (h : s.ready p = true) (hl : p.payload.length = 16)
    (hm0 : field p.payload 0 1 ≠ 0) (hm15 : field p.payload 0 1 ≤ 15)
    (hax : (field p.payload 0 1).testBit 3 = true → field p.payload 0 1 = 8) (hmode : field p.payload 1 1 ≤ 1)
    (hz : zeros p.payload 2 14 = true)
    (hcf : (field p.payload 0 1).testBit 0 = true → ∀ c ∈ s.cl.val, c.s.st = .dormant ∧ c.s.trans = none)
    (hlast : (field p.payload 0 1).testBit 3 = true → ∀ r, r < 3 → (s.rail r).enabled = false ∧ starting s r = false)
    (hon : ∀ r, r ∈ railsIn (field p.payload 0 1) → ((s.rail r).enabled = true ∨ starting s r = true) ∧ stopping s r = false) :
    exec (.railDisable p) s = .next (finish (markEffect p .hardware
      { unparkSoon (field p.payload 0 1) s.took with stops := s.stops ++ [stopAsked p] })) := by
  have hcl : ((field p.payload 0 1).testBit 0 && s.cl.any (fun c => c.s.st != .dormant || c.s.trans.isSome)) = false := by
    simpa [Tab.any] using hcf
  have hax3 : ((field p.payload 0 1).testBit 3 && [0, 1, 2].any (fun r => (s.rail r).enabled || starting s r)) = false := by
    rw [Bool.and_eq_false_imp]
    intro h3
    simp [hlast h3 0 (by decide), hlast h3 1 (by decide), hlast h3 2 (by decide)]
  have hoff : (railsIn (field p.payload 0 1)).any (fun r => !(s.rail r).enabled && !starting s r) = false :=
    List.any_eq_false.2 (fun r hr => by simpa [or_iff_not_imp_left] using (hon r hr).1)
  have hstop : (railsIn (field p.payload 0 1)).any (fun r => stopping s r) = false :=
    List.any_eq_false.2 (fun r hr => by simp [hon r hr])
  have hunpark (u : State) : forEach (railsIn (field p.payload 0 1)) (fun r s =>
      forEach (groupsOfRail r) (fun g s => soonIn 1 (.unpark g) s) s) u = unparkSoon (field p.payload 0 1) u := by
    rw [forEach_forEach, forEach_soonIn]
    rfl
  rw [exec, execRailDisable, inTurn_of_ready h]
  dsimp only
  rw [command_effect (fwRuns_of_ready h) (firstFail_eq_none ?_), hunpark]
  · rfl
  · simp only [List.forall_mem_cons, List.not_mem_nil, false_implies, implies_true, and_true, hcl, hax3, hoff, hstop]
    refine ⟨by simp [hl], ?_⟩
    simpa [hm0, hm15, hmode, hz] using hax

/-! ### RAIL_SET_TARGET (R87, R122, R124, R394) -/

theorem exec_railSetTarget {p : Packet} {s : State} (h : s.ready p = true) (hl : p.payload.length = 16)
    (hlegal : railTargetLegal p.payload = true)
    (hon : ∀ r, r ∈ railsIn (field p.payload 0 1) → (s.rail r).enabled = true ∧ (s.rail r).tracking = false) :
    exec (.railSetTarget p) s = .next (finish (defer p 0x0203 (railTargetActs p.payload) s.took)) := by
  have hready : (railsIn (field p.payload 0 1)).all (railReady s) = true :=
    List.all_eq_true.2 (fun r hr => by simp [railReady, hon r hr])
  rw [exec, execRailSetTarget, inTurn_of_ready h]
  exact command_effect (fwRuns_of_ready h) (by simp [firstFail, hl, hlegal, hready]) _

/-- The new target of any rail but CF is written, and its set-point is aimed at it (R87, R124). -/
theorem applyAct_railTarget {r : Nat} (hr : 0 < r) (se c : Nat) (s : State) :
    applyAct se (.railTarget r c) s = s.updRail r (fun ra => { ra with target := c, sp := ra.sp.aim s.clk.now c }) :=
  if_neg (Nat.ne_of_gt hr)

/-- Settles O18: a start and a stop by the rails they ask for, a target by what waits for the pace and by its act. -/
theorem railCommands : Obligations.RailCommands := by
  unfold Obligations.RailCommands
  refine ⟨?_, ?_, fun se c s => rfl, ?_⟩
  · intro p s m h hl hm hm0 hm15 hax hmode
    subst hm
    refine ⟨fun hz hcodes hfree hd ht hw => ?_, fun hz hcf hlast hon => ?_⟩
    · exact ⟨_, exec_railEnable h hl hm0 hm15 hax hmode hz hcodes hfree hd ht hw, finish_apart _⟩
    · refine ⟨_, exec_railDisable h hl hm0 hm15 hax hmode hz hcf hlast hon, fun g hg hg' => ?_, ?_⟩
      · rw [finish_clk]
        exact mem_unparkSoon hg hg' s.took
      · rw [finish_apart, finish_clk]
        rfl
  · intro p s h hl hlegal hon
    exact ⟨_, exec_railSetTarget h hl hlegal hon, finish_apart _⟩
  · intro se r c s t hr hr4 ht
    rw [applyAct_railTarget hr] at ht
    subst ht
    have hsame : ∀ f : Rail → Rail, (s.updRail r f).rail r = f (s.rail r) := fun f => Tab.get_modify_same s.rails r f hr4
    refine ⟨by rw [hsame], by rw [hsame], fun q hq => ?_, rfl⟩
    exact Tab.get_modify_other s.rails r q _ hq.symm

end Sys2Proof.Machine
end

section
/-! SUPPORT. The cluster commands that wait for the next pace (R105, R277, R279, R396, R398). -/

namespace Sys2Proof.Machine

/-- The requests for SA retention go as CLUSTER_SET_STATE is accepted, if it wakes a cluster (R279). -/
def wakeAccepted (l : List Byte) (s : State) : State :=
  if (clustersOf l 0).any (fun n => wakes (s.cluster n) (CState.ofCode (field l 18 1))) then saRelease s else s

theorem wakeAccepted_eq (l : List Byte) (s : State) : wakeAccepted l s = { s with sys := { s.sys with
    saReq := if (clustersOf l 0).any (fun n => wakes (s.cluster n) (CState.ofCode (field l 18 1)))
             then Tab.replicate 64 false else s.sys.saReq } } := by
  unfold wakeAccepted
  split <;> rfl

theorem exec_clusterSetState {p : Packet} {s : State} (h : s.ready p = true) (hl : p.payload.length = 24)
    (hlegal : setStateLegal p.payload = true)
    (hc : firstFail (setStateChecks s (clustersOf p.payload 0) (CState.ofCode (field p.payload 18 1))) = none) :
    exec (.clusterSetState p) s
      = .next (finish (defer p 0x0301 (setStateActs p.payload) (wakeAccepted p.payload s.took))) := by
  rw [exec, execClusterSetState, inTurn_of_ready h]
  exact command_effect (fwRuns_of_ready h) ((firstFail_append_none (by simp [firstFail, hl, hlegal])).trans hc) _

theorem exec_clusterSetOffset {p : Packet} {s : State} (h : s.ready p = true)
    (hl : p.payload.length = 4 + 4 * field p.payload 0 1) (hlegal : offsetLegal p.payload = true) :
    exec (.clusterSetOffset p) s = .next (finish (defer p 0x0302 (offsetActs p.payload) s.took)) := by
  rw [exec, execClusterSetOffset, inTurn_of_ready h]
  exact command_effect (fwRuns_of_ready h) (by simp [firstFail, hl, hlegal]) _

/-- The four bytes of each entry of a CLUSTER_SET_OFFSET are one change (R396). -/
theorem offsetActs_eq (l : List Byte) : offsetActs l = (List.range (field l 0 1)).map (fun i =>
    .offset (field l (4 + 4 * i) 1) (field l (5 + 4 * i) 1) (signed 8 (field l (6 + 4 * i) 1)) (field l (7 + 4 * i) 1)) := by
  unfold offsetActs
  simp only [Nat.add_right_comm 4 (4 * _), Nat.reduceAdd]

/-! ### Drone mode (R105, R398) -/

/-- Chip drone mode as a drone command for all clusters leaves it; one for a single cluster leaves it as it is (R105). -/
def chipDroneSet (enter : Bool) (n : Nat) (s : State) : State :=
  if n = 0xFF then { s with feed := { s.feed with chipDrone := enter } } else s

theorem chipDroneSet_eq (enter : Bool) (n : Nat) (s : State) : chipDroneSet enter n s = { s with feed := { s.feed with
    chipDrone := if n = 0xFF then enter else s.feed.chipDrone } } := by
  unfold chipDroneSet
  split <;> rfl

/-- A payload of one byte that names a cluster or all of them passes the checks on it, which leaves those on the state (R398). -/
theorem droneChecks_eq {l : List Byte} {b : Byte} (hl : l = [b]) (hb : b.toNat < 144 ∨ b.toNat = 0xFF) (more : List (Bool × Status)) :
    firstFail ([(l.length != 1, .badLength), (!droneArgOk l, .badParam)] ++ more) = firstFail more := by
  have harg : droneArgOk [b] = true := by simpa [droneArgOk, field_singleton] using hb
  exact firstFail_append_none (by simp [firstFail, harg, hl])

theorem exec_droneEnter {p : Packet} {s : State} {b : Byte} (h : s.ready p = true) (hl : p.payload = [b])
    (hb : b.toNat < 144 ∨ b.toNat = 0xFF) (hc : firstFail (droneEnterChecks s b.toNat) = none) :
    exec (.droneEnter p) s
      = .next (finish (defer p 0x0304 (droneActs true b.toNat) (chipDroneSet true b.toNat s.took))) := by
  have hn : field p.payload 0 1 = b.toNat := by rw [hl, field_singleton]
  rw [exec, execDroneEnter, inTurn_of_ready h]
  dsimp only
  rw [hn]
  exact command_effect (fwRuns_of_ready h) ((droneChecks_eq hl hb _).trans hc) _

theorem exec_droneExit {p : Packet} {s : State} {b : Byte} (h : s.ready p = true) (hl : p.payload = [b])
    (hb : b.toNat < 144 ∨ b.toNat = 0xFF) (hc : firstFail (droneExitChecks s b.toNat) = none) :
    exec (.droneExit p) s
      = .next (finish (defer p 0x0305 (droneActs false b.toNat) (chipDroneSet false b.toNat s.took))) := by
  have hn : field p.payload 0 1 = b.toNat := by rw [hl, field_singleton]
  rw [exec, execDroneExit, inTurn_of_ready h]
  dsimp only
  rw [hn]
  exact command_effect (fwRuns_of_ready h) ((droneChecks_eq hl hb _).trans hc) _

/-- Settles O27: each command by what it leaves to the next pace, and a change of offset and threshold by its act. -/
theorem clusterCommands : Obligations.ClusterCommands := by
  unfold Obligations.ClusterCommands
  refine ⟨fun p s h => ⟨?_, ?_, ?_, ?_⟩, ?_⟩
  · intro hl hlegal hc
    refine ⟨_, exec_clusterSetState h hl hlegal hc, ?_⟩
    rw [finish_apart, wakeAccepted_eq]
    rfl
  · intro hl hlegal
    refine ⟨_, exec_clusterSetOffset h hl hlegal, ?_⟩
    rw [finish_apart, offsetActs_eq]
    rfl
  · intro b hl hb hc
    refine ⟨_, exec_droneEnter h hl hb hc, ?_⟩
    rw [finish_apart, chipDroneSet_eq]
    rfl
  · intro b hl hb hc
    refine ⟨_, exec_droneExit h hl hb hc, ?_⟩
    rw [finish_apart, chipDroneSet_eq]
    rfl
  · intro se n sel th o s t hn ht
    have hsame := State.cluster_updCl_same s hn
    have hother (f : Cluster → Cluster) (m : Nat) (hm : m ≠ n) : (s.updCl n f).cluster m = s.cluster m :=
      Tab.get_modify_other s.cl n m f hm.symm
    rw [applyAct, applyOffset] at ht
    subst ht
    exact ⟨by rw [hsame], by rw [hsame], by rw [hsame], hother _⟩

end Sys2Proof.Machine
end

section
/-! SUPPORT. The tiles of Ledger RAM: reads of curve and calibration tiles, and the core's sealed writes (R93, R137, R139 to R141,
R408, R431, R432). -/

namespace Sys2Proof.Machine

theorem led_of_apart {s t : State} (h : t.apart = s.apart) : t.led = s.led := by
  have hled := congrArg State.led h; exact hled

theorem tileBad_of_apart {s t : State} (h : t.apart = s.apart) (k : Nat) : tileBad t k = tileBad s k := by
  rw [tileBad, led_of_apart h, tileBad]

/-! ### The check of a tile (R140, R431) -/

/-- A disturbed word fails the read of its tile. -/
@[simp] theorem tilePasses_upset (s : State) (t : Nat) : tilePasses s t true = false := rfl

theorem tileBad_markBad {t : Nat} (ht : t < 640) (s : State) : tileBad (markBad t s) t = true := by
  simp [tileBad, markBad, ht]

theorem tileBad_sealTile {t : Nat} (ht : t < 640) (b : List Byte) (s : State) : tileBad (sealTile t b s) t = false := by
  simp [tileBad, sealTile, ht]

/-! ### Curve tiles (R93, R285, R408) -/

/-- The clusters of curve tile `k` take their curves from its bytes (R93, R285). -/
def takeCurves (k : Nat) (b : List Byte) (s : State) : State :=
  { s with cl := s.cl.mapI (fun n c =>
      if n / 16 = k then { c with v := { c.v with curve := curveOf (slice b (64 * (n % 16)) 64) } } else c) }

theorem takeCurves_curve (k : Nat) (b : List Byte) (s : State) {n : Nat} (hn : n < 144) :
    ((takeCurves k b s).cluster n).v.curve =
      if n / 16 = k then curveOf (slice b (64 * (n % 16)) 64) else (s.cluster n).v.curve := by
  have hget : (takeCurves k b s).cluster n = if n / 16 = k then
      { s.cluster n with v := { (s.cluster n).v with curve := curveOf (slice b (64 * (n % 16)) 64) } } else s.cluster n :=
    Tab.get_mapI _ _ n hn
  rw [hget]
  split <;> rfl

theorem exec_curveTileReadDone_passes {k : Nat} {s : State} (hk : k < 9) (hb : tileBad s (472 + k) = false)
    (hp : tilePasses s (472 + k) false = true) :
    exec (.curveTileReadDone k false) s = .next (finish (takeCurves k (tileBytes s (472 + k)) s)) := by
  simp [exec, execCurveTileReadDone, done, curveTile, takeCurves, hb, hp, Nat.not_le.2 hk]

theorem exec_curveTileReadDone_fails {k : Nat} {s : State} (hk : k < 9) (hb : tileBad s (472 + k) = false) :
    exec (.curveTileReadDone k true) s = .next (finish (raise 0x0A11 (256 + k) [] (markBad (472 + k) s))) := by
  simp [exec, execCurveTileReadDone, done, curveTile, hb, Nat.not_le.2 hk]

/-! ### The brackets of a calibration tile (R137, R139) -/

/-- Change cell `i k` for each `k` of a list, in order, each change looking at the state before it. -/
def changeCells (i : Nat → Nat) (f : State → Nat → Cell → Cell) (l : List Nat) (s : State) : State :=
  forEach l (fun k s => s.updCell (i k) (f s k)) s

/-- Changes of cells leave everything but the cells. -/
theorem changeCells_eq (i : Nat → Nat) (f : State → Nat → Cell → Cell) (l : List Nat) (s : State) :
    changeCells i f l s = { s with cells := (changeCells i f l s).cells } := by
  have h : { changeCells i f l s with cells := s.cells } = s :=
    forEach_keeps (fun t : State => { t with cells := s.cells }) (fun k s => s.updCell (i k) (f s k)) (fun _ _ => rfl) l s
  exact congrArg (fun t : State => { t with cells := (changeCells i f l s).cells }) h

/-- The cells that a list of changes does not name stay as they are. -/
theorem changeCells_other (i : Nat → Nat) (f : State → Nat → Cell → Cell) {c : Nat} :
    ∀ (l : List Nat) (s : State), (∀ k ∈ l, i k ≠ c) → (changeCells i f l s).cell c = s.cell c
  | [], _, _ => rfl
  | k :: l, s, h => by
    obtain ⟨hk, hl⟩ := List.forall_mem_cons.1 h
    exact (changeCells_other i f l (s.updCell (i k) (f s k)) hl).trans (Tab.get_modify_other s.cells (i k) c _ hk)

/-- A list of changes without repetition, each looking at the clusters alone, reaches the cell of each of them once. -/
theorem changeCells_same {i : Nat → Nat} (hi : Function.Injective i) {f : State → Nat → Cell → Cell}
    (hf : ∀ u v : State, u.cl = v.cl → f u = f v) {l : List Nat} (hl : l.Nodup) {j : Nat} (hj : j ∈ l) (hb : i j < 1728) (s : State) :
    (changeCells i f l s).cell (i j) = f s j (s.cell (i j)) := by
  obtain ⟨before, after, rfl⟩ := List.append_of_mem hj
  obtain ⟨hnot, -⟩ := List.nodup_cons.1 (List.nodup_middle.1 hl)
  have hbefore : ∀ k ∈ before, i k ≠ i j := fun k hk he => hnot (List.mem_append_left _ (hi he ▸ hk))
  have hafter : ∀ k ∈ after, i k ≠ i j := fun k hk he => hnot (List.mem_append_right _ (hi he ▸ hk))
  have hsplit : changeCells i f (before ++ j :: after) s
      = changeCells i f after ((changeCells i f before s).updCell (i j) (f (changeCells i f before s) j)) := List.foldl_append
  have hcl : (changeCells i f before s).cl = s.cl := by rw [changeCells_eq]
  rw [hsplit, changeCells_other i f after _ hafter, hf _ _ hcl, ← changeCells_other i f before s hbefore]
  exact Tab.get_modify_same _ _ _ hb

/-- Cell `k` of a calibration tile takes the bracket of its cluster's set-point from its table of 128 bytes (R138, R139). -/
def bracketTaken (t : Nat) (b : List Byte) (s : State) (k : Nat) (x : Cell) : Cell :=
  { x with pts := bracket (s.cluster ((8 * t + k) / 12)).v.sp.cur (usedCal (calTable (slice b (128 * k) 128)))
           ptsAt := (s.cluster ((8 * t + k) / 12)).v.sp.cur }

theorem takeBrackets_eq_changeCells (t : Nat) (b : List Byte) :
    takeBrackets t b = changeCells (8 * t + ·) (bracketTaken t b) (List.range 8) := rfl

theorem takeBrackets_cell {t j : Nat} (ht : t < 216) (hj : j < 8) (b : List Byte) (s : State) :
    (takeBrackets t b s).cell (8 * t + j) = bracketTaken t b s j (s.cell (8 * t + j)) := by
  have hlook : ∀ u v : State, u.cl = v.cl → bracketTaken t b u = bracketTaken t b v := by
    intro u v h
    funext k x
    simp only [bracketTaken, State.cluster, h]
  rw [takeBrackets_eq_changeCells]
  exact changeCells_same (fun _ _ h => Nat.add_left_cancel h) hlook List.nodup_range (List.mem_range.2 hj) (by omega) s

theorem takeBrackets_cell_other {t c : Nat} (h : c < 8 * t ∨ 8 * t + 8 ≤ c) (b : List Byte) (s : State) :
    (takeBrackets t b s).cell c = s.cell c := by
  rw [takeBrackets_eq_changeCells]
  refine changeCells_other _ _ _ s (fun k hk => ?_)
  have := List.mem_range.1 hk
  omega

theorem takeBrackets_eq (t : Nat) (b : List Byte) (s : State) :
    takeBrackets t b s = { s with cells := (takeBrackets t b s).cells } := by
  rw [takeBrackets_eq_changeCells]
  exact changeCells_eq _ _ _ s

/-! ### Reads of calibration tiles (R137, R139, R140, R408) -/

theorem calAdvance_of_asked {s : State} {k : Nat} {rest : List Nat} (h : s.led.calReq = k :: rest) :
    calAdvance s = { s with led := { s.led with calReq := rest } } := by
  simp [calAdvance, h]

theorem calAdvance_of_scrub {s : State} (h : s.led.calReq = []) :
    calAdvance s = { s with led := { s.led with scrubNext := (s.led.scrubNext + 1) % 216 } } := by
  simp [calAdvance, h]

/-- The next read leaves what the check of a tile looks at. -/
theorem tileBad_calAdvance (s : State) (t : Nat) : tileBad (calAdvance s) t = tileBad s t := by
  unfold calAdvance
  split <;> rfl

theorem exec_calTileReadDone_asked {s : State} {k : Nat} {rest : List Nat} (h : s.led.calReq = k :: rest)
    (hb : tileBad s (256 + k) = false) (hp : tilePasses s (256 + k) false = true) :
    exec (.calTileReadDone k false) s = .next (finish (takeBrackets k (tileBytes s (256 + k))
      { s with led := { s.led with calReq := rest } })) := by
  have hnext : calNext s.led = k := by simp [calNext, h]
  have hb' : tileBad { s with led := { s.led with calReq := rest } } (256 + k) = false := hb
  have hp' : tilePasses { s with led := { s.led with calReq := rest } } (256 + k) false = true := hp
  rw [exec, execCalTileReadDone, hnext, calAdvance_of_asked h]
  simp only [bne_self_eq_false, h, hb', hp']
  rfl

theorem exec_calTileReadDone_scrub {s : State} (h : s.led.calReq = [])
    (hp : tileBad s (256 + s.led.scrubNext) = true ∨ tilePasses s (256 + s.led.scrubNext) false = true) :
    exec (.calTileReadDone s.led.scrubNext false) s = .next (finish (calAdvance s)) := by
  have hnext : calNext s.led = s.led.scrubNext := by simp [calNext, h]
  have hp' : tileBad (calAdvance s) (256 + s.led.scrubNext) = true ∨ tilePasses (calAdvance s) (256 + s.led.scrubNext) false = true := by
    rw [calAdvance_of_scrub h]
    exact hp
  rw [exec, execCalTileReadDone, hnext, h]
  rcases hp' with hb | hp
  · simp [hb, done]
  · simp [hp, done]

/-- The trims of a cluster's cells wait (R140). -/
def Cluster.calHeld (c : Cluster) : Cluster := { c with v := { c.v with calWait := true } }

/-- A calibration tile has failed its read: it is bad, and the trims of its cells wait (R140). -/
def calTileFailed (k : Nat) (s : State) : State :=
  forEach (calClusters k) (fun n s => s.updCl n Cluster.calHeld) (markBad (256 + k) (calAdvance s))

theorem exec_calTileReadDone_fails {s : State} {k : Nat} (h : k = calNext s.led) (hb : tileBad s (256 + k) = false) :
    exec (.calTileReadDone k true) s = .next (finish (raise 0x0A11 k [] (calTileFailed k s))) := by
  have hb' : tileBad (calAdvance s) (256 + k) = false := (tileBad_calAdvance s _).trans hb
  rw [exec, execCalTileReadDone, ← h]
  simp [hb', done, calTileFailed]
  rfl

/-- Changes of clusters leave everything but the clusters. -/
theorem forEach_updCl_eq (f : Cluster → Cluster) (l : List Nat) (s : State) :
    forEach l (fun n s => s.updCl n f) s = { s with cl := (forEach l (fun n s => s.updCl n f) s).cl } := by
  have h : { forEach l (fun n s => s.updCl n f) s with cl := s.cl } = s :=
    forEach_keeps (fun t : State => { t with cl := s.cl }) (fun n s => s.updCl n f) (fun _ _ => rfl) l s
  exact congrArg (fun t : State => { t with cl := (forEach l (fun n s => s.updCl n f) s).cl }) h

/-- A change that repeats without effect reaches each cluster of a list. -/
theorem cluster_forEach_updCl {f : Cluster → Cluster} (hf : ∀ c, f (f c) = f c) {n : Nat} (hn : n < 144) :
    ∀ (l : List Nat) (s : State),
      (forEach l (fun m s => s.updCl m f) s).cluster n = if n ∈ l then f (s.cluster n) else s.cluster n
  | [], s => by simp [forEach]
  | m :: l, s => by
    have ih := cluster_forEach_updCl hf hn l (s.updCl m f)
    refine Eq.trans ih ?_
    by_cases hm : m = n
    · subst hm
      simp [State.cluster_updCl_same s hn, hf]
    · have hother : (s.updCl m f).cluster n = s.cluster n := Tab.get_modify_other s.cl m n f hm
      simp [hother, Ne.symm hm]

theorem calTileFailed_calWait (k : Nat) (s : State) {n : Nat} (hn : n < 144) :
    ((calTileFailed k s).cluster n).v.calWait = if n ∈ calClusters k then true else (s.cluster n).v.calWait := by
  have hcluster : (markBad (256 + k) (calAdvance s)).cluster n = s.cluster n := rfl
  rw [calTileFailed, cluster_forEach_updCl (f := Cluster.calHeld) (fun _ => rfl) hn, hcluster]
  split <;> rfl

/-- A failed tile changes the clusters and the marks of the tiles alone. -/
theorem calTileFailed_eq (k : Nat) (s : State) : calTileFailed k s
    = { s with cl := (calTileFailed k s).cl, led := { (calAdvance s).led with tiles := (markBad (256 + k) s).led.tiles } } := by
  have hframe := forEach_updCl_eq Cluster.calHeld (calClusters k) (markBad (256 + k) (calAdvance s))
  refine hframe.trans ?_
  have htiles : (calAdvance s).led.tiles = s.led.tiles := by
    unfold calAdvance
    split <;> rfl
  rw [calTileFailed, markBad, markBad, htiles]
  rfl

/-! ### The core's sealed writes (R141, R432) -/

theorem exec_sealGo {tile : Nat} {s : State} (hr : s.fwRuns = true) : exec (.sealGo tile) s = .next (finish (sealGo tile s)) := by
  simp [exec, execSealGo, done, hr]

theorem sealGo_starts {tile : Nat} {s : State} (hb : s.led.sealBusy = none) (hlo : 256 ≤ tile) (hhi : tile < 512) :
    sealGo tile s = { s with led := { s.led with sealTile := tile, sealBusy := some tile } } := by
  have hmod : tile % 1024 = tile := Nat.mod_eq_of_lt (by omega)
  simp [sealGo, hb, hmod, hlo, hhi]

theorem sealGo_refuses {tile : Nat} {s : State} (hb : s.led.sealBusy = none) (ht : tile < 1024) (h : tile < 256 ∨ 512 ≤ tile) :
    sealGo tile s = noteSet 0x240010 12 { s with led := { s.led with sealTile := tile, sealRefused := true } } := by
  have hnot : ¬ (256 ≤ tile ∧ tile < 512) := by omega
  simp [sealGo, hb, Nat.mod_eq_of_lt ht, hnot]

/-- A calibration or a curve tile that has been written gives its cells or its clusters what they take from it, and nothing else. -/
theorem tileWritten_eq {k : Nat} (hk : k < 510) (s : State) :
    tileWritten k s = { s with cells := (tileWritten k s).cells, cl := (tileWritten k s).cl } := by
  unfold tileWritten
  split
  · rw [takeBrackets_eq]
  · split
    · rfl
    · rw [if_neg (by omega)]

/-- The write of tile `k` is complete: its bytes are the buffer's, with their check, and the unit is free (R432). -/
def sealDone (k : Nat) (s : State) : State :=
  { tileWritten k (sealTile k s.led.sealBuf s) with
    led := { (tileWritten k (sealTile k s.led.sealBuf s)).led with sealBusy := none } }

theorem exec_sealWriteDone {s : State} {k : Nat} (h : s.led.sealBusy = some k) :
    exec .sealWriteDone s = .next (finish (fwIrq 4 (sealDone k s))) := by
  simp [exec, execSealWriteDone, done, h, sealDone]

theorem sealDone_led {k : Nat} (hk : k < 510) (s : State) :
    (sealDone k s).led = { (sealTile k s.led.sealBuf s).led with sealBusy := none } := by
  rw [sealDone, tileWritten_eq hk]

/-- The end of a sealed write leaves everything but cells, clusters and Ledger RAM. -/
theorem sealDone_eq {k : Nat} (hk : k < 510) (s : State) :
    sealDone k s = { s with cells := (sealDone k s).cells, cl := (sealDone k s).cl, led := (sealDone k s).led } := by
  have hframe := tileWritten_eq hk (sealTile k s.led.sealBuf s)
  exact congrArg (fun t : State => { t with led := (sealDone k s).led }) hframe

/-- Settles O38: each read and each write by the state it leaves, which the lemmas above give part by part. -/
theorem sealedTiles : Obligations.SealedTiles := by
  unfold Obligations.SealedTiles
  refine ⟨fun k s => ⟨?_, ?_, ?_, ?_, ?_⟩, fun s tile ht hbusy hr => ⟨?_, ?_⟩, ?_⟩
  case refine_1 =>
    intro hk hb hp
    refine ⟨_, exec_curveTileReadDone_passes hk hb hp, fun n hn => ?_, ?_⟩
    · rw [cluster_of_apart (finish_apart _)]
      exact takeCurves_curve k _ s hn
    · rw [finish_apart, finish_cl]
      rfl
  case refine_2 =>
    intro hk hb hfresh
    refine ⟨_, exec_curveTileReadDone_fails hk hb, ?_, raised_of_no_fresh (s := markBad (472 + k) s) hfresh _ _ _, ?_⟩
    · rw [tileBad_of_apart ((finish_apart _).trans (raise_apart _ _ _ _))]
      exact tileBad_markBad (by omega) s
    · rw [led_of_apart ((finish_apart _).trans (raise_apart _ _ _ _)), finish_apart, raise_apart]
      rfl
  case refine_3 =>
    intro rest hk hreq hb hp
    have hcell (c : Nat) : (finish (takeBrackets k (tileBytes s (256 + k)) { s with led := { s.led with calReq := rest } })).cell c
        = (takeBrackets k (tileBytes s (256 + k)) { s with led := { s.led with calReq := rest } }).cell c := by
      rw [State.cell, finish_cells, State.cell]
    refine ⟨_, exec_calTileReadDone_asked hreq hb hp, fun j hj => ?_, fun c hc => ?_, ?_⟩
    · rw [hcell, takeBrackets_cell hk hj]
      exact ⟨rfl, rfl⟩
    · rw [hcell, takeBrackets_cell_other hc]
      rfl
    · rw [finish_apart, finish_cells]
      exact congrArg State.apart (takeBrackets_eq k _ _)
  case refine_4 =>
    intro hreq hnext hk hp
    subst hnext
    refine ⟨_, exec_calTileReadDone_scrub hreq hp, ?_⟩
    rw [finish_apart, calAdvance_of_scrub hreq]
  case refine_5 =>
    intro hk hnext hb hfresh
    have hrest := (finish_apart _).trans (raise_apart 0x0A11 k [] (calTileFailed k s))
    have hfail := calTileFailed_eq k s
    refine ⟨_, exec_calTileReadDone_fails hnext hb, ?_, raised_of_no_fresh ?_ _ _ _, fun n hn => ?_, ?_⟩
    · rw [tileBad_of_apart hrest, hfail]
      exact tileBad_markBad (by omega) s
    · rw [hfail]
      exact hfresh
    · rw [cluster_of_apart hrest]
      exact calTileFailed_calWait k s hn
    · rw [cl_of_apart hrest, led_of_apart hrest, hrest]
      exact congrArg State.apart (by rw [hfail])
  case refine_6 =>
    intro hlo hhi
    refine ⟨_, exec_sealGo hr, ?_⟩
    rw [finish_apart, sealGo_starts hbusy hlo hhi]
  case refine_7 =>
    intro hout
    refine ⟨_, exec_sealGo hr, ?_⟩
    rw [finish_apart, sealGo_refuses hbusy ht hout, noteSet_apart]
  case refine_8 =>
    intro s k hbusy hk
    have hled : (finish (fwIrq 4 (sealDone k s))).led = { (sealTile k s.led.sealBuf s).led with sealBusy := none } := by
      rw [finish_led, fwIrq_led, sealDone_led hk]
    refine ⟨_, exec_sealWriteDone hbusy, by rw [hled], by rw [hled]; rfl, ?_, ?_, ?_⟩
    · rw [tileBad, hled]
      exact tileBad_sealTile (by omega) _ s
    · rw [finish_fw, fwIrq_fw, BitVec.getLsbD_or, getLsbD_ofNat_two_pow (by decide), Bool.or_true]
    · have hfw : (sealDone k s).fw = s.fw := by rw [sealDone_eq hk]
      rw [finish_apart, finish_cells, finish_cl, finish_led, finish_fw, fwIrq_fw, hfw]
      exact congrArg (fun t : State => (fwIrq 4 t).apart) (sealDone_eq hk s)

end Sys2Proof.Machine
end

section
/-! SUPPORT. What the positions of the converters, the ripple emulator and a change of on-times leave as it is (R109, R112, R176). -/

namespace Sys2Proof.Machine

/-! ### The converters pass their positions (R176) -/

/-- Passing positions changes the converters alone. -/
theorem convsTo_eq (t : Nat) (s : State) : convsTo t s = { s with convs := (convsTo t s).convs } := by
  have hone (u : Nat) (v : State) : ({ convTo u t v with convs := s.convs } : State) = { v with convs := s.convs } := by
    unfold convTo
    split <;> rfl
  have hall : ({ convsTo t s with convs := s.convs } : State) = s := by
    unfold convsTo
    split
    · exact forEach_keeps (fun v : State => { v with convs := s.convs }) _ hone _ s
    · rfl
  exact congrArg (fun v : State => { v with convs := (convsTo t s).convs }) hall

theorem convTo_took (u t : Nat) (s : State) : convTo u t s.took = (convTo u t s).took := by
  unfold convTo
  rw [apply_ite State.took]
  rfl

/-- A command that takes effect leaves the converters' positions as they would have been. -/
theorem convsTo_took (t : Nat) (s : State) : convsTo t s.took = (convsTo t s).took := by
  have hall : forEach (List.range 16) (fun u v => convTo u t v) s.took = (forEach (List.range 16) (fun u v => convTo u t v) s).took :=
    List.foldl_hom State.took (fun v u => convTo_took u t v)
  have hrun : convsRun s.took = convsRun s := rfl
  unfold convsTo
  rw [hrun, hall]
  exact (apply_ite State.took _ _ _).symm

/-! ### What the emulator and a change of on-times leave of a phase (R109, R112) -/

/-- What the emulator of a group leaves of a phase: all but its ripple. -/
def Phase.unrippled (p : Phase) : Phase := { p with ripple := 0 }

/-- What a change of on-times leaves of it: the on-time is new as well. -/
def Phase.untimed (p : Phase) : Phase := { p with ripple := 0, onTime := 0 }

theorem Phase.eq_of_unrippled {p q : Phase} (h : p.unrippled = q.unrippled) : p = { q with ripple := p.ripple } := by
  have hback := congrArg (fun x : Phase => { x with ripple := p.ripple }) h
  exact hback

/-- A change of one phase that a reading of phases does not see leaves the reading of every phase. -/
theorem phase_updPh_view {β : Type} {V : Phase → β} {f : Phase → Phase} (h : ∀ p, V (f p) = V p) (i j : Nat) (s : State) :
    V ((s.updPh i f).phase j) = V (s.phase j) := by
  have hget : (s.updPh i f).phase j = if i = j ∧ i < 128 then f (s.phase i) else s.phase j := Tab.get_modify s.phases i j f
  rw [hget]
  split
  next hij => rw [h, hij.1]
  next => rfl

/-- A reading of the state that sees neither phases nor groups does not see the emulator. -/
theorem ripTo_keeps {β : Type} (V : State → β) (hp : ∀ i f u, V (State.updPh u i f) = V u) (hg : ∀ x f u, V (State.updGrp u x f) = V u)
    (g : Nat) (s : State) : V (ripTo g s) = V s := by
  unfold ripTo
  dsimp only
  split
  · exact hg _ _ _
  · rw [forEach_keeps V _ (fun i u => hp i _ u), hg, hg]

/-- A state without its phases and their groups. -/
def State.withoutPhases (s : State) : State := { s with groups := State.reset.groups, phases := State.reset.phases }

theorem eq_of_withoutPhases {s t : State} (h : t.withoutPhases = s.withoutPhases) :
    t = { s with groups := t.groups, phases := t.phases } := by
  have hback := congrArg (fun u : State => { u with groups := t.groups, phases := t.phases }) h
  exact hback

@[simp] theorem ripTo_withoutPhases (g : Nat) (s : State) : (ripTo g s).withoutPhases = s.withoutPhases :=
  ripTo_keeps State.withoutPhases (fun _ _ _ => rfl) (fun _ _ _ => rfl) g s

@[simp] theorem refreshOn_withoutPhases (g : Nat) (s : State) : (refreshOn g s).withoutPhases = s.withoutPhases :=
  ripTo_withoutPhases g s

theorem ripTo_phase_unrippled (g j : Nat) (s : State) : ((ripTo g s).phase j).unrippled = (s.phase j).unrippled := by
  unfold ripTo
  dsimp only
  split
  · rfl
  · exact forEach_keeps (fun u : State => (u.phase j).unrippled) _ (fun i u => phase_updPh_view (fun _ => by rfl) i j u) _ _

/-- The emulator of a group computes ripple alone. -/
theorem ripTo_phase (g j : Nat) (s : State) : (ripTo g s).phase j = { s.phase j with ripple := ((ripTo g s).phase j).ripple } :=
  Phase.eq_of_unrippled (ripTo_phase_unrippled g j s)

theorem refreshOn_phase_untimed (g j : Nat) (s : State) : ((refreshOn g s).phase j).untimed = (s.phase j).untimed := by
  have hrip : ((ripTo g s).phase j).untimed = (s.phase j).untimed :=
    congrArg (fun p : Phase => { p with onTime := 0 }) (ripTo_phase_unrippled g j s)
  rw [← hrip]
  rcases Nat.lt_or_ge j 128 with hj | hj
  · have hget := Tab.get_mapI (ripTo g s).phases (fun i p => if groupOf (ripTo g s) i == g then
      { p with onTime := if p.switching then onTimeOf (groupSet (ripTo g s) g) (vinClamped (ripTo g s)) p.trim else 0 } else p) j hj
    refine (congrArg Phase.untimed hget).trans ?_
    split <;> rfl
  · rw [State.phase, Tab.get_of_le _ hj, State.phase, Tab.get_of_le _ hj]

end Sys2Proof.Machine
end

section
/-! SUPPORT. PHASE_CONFIG and the check of a phase: the five operations, the disable by the host, and the end of a check (R90, R133). -/

namespace Sys2Proof.Machine

/-! ### The five operations of PHASE_CONFIG (R133) -/

theorem exec_phaseGroupSettings {p : Packet} {s : State} (h : s.ready p = true) (hl : p.payload.length = 16)
    (hop : field p.payload 0 1 = 0) (hlegal : groupLegal p.payload = true) (h2 : field p.payload 2 1 = 0)
    (h3 : field p.payload 3 1 = 0) (hz : zeros p.payload 10 6 = true) :
    exec (.phaseGroupSettings p) s = .next (finish (defer p 0x0205 [.group (field p.payload 1 1) (field p.payload 4 1)
      (field p.payload 5 1) (field p.payload 6 1) (field p.payload 7 1) (field p.payload 8 1) (field p.payload 9 1)] s.took)) := by
  rw [exec, execPhaseGroupSettings, inTurn_of_ready h]
  exact command_effect (fwRuns_of_ready h) (by simp [firstFail, hl, hop, hlegal, h2, h3, hz]) _

theorem exec_phaseDisableByHost {p : Packet} {s : State} {i g : Nat} (h : s.ready p = true) (hl : p.payload.length = 16)
    (hi : field p.payload 2 1 = i) (hg : groupOf s i = g) (hop : field p.payload 0 1 = 1) (h1 : field p.payload 1 1 = 0)
    (hi123 : i ≤ 123) (hz : zeros p.payload 3 13 = true) (htrack : groupTracks s g = false) (hst : (s.phase i).st ≠ .disabled)
    (hmin : (s.group g).minSw ≤ liveCount s g - (if (s.phase i).live then 1 else 0))
    (hcurr : (s.group g).curr ≤ 4000 * ((liveCount s g : Int) - 1) - 25 * (wakeAllowOf g (limitA s g) : Int)) :
    exec (.phaseDisableByHost p) s = .next (finish (defer p 0x0205 [.phaseDisable i] s.took)) := by
  have hkeeps : ¬ liveCount s g - (s.phase i).live.toNat < (s.group g).minSw := by
    rw [Bool.toNat, Bool.cond_eq_ite]
    exact Nat.not_lt.2 hmin
  rw [exec, execPhaseDisableByHost, inTurn_of_ready h]
  dsimp only
  rw [hi, hg]
  refine command_effect (fwRuns_of_ready h) (firstFail_eq_none ?_) _
  simp only [List.forall_mem_cons, List.not_mem_nil, false_implies, implies_true, and_true]
  refine ⟨by simp [hl], ?_, htrack, by simpa using hst, by simpa using hkeeps, by simpa using hcurr⟩
  simpa [hop, h1, hz] using hi123

/-- A check that starts looks at its phase from now on; the command goes on in the hardware (R133). -/
theorem startCheck_apart (c : PhCheck) (s : State) :
    (startCheck c s.took).apart = ({ convsTo s.clk.now s with checks := s.checks ++ [c] } : State).apart := by
  have hstart : startCheck c s.took
      = markEffect c.pkt .hardware { convsTo s.clk.now s.took with checks := (convsTo s.clk.now s.took).checks ++ [c] } := rfl
  rw [hstart, markEffect_apart, convsTo_took, convsTo_eq]
  rfl

theorem exec_phaseReenable {p : Packet} {s : State} {i : Nat} (h : s.ready p = true) (hl : p.payload.length = 16)
    (hi : field p.payload 2 1 = i) (hop : field p.payload 0 1 = 2) (h1 : field p.payload 1 1 = 0) (hi123 : i ≤ 123)
    (hz : zeros p.payload 3 13 = true) (htrack : groupTracks s (groupOf s i) = false) (hst : (s.phase i).st = .disabled)
    (hrep : replacedBy s i = none) :
    exec (.phaseReenable p) s = .next (finish (startCheck { pkt := p, phase := i, start := s.clk.paceNo } s.took)) := by
  rw [exec, execPhaseReenable, inTurn_of_ready h]
  dsimp only
  rw [hi]
  refine command_effect (fwRuns_of_ready h) ?_ _
  simp [firstFail, hl, hop, h1, hz, htrack, hst, hrep, Nat.not_lt.2 hi123]

theorem exec_spareIntoService {p : Packet} {s : State} {i k : Nat} (h : s.ready p = true) (hl : p.payload.length = 16)
    (hi : field p.payload 2 1 = i) (hk : field p.payload 3 1 = k) (hop : field p.payload 0 1 = 3) (h1 : field p.payload 1 1 = 0)
    (hi123 : i ≤ 123) (hk124 : 124 ≤ k) (hk127 : k ≤ 127) (hz : zeros p.payload 4 12 = true) (hplane : groupOf s k = groupOf s i)
    (htrack : groupTracks s (groupOf s k) = false) (hin : (s.phase k).spareIn = false) (hst : (s.phase i).st = .disabled) :
    exec (.spareIntoService p) s
      = .next (finish (startCheck { pkt := p, phase := k, replaces := some i, start := s.clk.paceNo } s.took)) := by
  rw [exec, execSpareIntoService, inTurn_of_ready h]
  dsimp only
  rw [hi, hk]
  refine command_effect (fwRuns_of_ready h) ?_ _
  rw [← hplane]
  simp [firstFail, hl, hop, h1, hz, htrack, hin, hst, Nat.not_lt.2 hi123, Nat.not_lt.2 hk124, Nat.not_lt.2 hk127]

theorem exec_spareToReserve {p : Packet} {s : State} {k : Nat} (h : s.ready p = true) (hl : p.payload.length = 16)
    (hk : field p.payload 3 1 = k) (hop : field p.payload 0 1 = 4) (h1 : field p.payload 1 1 = 0) (h2 : field p.payload 2 1 = 0)
    (hk124 : 124 ≤ k) (hk127 : k ≤ 127) (hz : zeros p.payload 4 12 = true) (htrack : groupTracks s (groupOf s k) = false)
    (hin : (s.phase k).spareIn = true) : exec (.spareToReserve p) s = .next (finish (startCheck
      { pkt := p, phase := (s.phase k).replaces, restore := some k, start := s.clk.paceNo } s.took)) := by
  rw [exec, execSpareToReserve, inTurn_of_ready h]
  dsimp only
  rw [hk]
  refine command_effect (fwRuns_of_ready h) ?_ _
  simp [firstFail, hl, hop, h1, h2, hz, htrack, hin, Nat.not_lt.2 hk124, Nat.not_lt.2 hk127]

/-! ### The disable by the host -/

/-- The host disables a phase; a pulse in progress ends in the next cycle, with what completes the disabling (R133). -/
def hostDisabled (i : Nat) (s : State) : State :=
  soonIn 1 (.loss i .host) ((ripTo (groupOf s i) s).updPh i
    (fun p => { p.out .disabled .host with en := p.en && p.pwm, pwm := p.pwm }))

theorem applyAct_phaseDisable {i : Nat} {s : State} (hst : (s.phase i).st ≠ .disabled) (se : Nat) :
    applyAct se (.phaseDisable i) s = hostDisabled i s :=
  if_neg (by simpa using hst)

theorem hostDisabled_evt (i : Nat) (s : State) : (hostDisabled i s).evt = s.evt :=
  ripTo_keeps State.evt (fun _ _ _ => rfl) (fun _ _ _ => rfl) (groupOf s i) s

theorem hostDisabled_soon (i : Nat) (s : State) : { due := s.clk.now + 1, what := .loss i .host } ∈ (hostDisabled i s).clk.soon := by
  have hsoon : (hostDisabled i s).clk.soon
      = (ripTo (groupOf s i) s).clk.soon ++ [{ due := (ripTo (groupOf s i) s).clk.now + 1, what := .loss i .host }] := rfl
  rw [hsoon, ripTo_now]
  exact List.mem_append_right _ (List.mem_singleton_self _)

/-! ### The end of a check (R90, R133) -/

/-- The check is over: its command is about to be answered. -/
def checkOver (c : PhCheck) (s : State) : State :=
  { convsTo s.clk.now s with checks := (convsTo s.clk.now s).checks.erase c }

theorem checkOver_eq (c : PhCheck) (s : State) :
    checkOver c s = { s with checks := s.checks.erase c, convs := (convsTo s.clk.now s).convs } := by
  unfold checkOver
  rw [convsTo_eq]

/-- What a check finds: 1 for the fault flag, 2 for a current out of range, 0 for neither (R133). -/
def checkFinds (flagLow : Bool) (curr : Int) : Nat := if flagLow then 1 else if curr < -300 || 300 < curr then 2 else 0

/-- A spare that was checked takes the place of a phase. -/
def takesPlace (i : Nat) (o : Option Nat) (s : State) : State :=
  match o with
  | some d => s.updPh i (fun p => { p with spareIn := true, replaces := d })
  | none => s

/-- A spare whose phase was checked is Off, in reserve. -/
def backInReserve (o : Option Nat) (s : State) : State :=
  match o with
  | some k => s.updPh k (fun p => { p.out .off .none with spareIn := false, replaces := 127 })
  | none => s

/-- A phase that passes its check joins, in its own place or in that of the phase it replaces. -/
def checkPassed (c : PhCheck) (i : Nat) (s : State) : State :=
  joinChecked i (backInReserve c.restore (takesPlace i c.replaces (checkOver c s)))

/-- The answer to a check that finds something, and to one that finds nothing. -/
def checkAnswered (c : PhCheck) (i : Nat) (bad : Nat) (s : State) : State :=
  if bad != 0 then reply c.pkt 0x0205 .badState (phaseData (checkOver c s) (groupOf (checkOver c s) i) bad) (checkOver c s)
  else reply c.pkt 0x0205 .ok (phaseData (checkPassed c i s) (groupOf (checkOver c s) i) 0) (checkPassed c i s)

theorem exec_phaseCheckDone {i : PhaseId} {s : State} {c : PhCheck} (curr : Int) (hc : s.checks.find?
      (fun c => c.phase == i.val && decide (c.start + 2 ≤ s.clk.paceNo) && s.clk.now == s.clk.paceStart) = some c) :
    exec (.phaseCheckDone i curr) s
      = .next (finish (checkAnswered c i (checkFinds ((checkOver c s).phase i).flagLow curr) s)) := by
  rw [exec, execPhaseCheckDone, hc, checkAnswered, apply_ite finish, apply_ite Host.Outcome.next]
  rfl

theorem checkOver_phase (c : PhCheck) (j : Nat) (s : State) : (checkOver c s).phase j = s.phase j := by
  rw [checkOver_eq]
  rfl

/-- A check that finds something answers with what it has found, and leaves every phase. -/
theorem checkAnswered_fails {c : PhCheck} {i : Nat} {curr : Int} {s : State}
    (hbad : (s.phase i).flagLow = true ∨ curr < -300 ∨ 300 < curr) :
    checkAnswered c i (checkFinds (s.phase i).flagLow curr) s = reply c.pkt 0x0205 .badState
      (phaseData s (groupOf s i) (if (s.phase i).flagLow then 1 else 2)) (checkOver c s) := by
  have hfinds : checkFinds (s.phase i).flagLow curr = if (s.phase i).flagLow then 1 else 2 := by
    unfold checkFinds
    split
    · rfl
    next hflag => exact if_pos (by simpa [hflag] using hbad)
  have hdata : phaseData (checkOver c s) (groupOf (checkOver c s) i) = phaseData s (groupOf s i) := by
    rw [checkOver_eq]
    rfl
  rw [hfinds, checkAnswered, if_pos (by split <;> rfl), hdata]

/-- One that finds nothing answers OK, with its phase in service. -/
theorem checkAnswered_passes {c : PhCheck} {i : Nat} {curr : Int} {s : State} (hflag : (s.phase i).flagLow = false)
    (hlo : -300 ≤ curr) (hhi : curr ≤ 300) : ∃ data, checkAnswered c i (checkFinds (s.phase i).flagLow curr) s
      = reply c.pkt 0x0205 .ok data (checkPassed c i s) := by
  have hfinds : checkFinds (s.phase i).flagLow curr = 0 := by simp [checkFinds, hflag, hlo, hhi]
  rw [hfinds]
  exact ⟨_, rfl⟩

theorem takesPlace_phase_same {i : Nat} (hi : i < 128) (d : Nat) (s : State) :
    (takesPlace i (some d) s).phase i = { s.phase i with spareIn := true, replaces := d } :=
  State.phase_updPh_same s hi _

theorem backInReserve_phase_same {k : Nat} (hk : k < 128) (s : State) :
    (backInReserve (some k) s).phase k = { (s.phase k).out .off .none with spareIn := false, replaces := 127 } :=
  State.phase_updPh_same s hk _

theorem backInReserve_phase_other {o : Option Nat} {j : Nat} (h : ∀ k, o = some k → k ≠ j) (s : State) :
    (backInReserve o s).phase j = s.phase j := by
  cases o with
  | none => rfl
  | some k => exact State.phase_updPh_other s _ (h k rfl)

@[simp] theorem takesPlace_withoutPhases (i : Nat) (o : Option Nat) (s : State) : (takesPlace i o s).withoutPhases = s.withoutPhases := by
  cases o <;> rfl

@[simp] theorem backInReserve_withoutPhases (o : Option Nat) (s : State) : (backInReserve o s).withoutPhases = s.withoutPhases := by
  cases o <;> rfl

/-- A checked phase as it joins the switching phases, or stands Off with its rail. -/
def Phase.checked (on : Bool) (now : Nat) (p : Phase) : Phase := if on then p.join now else p.out .off .none

theorem Phase.checked_keeps (on : Bool) (now : Nat) (p : Phase) : (p.checked on now).st = (if on then .switching else .off) ∧
    (p.checked on now).spareIn = p.spareIn ∧ (p.checked on now).replaces = p.replaces := by
  cases on <;> exact ⟨rfl, rfl, rfl⟩

/-- The rail of a phase is enabled. -/
def railOn (s : State) (i : Nat) : Bool := (s.rail (railOfGroup (groupOf s i))).enabled

theorem railOn_of_withoutPhases {s t : State} (h : t.withoutPhases = s.withoutPhases) (i : Nat) : railOn t i = railOn s i := by
  rw [eq_of_withoutPhases h]
  rfl

theorem joinChecked_eq (i : Nat) (s : State) :
    joinChecked i s = refreshOn (groupOf s i) (s.updPh i (Phase.checked (railOn s i) s.clk.now)) := rfl

@[simp] theorem joinChecked_withoutPhases (i : Nat) (s : State) : (joinChecked i s).withoutPhases = s.withoutPhases := by
  rw [joinChecked_eq, refreshOn_withoutPhases]
  rfl

theorem joinChecked_phase_same {i : Nat} (hi : i < 128) (s : State) : ((joinChecked i s).phase i).untimed
    = ((s.phase i).checked (railOn s i) s.clk.now).untimed := by
  rw [joinChecked_eq, refreshOn_phase_untimed, State.phase_updPh_same s hi]

theorem joinChecked_phase_other {i j : Nat} (h : i ≠ j) (s : State) :
    ((joinChecked i s).phase j).untimed = (s.phase j).untimed := by
  rw [joinChecked_eq, refreshOn_phase_untimed, State.phase_updPh_other s _ h]

theorem checkPassed_withoutPhases (c : PhCheck) (i : Nat) (s : State) :
    (checkPassed c i s).withoutPhases = (checkOver c s).withoutPhases := by simp [checkPassed]

/-- The phase that passes its check switches if its rail is enabled, else it is Off; a spare takes its place (R133). -/
theorem checkPassed_phase {c : PhCheck} {i : Nat} (hi : i < 128) (hrestore : ∀ k, c.restore = some k → k ≠ i) (s : State) :
    ((checkPassed c i s).phase i).st = (if railOn s i then .switching else .off) ∧
    ∀ d, c.replaces = some d → ((checkPassed c i s).phase i).spareIn = true ∧ ((checkPassed c i s).phase i).replaces = d := by
  have hon : railOn (backInReserve c.restore (takesPlace i c.replaces (checkOver c s))) i = railOn s i := by
    rw [railOn_of_withoutPhases (s := checkOver c s) (by simp), checkOver_eq]
    rfl
  have hjoin := joinChecked_phase_same hi (backInReserve c.restore (takesPlace i c.replaces (checkOver c s)))
  rw [hon, backInReserve_phase_other hrestore] at hjoin
  obtain ⟨hst, hspare, hrep⟩ := Phase.checked_keeps (railOn s i) (backInReserve c.restore (takesPlace i c.replaces (checkOver c s))).clk.now
    ((takesPlace i c.replaces (checkOver c s)).phase i)
  refine ⟨(congrArg Phase.st hjoin).trans hst, fun d hd => ?_⟩
  rw [hd, takesPlace_phase_same hi, ← hd] at hspare hrep
  rw [hd, takesPlace_phase_same hi, ← hd] at hjoin
  exact ⟨(congrArg Phase.spareIn hjoin).trans hspare, (congrArg Phase.replaces hjoin).trans hrep⟩

/-- A spare whose phase has passed its check is Off, in reserve (R90, R133). -/
theorem checkPassed_spare {c : PhCheck} {i k : Nat} (hk : k < 128) (hrestore : c.restore = some k) (hki : k ≠ i) (s : State) :
    ((checkPassed c i s).phase k).st = .off ∧ ((checkPassed c i s).phase k).spareIn = false := by
  have hjoin := joinChecked_phase_other hki.symm (backInReserve c.restore (takesPlace i c.replaces (checkOver c s)))
  rw [hrestore, backInReserve_phase_same hk, ← hrestore] at hjoin
  exact ⟨congrArg Phase.st hjoin, congrArg Phase.spareIn hjoin⟩

/-- After a check the converters' positions have changed, the check is over, and where it has found something nothing else. -/
theorem checkOver_frame {c : PhCheck} {s t : State} (h : t.apart = (checkOver c s).apart) :
    t.apart = ({ s with checks := s.checks.erase c, convs := t.convs } : State).apart := by
  rw [checkOver_eq] at h
  have hback := congrArg (fun u : State => { u with convs := t.convs }) h
  exact hback

/-- Where it has found nothing, the phases and their groups have changed as well. -/
theorem checkPassed_frame {c : PhCheck} {i : Nat} {s t : State} (h : t.apart = (checkPassed c i s).apart) :
    t.apart = ({ s with checks := s.checks.erase c, convs := t.convs, groups := t.groups, phases := t.phases } : State).apart := by
  rw [eq_of_withoutPhases (checkPassed_withoutPhases c i s), checkOver_eq] at h
  have hback := congrArg (fun u : State => { u with convs := t.convs, groups := t.groups, phases := t.phases }) h
  exact hback

/-- A reply after a check shows the state before it, and the ring as it stood there. -/
theorem answered_afterCheck {c : PhCheck} {s v : State} (hv : v.withoutPhases = (checkOver c s).withoutPhases) (p : Packet) (op : Nat)
    (st : Status) (data : List Byte) : Answered p op st data s (finish (reply p op st data v)) := by
  rw [checkOver_eq] at hv
  have hstate := eq_of_withoutPhases hv
  exact answered_finish p op st data s v (by rw [hstate]; rfl) (by rw [hstate]; rfl) (by rw [hstate]) (by rw [hstate]) (by rw [hstate])

/-- Settles O22: each operation by what it leaves to the next pace or to its check, and a check by what it finds. -/
theorem phaseConfig : Obligations.PhaseConfig := by
  unfold Obligations.PhaseConfig
  refine ⟨fun p s h hl => ⟨?_, ?_, ?_, ?_, ?_⟩, ?_, ?_, ?_⟩
  case refine_1 =>
    intro hop hlegal h2 h3 hz
    exact ⟨_, exec_phaseGroupSettings h hl hop hlegal h2 h3 hz, finish_apart _⟩
  case refine_2 =>
    intro i hi hop h1 hi123 hz htrack hst hmin hcurr
    exact ⟨_, exec_phaseDisableByHost h hl hi.symm rfl hop h1 hi123 hz htrack hst hmin hcurr, finish_apart _⟩
  case refine_3 =>
    intro i hi hop h1 hi123 hz htrack hst hrep
    exact ⟨_, exec_phaseReenable h hl hi.symm hop h1 hi123 hz htrack hst hrep, (finish_apart _).trans (startCheck_apart _ s)⟩
  case refine_4 =>
    intro i k hi hk hop h1 hi123 hk124 hk127 hz hplane htrack hin hst
    exact ⟨_, exec_spareIntoService h hl hi.symm hk.symm hop h1 hi123 hk124 hk127 hz hplane htrack hin hst,
      (finish_apart _).trans (startCheck_apart _ s)⟩
  case refine_5 =>
    intro k hk hop h1 h2 hk124 hk127 hz htrack hin
    exact ⟨_, exec_spareToReserve h hl hk.symm hop h1 h2 hk124 hk127 hz htrack hin, (finish_apart _).trans (startCheck_apart _ s)⟩
  case refine_6 =>
    intro se g e m sh ad ra rt s hg
    exact ⟨State.group_updGrp_same s hg _, fun h hh => Tab.get_modify_other s.groups g h _ hh.symm⟩
  case refine_7 =>
    intro se i s t hst ht
    rw [applyAct_phaseDisable hst] at ht
    subst ht
    have hphase : (hostDisabled i s).phase i = _ := State.phase_updPh_same (ripTo (groupOf s i) s) i.isLt _
    have hframe : (hostDisabled i s).awayFromPhases = s.awayFromPhases := ripTo_awayFromPhases _ s
    exact ⟨by rw [hphase]; rfl, by rw [hphase]; rfl, congrArg Evt.fresh (hostDisabled_evt i s), hostDisabled_soon i s, apart_of_awayFromPhases hframe⟩
  case refine_8 =>
    intro i curr s c hc
    have hexec := exec_phaseCheckDone curr hc
    rw [checkOver_phase] at hexec
    constructor
    · intro hbad
      rw [checkAnswered_fails hbad] at hexec
      exact ⟨_, hexec, checkOver_frame ((finish_apart _).trans (reply_apart _ _ _ _ _)), answered_afterCheck rfl _ _ _ _⟩
    · intro hflag hlo hhi hrestore
      obtain ⟨data, hok⟩ := checkAnswered_passes (c := c) hflag hlo hhi
      rw [hok] at hexec
      have hrest := (finish_apart (reply c.pkt 0x0205 .ok data (checkPassed c i s))).trans (reply_apart _ _ _ _ _)
      obtain ⟨hst, hspare⟩ := checkPassed_phase i.isLt hrestore s
      refine ⟨_, hexec, checkPassed_frame hrest, ?_, ?_, ?_, data, answered_afterCheck (checkPassed_withoutPhases c i s) _ _ _ _⟩
      · rw [phase_of_apart hrest]
        exact hst
      · rw [phase_of_apart hrest]
        exact hspare
      · intro k hk hc
        rw [phase_of_apart hrest]
        exact checkPassed_spare hk hc (hrestore k hc) s

end Sys2Proof.Machine
end

section
/-! SUPPORT. The sentinels: a trip, the unparking of the segment that it brings about, and the release of the stretch (R116, R196 to R201,
R205, R213). -/

namespace Sys2Proof.Machine

/-! ### Everything but one cluster -/

/-- Everything in a state but cluster `n`. -/
def State.butCl (n : Nat) (s : State) : State := s.updCl n (fun _ => {})

@[simp] theorem updCl_butCl (n : Nat) (f : Cluster → Cluster) (s : State) : (s.updCl n f).butCl n = s.butCl n :=
  State.updCl_updCl s n f _

theorem eq_of_butCl {n : Nat} {s t : State} (h : t.butCl n = s.butCl n) : t = { s with cl := t.cl } := by
  have hback := congrArg (fun u : State => { u with cl := t.cl }) h
  exact hback

theorem cluster_of_butCl {n m : Nat} {s t : State} (h : t.butCl n = s.butCl n) (hm : m ≠ n) : t.cluster m = s.cluster m := by
  have hcl := congrArg (fun u : State => u.cl.get m) h
  simp only [State.butCl, State.updCl_cl, Tab.get_modify_other _ _ _ _ hm.symm] at hcl
  exact hcl

/-! ### A trip (R196, R201, R205) -/

/-- The trip level of the present cycle in µV: by the set-point before a step of the cycle (R196, R213). -/
def tripUv (s : State) (c : Cluster) : Int := 250 * tripAt c (c.v.sp.before s.clk.now)

/-- The stretch of a sentinel that trips begins, and the trip is counted (R196, R201). -/
def stretchBegun (n : Nat) (s : State) : State :=
  s.updCl n (fun c => { c with t := { c.t with
    tripped := true, riseAt := s.clk.now, countFrom := s.clk.now, nowSeen := true, trips := min 65535 (c.t.trips + 1) } })

/-- A sentinel trips. -/
def tripped (n : Nat) (s : State) : State := soonIn 1 (.unpark (n % 12)) (blwTrip n (stretchBegun n s))

theorem exec_sentinelTrip_at {n : ClusterId} {uv : Int} {s : State} (hle : uv ≤ tripUv s (s.cluster n))
    (hact : sentActive (s.cluster n) = true) (htr : (s.cluster n).t.tripped = false) :
    exec (.sentinelTrip ⟨n, uv⟩) s = .next (finish (tripped n s)) := by
  have hcross : crosses s (s.cluster n) uv = true := decide_eq_true hle
  simp [exec, execSentinelTrip, trip, done, hact, htr, hcross, tripped, stretchBegun]

theorem exec_sentinelTrip_above {n : ClusterId} {uv : Int} {s : State} (hlt : tripUv s (s.cluster n) < uv) :
    exec (.sentinelTrip ⟨n, uv⟩) s = .next s := by
  have hcross : crosses s (s.cluster n) uv = false := decide_eq_false (Int.not_le.2 hlt)
  simp [exec, execSentinelTrip, idle, hcross]

theorem stretchBegun_cluster {n : Nat} (hn : n < 144) (s : State) : (stretchBegun n s).cluster n = { s.cluster n with t :=
    { (s.cluster n).t with tripped := true, riseAt := s.clk.now, countFrom := s.clk.now, nowSeen := true
                           trips := min 65535 ((s.cluster n).t.trips + 1) } } :=
  State.cluster_updCl_same s hn _

theorem blwTrip_butCl (n : Nat) (s : State) : (blwTrip n s).butCl n = s.butCl n := by
  unfold blwTrip
  dsimp only
  split
  · exact updCl_butCl n _ s
  · split
    · exact updCl_butCl n _ s
    · rfl
  · rfl

/-- A trip meets the bellows part of its cluster alone. -/
theorem blwTrip_cluster {n : Nat} (hn : n < 144) (s : State) :
    (blwTrip n s).cluster n = { s.cluster n with b := ((blwTrip n s).cluster n).b } := by
  unfold blwTrip
  dsimp only
  split
  · rw [blwFire, State.cluster_updCl_same s hn]
  · split
    · rw [State.cluster_updCl_same s hn]
    · rfl
  · rfl

theorem blwTrip_ready {n : Nat} {s : State} (h : (s.cluster n).b.st = .ready) : blwTrip n s = blwFire n (tripCurrent s) 1 s := by
  unfold blwTrip
  dsimp only
  rw [h]

theorem blwTrip_other {n : Nat} {s : State} (hr : (s.cluster n).b.st ≠ .ready) (hf : (s.cluster n).b.st ≠ .firing) :
    blwTrip n s = s := by
  unfold blwTrip
  dsimp only
  split
  next h => exact absurd h hr
  next h => exact absurd h hf
  next => rfl

theorem tripped_cluster (n m : Nat) (s : State) : (tripped n s).cluster m = (blwTrip n (stretchBegun n s)).cluster m := rfl

/-- A trip changes its own cluster, and unparks its segment in the next cycle. -/
theorem tripped_apart (n : Nat) (s : State) : (tripped n s).apart = ({ s with
    cl := (tripped n s).cl, clk := { s.clk with soon := s.clk.soon ++ [{ due := s.clk.now + 1, what := .unpark (n % 12) }] } } : State).apart := by
  have hframe := eq_of_butCl ((blwTrip_butCl n (stretchBegun n s)).trans (updCl_butCl n _ s))
  have hsoon := congrArg (fun u : State => (soonIn 1 (.unpark (n % 12)) u).apart) hframe
  exact hsoon

/-! ### The unparking of a segment (R116, R117) -/

theorem unparkAll_waking {g i : Nat} {s : State} (hi : i < 128) (hg : groupOf s i = g) (hst : (s.phase i).st = .parked)
    (hw : (s.phase i).waking = none) : ((unparkAll g s).phase i).waking = some (s.clk.now + 101) := by
  have hphase : (unparkAll g s).phase i = wakePhase s.clk.now (s.phase i) :=
    (Tab.get_mapI s.phases (fun j p => if groupOf s j == g then wakePhase s.clk.now p else p) i hi).trans (if_pos (by simpa using hg))
  rw [hphase, wakePhase, if_pos (by simp [hst, hw])]

theorem unparkAll_group {g : Nat} (hg : g < 15) (s : State) : ((unparkAll g s).group g).unparkNow = true :=
  congrArg Group.unparkNow (Tab.get_modify_same s.groups g (fun gr => { gr with unparkNow := true }) hg)

theorem raiseEn_phase {g i : Nat} (hi : i < 128) (s : State) : (raiseEn g s).phase i
    = if groupOf s i = g ∧ (s.phase i).st = .parked ∧ (s.phase i).waking ≠ none then { s.phase i with en := true } else s.phase i := by
  have hcond : (groupOf s i == g && (s.phase i).st == .parked && (s.phase i).waking.isSome) = true
      ↔ groupOf s i = g ∧ (s.phase i).st = .parked ∧ (s.phase i).waking ≠ none := by
    simp [Option.isSome_iff_ne_none, and_assoc]
  exact (Tab.get_mapI s.phases
    (fun j p => if groupOf s j == g && p.st == .parked && p.waking.isSome then { p with en := true } else p) i hi).trans
    (if_congr hcond rfl rfl)

/-! ### The release of the stretch (R197, R199) -/

theorem exec_stretchRelease_at {n : ClusterId} {uv : Int} {since : Nat} {s u : State} (htr : (s.cluster n).t.tripped = true)
    (hu : reach (max ((s.cluster n).t.riseAt + 4) since + 2) s = some u) (hle : releaseLevel (u.cluster n) ≤ uv) :
    exec (.stretchRelease ⟨n, uv, since⟩) s = .next (finish (stretchEnd n u)) := by
  simp [exec, execStretchRelease, done, htr, hu, hle]

theorem exec_stretchRelease_below {n : ClusterId} {uv : Int} {since : Nat} {s u : State} (htr : (s.cluster n).t.tripped = true)
    (hu : reach (max ((s.cluster n).t.riseAt + 4) since + 2) s = some u) (hlt : uv < releaseLevel (u.cluster n)) :
    exec (.stretchRelease ⟨n, uv, since⟩) s = .next s := by
  simp [exec, execStretchRelease, idle, htr, hu, Int.not_le.2 hlt]

theorem stretchEnd_tripped {n : Nat} (hn : n < 144) (s : State) : ((stretchEnd n s).cluster n).t.tripped = false := by
  unfold stretchEnd
  split
  · rw [State.cluster_updCl_same _ hn]
  next h => simpa using h

end Sys2Proof.Machine
end

section
/-! SUPPORT. The bellows: the end of a fire, the grant of a charge slot, the end of a charge, and their faults (R202 to R209, R214). -/

namespace Sys2Proof.Machine

/-! ### What a cluster's bellows is told (R207 to R209, R214) -/

/-- A fire or a charge of a bellows is to end in the next cycle, with an effect that falls there. -/
def endingSoon (n : Nat) (w : Soon) (s : State) : State :=
  (soonIn 1 w s).updCl n (fun c => { c with b := { c.b with ending := true } })

theorem exec_bellowsFireEnd {n : ClusterId} {low : Bool} {s u : State} (hst : (s.cluster n).b.st = .firing)
    (hend : (s.cluster n).b.ending = false)
    (hu : low = true ∧ u = s ∨ low = false ∧ reach (s.cluster n).b.fireEnd s = some u) :
    exec (.bellowsFireEnd n low) s = .next (finish (endingSoon n (.fireEnd n) u)) := by
  rcases hu with ⟨rfl, rfl⟩ | ⟨rfl, hu⟩
  · simp [exec, execBellowsFireEnd, done, hst, hend]
    rfl
  · simp [exec, execBellowsFireEnd, atTime, done, hst, hend, hu]
    rfl

theorem exec_bellowsChargeDone {n : ClusterId} {s : State} (hst : (s.cluster n).b.st = .charging)
    (hend : (s.cluster n).b.ending = false) :
    exec (.bellowsChargeDone n) s = .next (finish (endingSoon n (.chargeEnd n) s)) := by
  simp [exec, execBellowsChargeDone, done, hst, hend]
  rfl

/-- A bellows that asks from a moment on can be granted a slot at the present cycle or that moment; in the next if slots freed in
that very cycle are all there are (R208). -/
theorem grantTime_of_room {s : State} {ask m freed at_ : Nat} (hm : m = max s.clk.now ask)
    (hf : freed = if s.blwCfg.freedAt = m then s.blwCfg.freedCnt else 0) (hroom : slotsHeld s < 32)
    (hat : at_ = if slotsHeld s + freed < 32 then m else m + 1) : grantTime s ask = some at_ := by
  subst hm hf hat
  unfold grantTime
  dsimp only
  rw [if_pos hroom, ← apply_ite some]

/-- The charge path of a bellows closes (R208, R209). -/
def charged (n : Nat) (s : State) : State :=
  s.updCl n (fun c => { c with b := { c.b with st := .charging, chg := true, grantAt := s.clk.now } })

theorem exec_bellowsSlotGrant {n : ClusterId} {at_ : Nat} {s u : State} (hst : (s.cluster n).b.st = .waiting)
    (ht : grantTime s (s.cluster n).b.askAt = some at_)
    (hlow : s.cl.places (fun m c => decide (m < n.val) && c.b.st == .waiting && decide (c.b.askAt ≤ at_)) = [])
    (hu : reach at_ s = some u) : exec (.bellowsSlotGrant n) s = .next (finish (charged n u)) := by
  simp [exec, execBellowsSlotGrant, atTime, done, hst, ht, hlow, hu, charged]

theorem exec_bellowsChargeTimeout {n : ClusterId} {s u : State} (hst : (s.cluster n).b.st = .charging)
    (hend : (s.cluster n).b.ending = false) (hu : reach (chargeDue (s.cluster n).b) s = some u) (hp : u.clk.p0Pending = false) :
    exec (.bellowsChargeTimeout n) s = .next (tick (finish (blwFault n 1 u))) := by
  simp [exec, execBellowsChargeTimeout, lapseAt, lapse, hst, hend, hu, hp]

theorem exec_bellowsFlagConflict {n : ClusterId} {s : State} (hoff : (s.cluster n).b.st ≠ .off)
    (hfault : (s.cluster n).b.st ≠ .fault) : exec (.bellowsFlagConflict n) s = .next (finish (blwFault n 2 s)) := by
  simp [exec, execBellowsFlagConflict, done, hoff, hfault]

/-- A fault of a bellows is reported with its cause, and falls in the next cycle (R214). -/
theorem blwFault_raised (n cause : Nat) {s : State} (hf : s.evt.fresh = []) :
    ∃ d, Raised 0x0315 n (BitVec.ofNat 8 cause :: d) (finish (blwFault n cause s)) := by
  have hfresh (d : List Byte) : ({ code := 0x0315, source := n, stage := s.clk.stage, data := d, moment := s.clk.now } : Event)
      ∈ (soonIn 1 (.blwFault n cause) (raise 0x0315 n d s)).evt.fresh := by
    rw [raise_of_no_fresh hf]
    exact List.mem_singleton_self _
  exact ⟨_, blwFault n cause s, _, hfresh _, rfl, rfl, rfl, rfl⟩

theorem blwFault_apart (n cause : Nat) (s : State) : (blwFault n cause s).apart = (soonIn 1 (.blwFault n cause) s).apart := by
  have hrest (d : List Byte) := congrArg (fun u : State => ({ u with clk := { u.clk with
    soon := u.clk.soon ++ [{ due := u.clk.now + 1, what := .blwFault n cause }] } } : State)) (raise_apart 0x0315 n d s)
  exact hrest _

/-! ### What falls in the cycle after (R203, R207, R208, R214) -/

/-- A bellows after its fire: it waits for a slot, or goes Off when it must leave. -/
def fireOver (now : Nat) (b : Blw) : Blw := if b.leaveWhenDone then blwOff b else blwAsk (!b.firstDone) (now + 1) b

/-- A bellows after its charge: Ready, or Off when it must leave. -/
def chargeOver (b : Blw) : Blw :=
  if b.leaveWhenDone then blwOff b else { b with st := .ready, chg := false, ending := false, firstDone := true }

/-- A bellows in Fault. -/
def faultBegun (cause : Nat) (b : Blw) : Blw :=
  { b with st := .fault, faultCause := cause, fire := false, chg := false, ending := false, leaveWhenDone := false }

/-- The bellows part of a cluster is new. -/
def State.setBlw (s : State) (n : Nat) (b : Blw) : State := s.updCl n (fun c => { c with b })

theorem setBlw_blw {n : Nat} (hn : n < 144) (b : Blw) (s : State) : ((s.setBlw n b).cluster n).b = b :=
  congrArg Cluster.b (State.cluster_updCl_same s hn _)

theorem fireEnded_eq {n : Nat} {s : State} (hst : (s.cluster n).b.st = .firing) :
    fireEnded n s = s.setBlw n (fireOver s.clk.now (s.cluster n).b) :=
  State.updCl_congr (if_neg (by simp [hst]))

theorem fireOver_parts (now : Nat) (b : Blw) : (fireOver now b).fire = false ∧ (fireOver now b).ending = false ∧
    (fireOver now b).st = (if b.leaveWhenDone then .off else .waiting) ∧
    (b.leaveWhenDone = false → (fireOver now b).askAt = now + 1) := by
  unfold fireOver
  cases b.leaveWhenDone
  · exact ⟨rfl, rfl, rfl, fun _ => rfl⟩
  · exact ⟨rfl, rfl, rfl, fun h => nomatch h⟩

theorem chargeEnded_eq {n : Nat} {s : State} (hst : (s.cluster n).b.st = .charging) : chargeEnded n s
    = ({ s with clk := { s.clk with soon := (chargeEnded n s).clk.soon }, blwCfg := (chargeEnded n s).blwCfg } : State).setBlw n
        (chargeOver (s.cluster n).b) := by
  have hcl : s.updCl n (fun c => { c with b := chargeOver c.b }) = s.setBlw n (chargeOver (s.cluster n).b) := State.updCl_congr rfl
  have hends : chargeEnded n s = (if (s.cluster n).b.fcAt.isSome && !(s.cluster n).b.leaveWhenDone
      then soonIn 1 (.unpark (n % 12)) (slotFreed (s.setBlw n (chargeOver (s.cluster n).b)))
      else slotFreed (s.setBlw n (chargeOver (s.cluster n).b))) := by
    rw [← hcl]
    exact if_neg (by simp [hst])
  rw [hends]
  split <;> rfl

theorem chargeOver_parts (b : Blw) : (chargeOver b).st = (if b.leaveWhenDone then .off else .ready) ∧
    (chargeOver b).chg = false ∧ (chargeOver b).ending = false := by
  unfold chargeOver
  cases b.leaveWhenDone <;> exact ⟨rfl, rfl, rfl⟩

theorem blwFaulted_eq {n : Nat} {s : State} (cause : Nat) (hoff : (s.cluster n).b.st ≠ .off) (hfault : (s.cluster n).b.st ≠ .fault) :
    blwFaulted n cause s = ({ s with blwCfg := (blwFaulted n cause s).blwCfg } : State).setBlw n (faultBegun cause (s.cluster n).b) := by
  have hcl (u : State) (h : u.cl = s.cl) : u.updCl n (fun c => { c with b := faultBegun cause c.b })
      = u.setBlw n (faultBegun cause (s.cluster n).b) := State.updCl_congr (by rw [State.cluster, h, State.cluster])
  have hfalls : blwFaulted n cause s
      = (if (s.cluster n).b.st == .charging then slotFreed s else s).setBlw n (faultBegun cause (s.cluster n).b) := by
    rw [← hcl _ (by split <;> rfl)]
    exact if_neg (by simp [hoff, hfault])
  rw [hfalls]
  split <;> rfl

/-- Settles O29: the sentinel's trip and release, the unparking of its segment, and the bellows by what each command and each effect
leaves of its own cluster. -/
theorem sentinelsAndBellows : Obligations.SentinelsAndBellows := by
  unfold Obligations.SentinelsAndBellows
  refine ⟨⟨?_, ?_, ?_⟩, ?_, ?_⟩
  case refine_1 =>
    rintro n uv v s rfl
    constructor
    · intro hle hact htr
      have hrest := finish_apart (tripped n s)
      have hframe := (blwTrip_butCl n (stretchBegun n s)).trans (updCl_butCl n _ s)
      have hbegun := stretchBegun_cluster n.isLt s
      have hblw : ((stretchBegun n s).cluster n).b = (s.cluster n).b := by rw [hbegun]
      have hcl := (tripped_cluster n n s).trans (blwTrip_cluster n.isLt (stretchBegun n s))
      rw [hbegun] at hcl
      refine ⟨_, exec_sentinelTrip_at hle hact htr, ?_⟩
      simp only [cluster_of_apart hrest]
      refine ⟨by rw [hcl], by rw [hcl], by rw [hcl], by rw [hcl], fun m hm => (tripped_cluster n m s).trans (cluster_of_butCl hframe hm),
        fun hready => ?_, fun hr hf => ?_, ?_⟩
      · have hfired := blwTrip_ready (hblw.symm ▸ hready)
        have hfire : (tripped n s).cluster n = _ :=
          (congrArg (fun u : State => u.cluster n) hfired).trans (State.cluster_updCl_same (stretchBegun n s) n.isLt _)
        rw [hfire]
        exact ⟨rfl, rfl, rfl⟩
      · have hsame := blwTrip_other (hblw.symm ▸ hr) (hblw.symm ▸ hf)
        exact (congrArg (fun u : State => (u.cluster n).b) hsame).trans hblw
      · rw [finish_cl, hrest]
        exact tripped_apart n s
    · intro hlt
      exact exec_sentinelTrip_above hlt
  case refine_2 =>
    intro g s hg
    constructor
    · rintro t rfl
      exact ⟨fun i hi hgi hst hw => unparkAll_waking hi hgi hst hw, unparkAll_group hg s, rfl⟩
    · rintro t i rfl hi
      exact raiseEn_phase hi s
  case refine_3 =>
    rintro n uv v since s u htr hu rfl
    constructor
    · intro hle
      have hrest := finish_apart (stretchEnd n u)
      have hframe := stretchEnd_beside n u
      refine ⟨_, exec_stretchRelease_at htr hu hle, ?_⟩
      simp only [cluster_of_apart hrest]
      refine ⟨stretchEnd_tripped n.isLt u, stretchEnd_standing n.isLt u, fun m hm => cluster_of_beside hframe hm, ?_⟩
      rw [finish_cl, finish_clk, hrest]
      exact apart_of_beside hframe
    · intro hlt
      exact exec_stretchRelease_below htr hu hlt
  case refine_4 =>
    rintro n s u b rfl
    refine ⟨?_, ?_, ?_, ?_, ?_⟩
    · intro low hst hend hu
      exact ⟨_, exec_bellowsFireEnd hst hend hu, finish_apart _⟩
    · intro m freed at_ hst hm hf hroom hat hlow hu
      exact ⟨_, exec_bellowsSlotGrant hst (grantTime_of_room hm hf hroom hat) hlow hu, finish_apart _⟩
    · intro hst hend
      exact ⟨_, exec_bellowsChargeDone hst hend, finish_apart _⟩
    · intro hst hend hu hp hfresh
      have hpu := (evalView_eq_iff.1 (reach_evalView hu)).2.2.trans hp
      exact ⟨_, exec_bellowsChargeTimeout hst hend hu hpu, blwFault_raised n 1 hfresh, (finish_apart _).trans (blwFault_apart n 1 u)⟩
    · intro hoff hfault hfresh
      exact ⟨_, exec_bellowsFlagConflict hoff hfault, blwFault_raised n 2 hfresh, (finish_apart _).trans (blwFault_apart n 2 s)⟩
  case refine_5 =>
    rintro n s t b rfl
    refine ⟨?_, ?_, ?_⟩
    · rintro rfl hst
      have hfalls : fallNow (.fireEnd n) s = s.setBlw n (fireOver s.clk.now (s.cluster n).b) := fireEnded_eq hst
      rw [hfalls, setBlw_blw n.isLt]
      obtain ⟨hfire, hend, hnext, hask⟩ := fireOver_parts s.clk.now (s.cluster n).b
      exact ⟨hfire, hend, hnext, hask, rfl⟩
    · rintro rfl hst
      have hfalls := chargeEnded_eq hst
      have hblw : ((fallNow (.chargeEnd n) s).cluster n).b = chargeOver (s.cluster n).b := by
        rw [fallNow, hfalls, setBlw_blw n.isLt]
      rw [hblw]
      obtain ⟨hnext, hchg, hend⟩ := chargeOver_parts (s.cluster n).b
      exact ⟨hnext, hchg, hend, congrArg State.apart hfalls⟩
    · rintro cause rfl hoff hfault
      have hfalls := blwFaulted_eq cause hoff hfault
      have hblw : ((fallNow (.blwFault n cause) s).cluster n).b = faultBegun cause (s.cluster n).b := by
        rw [fallNow, hfalls, setBlw_blw n.isLt]
      rw [hblw]
      exact ⟨rfl, rfl, rfl, rfl, congrArg State.apart hfalls⟩

end Sys2Proof.Machine
end

section
/-! SUPPORT. What the operations of the rails leave of the rest of the block, and what the time up to a moment leaves of the rails
(R109, R119, R121). -/

namespace Sys2Proof.Machine

/-! ### Changes made one by one along a list -/

/-- A reading of one element that the change of any other leaves is left by the changes of a list without it. -/
theorem forEach_read_other {β : Type} {f : Nat → State → State} {R : Nat → State → β}
    (hother : ∀ r q s, q ≠ r → R q (f r s) = R q s) {q : Nat} : ∀ (l : List Nat) (s : State), q ∉ l → R q (forEach l f s) = R q s
  | [], _, _ => rfl
  | r :: l, s, hq => by
    obtain ⟨hqr, hql⟩ := List.ne_and_not_mem_of_not_mem_cons hq
    exact (forEach_read_other hother l (f r s) hql).trans (hother r q s hqr)

/-- What the change of an element makes of its reading is read after the changes of a list with it. -/
theorem forEach_read_same {β : Type} {f : Nat → State → State} {R : Nat → State → β}
    (hother : ∀ r q s, q ≠ r → R q (f r s) = R q s) {q : Nat} {b : β} (hsame : ∀ s, R q (f q s) = b) :
    ∀ (l : List Nat) (s : State), q ∈ l → R q (forEach l f s) = b
  | [], _, hq => absurd hq List.not_mem_nil
  | r :: l, s, hq => by
    by_cases hql : q ∈ l
    · exact forEach_read_same hother hsame l (f r s) hql
    · have hqr : q = r := (List.mem_cons.1 hq).resolve_right hql
      subst hqr
      exact (forEach_read_other hother l (f q s) hql).trans (hsame s)

theorem State.rail_updRail_same (s : State) {r : Nat} (hr : r < 4) (f : Rail → Rail) : (s.updRail r f).rail r = f (s.rail r) :=
  Tab.get_modify_same s.rails r f hr

theorem State.rail_updRail_other (s : State) {r q : Nat} (f : Rail → Rail) (h : q ≠ r) : (s.updRail r f).rail q = s.rail q :=
  Tab.get_modify_other s.rails r q f h.symm

/-! ### What the time up to a moment leaves -/

theorem rails_of_still {s t : State} (h : t.still = s.still) : t.rails = s.rails := by
  have hrails := congrArg State.rails h; exact hrails

theorem rail_of_still {s t : State} (h : t.still = s.still) (r : Nat) : t.rail r = s.rail r := by
  rw [State.rail, rails_of_still h, State.rail]

theorem starts_of_still {s t : State} (h : t.still = s.still) : t.starts = s.starts := by
  have hstarts := congrArg State.starts h; exact hstarts

/-! ### What leaves the rails -/

theorem rails_of_apart {s t : State} (h : t.apart = s.apart) : t.rails = s.rails := by
  have hrails := congrArg State.rails h; exact hrails

theorem rail_of_apart {s t : State} (h : t.apart = s.apart) (r : Nat) : t.rail r = s.rail r := by
  rw [State.rail, rails_of_apart h, State.rail]

/-- A state beside its phases: all but the phases, their groups, the positions of the converters and what waits to fall in a later
cycle. -/
def State.besidePhases (s : State) : State :=
  { s with clk := { s.clk with soon := [] }, groups := State.reset.groups, phases := State.reset.phases, convs := State.reset.convs }

theorem rails_of_besidePhases {s t : State} (h : t.besidePhases = s.besidePhases) : t.rails = s.rails := by
  have hrails := congrArg State.rails h; exact hrails

@[simp] theorem soonIn_besidePhases (k : Nat) (w : Soon) (s : State) : (soonIn k w s).besidePhases = s.besidePhases := rfl

@[simp] theorem updPh_besidePhases (i : Nat) (f : Phase → Phase) (s : State) : (s.updPh i f).besidePhases = s.besidePhases := rfl

@[simp] theorem updGrp_besidePhases (g : Nat) (f : Group → Group) (s : State) : (s.updGrp g f).besidePhases = s.besidePhases := rfl

@[simp] theorem convsTo_besidePhases (t : Nat) (s : State) : (convsTo t s).besidePhases = s.besidePhases := by
  rw [convsTo_eq]
  rfl

@[simp] theorem ripTo_besidePhases (g : Nat) (s : State) : (ripTo g s).besidePhases = s.besidePhases :=
  ripTo_keeps State.besidePhases (fun _ _ _ => rfl) (fun _ _ _ => rfl) g s

@[simp] theorem refreshOn_besidePhases (g : Nat) (s : State) : (refreshOn g s).besidePhases = s.besidePhases := ripTo_besidePhases g s

@[simp] theorem refreshRail_besidePhases (r : Nat) (s : State) : (refreshRail r s).besidePhases = s.besidePhases :=
  forEach_keeps State.besidePhases _ refreshOn_besidePhases _ s

@[simp] theorem judgeFlags_besidePhases (l : List Nat) (s : State) : (judgeFlags l s).besidePhases = s.besidePhases :=
  forEach_keeps State.besidePhases _ (fun _ _ => soonIn_besidePhases _ _ _) _ s

@[simp] theorem endPulse_besidePhases (i : Nat) (s : State) : (endPulse i s).besidePhases = s.besidePhases := by
  unfold endPulse
  dsimp only
  split <;> simp

/-- Joining changes the phases of a rail and enables it (R119). -/
theorem railJoin_besidePhases (r : Nat) (s : State) :
    (railJoin r s).besidePhases = (s.updRail r (fun ra => { ra with enabled := true })).besidePhases := by
  unfold railJoin joinPhases
  dsimp only
  rw [forEach_keeps State.besidePhases _ (fun _ _ => updGrp_besidePhases _ _ _), judgeFlags_besidePhases, refreshRail_besidePhases]
  exact convsTo_besidePhases _ _

theorem holdLow_besidePhases (r : Nat) (s : State) : (holdLow r s).besidePhases = s.besidePhases :=
  forEach_keeps State.besidePhases _ endPulse_besidePhases _ s

/-- A state beside its rails: the rails are left out as well. -/
def State.besideRails (s : State) : State := { s.besidePhases with rails := State.reset.rails }

theorem besideRails_of_besidePhases {s t : State} (h : t.besidePhases = s.besidePhases) : t.besideRails = s.besideRails := by
  have hview := congrArg (fun u : State => ({ u with rails := State.reset.rails } : State)) h
  exact hview

theorem eq_of_besideRails {s t : State} (h : t.besideRails = s.besideRails) : t = { s with
    clk := { s.clk with soon := t.clk.soon }, rails := t.rails, groups := t.groups, phases := t.phases, convs := t.convs } := by
  have hback := congrArg (fun u : State => ({ u with clk := { u.clk with soon := t.clk.soon }, rails := t.rails, groups := t.groups
                                                     phases := t.phases, convs := t.convs } : State)) h
  exact hback

@[simp] theorem updRail_besideRails (r : Nat) (f : Rail → Rail) (s : State) : (s.updRail r f).besideRails = s.besideRails := rfl

theorem railJoin_besideRails (r : Nat) (s : State) : (railJoin r s).besideRails = s.besideRails :=
  (besideRails_of_besidePhases (railJoin_besidePhases r s)).trans (updRail_besideRails r _ s)

end Sys2Proof.Machine
end

section
/-! SUPPORT. Set-points: a new target, and the steps of a rail, of a cluster and of the common ramps (R119, R121, R123, R124, R278). -/

namespace Sys2Proof.Machine

/-! ### A new target (R124) -/

theorem aim_standing (p : SetPoint) (now : Nat) : p.aim now p.cur = { p with tgt := p.cur, moving := false } := if_pos rfl

/-- Away from the set-point the ramp moves towards the target; its step timer goes on or starts anew. -/
theorem aim_away {p : SetPoint} {v : Int} (h : v ≠ p.cur) (now : Nat) :
    p.aim now v = { p with tgt := v, moving := true, up := decide (p.cur < v), due := (p.aim now v).due } := by
  unfold SetPoint.aim
  rw [if_neg h]
  split
  next hahead =>
    have hup : decide (p.cur < v) = p.up := by simpa using (Bool.and_eq_true_iff.1 hahead).2
    rw [hup]
  next => rfl

theorem aim_due_ahead {p : SetPoint} {v : Int} (h : v ≠ p.cur) (hm : p.moving = true) (hup : p.up = true ↔ p.cur < v) (now : Nat) :
    (p.aim now v).due = p.due := by
  have hdir : decide (p.cur < v) = p.up := by rw [Bool.eq_iff_iff, decide_eq_true_iff, hup]
  simp [SetPoint.aim, SetPoint.isMoving, h, hm, hdir]

theorem aim_due_turned {p : SetPoint} {v : Int} (h : v ≠ p.cur) (hup : ¬ (p.up = true ↔ p.cur < v)) (now : Nat) :
    (p.aim now v).due = now + p.every := by
  have hdir : (decide (p.cur < v) == p.up) = false := by
    rw [beq_eq_false_iff_ne, Ne, Bool.eq_iff_iff, decide_eq_true_iff]
    exact fun hback => hup hback.symm
  simp [SetPoint.aim, h, hdir]

/-! ### The step of a rail (R109, R123) -/

theorem exec_setpointStep_rail {r : Nat} {s u : State} (hr : r < 4) (hm : (s.rail r).sp.moving = true)
    (hu : reach (s.rail r).sp.due s = some u) : exec (.setpointStep (.rail r)) s = .next (finish (stepRail r u)) := by
  simp [exec, execSetpointStep, atTime, done, hr, hm, hu]

theorem stepRail_rail_same {r : Nat} (hr : r < 4) (s : State) :
    (stepRail r s).rail r = { s.rail r with sp := (s.rail r).sp.step s.clk.now } :=
  State.rail_updRail_same s hr _

theorem stepRail_rail_other {r q : Nat} (h : q ≠ r) (s : State) : (stepRail r s).rail q = s.rail q :=
  State.rail_updRail_other s _ h

/-! ### The step of a cluster (R123, R198, R278) -/

theorem exec_setpointStep_cluster {n : Nat} {s u : State} (hn : n < 144) (hm : (s.cluster n).v.sp.moving = true)
    (hu : reach (s.cluster n).v.sp.due s = some u) : exec (.setpointStep (.cluster n)) s = .next (finish (stepCluster n u)) := by
  simp [exec, execSetpointStep, atTime, done, hn, hm, hu]

/-- The set-point of a cluster has stepped. -/
def spStepped (n : Nat) (q : SetPoint) (s : State) : State :=
  s.updCl n (fun c => { c with v := { c.v with sp := q }, w := { c.w with stepped := true } })

theorem spStepped_cluster {n : Nat} (hn : n < 144) (q : SetPoint) (s : State) : (spStepped n q s).cluster n = { s.cluster n with
    v := { (s.cluster n).v with sp := q }, w := { (s.cluster n).w with stepped := true } } :=
  State.cluster_updCl_same s hn _

/-- A step that does not reach the target is all that happens; else what waits for the end of the ramp follows. -/
theorem stepCluster_eq {n : Nat} (hn : n < 144) {q : SetPoint} {s : State} (hq : q = (s.cluster n).v.sp.step s.clk.now) :
    stepCluster n s = if q.moving then spStepped n q s else rampReached n (spStepped n q s) := by
  have hstep : s.updCl n (fun c => { c with v := { c.v with sp := c.v.sp.step s.clk.now }, w := { c.w with stepped := true } })
      = spStepped n q s := State.updCl_congr (by rw [hq])
  unfold stepCluster
  dsimp only
  rw [hstep, spStepped_cluster hn]

/-- Nothing waits for the end of the ramp of a cluster that is not in a transition, a drone entry or exit or a change of tiles. -/
theorem rampReached_quiet {n : Nat} {s : State} (htr : (s.cluster n).s.trans = none) (hd : (s.cluster n).d.st = .none)
    (hcal : (s.cluster n).v.calWait = false) : rampReached n s = s := by
  simp [rampReached, htr, hd, hcal]

/-- The ramp of a wake is then complete (R152). -/
theorem rampReached_wake {n : Nat} (hn : n < 144) {s : State} {tr : Trans} (htr : (s.cluster n).s.trans = some tr) (hph : tr.phase = .wakeRamp)
    (hup : ¬ ((s.cluster n).s.st = .retain ∧ tr.target = .retain)) (hd : (s.cluster n).d.st = .none)
    (hcal : (s.cluster n).v.calWait = false) : rampReached n s = wakeComplete n s := by
  have hno : ((s.cluster n).s.st == .retain && tr.target == .retain) = false := by simpa using hup
  have hwait : ((wakeComplete n s).cluster n).v.calWait = false := by
    rw [wakeComplete, State.cluster_updCl_same s hn]
    exact hcal
  simp [rampReached, htr, hph, hd, hno, hwait]

theorem updCl_voltage {n : Nat} (hn : n < 144) {f : Cluster → Cluster} (h : ∀ c, (f c).v = c.v) (s : State) :
    ((s.updCl n f).cluster n).v = (s.cluster n).v := by
  rw [State.cluster_updCl_same s hn, h]

/-- Settling leaves the voltage of its cluster. -/
theorem settle_voltage {n : Nat} (hn : n < 144) (st : CState) (s : State) : ((settle n st s).cluster n).v = (s.cluster n).v := by
  have hcount : ((countStretch false n s).cluster n).v = (s.cluster n).v := by
    unfold countStretch
    dsimp only
    split
    · rfl
    · split <;> exact updCl_voltage hn (by intro _; rfl) s
  have hend : ((stretchEnd n s).cluster n).v = (s.cluster n).v := by
    unfold stretchEnd
    split
    · exact (updCl_voltage hn (by intro _; rfl) _).trans hcount
    · rfl
  unfold settle
  dsimp only
  refine (updCl_voltage hn (by intro _; rfl) _).trans ?_
  split
  · exact hend
  · rfl

/-- A ramp down to Retain settles there (R278). -/
theorem rampReached_down {n : Nat} (hn : n < 144) {s : State} {tr : Trans} (htr : (s.cluster n).s.trans = some tr)
    (hph : tr.phase = .downRamp) (hd : (s.cluster n).d.st = .none) (hcal : (s.cluster n).v.calWait = false) :
    rampReached n s = settle n .retain s := by
  have hwait : ((settle n .retain s).cluster n).v.calWait = false := by rw [settle_voltage hn, hcal]
  simp [rampReached, htr, hph, hd, hwait]

/-! ### The step of a rising common ramp (R119, R120) -/

theorem exec_setpointStep_trackUp {r : Nat} {ax : Int} {k : TrackStart} {s u : State}
    (hk : s.starts.find? (fun t => t.mask.testBit r && t.phase == .ramp) = some k) (hu : reach k.due s = some u) :
    exec (.setpointStep (.trackUp r ax)) s = .next (finish (stepStart k ax u)) := by
  simp [exec, execSetpointStep, atTime, done, hk, hu]

theorem rampRail_besideRails (t : TrackStart) (ax : Int) (rr r : Nat) (s : State) :
    (rampRail t ax rr r s).besideRails = s.besideRails := by
  unfold rampRail
  dsimp only
  split
  · exact railJoin_besideRails r _
  · rfl

theorem rampTopRail_besideRails (t : TrackStart) (r : Nat) (s : State) : (rampTopRail t r s).besideRails = s.besideRails := by
  unfold rampTopRail
  dsimp only
  split
  · rfl
  · exact railJoin_besideRails r _

theorem railJoin_rails (r : Nat) (s : State) : (railJoin r s).rails = s.rails.modify r (fun ra => { ra with enabled := true }) :=
  rails_of_besidePhases (railJoin_besidePhases r s)

theorem railJoin_rail_other {r q : Nat} (h : q ≠ r) (s : State) : (railJoin r s).rail q = s.rail q := by
  rw [State.rail, railJoin_rails]
  exact Tab.get_modify_other _ _ _ _ h.symm

theorem rampRail_rail_other (t : TrackStart) (ax : Int) (rr : Nat) {r q : Nat} (h : q ≠ r) (s : State) :
    (rampRail t ax rr r s).rail q = s.rail q := by
  have hheld (v : Nat) : (s.updRail r (fun ra => { ra with sp := ra.sp.hold v })).rail q = s.rail q := State.rail_updRail_other s _ h
  unfold rampRail
  dsimp only
  split
  · exact (railJoin_rail_other h _).trans (hheld _)
  · exact hheld _

/-- The set-point of a rail on the common ramp follows it, whether it joins or not. -/
theorem rampRail_rail_cur (t : TrackStart) (ax : Int) (rr : Nat) {r : Nat} (hr : r < 4) (s : State) :
    ((rampRail t ax rr r s).rail r).sp.cur = rampSet t rr r := by
  have hheld (v : Nat) : (s.updRail r (fun ra => { ra with sp := ra.sp.hold v })).rail r = { s.rail r with sp := (s.rail r).sp.hold v } :=
    State.rail_updRail_same s hr _
  have hjoin (u : State) : ((railJoin r u).rail r).sp = (u.rail r).sp := by
    rw [State.rail, railJoin_rails, Tab.get_modify_same _ _ _ hr]
    rfl
  unfold rampRail
  dsimp only
  split
  · refine (congrArg SetPoint.cur (hjoin _)).trans ?_
    rw [hheld]
    rfl
  · exact congrArg (fun ra : Rail => ra.sp.cur) (hheld _)

theorem rampTopRail_rail_other (t : TrackStart) {r q : Nat} (h : q ≠ r) (s : State) : (rampTopRail t r s).rail q = s.rail q := by
  have hupd (f : Rail → Rail) (u : State) : (u.updRail r f).rail q = u.rail q := State.rail_updRail_other u f h
  unfold rampTopRail
  dsimp only
  split
  · exact hupd _ s
  · rw [hupd, railJoin_rail_other h, hupd, hupd]

/-- The rails of a start on the step before it has counted the step: each on the ramp, and at the top off it. -/
def rampStepped (k : TrackStart) (ax : Int) (s : State) : State :=
  if k.top ≤ k.r + 1 then forEach (railsIn k.mask) (rampTopRail k) (forEach (railsIn k.mask) (rampRail k ax (k.r + 1)) s)
  else forEach (railsIn k.mask) (rampRail k ax (k.r + 1)) s

/-- The start counts its step. -/
def stepCounted (k : TrackStart) : TrackStart :=
  { k with r := k.r + 1, due := k.due + 250, phase := if k.top ≤ k.r + 1 then .settle else .ramp }

theorem stepStart_eq (k : TrackStart) (ax : Int) (s : State) : stepStart k ax s = { rampStepped k ax s with
    starts := (rampStepped k ax s).starts.map (fun x => if x == k then stepCounted k else x) } := by
  unfold stepStart rampStepped stepCounted
  simp only [decide_eq_true_eq]

theorem rampStepped_besideRails (k : TrackStart) (ax : Int) (s : State) : (rampStepped k ax s).besideRails = s.besideRails := by
  have hramp := forEach_keeps State.besideRails _ (rampRail_besideRails k ax (k.r + 1)) (railsIn k.mask) s
  unfold rampStepped
  split
  · exact (forEach_keeps State.besideRails _ (rampTopRail_besideRails k) _ _).trans hramp
  · exact hramp

theorem rampStepped_rail_other (k : TrackStart) (ax : Int) {q : Nat} (hq : q ∉ railsIn k.mask) (s : State) :
    (rampStepped k ax s).rail q = s.rail q := by
  have hramp := forEach_read_other (R := fun q u => u.rail q) (fun _ _ u h => rampRail_rail_other k ax (k.r + 1) h u) (railsIn k.mask) s hq
  unfold rampStepped
  split
  · exact (forEach_read_other (R := fun q u => u.rail q) (fun _ _ u h => rampTopRail_rail_other k h u) _ _ hq).trans hramp
  · exact hramp

theorem rampStepped_rail_cur {k : TrackStart} (htop : k.r + 1 < k.top) (ax : Int) {q : Nat} (hq : q ∈ railsIn k.mask) (s : State) :
    ((rampStepped k ax s).rail q).sp.cur = rampSet k (k.r + 1) q := by
  rw [rampStepped, if_neg (Nat.not_le.2 htop)]
  exact forEach_read_same (R := fun q u => (u.rail q).sp.cur)
    (fun _ _ u h => congrArg (fun ra : Rail => ra.sp.cur) (rampRail_rail_other k ax (k.r + 1) h u))
    (rampRail_rail_cur k ax (k.r + 1) (mem_railsIn.1 hq).1) _ s hq

/-! ### The step of a falling common ramp (R121) -/

theorem exec_setpointStep_trackDown {r : Nat} {k : TrackStop} {s u : State}
    (hk : s.stops.find? (fun t => t.mask.testBit r && t.begun && t.r != 0) = some k) (hu : reach k.due s = some u) :
    exec (.setpointStep (.trackDown r)) s = .next (finish (stepStop k u)) := by
  simp [exec, execSetpointStep, atTime, done, hk, hu]

/-- A rail on a falling common ramp follows it. -/
def fallRail (k : TrackStop) (r : Nat) (s : State) : State :=
  soonIn 1 (.refresh r) (s.updRail r (fun ra => { ra with sp := ra.sp.hold (fallSet k (k.r - 1) r) }))

/-- The enabled rails of a stop. -/
def fallingRails (k : TrackStop) (s : State) : List Nat := (railsIn k.mask).filter (fun r => (s.rail r).enabled)

theorem stepStop_eq (k : TrackStop) (s : State) : ∃ low stops, stepStop k s
    = { forEach low holdLow (forEach (fallingRails k s) (fallRail k) s) with stops } := ⟨_, _, rfl⟩

theorem fallRail_rail_other (k : TrackStop) {r q : Nat} (h : q ≠ r) (s : State) : (fallRail k r s).rail q = s.rail q :=
  State.rail_updRail_other s _ h

theorem fallRail_rail_cur (k : TrackStop) {r : Nat} (hr : r < 4) (s : State) :
    ((fallRail k r s).rail r).sp.cur = fallSet k (k.r - 1) r :=
  congrArg (fun ra : Rail => ra.sp.cur) (State.rail_updRail_same s hr _)

theorem endPulse_convs (i : Nat) (s : State) : (endPulse i s).convs = s.convs := by
  have hrip (u : State) : (ripTo (groupOf s i) u).convs = u.convs :=
    ripTo_keeps State.convs (fun _ _ _ => rfl) (fun _ _ _ => rfl) _ u
  unfold endPulse
  dsimp only
  split
  · exact hrip s
  · exact hrip s

theorem holdLow_convs (r : Nat) (s : State) : (holdLow r s).convs = s.convs :=
  forEach_keeps State.convs _ endPulse_convs _ s

/-- A step of a falling ramp: what it leaves of the rest of the block. -/
theorem stepStop_frame (k : TrackStop) (s : State) : stepStop k s = { s with
    clk := { s.clk with soon := (stepStop k s).clk.soon }, rails := (stepStop k s).rails, phases := (stepStop k s).phases
    groups := (stepStop k s).groups, stops := (stepStop k s).stops } := by
  obtain ⟨low, stops, hstep⟩ := stepStop_eq k s
  have hview : (forEach low holdLow (forEach (fallingRails k s) (fallRail k) s)).besideRails = s.besideRails :=
    (forEach_keeps State.besideRails _ (fun r u => besideRails_of_besidePhases (holdLow_besidePhases r u)) _ _).trans
      (forEach_keeps State.besideRails (fallRail k) (fun _ _ => rfl) _ s)
  have hconvs : (forEach low holdLow (forEach (fallingRails k s) (fallRail k) s)).convs = s.convs :=
    (forEach_keeps State.convs _ holdLow_convs _ _).trans (forEach_keeps State.convs (fallRail k) (fun _ _ => rfl) _ s)
  have hframe := eq_of_besideRails hview
  rw [hconvs] at hframe
  rw [hstep]
  have hback := congrArg (fun u : State => ({ u with stops } : State)) hframe
  exact hback

/-- Its rails follow the ramp, and the others stay. -/
theorem stepStop_rail (k : TrackStop) (s : State) :
    (∀ q, q ∉ railsIn k.mask → (stepStop k s).rail q = s.rail q) ∧
    ∀ q, q ∈ railsIn k.mask → (s.rail q).enabled = true → ((stepStop k s).rail q).sp.cur = fallSet k (k.r - 1) q := by
  obtain ⟨low, stops, hstep⟩ := stepStop_eq k s
  have hlow (q : Nat) : (forEach low holdLow (forEach (fallingRails k s) (fallRail k) s)).rail q
      = (forEach (fallingRails k s) (fallRail k) s).rail q :=
    congrArg (fun l : Tab 4 Rail => l.get q)
      (forEach_keeps State.rails _ (fun r u => rails_of_besidePhases (holdLow_besidePhases r u)) _ _)
  rw [hstep]
  constructor
  · intro q hq
    refine (hlow q).trans (forEach_read_other (R := fun q u => u.rail q) (fun _ _ u h => fallRail_rail_other k h u) _ s ?_)
    exact fun hmem => hq (List.mem_filter.1 hmem).1
  · intro q hq hen
    refine (congrArg (fun ra : Rail => ra.sp.cur) (hlow q)).trans (forEach_read_same (R := fun q u => (u.rail q).sp.cur)
      (fun _ _ u h => congrArg (fun ra : Rail => ra.sp.cur) (fallRail_rail_other k h u))
      (fallRail_rail_cur k (mem_railsIn.1 hq).1) _ s ?_)
    exact List.mem_filter.2 ⟨hq, hen⟩

/-- A rising common ramp: what its step leaves of the rest of the block. -/
theorem stepStart_frame (k : TrackStart) (ax : Int) (s : State) : stepStart k ax s = { s with
    clk := { s.clk with soon := (stepStart k ax s).clk.soon }, rails := (stepStart k ax s).rails, phases := (stepStart k ax s).phases
    groups := (stepStart k ax s).groups, convs := (stepStart k ax s).convs
    starts := s.starts.map (fun x => if x == k then stepCounted k else x) } := by
  have hframe := eq_of_besideRails (rampStepped_besideRails k ax s)
  have hback := congrArg (fun u : State => ({ u with starts := u.starts.map (fun x => if x == k then stepCounted k else x) } : State)) hframe
  rw [stepStart_eq]
  exact hback

/-- Settles O17: a new target by its three cases, a step of a rail and of a cluster by what it leaves and by what waits for the end of
the ramp, and the steps of the common ramps rail by rail. -/
theorem setpointStep : Obligations.SetpointStep := by
  unfold Obligations.SetpointStep
  refine ⟨fun p now v => ?_, fun s u => ⟨?_, ?_, ?_, ?_⟩⟩
  case refine_1 =>
    by_cases hv : v = p.cur
    · subst hv
      rw [aim_standing]
      simp
    · have hup : (p.aim now v).up = true ↔ p.cur < v := by
        rw [aim_away hv]
        exact decide_eq_true_iff
      refine ⟨by rw [aim_away hv], by rw [aim_away hv], ?_, fun _ => hup, fun _ hm hdir => aim_due_ahead hv hm hdir now,
        fun _ hdir => aim_due_turned hv hdir now⟩
      rw [aim_away hv]
      exact iff_of_true rfl hv
  case refine_2 =>
    intro r hr hm hu
    have hstill := reach_still hu
    have hrest := finish_apart (stepRail r u)
    have hsame := stepRail_rail_same hr u
    rw [rail_of_still hstill] at hsame
    refine ⟨_, exec_setpointStep_rail hr hm hu, ?_⟩
    simp only [rail_of_apart hrest]
    rw [hsame]
    refine ⟨rfl, decide_eq_true_iff, rfl, rfl, rfl, fun q hq => ?_, ?_⟩
    · rw [stepRail_rail_other hq, rail_of_still hstill]
    · rw [finish_rails]
      exact hrest
  case refine_3 =>
    intro n p q hn hm hu hp hq
    have hexec := exec_setpointStep_cluster hn hm hu
    have hstep := stepCluster_eq (q := q) (s := u) hn (by rw [hq, hp]; rfl)
    have hcl := spStepped_cluster hn q u
    constructor
    · intro hquiet
      have hdone : stepCluster n u = spStepped n q u := by
        rw [hstep]
        split
        next => rfl
        next hstands =>
          obtain ⟨htr, hd, hcal⟩ := hquiet.resolve_left hstands
          exact rampReached_quiet (by rw [hcl]; exact htr) (by rw [hcl]; exact hd) (by rw [hcl]; exact hcal)
      rw [hdone] at hexec
      exact ⟨_, hexec, finish_apart _⟩
    · intro tr hstands htr hd hcal
      rw [if_neg (by simp [hstands])] at hstep
      have htr' : ((spStepped n q u).cluster n).s.trans = some tr := by rw [hcl]; exact htr
      have hd' : ((spStepped n q u).cluster n).d.st = .none := by rw [hcl]; exact hd
      have hcal' : ((spStepped n q u).cluster n).v.calWait = false := by rw [hcl]; exact hcal
      constructor
      · intro hph hup
        rw [hstep, rampReached_wake hn htr' hph (by rw [hcl]; exact hup) hd' hcal'] at hexec
        refine ⟨_, hexec, ?_⟩
        rw [finish_apart, wakeComplete, spStepped, State.updCl_updCl]
        refine congrArg State.apart (State.updCl_congr ?_)
        simp [htr, hstands]
      · intro hph
        rw [hstep, rampReached_down hn htr' hph hd' hcal'] at hexec
        have hrest := finish_apart (settle n .retain (spStepped n q u))
        have hframe : (settle n .retain (spStepped n q u)).beside n = u.beside n :=
          (settle_beside n .retain _).trans (updCl_beside (by intro _; rfl) u)
        have hstand := settle_standing hn .retain (spStepped n q u)
        refine ⟨_, hexec, ?_⟩
        simp only [cluster_of_apart hrest]
        refine ⟨by rw [hstand], by rw [hstand], by rw [settle_voltage hn, hcl], fun m hm => cluster_of_beside hframe hm, ?_⟩
        rw [finish_cl, finish_clk, hrest]
        exact apart_of_beside hframe
  case refine_4 =>
    intro r ax k hk hu
    have hstill := reach_still hu
    have hrest := finish_apart (stepStart k ax u)
    have hrail (q : Nat) : (stepStart k ax u).rail q = (rampStepped k ax u).rail q := by
      rw [stepStart_eq]
      rfl
    have hstarts := congrArg State.starts (stepStart_frame k ax u)
    refine ⟨_, exec_setpointStep_trackUp hk hu, ?_⟩
    simp only [rail_of_apart hrest, hrail]
    refine ⟨?_, fun htop q hq => rampStepped_rail_cur htop ax hq u, fun q hq => ?_, ?_⟩
    · rw [finish_clk, finish_rails, finish_phases, finish_groups, finish_convs, finish_starts, hrest, hstarts]
      exact congrArg State.apart (stepStart_frame k ax u)
    · rw [rampStepped_rail_other k ax hq, rail_of_still hstill]
    · rw [finish_starts, ← starts_of_still hstill]
      exact hstarts
  case refine_5 =>
    intro r k hk hu
    have hstill := reach_still hu
    have hrest := finish_apart (stepStop k u)
    obtain ⟨hother, hfall⟩ := stepStop_rail k u
    refine ⟨_, exec_setpointStep_trackDown hk hu, ?_⟩
    simp only [rail_of_apart hrest, ← rail_of_still hstill]
    refine ⟨?_, hother, hfall⟩
    rw [finish_clk, finish_rails, finish_phases, finish_groups, finish_stops, hrest]
    exact congrArg State.apart (stepStop_frame k u)

end Sys2Proof.Machine
end

section
/-! SUPPORT. What a reply sees is not touched by the time up to a moment: the command interface and the stage (R373, R374, R382). -/

namespace Sys2Proof.Machine

/-- What a reply sees of the state beside the rails: the command interface and the stage. -/
def State.replySide (s : State) : Cmd × Nat := (s.cmd, s.clk.stage)

@[simp] theorem ite_replySide (c : Prop) [Decidable c] (a b : State) :
    (if c then a else b).replySide = if c then a.replySide else b.replySide := apply_ite State.replySide c a b

theorem forEach_replySide {α : Type} {f : α → State → State} (h : ∀ a s, (f a s).replySide = s.replySide) (l : List α) (s : State) :
    (forEach l f s).replySide = s.replySide := forEach_keeps State.replySide f h l s

@[simp] theorem updPh_replySide (i : Nat) (f : Phase → Phase) (s : State) : (s.updPh i f).replySide = s.replySide := rfl
@[simp] theorem updGrp_replySide (g : Nat) (f : Group → Group) (s : State) : (s.updGrp g f).replySide = s.replySide := rfl
@[simp] theorem updCl_replySide (n : Nat) (f : Cluster → Cluster) (s : State) : (s.updCl n f).replySide = s.replySide := rfl
@[simp] theorem updCell_replySide (i : Nat) (f : Cell → Cell) (s : State) : (s.updCell i f).replySide = s.replySide := rfl
@[simp] theorem soonIn_replySide (k : Nat) (w : Soon) (s : State) : (soonIn k w s).replySide = s.replySide := rfl
@[simp] theorem slotFreed_replySide (s : State) : (slotFreed s).replySide = s.replySide := rfl
@[simp] theorem unparkAll_replySide (g : Nat) (s : State) : (unparkAll g s).replySide = s.replySide := rfl

/-! ### Events -/

@[simp] theorem raiseEv_replySide (e : Event) (s : State) : (raiseEv e s).replySide = s.replySide := by
  unfold raiseEv; split <;> rfl

@[simp] theorem raise_replySide (c k : Nat) (d : List Byte) (s : State) : (raise c k d s).replySide = s.replySide := raiseEv_replySide _ _

@[simp] theorem causeSet_replySide (c : Nat) (s : State) : (causeSet c s).replySide = s.replySide := by
  unfold causeSet; split <;> rfl

@[simp] theorem evTrace_replySide (e : Event) (f : Nat) (s : State) : (evTrace e f s).replySide = s.replySide := rfl

@[simp] theorem countLost_replySide (c : Nat) (s : State) : (countLost c s).replySide = s.replySide := rfl

@[simp] theorem reportLost_replySide (s : State) : (reportLost s).replySide = s.replySide := by
  unfold reportLost
  split
  · rfl
  · exact (evTrace_replySide _ _ _).trans (causeSet_replySide _ _)

@[simp] theorem evEnter_replySide (e : Event) (s : State) : (evEnter e s).replySide = s.replySide := by
  unfold evEnter
  dsimp only
  split
  · rfl
  · split
    · exact causeSet_replySide _ _
    · split
      · split
        · exact causeSet_replySide _ _
        · rfl
      · rfl

@[simp] theorem enterEvents_replySide (s : State) : (enterEvents s).replySide = s.replySide := by
  unfold enterEvents
  rw [reportLost_replySide, foldl_keeps State.replySide _ (fun s e => evEnter_replySide e s)]
  rfl

@[simp] theorem boostCheck_replySide (s : State) : (boostCheck s).replySide = s.replySide := by
  have hpost (u : State) : (postBoostEnd u).replySide = u.replySide := by unfold postBoostEnd; split <;> rfl
  unfold boostCheck
  dsimp only
  split
  · rfl
  · split
    · rw [raise_replySide, hpost]
      rfl
    · rfl

/-! ### What falls in a later cycle -/

@[simp] theorem ripTo_replySide (g : Nat) (s : State) : (ripTo g s).replySide = s.replySide :=
  ripTo_keeps State.replySide (fun _ _ _ => rfl) (fun _ _ _ => rfl) g s

@[simp] theorem refreshOn_replySide (g : Nat) (s : State) : (refreshOn g s).replySide = s.replySide := ripTo_replySide g s

@[simp] theorem pulseOrWait_replySide (g : Nat) (s : State) : (pulseOrWait g s).replySide = s.replySide := by
  unfold pulseOrWait
  split
  · exact ripTo_replySide g s
  · dsimp only
    split <;> rfl

@[simp] theorem pulseDue_replySide (g : Nat) (s : State) : (pulseDue g s).replySide = s.replySide := by simp [pulseDue]

@[simp] theorem endPulse_replySide (i : Nat) (s : State) : (endPulse i s).replySide = s.replySide := by simp [endPulse]

@[simp] theorem inhibitDue_replySide (i : Nat) (s : State) : (inhibitDue i s).replySide = s.replySide := by simp [inhibitDue]

@[simp] theorem disablePhase_replySide (i : Nat) (c : PhCause) (s : State) : (disablePhase i c s).replySide = s.replySide := by
  simp [disablePhase]

@[simp] theorem disableDue_replySide (i : Nat) (c : PhCause) (s : State) : (disableDue i c s).replySide = s.replySide := by
  simp [disableDue]

@[simp] theorem phaseLoss_replySide (i : Nat) (c : PhCause) (s : State) : (phaseLoss i c s).replySide = s.replySide := by
  simp [phaseLoss]

@[simp] theorem calSettle_replySide (n : Nat) (s : State) : (calSettle n s).replySide = s.replySide := by
  have hcells := fun (f : Nat → State → State) (h : ∀ i u, (f i u).replySide = u.replySide) => forEach_replySide h (cellsOf n) s
  simp [calSettle, hcells]

@[simp] theorem chargeEnded_replySide (n : Nat) (s : State) : (chargeEnded n s).replySide = s.replySide := by simp [chargeEnded]

@[simp] theorem blwFaulted_replySide (n c : Nat) (s : State) : (blwFaulted n c s).replySide = s.replySide := by simp [blwFaulted]

@[simp] theorem stretchHigh_replySide (n st : Nat) (d : List Byte) (s : State) : (stretchHigh n st d s).replySide = s.replySide := by
  unfold stretchHigh
  split
  · rfl
  · exact raiseEv_replySide _ _

theorem fallNow_replySide (w : Soon) (s : State) : (fallNow w s).replySide = s.replySide := by
  cases w with
  | refresh r => exact forEach_replySide refreshOn_replySide _ s
  | tickLow | unpark _ | raiseEn _ | fireEnd _ | masks _ _ _ => rfl
  | pulse g => exact pulseDue_replySide g s
  | inhibit i => exact inhibitDue_replySide i s
  | disable i c => exact disableDue_replySide i c s
  | loss i c => exact phaseLoss_replySide i c s
  | calSettle n => exact calSettle_replySide n s
  | chargeEnd n => exact chargeEnded_replySide n s
  | blwFault n c => exact blwFaulted_replySide n c s
  | stretchHigh n st d => exact stretchHigh_replySide n st d s

theorem fallTo_replySide (t : Nat) : ∀ (fuel : Nat) (s : State), (fallTo t fuel s).replySide = s.replySide
  | 0, _ => rfl
  | fuel + 1, s => by
    unfold fallTo
    split
    · rfl
    · dsimp only
      rw [fallTo_replySide t fuel, ite_replySide, enterEvents_replySide, ite_self, boostCheck_replySide, fallNow_replySide]
      rfl

/-- The moment of a timed command finds what a reply sees as it was. -/
theorem reach_replySide {due : Nat} {s u : State} (h : reach due s = some u) : u.replySide = s.replySide := by
  have hpass : (passTo due s).replySide = s.replySide := by
    unfold passTo
    split
    · rfl
    · exact fallTo_replySide due _ s
  unfold reach at h
  split at h
  · rw [Option.some.inj h]
  · split at h
    · rw [← Option.some.inj h, hpass]
    · simp at h

end Sys2Proof.Machine
end

section
/-! SUPPORT. The pre-check of a tracking start, the end of a tracking stop, and the loss of a sense line (R119, R121, R125, R127, R128). -/

namespace Sys2Proof

/-- A change that repeats without effect reaches each entry of a list of places. -/
theorem Tab.get_foldl_modify {n : Nat} {α : Type} [Inhabited α] {f : α → α} (hf : ∀ a, f (f a) = f a) {j : Nat} (hj : j < n) :
    ∀ (l : List Nat) (t : Tab n α), (l.foldl (fun t i => t.modify i f) t).get j = if j ∈ l then f (t.get j) else t.get j
  | [], t => by simp
  | i :: l, t => by
    rw [List.foldl_cons, Tab.get_foldl_modify hf hj l]
    by_cases hij : i = j
    · subst hij
      simp [hj, hf]
    · simp [Tab.get_modify_other t i j f hij, Ne.symm hij]

end Sys2Proof

namespace Sys2Proof.Machine

/-! ### Changes of a list of rails and groups -/

theorem forEach_updRail_rails (f : Rail → Rail) (l : List Nat) (s : State) :
    (forEach l (fun r s => s.updRail r f) s).rails = l.foldl (fun t r => t.modify r f) s.rails :=
  (List.foldl_hom State.rails (fun _ _ => rfl)).symm

theorem forEach_updRail_eq (f : Rail → Rail) (l : List Nat) (s : State) :
    forEach l (fun r s => s.updRail r f) s = { s with rails := (forEach l (fun r s => s.updRail r f) s).rails } := by
  have hkeep : ({ forEach l (fun r s => s.updRail r f) s with rails := s.rails } : State) = s :=
    forEach_keeps (fun t : State => { t with rails := s.rails }) (fun r s => s.updRail r f) (fun _ _ => rfl) l s
  exact congrArg (fun t : State => { t with rails := (forEach l (fun r s => s.updRail r f) s).rails }) hkeep

theorem forEach_updGrp_groups (f : Group → Group) (l : List Nat) (s : State) :
    (forEach l (fun g s => s.updGrp g f) s).groups = l.foldl (fun t g => t.modify g f) s.groups :=
  (List.foldl_hom State.groups (fun _ _ => rfl)).symm

theorem forEach_updGrp_eq (f : Group → Group) (l : List Nat) (s : State) :
    forEach l (fun g s => s.updGrp g f) s = { s with groups := (forEach l (fun g s => s.updGrp g f) s).groups } := by
  have hkeep : ({ forEach l (fun g s => s.updGrp g f) s with groups := s.groups } : State) = s :=
    forEach_keeps (fun t : State => { t with groups := s.groups }) (fun g s => s.updGrp g f) (fun _ _ => rfl) l s
  exact congrArg (fun t : State => { t with groups := (forEach l (fun g s => s.updGrp g f) s).groups }) hkeep

theorem mem_groupsOfRail_iff {g r : Nat} (hg : g < 15) (hr : r < 4) : g ∈ groupsOfRail r ↔ railOfGroup g = r := by
  constructor
  · unfold groupsOfRail railOfGroup
    split
    next h0 =>
      intro hmem
      rw [if_pos (List.mem_range.1 hmem), h0]
    next h0 =>
      intro hmem
      have hgr : g = r + 11 := by simpa using hmem
      rw [if_neg (by omega)]
      omega
  · rintro rfl
    exact (mem_groupsOfRail hg).2

theorem mem_groupsOfMask {g m : Nat} (hg : g < 15) : g ∈ (railsIn m).flatMap groupsOfRail ↔ m.testBit (railOfGroup g) = true := by
  constructor
  · intro h
    obtain ⟨r, hr, hmem⟩ := List.mem_flatMap.1 h
    obtain ⟨hr4, hbit⟩ := mem_railsIn.1 hr
    rw [(mem_groupsOfRail_iff hg hr4).1 hmem]
    exact hbit
  · intro hbit
    obtain ⟨hr4, hmem⟩ := mem_groupsOfRail hg
    exact List.mem_flatMap.2 ⟨_, mem_railsIn.2 ⟨hr4, hbit⟩, hmem⟩

/-! ### The pre-check (R119, R125) -/

/-- The rails of a start whose measurement fails (R125). -/
def failingRails (k : TrackStart) (meas : List PreCheck) : List Nat :=
  (railsIn k.mask).filter (fun r => meas.any (fun c => c.rail == r && c.fails))

/-- A start whose common ramp begins: its pre-biases are those measured (R119). -/
def rampBegun (k : TrackStart) (meas : List PreCheck) (now : Nat) : TrackStart :=
  { k with
    phase := .ramp, r := 0, due := now + 250, top := k.goal.foldl max 0
    bias := (List.range 4).map (fun r => if r = 3 then 0 else ((meas.find? (fun c => c.rail == r)).map PreCheck.preBias).getD 0) }

/-- The groups of a start go back to the board sense (R128). -/
def boardSense (m : Nat) (s : State) : State :=
  forEach ((railsIn m).flatMap groupsOfRail) (fun g s => s.updGrp g (fun gr => { gr with fallback := false, senseOffs := 0 })) s

/-- A start passes its pre-check. -/
def precheckPassed (k : TrackStart) (meas : List PreCheck) (s : State) : State :=
  { boardSense k.mask s with
    starts := (boardSense k.mask s).starts.map (fun x => if x == k then rampBegun k meas (boardSense k.mask s).clk.now else x) }

/-- The failing rails of a start are reported. -/
def sensesReported (bad : List Nat) (s : State) : State :=
  forEach bad (fun r s => raise 0x0221 r ([1] ++ leBytes 2 (code2 16 (s.group (if r = 0 then 0 else r + 11)).senseOffs)) s) s

/-- The rails of a start no longer track, and their sense is no longer biased. -/
def startLeft (m : Nat) (s : State) : State :=
  forEach (railsIn m) (fun r s => s.updRail r (fun ra => { ra with bias := false, tracking := false })) s

/-- A start that fails its pre-check is given up. -/
def startGivenUp (k : TrackStart) (bad : List Nat) (s : State) : State :=
  { startLeft k.mask (sensesReported bad s) with starts := (startLeft k.mask (sensesReported bad s)).starts.erase k }

theorem exec_trackingPrecheck {meas : List PreCheck} {k : TrackStart} {s u : State} (hk : checkedStart s meas = some k)
    (hu : reach (k.t0 + 10000) s = some u) : exec (.trackingPrecheck meas) s = .next (finish (
      if (failingRails k meas).isEmpty then precheckPassed k meas u
      else answerStart k .badState (bitsMask (failingRails k meas)) 0 (startGivenUp k (failingRails k meas) u))) := by
  rw [exec, execTrackingPrecheck, hk]
  dsimp only
  rw [atTime, hu]
  simp only [forEach_forEach]
  rfl

theorem boardSense_eq (m : Nat) (s : State) : boardSense m s = { s with groups := (boardSense m s).groups } :=
  forEach_updGrp_eq _ _ s

theorem boardSense_group {g : Nat} (hg : g < 15) (m : Nat) (s : State) : (boardSense m s).group g
    = if m.testBit (railOfGroup g) then { s.group g with fallback := false, senseOffs := 0 } else s.group g := by
  rw [State.group, boardSense, forEach_updGrp_groups, Tab.get_foldl_modify (by intro _; rfl) hg]
  exact if_congr (mem_groupsOfMask hg) rfl rfl

theorem precheckPassed_eq (k : TrackStart) (meas : List PreCheck) (s : State) : precheckPassed k meas s = { s with
    groups := (precheckPassed k meas s).groups
    starts := s.starts.map (fun x => if x == k then rampBegun k meas s.clk.now else x) } := by
  unfold precheckPassed
  rw [boardSense_eq]

theorem sensesReported_apart (bad : List Nat) (s : State) : (sensesReported bad s).apart = s.apart :=
  forEach_keeps State.apart _ (fun _ _ => raise_apart _ _ _ _) bad s

theorem startLeft_eq (m : Nat) (s : State) : startLeft m s = { s with rails := (startLeft m s).rails } := forEach_updRail_eq _ _ s

theorem startLeft_rail {r : Nat} (hr : r < 4) (m : Nat) (s : State) : (startLeft m s).rail r
    = if m.testBit r then { s.rail r with bias := false, tracking := false } else s.rail r := by
  rw [State.rail, startLeft, forEach_updRail_rails, Tab.get_foldl_modify (by intro _; rfl) hr]
  exact if_congr (mem_railsIn.trans (and_iff_right hr)) rfl rfl

theorem answerStart_of_pkt {k : TrackStart} {p : Packet} (h : k.pkt = some p) (st : Status) (pre win : Nat) (s : State) :
    answerStart k st pre win s
      = reply p 0x0201 st [BitVec.ofNat 8 (enabledMask s), BitVec.ofNat 8 pre, BitVec.ofNat 8 win] s := by
  rw [answerStart, h]

theorem answerStart_apart (k : TrackStart) (st : Status) (pre win : Nat) (s : State) :
    (answerStart k st pre win s).apart = s.apart := by
  unfold answerStart
  split
  · exact reply_apart _ _ _ _ _
  · rfl

theorem startGivenUp_rail {r : Nat} (hr : r < 4) (k : TrackStart) (bad : List Nat) (s : State) : (startGivenUp k bad s).rail r
    = if k.mask.testBit r then { s.rail r with bias := false, tracking := false } else s.rail r := by
  rw [← rail_of_apart (sensesReported_apart bad s)]
  exact startLeft_rail hr k.mask _

/-- A start that is given up leaves everything but its rails and itself, and what every command may change. -/
theorem startGivenUp_apart (k : TrackStart) (bad : List Nat) (s : State) : (startGivenUp k bad s).apart
    = ({ s with rails := (startGivenUp k bad s).rails, starts := s.starts.erase k } : State).apart := by
  have hleft := startLeft_eq k.mask (sensesReported bad s)
  have hrails : (startGivenUp k bad s).rails = (startLeft k.mask (sensesReported bad s)).rails := rfl
  rw [startGivenUp, hleft]
  have hback := congrArg (fun u : State => ({ u with
    rails := (startLeft k.mask (sensesReported bad s)).rails, starts := u.starts.erase k } : State)) (sensesReported_apart bad s)
  exact hback

theorem startGivenUp_replySide (k : TrackStart) (bad : List Nat) (s : State) : (startGivenUp k bad s).replySide = s.replySide := by
  have hreported : (sensesReported bad s).replySide = s.replySide := forEach_replySide (fun _ _ => raise_replySide _ _ _ _) bad s
  have hleft : (startLeft k.mask (sensesReported bad s)).replySide = (sensesReported bad s).replySide := by
    rw [startLeft_eq]
    rfl
  exact hleft.trans hreported

/-- Giving up a start leaves which rails are enabled and in window. -/
theorem startGivenUp_rail_on {r : Nat} (hr : r < 4) (k : TrackStart) (bad : List Nat) (s : State) :
    ((startGivenUp k bad s).rail r).enabled = (s.rail r).enabled ∧ ((startGivenUp k bad s).rail r).inWindow = (s.rail r).inWindow := by
  rw [startGivenUp_rail hr]
  split <;> exact ⟨rfl, rfl⟩

theorem enabledMask_congr {s t : State} (h : ∀ r, r < 4 → (t.rail r).enabled = (s.rail r).enabled) : enabledMask t = enabledMask s :=
  congrArg bitsMask (List.filter_congr (fun r hr => h r (List.mem_range.1 hr)))

/-- A reply goes the same way from two states that agree in what it sees and in the window of FB. -/
theorem answered_of_replySide {s v : State} (h : v.replySide = s.replySide) (hen : (v.rail 2).enabled = (s.rail 2).enabled)
    (hwin : (v.rail 2).inWindow = (s.rail 2).inWindow) (p : Packet) (op : Nat) (st : Status) (d : List Byte) :
    Answered p op st d s (finish (reply p op st d v)) := by
  obtain ⟨hcmd, hstage⟩ := Prod.mk.inj h
  refine answered_finish p op st d s v ?_ ?_ (congrArg Cmd.hold hcmd) (congrArg Cmd.rplHead hcmd) hstage
  · simp only [State.rplOpen, State.fbOk, hen, hwin, hcmd]
  · simp only [rplBase, hcmd]

/-- The command of a start that fails its pre-check is answered with the rails that failed (R125). -/
theorem answered_startGivenUp {k : TrackStart} {p : Packet} {bad : List Nat} {due : Nat} {s u : State} (hp : k.pkt = some p)
    (hu : reach due s = some u) : Answered p 0x0201 .badState [BitVec.ofNat 8 (enabledMask s), BitVec.ofNat 8 (bitsMask bad), 0] s
      (finish (answerStart k .badState (bitsMask bad) 0 (startGivenUp k bad u))) := by
  have hon (r : Nat) (hr : r < 4) := startGivenUp_rail_on hr k bad u
  simp only [rail_of_still (reach_still hu)] at hon
  rw [answerStart_of_pkt hp, enabledMask_congr (fun r hr => (hon r hr).1)]
  exact answered_of_replySide ((startGivenUp_replySide k bad u).trans (reach_replySide hu)) (hon 2 (by decide)).1 (hon 2 (by decide)).2 _ _ _ _

/-! ### The end of a tracking stop (R90, R121, R182) -/

/-- Which group a channel belongs to is in the fuses. -/
theorem groupOf_congr {s t : State} (h : t.fuses = s.fuses) : groupOf t = groupOf s := by
  funext i
  rw [groupOf, h]
  rfl

theorem groupOf_of_still {s t : State} (h : t.still = s.still) : groupOf t = groupOf s := by
  have hfuses := congrArg State.fuses h
  exact groupOf_congr hfuses

/-- The converters pass their positions before a rail goes Off; with AX they stop. -/
def convsHalted (r : Nat) (s : State) : State := if r = 3 then convsStop s else convsTo s.clk.now s

/-- A state beside its converters, and what every command may change. -/
def State.besideConvs (s : State) : State :=
  { s.apart with chans := State.reset.chans, convs := State.reset.convs, adc := State.reset.adc }

theorem besideConvs_of_apart {s t : State} (h : t.apart = s.apart) : t.besideConvs = s.besideConvs := by
  have hview := congrArg State.besideConvs h
  exact hview

theorem calFinish_besideConvs (u res : Nat) (s : State) : (calFinish u res s).besideConvs = s.besideConvs := by
  unfold calFinish
  dsimp only
  split
  · rfl
  · split
    · refine (besideConvs_of_apart (reply_apart _ _ _ _ _)).trans ?_
      rfl
    · rfl

theorem convsTo_besideConvs (t : Nat) (s : State) : (convsTo t s).besideConvs = s.besideConvs := by
  rw [convsTo_eq]
  rfl

theorem convsHalted_besideConvs (r : Nat) (s : State) : (convsHalted r s).besideConvs = s.besideConvs := by
  have hleft (v : State) : (calAbandon v).besideConvs = v.besideConvs :=
    forEach_keeps State.besideConvs _ (fun u v => calFinish_besideConvs u 5 v) _ _
  unfold convsHalted
  split
  · exact (hleft _).trans (convsTo_besideConvs s.clk.now s)
  · exact convsTo_besideConvs s.clk.now s

/-- A rail that is Off (R121). -/
def Rail.off (ra : Rail) : Rail :=
  { ra with enabled := false, tracking := false, bias := false, windowFault := false, inWindow := false, outRun := 0, sp := ra.sp.hold 0 }

/-- The phases of a rail that goes Off: Off, but for those Disabled (R121). -/
def offPhases (r : Nat) (s : State) : Tab 128 Phase :=
  s.phases.mapI (fun i p => if railOfGroup (groupOf s i) == r then
    (if p.st == .disabled then p else { p.out .off .none with trim := 0 }) else p)

/-- The phases of a rail are Off. -/
def phasesOff (r : Nat) (s : State) : State := { s with phases := offPhases r s }

/-- The groups of a rail are out of service. -/
def groupsOff (r : Nat) (s : State) : State :=
  forEach (groupsOfRail r) (fun g s => s.updGrp g (fun gr => { gr with inService := false, swellClamp := false, delta := 0 })) s

/-- With CF the segments have no window, with AX the bellows go off. -/
def windowsOff (r : Nat) (s : State) : State :=
  let s := if r = 0 then { s with segs := s.segs.map (fun sg => { sg with windowFault := false, outRun := 0 }) } else s
  if r = 3 then bellowsOff s else s

theorem railOff_steps (r : Nat) (s : State) :
    railOff r s = (windowsOff r (groupsOff r (phasesOff r (convsHalted r s)))).updRail r Rail.off := rfl

theorem groupsOff_eq (r : Nat) (s : State) : groupsOff r s = { s with groups := (groupsOff r s).groups } := forEach_updGrp_eq _ _ s

@[simp] theorem groupsOff_rails (r : Nat) (s : State) : (groupsOff r s).rails = s.rails := by rw [groupsOff_eq]
@[simp] theorem groupsOff_phases (r : Nat) (s : State) : (groupsOff r s).phases = s.phases := by rw [groupsOff_eq]

@[simp] theorem windowsOff_rails (r : Nat) (s : State) : (windowsOff r s).rails = s.rails := by
  unfold windowsOff
  dsimp only
  split <;> split <;> rfl

@[simp] theorem windowsOff_phases (r : Nat) (s : State) : (windowsOff r s).phases = s.phases := by
  unfold windowsOff
  dsimp only
  split <;> split <;> rfl

/-- A state beside what the end of a stop changes, and what every command may change. -/
def State.besideStop (s : State) : State :=
  { s.besideConvs with
    rails := State.reset.rails, phases := State.reset.phases, groups := State.reset.groups, segs := State.reset.segs
    cl := State.reset.cl, stops := State.reset.stops }

theorem besideStop_of_besideConvs {s t : State} (h : t.besideConvs = s.besideConvs) : t.besideStop = s.besideStop := by
  have hview := congrArg State.besideStop h
  exact hview

theorem apart_of_besideStop {s t : State} (h : t.besideStop = s.besideStop) : t.apart = ({ s with
    rails := t.rails, phases := t.phases, groups := t.groups, segs := t.segs, cl := t.cl, stops := t.stops
    clk := { s.clk with soon := t.clk.soon }, convs := t.convs, chans := t.chans, adc := t.adc } : State).apart := by
  have hclk := congrArg State.clk h
  change t.clk = s.clk at hclk
  have hback := congrArg (fun v : State => ({ v with
    rails := t.rails, phases := t.phases, groups := t.groups, segs := t.segs, cl := t.cl, stops := t.stops
    convs := t.convs, chans := t.chans, adc := t.adc } : State)) h
  rw [hclk]
  exact hback

theorem windowsOff_besideStop (r : Nat) (s : State) : (windowsOff r s).besideStop = s.besideStop := by
  unfold windowsOff
  dsimp only
  split <;> split <;> rfl

theorem groupsOff_besideStop (r : Nat) (s : State) : (groupsOff r s).besideStop = s.besideStop := by
  rw [groupsOff_eq]
  rfl

theorem railOff_besideStop (r : Nat) (s : State) : (railOff r s).besideStop = s.besideStop := by
  have hoff (v : State) : (v.updRail r Rail.off).besideStop = v.besideStop := rfl
  have hphases (v : State) : (phasesOff r v).besideStop = v.besideStop := rfl
  rw [railOff_steps, hoff, windowsOff_besideStop, groupsOff_besideStop, hphases]
  exact besideStop_of_besideConvs (convsHalted_besideConvs r s)

theorem railOff_rails (r : Nat) (s : State) : (railOff r s).rails = s.rails.modify r Rail.off := by
  have hrails := congrArg State.rails (convsHalted_besideConvs r s)
  change (convsHalted r s).rails = s.rails at hrails
  have hphases (v : State) : (phasesOff r v).rails = v.rails := rfl
  rw [railOff_steps, State.updRail, windowsOff_rails, groupsOff_rails, hphases, hrails]

theorem railOff_phases (r : Nat) (s : State) : (railOff r s).phases = offPhases r s := by
  have hoff (v : State) : (v.updRail r Rail.off).phases = v.phases := rfl
  have hphases := congrArg (offPhases r) (convsHalted_besideConvs r s)
  rw [railOff_steps, hoff, windowsOff_phases, groupsOff_phases]
  exact hphases

/-- A rail other than AX goes Off without a word to the converters and the clusters. -/
theorem railOff_other {r : Nat} (h : r ≠ 3) (s : State) :
    (railOff r s).chans = s.chans ∧ (railOff r s).adc = s.adc ∧ (railOff r s).cl = s.cl := by
  have hconvs : convsHalted r s = { s with convs := (convsHalted r s).convs } := by
    rw [convsHalted, if_neg h, convsTo_eq]
  rw [railOff_steps, hconvs]
  generalize (convsHalted r s).convs = convs
  rw [windowsOff, if_neg h, groupsOff_eq]
  by_cases h0 : r = 0
  · subst h0
    exact ⟨rfl, rfl, rfl⟩
  · rw [if_neg h0]
    exact ⟨rfl, rfl, rfl⟩

/-- What the end of a stop leaves of a state but for its stops: the rail Off, the spares of a command's stop in reserve. -/
def railLeft (reserve : Bool) (r : Nat) (s : State) : State := if reserve then sparesToReserve r (railOff r s) else railOff r s

/-- A rail has left its stop; the last one ends the stop and answers its command (R90, R121). -/
def stopLeft (r : Nat) (t : TrackStop) (s : State) : State :=
  let s := { s with stops := s.stops.map (fun u => if u == t then { t with low := t.low.filter (fun x => x.1 != r) } else u) }
  if (railsIn t.mask).all (fun r => !(s.rail r).enabled && !(s.rail r).tracking) then
    let s := { s with stops := s.stops.filter (fun u => !(u.mask == t.mask && u.begun)) }
    match t.pkt with
    | some p => reply p 0x0202 .ok [] s
    | none => s
  else s

theorem stopRailOff_eq (r : Nat) (s : State) :
    stopRailOff r s = match (railOff r s).stops.find? (fun t => t.mask.testBit r && t.begun) with
      | none => railOff r s
      | some t => stopLeft r t (railLeft t.pkt.isSome r s) := rfl

theorem stopLeft_apart (r : Nat) (t : TrackStop) (s : State) : ∃ stops, (stopLeft r t s).apart = ({ s with stops } : State).apart := by
  unfold stopLeft
  dsimp only
  split
  · split
    · exact ⟨_, reply_apart _ _ _ _ _⟩
    · exact ⟨_, rfl⟩
  · exact ⟨_, rfl⟩

/-- The end of a stop for one of its rails changes the stops and perhaps answers, beside the rail. -/
theorem stopRailOff_apart (r : Nat) (s : State) :
    ∃ reserve stops, (stopRailOff r s).apart = ({ railLeft reserve r s with stops } : State).apart := by
  rw [stopRailOff_eq]
  split
  · exact ⟨false, (railOff r s).stops, rfl⟩
  · exact ⟨_, stopLeft_apart _ _ _⟩

theorem sparesToReserve_besideStop (r : Nat) (s : State) : (sparesToReserve r s).besideStop = s.besideStop := rfl

theorem railLeft_besideStop (reserve : Bool) (r : Nat) (s : State) : (railLeft reserve r s).besideStop = s.besideStop := by
  cases reserve with
  | false => exact railOff_besideStop r s
  | true => exact (sparesToReserve_besideStop r _).trans (railOff_besideStop r s)

theorem railLeft_rails (reserve : Bool) (r : Nat) (s : State) : (railLeft reserve r s).rails = s.rails.modify r Rail.off := by
  cases reserve <;> exact railOff_rails r s

theorem railLeft_other {r : Nat} (h : r ≠ 3) (reserve : Bool) (s : State) :
    (railLeft reserve r s).chans = s.chans ∧ (railLeft reserve r s).adc = s.adc ∧ (railLeft reserve r s).cl = s.cl := by
  cases reserve <;> exact railOff_other h s

/-- A phase of a rail that went Off is Off or Disabled. -/
theorem offPhases_out {r i : Nat} (hi : i < 128) {s : State} (hr : railOfGroup (groupOf s i) = r) :
    ((offPhases r s).get i).st = .off ∨ ((offPhases r s).get i).st = .disabled := by
  rw [offPhases, Tab.get_mapI _ _ _ hi, if_pos (beq_iff_eq.2 hr)]
  split
  next hdis => exact .inr (beq_iff_eq.1 hdis)
  · exact .inl rfl

theorem railLeft_out {r i : Nat} (hi : i < 128) {s : State} (hr : railOfGroup (groupOf s i) = r) (reserve : Bool) :
    ((railLeft reserve r s).phase i).st = .off ∨ ((railLeft reserve r s).phase i).st = .disabled := by
  have hout := offPhases_out hi hr
  rw [← railOff_phases] at hout
  cases reserve with
  | false => exact hout
  | true =>
    rw [railLeft, if_pos rfl, State.phase, sparesToReserve, Tab.get_mapI _ _ _ hi]
    split
    · exact .inl rfl
    · exact hout

theorem exec_trackingStopLowSideEnd {r : Nat} {below : Bool} {s u : State} {k : TrackStop}
    (hk : s.stops.find? (fun t => t.low.any (fun x => x.1 == r)) = some k) (hbelow : below = true → u = s)
    (hend : below = false → reach (((k.low.find? (fun x => x.1 == r)).map Prod.snd).getD 0) s = some u) :
    exec (.trackingStopLowSideEnd r below) s = .next (finish (stopRailOff r u)) := by
  rw [exec, execTrackingStopLowSideEnd, hk]
  dsimp only
  cases below with
  | true =>
    rw [hbelow rfl]
    rfl
  | false =>
    rw [atTime, hend rfl]
    rfl

/-! ### The loss of a sense line (R127, R128) -/

/-- A group goes on with the plane sense, with the correction of the last complete pace before the loss (R128). -/
def Group.onPlane (thisPace : Prop) [Decidable thisPace] (gr : Group) : Group :=
  { gr with fallback := true, senseOffs := if thisPace then gr.offsMean else gr.offsPrev }

/-- The groups of a rail go on with the plane sense. -/
def planeSense (r : Nat) (thisPace : Prop) [Decidable thisPace] (s : State) : State :=
  forEach (groupsOfRail r) (fun g s => s.updGrp g (Group.onPlane thisPace)) s

/-- Two changes that agree where something holds that they keep leave the same when they are made for a list. -/
theorem forEach_congr_of {α : Type} {P : State → Prop} {f g : α → State → State} (hkeep : ∀ a s, P s → P (f a s))
    (h : ∀ a s, P s → f a s = g a s) : ∀ (l : List α) {s : State}, P s → forEach l f s = forEach l g s
  | [], _, _ => rfl
  | a :: l, s, hs => by
    have htail := forEach_congr_of hkeep h l (hkeep a s hs)
    rw [h a s hs] at htail
    exact (congrArg (forEach l f) (h a s hs)).trans htail

theorem senseFallback_eq (r line since : Nat) (s : State) : senseFallback r line since s
    = raise 0x0221 r ([BitVec.ofNat 8 line] ++ leBytes 2
        (code2 16 ((planeSense r (s.clk.paceStart ≤ since) s).group (senseGroup r)).senseOffs)) (planeSense r (s.clk.paceStart ≤ since) s) := by
  have hgroups := forEach_congr_of (P := fun v => v.clk = s.clk)
    (f := fun g s => s.updGrp g (fun gr => { gr with fallback := true, senseOffs := lossOffset s g since }))
    (g := fun g v => v.updGrp g (Group.onPlane (s.clk.paceStart ≤ since))) (fun _ _ h => h)
    (fun g v hv => by
      have hoff : lossOffset v g since = if s.clk.paceStart ≤ since then (v.group g).offsMean else (v.group g).offsPrev := by
        rw [lossOffset, hv]
      rw [State.updGrp, State.updGrp, hoff]
      exact congrArg (fun groups => ({ v with groups } : State)) (Tab.modify_congr rfl))
    (groupsOfRail r) rfl
  rw [senseFallback, hgroups]
  rfl

theorem planeSense_eq (r : Nat) (thisPace : Prop) [Decidable thisPace] (s : State) :
    planeSense r thisPace s = { s with groups := (planeSense r thisPace s).groups } := forEach_updGrp_eq _ _ s

theorem planeSense_group {r g : Nat} (hr : r < 4) (hg : g < 15) (thisPace : Prop) [Decidable thisPace] (s : State) :
    (planeSense r thisPace s).group g = if railOfGroup g = r then (s.group g).onPlane thisPace else s.group g := by
  rw [State.group, planeSense, forEach_updGrp_groups, Tab.get_foldl_modify (by intro _; rfl) hg]
  exact if_congr (mem_groupsOfRail_iff hg hr) rfl rfl

theorem groups_of_apart {s t : State} (h : t.apart = s.apart) : t.groups = s.groups := by
  have hgroups := congrArg State.groups h
  exact hgroups

theorem senseFallback_apart (r line since : Nat) (s : State) :
    (senseFallback r line since s).apart = (planeSense r (s.clk.paceStart ≤ since) s).apart := by
  rw [senseFallback_eq]
  exact raise_apart _ _ _ _

/-- The loss of a line is reported with the correction the rail's first group goes on with. -/
theorem raised_senseFallback {r line since : Nat} {s : State} (h : s.evt.fresh = []) :
    Raised 0x0221 r ([BitVec.ofNat 8 line] ++ leBytes 2 (code2 16 ((finish (senseFallback r line since s)).group (senseGroup r)).senseOffs))
      (finish (senseFallback r line since s)) := by
  have hgroups : (finish (senseFallback r line since s)).groups = (planeSense r (s.clk.paceStart ≤ since) s).groups :=
    groups_of_apart ((finish_apart _).trans (senseFallback_apart r line since s))
  have hfresh : (planeSense r (s.clk.paceStart ≤ since) s).evt.fresh = [] := by
    rw [planeSense_eq]
    exact h
  rw [State.group, hgroups, senseFallback_eq]
  exact raised_of_no_fresh hfresh _ _ _

/-- The line found open (R127). -/
theorem lineOpen_of {r : Nat} {sense plane n : Int} {line : Nat} {s : State}
    (h : (2500 * (s.rail r).sp.cur + 60000 < sense ∧ plane ≤ 2500 * (s.rail r).sp.cur + 20000 ∧ line = 2) ∨
      (¬ (2500 * (s.rail r).sp.cur + 60000 < sense ∧ plane ≤ 2500 * (s.rail r).sp.cur + 20000) ∧ n < -60000 ∧ line = 3)) :
    lineOpen s r sense plane n = some line := by
  rcases h with ⟨hsense, hplane, rfl⟩ | ⟨hp, hn, rfl⟩
  · simp [lineOpen, hsense, hplane]
  · have hp' : ¬ (2500 * (s.rail r).sp.cur + 60000 < sense ∧ plane ≤ 2500 * (s.rail r).sp.cur + 20000) := hp
    simp only [lineOpen, Bool.and_eq_true, decide_eq_true_eq, if_neg hp', if_pos hn]

theorem exec_senseLineLoss {r line : Nat} {x : SenseIn} {s u : State} (hr : r < 4) (hen : (s.rail r).enabled = true)
    (hboard : (s.group (senseGroup r)).fallback = false) (hsince : x.since ≤ s.clk.now)
    (hline : lineOpen s r x.sense x.plane x.n = some line) (hu : reach (x.since + 501) s = some u) :
    exec (.senseLineLoss r x) s = .next (finish (senseFallback r line x.since u)) := by
  simp [exec, execSenseLineLoss, atTime, done, hr, hen, hboard, hsince, hline, hu]

/-! ### The statement -/

/-- A start that passes its pre-check (R119, R128). -/
theorem precheck_passed {meas : List PreCheck} {k : TrackStart} {s u : State} (hk : checkedStart s meas = some k)
    (hgood : failingRails k meas = []) (hu : reach (k.t0 + 10000) s = some u) :
    ∃ t, exec (.trackingPrecheck meas) s = .next t ∧
      t.apart = ({ u with groups := t.groups, starts := s.starts.map (fun x => if x == k then rampBegun k meas u.clk.now else x) } : State).apart ∧
      ∀ g, g < 15 → t.group g = if k.mask.testBit (railOfGroup g) then { u.group g with fallback := false, senseOffs := 0 } else u.group g := by
  have hexec := exec_trackingPrecheck hk hu
  rw [hgood, List.isEmpty_nil, if_pos rfl] at hexec
  have hgroups : (finish (precheckPassed k meas u)).groups = (precheckPassed k meas u).groups := finish_groups _
  refine ⟨_, hexec, ?_, fun g hg => ?_⟩
  · rw [finish_apart, hgroups, ← starts_of_still (reach_still hu), precheckPassed_eq]
  · rw [State.group, hgroups]
    exact boardSense_group hg k.mask u

/-- A start that fails its pre-check (R125). -/
theorem precheck_failed {meas : List PreCheck} {k : TrackStart} {s u : State} (hk : checkedStart s meas = some k)
    (hbad : failingRails k meas ≠ []) (hu : reach (k.t0 + 10000) s = some u) :
    ∃ t, exec (.trackingPrecheck meas) s = .next t ∧
      t.apart = ({ u with rails := t.rails, starts := s.starts.erase k } : State).apart ∧
      (∀ r, r < 4 → t.rail r = if k.mask.testBit r then { s.rail r with bias := false, tracking := false } else s.rail r) ∧
      (∀ p, k.pkt = some p →
        Answered p 0x0201 .badState [BitVec.ofNat 8 (enabledMask s), BitVec.ofNat 8 (bitsMask (failingRails k meas)), 0] s t) := by
  have hexec := exec_trackingPrecheck hk hu
  rw [if_neg (by rwa [List.isEmpty_iff])] at hexec
  have hstill := reach_still hu
  generalize hbads : failingRails k meas = bad at *
  have hgiven : (finish (answerStart k .badState (bitsMask bad) 0 (startGivenUp k bad u))).apart = (startGivenUp k bad u).apart :=
    (finish_apart _).trans (answerStart_apart _ _ _ _ _)
  refine ⟨_, hexec, ?_, fun r hr => ?_, fun p hp => answered_startGivenUp hp hu⟩
  · rw [hgiven, rails_of_apart hgiven, startGivenUp_apart, starts_of_still hstill]
  · rw [rail_of_apart hgiven, startGivenUp_rail hr, rail_of_still hstill]

/-- The end of a tracking stop for one of its rails (R121). -/
theorem stop_ended {r : Nat} {s u : State} (hr : r < 4) (hstill : u.still = s.still) :
    ((finish (stopRailOff r u)).rail r).enabled = false ∧ ((finish (stopRailOff r u)).rail r).sp.cur = 0 ∧
      ((finish (stopRailOff r u)).rail r).tracking = false ∧ (∀ q, q ≠ r → (finish (stopRailOff r u)).rail q = s.rail q) ∧
      (∀ i, i < 128 → railOfGroup (groupOf s i) = r →
        ((finish (stopRailOff r u)).phase i).st = .off ∨ ((finish (stopRailOff r u)).phase i).st = .disabled) := by
  obtain ⟨reserve, stops, hapart⟩ := stopRailOff_apart r u
  have hleft : (finish (stopRailOff r u)).apart = ({ railLeft reserve r u with stops } : State).apart := (finish_apart _).trans hapart
  have hrail (q : Nat) : (finish (stopRailOff r u)).rail q = (s.rails.modify r Rail.off).get q := by
    rw [State.rail, rails_of_apart hleft, ← rails_of_still hstill, ← railLeft_rails reserve]
  have hself : (finish (stopRailOff r u)).rail r = (s.rail r).off := (hrail r).trans (Tab.get_modify_same _ _ _ hr)
  rw [hself]
  refine ⟨rfl, rfl, rfl, fun q hq => (hrail q).trans (Tab.get_modify_other _ _ _ _ hq.symm), fun i hi hri => ?_⟩
  rw [phase_of_apart hleft]
  exact railLeft_out hi (by rwa [groupOf_of_still hstill]) reserve

/-- What the end of a tracking stop leaves as it was (R121, R182). -/
theorem stop_ended_beside {r : Nat} {s u : State} (hstill : u.still = s.still) :
    (r ≠ 3 → (finish (stopRailOff r u)).chans = s.chans ∧ (finish (stopRailOff r u)).adc = s.adc ∧ (finish (stopRailOff r u)).cl = u.cl) ∧
      (finish (stopRailOff r u)).besideStop = u.besideStop := by
  obtain ⟨reserve, stops, hapart⟩ := stopRailOff_apart r u
  have hleft : (finish (stopRailOff r u)).apart = ({ railLeft reserve r u with stops } : State).apart := (finish_apart _).trans hapart
  refine ⟨fun h3 => ?_, ?_⟩
  · obtain ⟨hchans, hadc, hcl⟩ := railLeft_other h3 reserve u
    have hc := congrArg State.chans hleft
    have ha := congrArg State.adc hleft
    have hchans' := congrArg State.chans hstill
    have hadc' := congrArg State.adc hstill
    exact ⟨hc.trans (hchans.trans hchans'), ha.trans (hadc.trans hadc'), (cl_of_apart hleft).trans hcl⟩
  · have hview := congrArg State.besideStop hleft
    exact Eq.trans hview (railLeft_besideStop reserve r u)

/-- Settles O19: the pre-check through the start that is left or given up, the end of a stop through the rail that goes Off, the loss of
a line through the groups that go to the plane sense. -/
theorem tracking : Obligations.Tracking := by
  unfold Obligations.Tracking
  refine ⟨?_, ?_, ?_⟩
  · rintro meas s u k _ hk rfl hu
    exact ⟨fun hgood => precheck_passed hk hgood hu, fun hbad => precheck_failed hk hbad hu⟩
  · rintro r below s u k _ hr hk rfl hbelow hend
    have hstill : u.still = s.still := by
      cases below with
      | true => rw [hbelow rfl]
      | false => exact reach_still (hend rfl)
    obtain ⟨hen, hcur, htrack, hothers, hout⟩ := stop_ended hr hstill
    obtain ⟨hkeep, hbeside⟩ := stop_ended_beside (r := r) hstill
    exact ⟨_, exec_trackingStopLowSideEnd hk hbelow hend, hen, hcur, htrack, hothers, hout, hkeep, apart_of_besideStop hbeside⟩
  · rintro r sense plane n _ since line s u _ hr rfl hen hboard hsince rfl hopen hu hfresh
    have hline : lineOpen s r sense plane n = some line.toNat :=
      lineOpen_of (hopen.imp (fun ⟨h, hp, hl⟩ => ⟨h, hp, congrArg BitVec.toNat hl⟩) (fun ⟨h, hn, hl⟩ => ⟨h, hn, congrArg BitVec.toNat hl⟩))
    have hapart : (finish (senseFallback r line.toNat since u)).apart = (planeSense r (u.clk.paceStart ≤ since) u).apart :=
      (finish_apart _).trans (senseFallback_apart _ _ _ _)
    refine ⟨_, exec_senseLineLoss (x := ⟨sense, plane, n, since⟩) hr hen hboard hsince hline hu, fun g hg => ?_, ?_, ?_⟩
    · rw [State.group, groups_of_apart hapart]
      exact planeSense_group hr hg _ u
    · have hraised := raised_senseFallback (r := r) (line := line.toNat) (since := since) hfresh
      rw [BitVec.ofNat_toNat, BitVec.setWidth_eq] at hraised
      exact hraised
    · rw [hapart, groups_of_apart hapart, planeSense_eq]

end Sys2Proof.Machine
end

section
/-! SUPPORT. Pulses: how a pulse begins and waits, how it ends, and what the overcurrent comparator does (R109, R111 to R113, R117, R128,
R129). -/

namespace Sys2Proof

theorem listMapFrom_congr {α β : Type} {f g : Nat → α → β} (d : α) {l m : List α} {k : Nat} (hlen : l.length = m.length)
    (h : ∀ i, i < l.length → f (k + i) (l.getD i d) = g (k + i) (m.getD i d)) : listMapFrom f k l = listMapFrom g k m := by
  refine List.ext_getElem (by simp [listMapFrom_length, hlen]) fun i hl hm => ?_
  rw [listMapFrom_length] at hl hm
  have hf := listMapFrom_getD f d (f 0 d) l k i
  have hg := listMapFrom_getD g d (f 0 d) m k i
  rw [if_pos hl, h i hl] at hf
  rw [if_pos hm, ← hf] at hg
  rwa [List.getD_eq_getElem _ _ (by rwa [listMapFrom_length]), List.getD_eq_getElem _ _ (by rwa [listMapFrom_length]), eq_comm] at hg

/-- The places depend on nothing of an entry but whether it satisfies the condition. -/
theorem Tab.places_congr {n : Nat} {α : Type} [Inhabited α] {t t' : Tab n α} {p : Nat → α → Bool}
    (h : ∀ i, i < n → p i (t.get i) = p i (t'.get i)) : t.places p = t'.places p := by
  unfold Tab.places
  refine congrArg _ (listMapFrom_congr default (t.len.trans t'.len.symm) fun i hi => ?_)
  rw [Nat.zero_add]
  exact congrArg (Prod.mk i) (h i (t.len ▸ hi))

end Sys2Proof

namespace Sys2Proof.Machine

/-! ### What the emulator leaves of a group, and of the choice of the next phase (R112, R113) -/

/-- What the emulator leaves of its group: all but its low part and its moment. -/
def Group.unrippled (gr : Group) : Group := { gr with ripLow := 0, ripAt := 0 }

/-- A change of one group that a reading of groups does not see leaves the reading of every group. -/
theorem group_updGrp_view {β : Type} {V : Group → β} {f : Group → Group} (h : ∀ gr, V (f gr) = V gr) (g k : Nat) (s : State) :
    V ((s.updGrp g f).group k) = V (s.group k) := by
  have hget : (s.updGrp g f).group k = if g = k ∧ g < 15 then f (s.group g) else s.group k := Tab.get_modify s.groups g k f
  rw [hget]
  split
  next hgk => rw [h, hgk.1]
  next => rfl

theorem group_updGrp_other {g k : Nat} (h : k ≠ g) (f : Group → Group) (s : State) : (s.updGrp g f).group k = s.group k :=
  Tab.get_modify_other s.groups g k f h.symm

theorem ripTo_group_unrippled (g k : Nat) (s : State) : ((ripTo g s).group k).unrippled = (s.group k).unrippled := by
  have hview (f : Group → Group) (hf : ∀ gr, (f gr).unrippled = gr.unrippled) (u : State) :
      ((u.updGrp g f).group k).unrippled = (u.group k).unrippled := group_updGrp_view hf g k u
  unfold ripTo
  dsimp only
  split
  · exact hview _ (fun _ => by rfl) s
  · rw [forEach_keeps (fun u : State => (u.group k).unrippled) _ (fun _ _ => by rfl)]
    exact (hview _ (fun _ => by rfl) _).trans (hview _ (fun _ => by rfl) s)

theorem ripTo_group_other {g k : Nat} (h : k ≠ g) (s : State) : (ripTo g s).group k = s.group k := by
  unfold ripTo
  dsimp only
  split
  · exact group_updGrp_other h _ s
  · rw [forEach_keeps (fun u : State => u.group k) _ (fun _ _ => by rfl)]
    exact (group_updGrp_other h _ _).trans (group_updGrp_other h _ s)

theorem ripTo_rails (g : Nat) (s : State) : (ripTo g s).rails = s.rails := by
  have hrails := congrArg State.rails (ripTo_withoutPhases g s)
  exact hrails

theorem ripTo_groupOf (g : Nat) (s : State) : groupOf (ripTo g s) = groupOf s := by
  have hfuses := congrArg State.fuses (ripTo_withoutPhases g s)
  exact groupOf_congr hfuses

theorem ripTo_lowHeld (g k : Nat) (s : State) : lowHeld (ripTo g s) k = lowHeld s k := by
  have hstops := congrArg State.stops (ripTo_withoutPhases g s)
  change (ripTo g s).stops = s.stops at hstops
  rw [lowHeld, hstops, lowHeld]

theorem ripTo_vref (g k : Nat) (s : State) : vref (ripTo g s) k = vref s k := by
  have hdelta := congrArg Group.delta (ripTo_group_unrippled g k s)
  change ((ripTo g s).group k).delta = (s.group k).delta at hdelta
  rw [vref, groupSet, State.rail, ripTo_rails, hdelta]
  rfl

theorem ripTo_rotPos (g : Nat) (s : State) : rotPos (ripTo g s) = rotPos s := by
  funext i
  rw [rotPos, ripTo_phase]
  rfl

/-- The emulator leaves which phases of a group satisfy a condition that does not look at ripple. -/
theorem ripTo_groupPhases {p : Phase → Bool} (hp : ∀ (q : Phase) x, p { q with ripple := x } = p q) (g k : Nat) (s : State) :
    groupPhases (ripTo g s) k p = groupPhases s k p := by
  rw [groupPhases, ripTo_groupOf]
  refine Tab.places_congr fun i _ => ?_
  have hphase : (ripTo g s).phases.get i = { s.phases.get i with ripple := ((ripTo g s).phase i).ripple } := ripTo_phase g i s
  rw [hphase, hp]

/-- The emulator leaves the choice of the next phase. -/
theorem ripTo_nextPhase (g k : Nat) (s : State) : nextPhase (ripTo g s) k = nextPhase s k := by
  have hrot := congrArg Group.rot (ripTo_group_unrippled g k s)
  change ((ripTo g s).group k).rot = (s.group k).rot at hrot
  rw [nextPhase, ripTo_lowHeld, ripTo_now, ripTo_groupPhases (by intro _ _; rfl), ripTo_rotPos, hrot]
  rfl

/-! ### A pulse begins (R113) -/

/-- A pulse of a phase begins. -/
def Phase.begun (now : Nat) (p : Phase) : Phase :=
  { p with pwm := true, pulseAt := now, pulseOn := p.onTime, ocHist := (false :: p.ocHist).take 128 }

theorem startPulse_phase_same {i : Nat} (hi : i < 128) (g : Nat) (s : State) :
    (startPulse g i s).phase i = ((ripTo g s).phase i).begun s.clk.now := State.phase_updPh_same (ripTo g s) hi _

theorem startPulse_phase_other {i j : Nat} (h : j ≠ i) (g : Nat) (s : State) : (startPulse g i s).phase j = (ripTo g s).phase j :=
  State.phase_updPh_other (ripTo g s) _ h.symm

theorem startPulse_group_same {g : Nat} (hg : g < 15) (i : Nat) (s : State) : (startPulse g i s).group g
    = { (ripTo g s).group g with rot := some (rotPos s i), lastStart := some s.clk.now, pulseWait := false } := by
  have hpos : rotPos ((ripTo g s).updPh i (Phase.begun s.clk.now)) i = rotPos s i := by
    rw [← ripTo_rotPos g s]
    exact congrArg (fun x => if i < 124 then i else x) (phase_updPh_view (V := Phase.replaces) (fun _ => by rfl) i i _)
  have hown : (startPulse g i s).group g = { (ripTo g s).group g with
      rot := some (rotPos ((ripTo g s).updPh i (Phase.begun s.clk.now)) i), lastStart := some (ripTo g s).clk.now, pulseWait := false } :=
    State.group_updGrp_same _ hg _
  rwa [hpos, ripTo_now] at hown

theorem startPulse_group_other {g k : Nat} (h : k ≠ g) (i : Nat) (s : State) : (startPulse g i s).group k = s.group k := by
  rw [startPulse, group_updGrp_other h]
  exact ripTo_group_other h s

theorem updPh_withoutPhases (i : Nat) (f : Phase → Phase) (s : State) : (s.updPh i f).withoutPhases = s.withoutPhases := rfl

theorem updGrp_withoutPhases (g : Nat) (f : Group → Group) (s : State) : (s.updGrp g f).withoutPhases = s.withoutPhases := rfl

theorem startPulse_withoutPhases (g i : Nat) (s : State) : (startPulse g i s).withoutPhases = s.withoutPhases := by
  rw [startPulse, updGrp_withoutPhases, updPh_withoutPhases, ripTo_withoutPhases]

theorem startPulse_phase_blocked (g i j : Nat) (s : State) : ((startPulse g i s).phase j).blocked = (s.phase j).blocked := by
  have hbegun : ((startPulse g i s).phase j).blocked = ((ripTo g s).phase j).blocked :=
    phase_updPh_view (V := Phase.blocked) (fun _ => by rfl) i j (ripTo g s)
  rw [hbegun, ripTo_phase]

/-- With no phase ready the pulse waits for the first that is (R113). -/
theorem pulseOrWait_of_none {g : Nat} {s : State} (h : nextPhase s g = none) : ∃ soon, pulseOrWait g s
    = { s.updGrp g (fun gr => { gr with pulseWait := true }) with clk := { s.clk with soon } } := by
  rw [pulseOrWait, h]
  dsimp only
  split
  · exact ⟨s.clk.soon, rfl⟩
  · exact ⟨_, rfl⟩

theorem pulseOrWait_of_some {g i : Nat} {s : State} (h : nextPhase s g = some i) : pulseOrWait g s = startPulse g i s := by
  rw [pulseOrWait, h]

theorem pulseDue_phase_blocked (g j : Nat) (s : State) : ((pulseDue g s).phase j).blocked = (s.phase j).blocked := by
  unfold pulseDue
  split
  · cases hnext : nextPhase s g with
    | none =>
      obtain ⟨soon, hwait⟩ := pulseOrWait_of_none hnext
      rw [hwait]
      rfl
    | some i =>
      rw [pulseOrWait_of_some hnext]
      exact startPulse_phase_blocked g i j s
  · rfl

theorem pulseDue_of_not_waiting {g : Nat} {s : State} (h : (s.group g).pulseWait = false) : pulseDue g s = s := by
  simp [pulseDue, h]

theorem exec_phasePulseStart {g : GroupId} {sense fb : Int} {s : State} (hgap : ∀ a, (s.group g).lastStart = some a → a + 20 ≤ s.clk.now)
    (hheld : lowHeld s g = false)
    (hfb : fb = sense + (if 12 ≤ g.val ∧ (s.group g).fallback = true then 250 * (s.group g).senseOffs else 0) + vinj (ripTo g s) g) :
    exec (.phasePulseStart g sense) s = if fb ≤ vref s g then .next (finish (pulseOrWait g (ripTo g s))) else .next s := by
  have hfall : (decide (12 ≤ g.val) && (s.group g).fallback) = decide (12 ≤ g.val ∧ (s.group g).fallback = true) := by
    rw [Bool.decide_and, Bool.decide_eq_true]
  cases hlast : (s.group g).lastStart with
  | none =>
    simp only [exec, execPhasePulseStart, hlast, hheld, hfall, ripTo_vref, decide_eq_true_eq, ← hfb, Bool.true_and, Bool.not_false,
      Bool.and_true, done, idle]
  | some a =>
    simp only [exec, execPhasePulseStart, hlast, hgap a hlast, decide_true, hheld, hfall, ripTo_vref, decide_eq_true_eq, ← hfb,
      Bool.true_and, Bool.not_false, Bool.and_true, done, idle]

/-! ### A pulse ends (R109, R117) -/

/-- A pulse of a phase ends; a phase that was to be parked then parks. -/
def Phase.pulseOver (now : Nat) (p : Phase) : Phase :=
  let p := { p with pwm := false, pulseEnd := some now }
  if p.parkWait then p.park now else p

theorem Phase.pulseOver_ended (now : Nat) (p : Phase) : (p.pulseOver now).pwm = false ∧ (p.pulseOver now).pulseEnd = some now ∧
    (p.pulseOver now).st = (if p.parkWait then .parked else p.st) ∧ (p.pulseOver now).parkWait = false ∧
    (p.pulseOver now).ocCount = p.ocCount := by
  cases hpark : p.parkWait with
  | true => simp [Phase.pulseOver, Phase.park, hpark]
  | false => simp [Phase.pulseOver, hpark]

theorem endPulse_phases (i : Nat) (s : State) :
    (endPulse i s).phases = ((ripTo (groupOf s i) s).updPh i (Phase.pulseOver s.clk.now)).phases := by
  unfold endPulse
  dsimp only
  split <;> rfl

theorem endPulse_phase_same {i : Nat} (hi : i < 128) (s : State) :
    (endPulse i s).phase i = ((ripTo (groupOf s i) s).phase i).pulseOver s.clk.now := by
  rw [State.phase, endPulse_phases]
  exact State.phase_updPh_same _ hi _

theorem endPulse_phase_other {i j : Nat} (h : j ≠ i) (s : State) :
    (endPulse i s).phase j = { s.phase j with ripple := ((endPulse i s).phase j).ripple } := by
  have hphase : (endPulse i s).phase j = (ripTo (groupOf s i) s).phase j := by
    rw [State.phase, endPulse_phases]
    exact State.phase_updPh_other _ _ h.symm
  rw [hphase]
  exact ripTo_phase _ j s

@[simp] theorem endPulse_awayFromPhases (i : Nat) (s : State) : (endPulse i s).awayFromPhases = s.awayFromPhases := by
  unfold endPulse
  dsimp only
  split <;> simp

theorem exec_phasePulseEnd {i : PhaseId} {s u : State} (hpwm : (s.phase i).pwm = true)
    (hu : reach ((s.phase i).pulseAt + ceilDiv (s.phase i).pulseOn 4) s = some u) :
    exec (.phasePulseEnd i) s = .next (finish (endPulse i u)) := by
  simp [exec, execPhasePulseEnd, atTime, done, hpwm, hu]

/-! ### The overcurrent comparator (R129) -/

/-- A phase whose pulse the comparator ended: blocked and counted. -/
def Phase.tripped (p : Phase) : Phase :=
  { p with blocked := true, ocNow := true, ocCount := min 65535 (p.ocCount + 1),
           ocHist := match p.ocHist with | _ :: t => true :: t | [] => [true] }

/-- The comparator ends the pulse of a phase and unparks its group in the next cycle. -/
def pulseTripped (i : Nat) (s : State) : State :=
  soonIn 1 (.unpark (groupOf ((endPulse i s).updPh i Phase.tripped) i)) ((endPulse i s).updPh i Phase.tripped)

theorem exec_phaseOvercurrent_above {i : PhaseId} {s u : State} (hpwm : (s.phase i).pwm = true)
    (hu : reach (max s.clk.now ((s.phase i).pulseAt + 8)) s = some u) :
    ∃ t, exec (.phaseOvercurrent i false) s = .next t ∧ t.apart = (pulseTripped i u).apart := by
  simp only [exec, execPhaseOvercurrent, atTime, done, hpwm, hu, Bool.false_eq_true, Bool.not_true, if_false]
  refine ⟨_, rfl, (finish_apart _).trans ?_⟩
  split
  · exact raisePeriod_apart _ _ _ _
  · rfl

theorem exec_phaseOvercurrent_below (i : PhaseId) (s : State) : exec (.phaseOvercurrent i true) s
    = .next (finish (pulseDue (groupOf s i) (s.updPh i (fun p => { p with blocked := false })))) := rfl

theorem pulseTripped_awayFromPhases (i : Nat) (s : State) : (pulseTripped i s).awayFromPhases = s.awayFromPhases := by
  rw [pulseTripped, soonIn_awayFromPhases, updPh_awayFromPhases, endPulse_awayFromPhases]

theorem pulseTripped_phase_same {i : Nat} (hi : i < 128) (s : State) :
    (pulseTripped i s).phase i = (((ripTo (groupOf s i) s).phase i).pulseOver s.clk.now).tripped := by
  rw [← endPulse_phase_same hi]
  exact State.phase_updPh_same (endPulse i s) hi _

theorem pulseTripped_phase_other {i j : Nat} (h : j ≠ i) (s : State) :
    (pulseTripped i s).phase j = { s.phase j with ripple := ((pulseTripped i s).phase j).ripple } := by
  have hphase : (pulseTripped i s).phase j = (endPulse i s).phase j := State.phase_updPh_other (endPulse i s) _ h.symm
  rw [hphase]
  exact endPulse_phase_other h s

theorem pulseTripped_soon (i : Nat) (s : State) :
    { due := s.clk.now + 1, what := .unpark (groupOf s i) } ∈ (pulseTripped i s).clk.soon := by
  have hfuses := congrArg State.fuses (endPulse_awayFromPhases i s)
  change (endPulse i s).fuses = s.fuses at hfuses
  have hnow := congrArg (fun v : State => v.clk.now) (endPulse_awayFromPhases i s)
  change (endPulse i s).clk.now = s.clk.now at hnow
  have hgroupOf : groupOf ((endPulse i s).updPh i Phase.tripped) = groupOf s := groupOf_congr hfuses
  rw [← hnow, ← hgroupOf]
  exact List.mem_append_right _ (List.mem_singleton_self _)

/-! ### The statement -/

/-- PHASE_PULSE_START with a phase ready (R113). -/
theorem pulse_begins {g : GroupId} {i : PhaseId} {s : State} (hnext : nextPhase s g = some i.val) :
    let t := finish (pulseOrWait g (ripTo g s))
    (t.phase i).pwm = true ∧ (t.phase i).pulseAt = s.clk.now ∧ (t.phase i).pulseOn = (s.phase i).onTime ∧
      (t.phase i).st = (s.phase i).st ∧ (t.phase i).onTime = (s.phase i).onTime ∧
      (∀ j, j ≠ i.val → t.phase j = { s.phase j with ripple := (t.phase j).ripple }) ∧
      (t.group g).lastStart = some s.clk.now ∧ (t.group g).rot = some (rotPos s i) ∧ (t.group g).pulseWait = false ∧
      (∀ h, h ≠ g.val → t.group h = s.group h) ∧ t.apart = ({ s with groups := t.groups, phases := t.phases } : State).apart := by
  rw [pulseOrWait_of_some ((ripTo_nextPhase g g s).trans hnext)]
  intro t
  have hphase (j : Nat) : t.phase j = (startPulse g i (ripTo g s)).phase j := phase_of_apart (finish_apart _) j
  have hgroup (k : Nat) : t.group k = (startPulse g i (ripTo g s)).group k := congrArg (Tab.get · k) (finish_groups _)
  have hself : t.phase i = { (s.phase i).begun s.clk.now with ripple := (t.phase i).ripple } := by
    rw [hphase, startPulse_phase_same i.isLt, ripTo_now, ripTo_phase, ripTo_phase]
    rfl
  have hothers (j : Nat) (hj : j ≠ i.val) : t.phase j = { s.phase j with ripple := (t.phase j).ripple } := by
    rw [hphase, startPulse_phase_other hj, ripTo_phase, ripTo_phase]
  have hown := (hgroup g).trans (startPulse_group_same g.isLt i (ripTo g s))
  rw [ripTo_now, ripTo_rotPos] at hown
  have hframe : t.apart = ({ s with groups := t.groups, phases := t.phases } : State).apart := by
    rw [show t.groups = _ from finish_groups _, show t.phases = _ from finish_phases _, show t.apart = _ from finish_apart _]
    exact congrArg State.apart (eq_of_withoutPhases ((startPulse_withoutPhases g i _).trans (ripTo_withoutPhases g s)))
  refine ⟨by rw [hself]; rfl, by rw [hself]; rfl, by rw [hself]; rfl, by rw [hself]; rfl, by rw [hself]; rfl, hothers,
    by rw [hown], by rw [hown], by rw [hown], fun k hk => ?_, hframe⟩
  rw [hgroup, startPulse_group_other hk, ripTo_group_other hk]

/-- PHASE_PULSE_START with no phase ready (R113). -/
theorem pulse_waits {g : GroupId} {s : State} (hnext : nextPhase s g = none) :
    let t := finish (pulseOrWait g (ripTo g s))
    (t.group g).pulseWait = true ∧ (∀ j, t.phase j = { s.phase j with ripple := (t.phase j).ripple }) ∧
      (∀ h, h ≠ g.val → t.group h = s.group h) ∧
      t.apart = ({ s with clk := { s.clk with soon := t.clk.soon }, groups := t.groups, phases := t.phases } : State).apart := by
  obtain ⟨soon, hwait⟩ := pulseOrWait_of_none ((ripTo_nextPhase g g s).trans hnext)
  intro t
  have hphase (j : Nat) : t.phase j = (ripTo g s).phase j := by
    refine (phase_of_apart (finish_apart _) j).trans ?_
    rw [hwait]
    rfl
  have hgroup (k : Nat) : t.group k = ((ripTo g s).updGrp g (fun gr => { gr with pulseWait := true })).group k := by
    refine (congrArg (Tab.get · k) (finish_groups _)).trans ?_
    rw [hwait]
    rfl
  refine ⟨?_, fun j => ?_, fun k hk => ?_, apart_of_awayFromPhases ?_⟩
  · rw [hgroup, State.group_updGrp_same _ g.isLt]
  · rw [hphase]
    exact ripTo_phase g j s
  · rw [hgroup, group_updGrp_other hk, ripTo_group_other hk]
  · exact (awayFromPhases_of_apart (finish_apart _)).trans ((pulseOrWait_awayFromPhases g _).trans (ripTo_awayFromPhases g s))

/-- PHASE_PULSE_END at its moment (R109, R117). -/
theorem pulse_ends (i : PhaseId) (u : State) :
    let t := finish (endPulse i u)
    (t.phase i).pwm = false ∧ (t.phase i).pulseEnd = some u.clk.now ∧
      (t.phase i).st = (if (u.phase i).parkWait then .parked else (u.phase i).st) ∧ (t.phase i).parkWait = false ∧
      (∀ j, j ≠ i.val → t.phase j = { u.phase j with ripple := (t.phase j).ripple }) ∧
      t.apart = ({ u with clk := { u.clk with soon := t.clk.soon }, groups := t.groups, phases := t.phases } : State).apart := by
  intro t
  have hphase (j : Nat) : t.phase j = (endPulse i u).phase j := phase_of_apart (finish_apart _) j
  obtain ⟨hpwm, hend, hst, hpark, -⟩ := Phase.pulseOver_ended u.clk.now ((ripTo (groupOf u i) u).phase i)
  rw [ripTo_phase (groupOf u i) i.val u] at hst
  rw [hphase, endPulse_phase_same i.isLt]
  refine ⟨hpwm, hend, by rw [ripTo_phase]; exact hst, hpark, fun j hj => ?_, apart_of_awayFromPhases ?_⟩
  · rw [hphase]
    exact endPulse_phase_other hj u
  · exact (awayFromPhases_of_apart (finish_apart _)).trans (endPulse_awayFromPhases i u)

/-- PHASE_OVERCURRENT at its moment (R129). -/
theorem pulse_trips {i : PhaseId} {s u t : State} (hstill : u.still = s.still) (ht : t.apart = (pulseTripped i u).apart) :
    (t.phase i).pwm = false ∧ (t.phase i).blocked = true ∧ (t.phase i).pulseEnd = some u.clk.now ∧
      (t.phase i).ocCount = min 65535 ((u.phase i).ocCount + 1) ∧ { due := u.clk.now + 1, what := .unpark (groupOf s i) } ∈ t.clk.soon ∧
      (∀ j, j ≠ i.val → t.phase j = { u.phase j with ripple := (t.phase j).ripple }) ∧
      t.apart = ({ u with clk := { u.clk with soon := t.clk.soon }, groups := t.groups, phases := t.phases } : State).apart := by
  obtain ⟨hpwm, hend, -, -, hcount⟩ := Phase.pulseOver_ended u.clk.now ((ripTo (groupOf u i) u).phase i)
  rw [ripTo_phase (groupOf u i) i.val u] at hcount
  have hself := (phase_of_apart ht i).trans (pulseTripped_phase_same i.isLt u)
  rw [hself]
  refine ⟨hpwm, rfl, hend, ?_, ?_, fun j hj => ?_, apart_of_awayFromPhases ?_⟩
  · rw [ripTo_phase]
    exact congrArg (fun n => min 65535 (n + 1)) hcount
  · rw [clk_of_apart ht, ← groupOf_of_still hstill]
    exact pulseTripped_soon i u
  · rw [phase_of_apart ht]
    exact pulseTripped_phase_other hj u
  · exact (awayFromPhases_of_apart ht).trans (pulseTripped_awayFromPhases i u)

/-- The fall of the overcurrent comparator (R129). -/
theorem block_ends (i : PhaseId) (s : State) :
    ∃ t, exec (.phaseOvercurrent i true) s = .next t ∧ (t.phase i).blocked = false ∧
      ((s.group (groupOf s i)).pulseWait = false → t.apart = (s.updPh i (fun p => { p with blocked := false })).apart) ∧
      t.apart = ({ s with clk := { s.clk with soon := t.clk.soon }, groups := t.groups, phases := t.phases } : State).apart := by
  refine ⟨_, exec_phaseOvercurrent_below i s, ?_, fun hwait => ?_, apart_of_awayFromPhases ?_⟩
  · rw [phase_of_apart (finish_apart _), pulseDue_phase_blocked, State.phase_updPh_same _ i.isLt]
  · rw [finish_apart]
    exact congrArg State.apart (pulseDue_of_not_waiting hwait)
  · exact (awayFromPhases_of_apart (finish_apart _)).trans (pulseDue_awayFromPhases _ _)

/-- Settles O20: the start of a pulse by the choice of the next phase, its end and the comparator by what they leave of the phase. -/
theorem pulses : Obligations.Pulses := by
  unfold Obligations.Pulses
  refine ⟨?_, ?_⟩
  · intro g sense fb s hgap hheld hfb
    have hexec := exec_phasePulseStart hgap hheld hfb
    refine ⟨fun i hle hnext => ?_, fun hle hnext => ?_, fun hgt => ?_⟩
    · rw [if_pos hle] at hexec
      exact ⟨_, hexec, pulse_begins hnext⟩
    · rw [if_pos hle] at hexec
      exact ⟨_, hexec, pulse_waits hnext⟩
    · rwa [if_neg (Int.not_le.2 hgt)] at hexec
  · intro i s
    refine ⟨fun u hpwm hu => ⟨_, exec_phasePulseEnd hpwm hu, pulse_ends i u⟩, fun u hpwm hu => ?_, block_ends i s⟩
    obtain ⟨t, hexec, ht⟩ := exec_phaseOvercurrent_above hpwm hu
    exact ⟨t, hexec, pulse_trips (reach_still hu) ht⟩

end Sys2Proof.Machine
end

section
/-! SUPPORT. The cells: the local sample at the current limit, and the isolation of a cell from its condition to its end (R134, R135, R144,
R145, R289). -/

namespace Sys2Proof.Machine

/-! ### One cell -/

theorem State.cell_updCell_same (s : State) {c : Nat} (hc : c < 1728) (f : Cell → Cell) : (s.updCell c f).cell c = f (s.cell c) :=
  Tab.get_modify_same s.cells c f hc

theorem State.cell_updCell_other (s : State) {c d : Nat} (f : Cell → Cell) (h : d ≠ c) : (s.updCell c f).cell d = s.cell d :=
  Tab.get_modify_other s.cells c d f h.symm

theorem State.updCell_congr {s : State} {c : Nat} {f g : Cell → Cell} (h : f (s.cell c) = g (s.cell c)) : s.updCell c f = s.updCell c g :=
  congrArg (fun cells => { s with cells }) (Tab.modify_congr h)

theorem State.cluster_updCl_other (s : State) {n m : Nat} (f : Cluster → Cluster) (h : m ≠ n) : (s.updCl n f).cluster m = s.cluster m :=
  Tab.get_modify_other s.cl n m f h.symm

theorem cells_of_apart {s t : State} (h : t.apart = s.apart) : t.cells = s.cells := by
  have hcells := congrArg State.cells h; exact hcells

theorem cell_of_apart {s t : State} (h : t.apart = s.apart) (c : Nat) : t.cell c = s.cell c := by
  rw [State.cell, cells_of_apart h, State.cell]

/-! ### The current limit (R134, R135) -/

/-- A local sample at which the limit acts. -/
def Cell.limited (v : Int) (c : Cell) : Cell := { c.sample v with limNow := true }

theorem exec_cellCurrentLimit {c : CellId} {s : State} (v : Int) (h : (s.cell c).mode = .regulate ∨ (s.cell c).mode = .switch) :
    exec (.cellCurrentLimit ⟨c, v⟩) s = .next (finish (s.updCell c (Cell.limited v))) := by
  have hon : ((s.cell c).mode == .regulate || (s.cell c).mode == .switch) = true := by simpa using h
  simp only [exec, execCellCurrentLimit, hon, if_true, done]
  rfl

/-- The local loop of a regulating cell at a limited sample. -/
theorem Cell.limited_of_regulate {x : Cell} (h : x.mode = .regulate) {v sum : Int} (hsum : sum = x.integral + (x.vref - v)) :
    (x.limited v).limNow = true ∧ (x.limited v).integral = sum ∧
      (x.limited v).loopOut = (Config.cellKp * (x.vref - v) + Config.cellKi * sum) / 2 ^ 20 ∧
      (x.limited v).command = x.commandOf (x.limited v).loopOut ∧ (x.limited v).drive = x.driveOf (x.limited v).command ∧
      (x.limited v).mode = .regulate := by
  subst hsum
  simp [Cell.limited, Cell.sample, h]

theorem Cell.limited_of_switch {x : Cell} (h : x.mode = .switch) (v : Int) :
    x.limited v = { x with limNow := true, integral := 0, loopOut := 0, command := 0, drive := 0 } := by
  simp [Cell.limited, Cell.sample, h]

/-! ### Isolation (R144, R145, R289) -/

/-- What a health condition makes of its cell: a cell under retest goes back to its isolation, and that of any other begins. -/
def Cell.unhealthy (cause : CellCause) (x : Cell) : Cell :=
  if x.retest then { x with mode := .isolated, retest := false, drive := 0, openRun := 0, shareRun := 0 }
  else { x with isoAt := some cause, drive := 0 }

theorem Cell.unhealthy_of_inService {x : Cell} (h : x.retest = false) (cause : CellCause) :
    x.unhealthy cause = { x with isoAt := some cause, drive := 0 } := by
  simp [Cell.unhealthy, h]

theorem Cell.unhealthy_of_retest {x : Cell} (h : x.retest = true) (cause : CellCause) :
    x.unhealthy cause = { x with mode := .isolated, retest := false, drive := 0, openRun := 0, shareRun := 0 } :=
  if_pos h

theorem exec_cellHealthFault {c : CellId} {s : State} {cause : CellCause} {mA : Int} (hmode : (s.cell c).mode ≠ .isolated)
    (hiso : (s.cell c).isoAt = none) (hheld : healthHeld s c mA cause = true) :
    exec (.cellHealthFault ⟨c, mA⟩ cause) s = .next (finish (s.updCell c (Cell.unhealthy cause))) := by
  simp only [exec, execCellHealthFault, hiso, hheld, bne_iff_ne, ne_eq, hmode, not_false_eq_true, Option.isNone_none,
    Bool.and_true, if_true, done]
  rfl

theorem exec_cellIsolationComplete {c : CellId} {s : State} {cause : CellCause} (h : (s.cell c).isoAt = some cause) :
    exec (.cellIsolationComplete c) s = .next (finish (isolate c cause s)) := by
  simp only [exec, execCellIsolationComplete, h, done]

theorem isolate_cell_same {c : Nat} (hc : c < 1728) (cause : CellCause) (s : State) : (isolate c cause s).cell c =
    { s.cell c with mode := .isolated, cause, isoAt := none, drive := 0, openRun := 0, shareRun := 0 } :=
  State.cell_updCell_same s hc _

theorem isolate_cell_other {c d : Nat} (h : d ≠ c) (cause : CellCause) (s : State) : (isolate c cause s).cell d = s.cell d :=
  State.cell_updCell_other s _ h

theorem isolate_cluster_other {c n : Nat} (h : n ≠ c / 12) (cause : CellCause) (s : State) : (isolate c cause s).cluster n = s.cluster n :=
  State.cluster_updCl_other _ _ h

theorem isolate_liveMask {c : Nat} (hc : c < 1728) (cause : CellCause) (s : State) : ((isolate c cause s).cluster (c / 12)).k.liveMask =
    (s.cluster (c / 12)).k.liveMask &&& ~~~(BitVec.ofNat 12 (2 ^ (c % 12))) :=
  congrArg (fun cl : Cluster => cl.k.liveMask) (State.cluster_updCl_same _ (show c / 12 < 144 by omega) _)

/-- The cell leaves the live mask of its cluster. -/
theorem isolate_not_live {c : Nat} (hc : c < 1728) (cause : CellCause) (s : State) :
    ((isolate c cause s).cluster (c / 12)).k.liveMask.getLsbD (c % 12) = false := by
  have hbit : c % 12 < 12 := Nat.mod_lt _ (by decide)
  simp only [isolate_liveMask hc, BitVec.getLsbD_and, BitVec.getLsbD_not, BitVec.getLsbD_ofNat, Nat.testBit_two_pow_self, hbit,
    decide_true, Bool.and_self, Bool.not_true, Bool.and_false]

theorem isolate_eq (c : Nat) (cause : CellCause) (s : State) :
    isolate c cause s = { s with cells := (isolate c cause s).cells, cl := (isolate c cause s).cl } := rfl

/-- Settles O23: a limited sample and a health condition by what they make of their cell, and a completed isolation cell by cell and
cluster by cluster. -/
theorem cellHealth : Obligations.CellHealth := by
  unfold Obligations.CellHealth
  intro c s
  refine ⟨fun v sum hmode hsum => ?_, fun v hmode => ?_, fun cause mA hmode hiso hheld => ?_, fun cause hiso => ?_⟩
  · have hcell (d : Nat) : (finish (s.updCell c (Cell.limited v))).cell d = (s.updCell c (Cell.limited v)).cell d :=
      cell_of_apart (finish_apart _) d
    obtain ⟨hlim, hint, hloop, hcmd, hdrive, hreg⟩ := Cell.limited_of_regulate hmode hsum
    refine ⟨_, exec_cellCurrentLimit v (.inl hmode), ?_⟩
    rw [hcell, State.cell_updCell_same s c.isLt, finish_cells, finish_apart]
    exact ⟨hlim, hint, hloop, hcmd, hdrive, hreg, fun d hd => (hcell d).trans (State.cell_updCell_other s _ hd), rfl⟩
  · refine ⟨_, exec_cellCurrentLimit v (.inr hmode), (finish_apart _).trans ?_⟩
    exact congrArg State.apart (State.updCell_congr (Cell.limited_of_switch hmode v))
  · have hexec := exec_cellHealthFault hmode hiso hheld
    refine ⟨fun hretest => ⟨_, hexec, (finish_apart _).trans ?_⟩, fun hretest => ⟨_, hexec, (finish_apart _).trans ?_⟩⟩
    · exact congrArg State.apart (State.updCell_congr (Cell.unhealthy_of_inService hretest cause))
    · exact congrArg State.apart (State.updCell_congr (Cell.unhealthy_of_retest hretest cause))
  · have hcell (d : Nat) : (finish (isolate c cause s)).cell d = (isolate c cause s).cell d := cell_of_apart (finish_apart _) d
    have hcluster (n : Nat) : (finish (isolate c cause s)).cluster n = (isolate c cause s).cluster n :=
      cluster_of_apart (finish_apart _) n
    refine ⟨_, exec_cellIsolationComplete hiso, ?_⟩
    rw [hcell, hcluster, isolate_cell_same c.isLt, finish_cells, finish_cl, finish_apart]
    exact ⟨rfl, rfl, rfl, rfl, isolate_not_live c.isLt cause s, fun d hd => (hcell d).trans (isolate_cell_other hd cause s),
      fun n hn => (hcluster n).trans (isolate_cluster_other hn cause s), congrArg State.apart (isolate_eq c cause s)⟩

end Sys2Proof.Machine
end

section
/-! SUPPORT. The wake of a cluster: the end of its self-tests, its admission, and its deadline (R144, R148 to R151, R215). -/

namespace Sys2Proof

theorem listModify_fixed {α : Type} [Inhabited α] {f : α → α} :
    ∀ {l : List α} {i : Nat}, f (l.getD i default) = l.getD i default → listModify f l i = l
  | [], _, _ => rfl
  | _ :: _, 0, h => congrArg (· :: _) h
  | _ :: _, _ + 1, h => congrArg (_ :: ·) (listModify_fixed (by simpa using h))

end Sys2Proof

namespace Sys2Proof.Machine

/-- A change that leaves its cell as it is changes nothing. -/
theorem State.updCell_fixed {s : State} {c : Nat} {f : Cell → Cell} (h : f (s.cell c) = s.cell c) : s.updCell c f = s :=
  congrArg (fun cells => { s with cells }) (Tab.eq_of_val (listModify_fixed h))

/-! ### The cells of a cluster -/

theorem mem_cellsOf {n i : Nat} : i ∈ cellsOf n ↔ i / 12 = n := by
  simp only [cellsOf, List.mem_map, List.mem_range]
  constructor
  · rintro ⟨k, hk, rfl⟩
    omega
  · rintro rfl
    exact ⟨i % 12, Nat.mod_lt _ (by decide), Nat.div_add_mod i 12⟩

/-- The cells of other clusters stay as they are under changes of the cells of one. -/
theorem changeCells_cellsOf_other {n c : Nat} (h : c / 12 ≠ n) (f : State → Nat → Cell → Cell) (s : State) :
    (changeCells id f (cellsOf n) s).cell c = s.cell c :=
  changeCells_other id f _ s fun _ hk he => h (he ▸ mem_cellsOf.1 hk)

/-- What a change of mode makes of a cell, at a set-point. -/
def Cell.moded (v : Int) (m : CellMode) (c : Cell) : Cell :=
  if c.mode == .isolated then c
  else if c.retest && m != .regulate then { c with mode := .isolated, retest := false }
  else { c with mode := m, share := if m == .regulate && c.mode != .regulate then calShare v c.pts else c.share }

theorem setCells_eq_changeCells (n : Nat) (m : CellMode) (s : State) : setCells n m s =
    changeCells id (fun _ _ => Cell.moded (s.cluster n).v.sp.cur m) (cellsOf n)
      (s.updCl n (fun c => { c with k := { c.k with mode := m } })) :=
  rfl

theorem commandCluster_eq_changeCells (n : Nat) (s : State) :
    commandCluster n s = changeCells id (fun _ => commandCell s) (cellsOf n) s := rfl

theorem setCells_eq (n : Nat) (m : CellMode) (s : State) : ∃ cells,
    setCells n m s = { s.updCl n (fun c => { c with k := { c.k with mode := m } }) with cells } := by
  rw [setCells_eq_changeCells]
  exact ⟨_, changeCells_eq _ _ _ _⟩

theorem commandCluster_eq (n : Nat) (s : State) : ∃ cells, commandCluster n s = { s with cells } := by
  rw [commandCluster_eq_changeCells]
  exact ⟨_, changeCells_eq _ _ _ _⟩

theorem setCells_cell_other {n c : Nat} (h : c / 12 ≠ n) (m : CellMode) (s : State) : (setCells n m s).cell c = s.cell c :=
  changeCells_cellsOf_other h _ _

theorem commandCluster_cell_other {n c : Nat} (h : c / 12 ≠ n) (s : State) : (commandCluster n s).cell c = s.cell c :=
  changeCells_cellsOf_other h _ _

theorem setCells_cluster_wake {n : Nat} (hn : n < 144) (m : CellMode) (s : State) :
    ((setCells n m s).cluster n).w = (s.cluster n).w := by
  obtain ⟨cells, hset⟩ := setCells_eq n m s
  have hmode := congrArg Cluster.w (State.cluster_updCl_same s hn (fun c => { c with k := { c.k with mode := m } }))
  rw [hset]
  exact hmode

theorem commandCluster_cluster (n m : Nat) (s : State) : (commandCluster n s).cluster m = s.cluster m := by
  obtain ⟨cells, hwords⟩ := commandCluster_eq n s
  rw [hwords]
  rfl

/-! ### What an admission leaves (R148, R150) -/

/-- A state beside the wake of cluster `n`: all but the cluster, the cells, the feed rail, the feed follower and what every command may
change. -/
def State.besideWake (n : Nat) (s : State) : State :=
  { s.apart with cl := s.cl.modify n (fun _ => {}), cells := State.reset.cells, rails := s.rails.modify 0 (fun _ => {}), feed := {} }

theorem besideWake_of_apart {n : Nat} {s t : State} (h : t.apart = s.apart) : t.besideWake n = s.besideWake n := by
  have hview := congrArg (State.besideWake n) h
  exact hview

theorem cluster_of_besideWake {n m : Nat} {s t : State} (h : t.besideWake n = s.besideWake n) (hm : m ≠ n) : t.cluster m = s.cluster m := by
  have hcl := congrArg (fun u : State => u.cl.get m) h
  simp only [State.besideWake, Tab.get_modify_other _ _ _ _ hm.symm] at hcl
  exact hcl

theorem rail_of_besideWake {n r : Nat} {s t : State} (h : t.besideWake n = s.besideWake n) (hr : r ≠ 0) : t.rail r = s.rail r := by
  have hrail := congrArg (fun u : State => u.rails.get r) h
  simp only [State.besideWake, Tab.get_modify_other _ _ _ _ hr.symm] at hrail
  exact hrail

theorem apart_of_besideWake {n : Nat} {s t : State} (h : t.besideWake n = s.besideWake n) :
    t.apart = ({ s with cl := t.cl, cells := t.cells, rails := t.rails, feed := t.feed } : State).apart := by
  have hback := congrArg (fun u : State => { u with cl := t.cl, cells := t.cells, rails := t.rails, feed := t.feed }) h
  exact hback

theorem updCl_besideWake (n : Nat) (f : Cluster → Cluster) (s : State) : (s.updCl n f).besideWake n = s.besideWake n := by
  have hcl : (s.cl.modify n f).modify n (fun _ => ({} : Cluster)) = s.cl.modify n (fun _ => {}) := Tab.modify_modify _ _ _ _
  exact congrArg (fun cl => ({ s.besideWake n with cl } : State)) hcl

theorem setCells_besideWake (n : Nat) (m : CellMode) (s : State) : (setCells n m s).besideWake n = s.besideWake n := by
  obtain ⟨cells, hset⟩ := setCells_eq n m s
  rw [hset]
  exact updCl_besideWake n _ s

theorem commandCluster_besideWake (n : Nat) (s : State) : (commandCluster n s).besideWake n = s.besideWake n := by
  obtain ⟨cells, hwords⟩ := commandCluster_eq n s
  rw [hwords]
  rfl

theorem updRail_besideWake (n : Nat) (f : Rail → Rail) (s : State) : (s.updRail 0 f).besideWake n = s.besideWake n := by
  have hrails : (s.rails.modify 0 f).modify 0 (fun _ => ({} : Rail)) = s.rails.modify 0 (fun _ => {}) := Tab.modify_modify _ _ _ _
  exact congrArg (fun rails => ({ s.besideWake n with rails } : State)) hrails

/-- The feed follower changes its own registers and the feed rail, and may raise an event. -/
theorem feedUpdate_apart (s : State) :
    ∃ feed f, (feedUpdate s).apart = ((({ s with feed } : State).updRail 0 f)).apart := by
  unfold feedUpdate
  dsimp only
  split
  · exact ⟨_, _, raisePeriod_apart _ _ _ _⟩
  · exact ⟨_, _, rfl⟩

theorem feedUpdate_besideWake (n : Nat) (s : State) : (feedUpdate s).besideWake n = s.besideWake n := by
  obtain ⟨feed, f, hfeed⟩ := feedUpdate_apart s
  rw [besideWake_of_apart hfeed, updRail_besideWake]
  rfl

theorem feedUpdate_cluster (n : Nat) (s : State) : (feedUpdate s).cluster n = s.cluster n := by
  obtain ⟨feed, f, hfeed⟩ := feedUpdate_apart s
  exact cluster_of_apart hfeed n

theorem feedUpdate_cell (c : Nat) (s : State) : (feedUpdate s).cell c = s.cell c := by
  obtain ⟨feed, f, hfeed⟩ := feedUpdate_apart s
  exact cell_of_apart hfeed c

/-! ### An admission (R148, R150) -/

/-- The cluster of a wake that is admitted with transition `tr`, from set-point `v0`. -/
def Cluster.admitted (tr : Trans) (v0 : Int) (slope : Nat) (late : Bool) (c : Cluster) : Cluster :=
  { c with
    s := { c.s with trans := some { tr with phase := .wakeRamp } }
    w := { c.w with pending := false, ramping := true, stepped := false, slope, late := late, lateOnly := late }
    v := { c.v with sp := { c.v.sp.hold v0 with every := 250 * 2 ^ slope } } }

/-- A wake that starts at its end voltage is complete. -/
def completeIfStill (n : Nat) (s : State) : State := if (s.cluster n).v.sp.moving then s else wakeComplete n s

theorem admitWake_eq {n : Nat} {s : State} {tr : Trans} (h : (s.cluster n).s.trans = some tr) (slope : Nat) (late : Bool) :
    ∃ v0 v now, admitWake n slope late s = commandCluster n (feedUpdate (completeIfStill n
      ((setCells n .regulate (s.updCl n (Cluster.admitted tr v0 slope late))).updCl n (aimCluster v now)))) := by
  unfold admitWake
  dsimp only
  rw [h]
  exact ⟨_, _, _, rfl⟩

theorem completeIfStill_besideWake (n : Nat) (s : State) : (completeIfStill n s).besideWake n = s.besideWake n := by
  unfold completeIfStill
  split
  · rfl
  · exact updCl_besideWake n _ s

theorem cell_updCl (n c : Nat) (f : Cluster → Cluster) (s : State) : (s.updCl n f).cell c = s.cell c := rfl

theorem completeIfStill_cell (n c : Nat) (s : State) : (completeIfStill n s).cell c = s.cell c := by
  unfold completeIfStill
  split <;> rfl

/-- Completion leaves the wake admitted as it was, and no longer late. -/
theorem completeIfStill_wake {n : Nat} (hn : n < 144) (s : State) :
    ((completeIfStill n s).cluster n).w = (s.cluster n).w ∨
    ((completeIfStill n s).cluster n).w = { (s.cluster n).w with ramping := false, lateOnly := false } := by
  unfold completeIfStill
  split
  · exact .inl rfl
  · exact .inr (congrArg Cluster.w (State.cluster_updCl_same s hn _))

theorem admitWake_besideWake (n slope : Nat) (late : Bool) (s : State) : (admitWake n slope late s).besideWake n = s.besideWake n := by
  cases h : (s.cluster n).s.trans with
  | none => simp [admitWake, h]
  | some tr =>
    obtain ⟨v0, v, now, hadmit⟩ := admitWake_eq h slope late
    rw [hadmit, commandCluster_besideWake, feedUpdate_besideWake, completeIfStill_besideWake, updCl_besideWake, setCells_besideWake,
      updCl_besideWake]

theorem admitWake_cell_other {n c : Nat} (hc : c / 12 ≠ n) (slope : Nat) (late : Bool) (s : State) :
    (admitWake n slope late s).cell c = s.cell c := by
  cases h : (s.cluster n).s.trans with
  | none => simp [admitWake, h]
  | some tr =>
    obtain ⟨v0, v, now, hadmit⟩ := admitWake_eq h slope late
    rw [hadmit, commandCluster_cell_other hc, feedUpdate_cell, completeIfStill_cell, cell_updCl, setCells_cell_other hc, cell_updCl]

/-- A wake admitted waits no more, at its slope; one not late stays so. -/
theorem admitWake_wake {n : Nat} (hn : n < 144) {s : State} {tr : Trans} (h : (s.cluster n).s.trans = some tr) (slope : Nat) :
    ((admitWake n slope false s).cluster n).w.pending = false ∧ ((admitWake n slope false s).cluster n).w.slope = slope ∧
    ((admitWake n slope false s).cluster n).w.lateOnly = false := by
  obtain ⟨v0, v, now, hadmit⟩ := admitWake_eq h slope false
  have hbegun (u : State) (hu : u = setCells n .regulate (s.updCl n (Cluster.admitted tr v0 slope false))) :
      ((u.updCl n (aimCluster v now)).cluster n).w = ((s.cluster n).admitted tr v0 slope false).w := by
    rw [State.cluster_updCl_same u hn, hu]
    exact (setCells_cluster_wake hn _ _).trans (congrArg Cluster.w (State.cluster_updCl_same s hn _))
  rw [hadmit, commandCluster_cluster, feedUpdate_cluster]
  rcases completeIfStill_wake hn _ with hw | hw <;> rw [hw, hbegun _ rfl] <;> exact ⟨rfl, rfl, rfl⟩

/-! ### The end of the self-tests (R144, R215) -/

/-- A cell that fails its self-test, unless it is isolated already, begins its isolation. -/
def Cell.selfTestFailed (x : Cell) : Cell := if x.mode == .isolated then x else { x with isoAt := some .selfTest }

/-- The cells of a cluster whose places fail the self-test. -/
def failedCells (n : Nat) (bad : List Nat) : List Nat := (cellsOf n).filter (fun i => bad.contains (i % 12))

theorem mem_failedCells {n i : Nat} {bad : List Nat} : i ∈ failedCells n bad ↔ i / 12 = n ∧ i % 12 ∈ bad := by
  rw [failedCells, List.mem_filter, mem_cellsOf, List.contains_iff_mem]

theorem nodup_failedCells (n : Nat) (bad : List Nat) : (failedCells n bad).Nodup :=
  (List.nodup_range.map fun _ _ h => Nat.add_left_cancel h).filter _

/-- The isolations of the cells that failed have begun. -/
def selfTestFails (n : Nat) (bad : List Nat) (s : State) : State :=
  changeCells id (fun _ _ => Cell.selfTestFailed) (failedCells n bad) s

theorem selfTestFails_eq_forEach (n : Nat) (bad : List Nat) (s : State) : selfTestFails n bad s = forEach (failedCells n bad)
    (fun i s => if (s.cell i).mode == .isolated then s else s.updCell i (fun x => { x with isoAt := some .selfTest })) s := by
  have hstep (i : Nat) (u : State) : u.updCell i Cell.selfTestFailed
      = if (u.cell i).mode == .isolated then u else u.updCell i (fun x => { x with isoAt := some .selfTest }) := by
    split
    next hiso => exact State.updCell_fixed (if_pos hiso)
    next hon => exact State.updCell_congr (if_neg hon)
  exact congrArg (fun f => forEach (failedCells n bad) f s) (funext fun i => funext (hstep i))

theorem selfTestFails_eq (n : Nat) (bad : List Nat) (s : State) : ∃ cells, selfTestFails n bad s = { s with cells } :=
  ⟨_, changeCells_eq _ _ _ _⟩

theorem selfTestFails_cell_same {n i : Nat} {bad : List Nat} (hi : i < 1728) (hmem : i ∈ failedCells n bad) (s : State) :
    (selfTestFails n bad s).cell i = (s.cell i).selfTestFailed :=
  changeCells_same Function.injective_id (fun _ _ _ => rfl) (nodup_failedCells n bad) hmem hi s

theorem selfTestFails_cell_other {n i : Nat} {bad : List Nat} (hmem : i ∉ failedCells n bad) (s : State) :
    (selfTestFails n bad s).cell i = s.cell i :=
  changeCells_other id _ _ s fun _ hk he => hmem (he ▸ hk)

/-- The cluster of a wake whose self-tests are over. -/
def Cluster.selfTested (tr : Trans) (ok : Bool) (c : Cluster) : Cluster :=
  { c with s := { c.s with trans := some { tr with phase := .unadmitted } }, t := { c.t with selftestFail := !ok } }

theorem sentinelTest_apart (n : Nat) (ok : Bool) (s : State) :
    (sentinelTest n ok s).apart = (s.updCl n (fun c => { c with t := { c.t with selftestFail := !ok } })).apart := by
  unfold sentinelTest
  dsimp only
  split
  · rfl
  · exact raise_apart _ _ _ _

theorem exec_wakeSelfTestEnd {n : ClusterId} {s u : State} {tr : Trans} (htr : (s.cluster n).s.trans = some tr)
    (hph : tr.phase = .selfTest) (hu : reach tr.due s = some u) (bad : List Nat) (ok : Bool) :
    ∃ t, exec (.wakeSelfTestEnd n bad ok) s = .next t ∧
      t.apart = ((selfTestFails n bad u).updCl n (Cluster.selfTested tr ok)).apart := by
  have hself : (tr.phase == .selfTest) = true := by rw [hph]; rfl
  simp only [exec, execWakeSelfTestEnd, htr, hself, if_true, atTime, hu, done]
  refine ⟨_, rfl, (finish_apart _).trans ?_⟩
  have hsentinel := congrArg
    (fun v : State => v.updCl n (fun c => { c with s := { c.s with trans := some { tr with phase := .unadmitted } } }))
    (sentinelTest_apart n ok (selfTestFails n bad u))
  have hboth := State.updCl_updCl (selfTestFails n bad u) n (fun c => { c with t := { c.t with selftestFail := !ok } })
    (fun c => { c with s := { c.s with trans := some { tr with phase := .unadmitted } } })
  rw [selfTestFails_eq_forEach] at hsentinel hboth ⊢
  exact hsentinel.trans (congrArg State.apart hboth)

/-- WAKE_SELFTEST_END at its moment (R144, R215). -/
theorem selfTest_ends {n : ClusterId} {u t : State} {tr : Trans} {bad : List Nat} {ok : Bool}
    (ht : t.apart = ((selfTestFails n bad u).updCl n (Cluster.selfTested tr ok)).apart) :
    (t.cluster n).s.trans = some { tr with phase := .unadmitted } ∧ (t.cluster n).t.selftestFail = !ok ∧
    (∀ k, k < 12 → k ∈ bad → (u.cell (12 * n + k)).mode ≠ .isolated → (t.cell (12 * n + k)).isoAt = some .selfTest) ∧
    (∀ k, k < 12 → k ∉ bad → t.cell (12 * n + k) = u.cell (12 * n + k)) ∧
    (∀ c, c / 12 ≠ n.val → t.cell c = u.cell c) ∧ (∀ m, m ≠ n.val → t.cluster m = u.cluster m) ∧
    t.apart = ({ u with cells := t.cells, cl := t.cl } : State).apart := by
  obtain ⟨cells, hcells⟩ := selfTestFails_eq n bad u
  have hcell (c : Nat) : t.cell c = (selfTestFails n bad u).cell c := cell_of_apart ht c
  have hapart : t.apart = (({ u with cells } : State).updCl n (Cluster.selfTested tr ok)).apart := by rw [ht, hcells]
  have hown : t.cluster n = (u.cluster n).selfTested tr ok :=
    (cluster_of_apart hapart n).trans (State.cluster_updCl_same { u with cells } n.isLt _)
  refine ⟨by rw [hown]; rfl, by rw [hown]; rfl, fun k hk hbad hon => ?_, fun k hk hgood => ?_, fun c hc => ?_, fun m hm => ?_, ?_⟩
  · have hmem : 12 * n.val + k ∈ failedCells n bad := by
      rw [mem_failedCells, Nat.mul_add_mod, Nat.mod_eq_of_lt hk]
      exact ⟨by omega, hbad⟩
    rw [hcell, selfTestFails_cell_same (by omega) hmem, Cell.selfTestFailed, if_neg (by simpa using hon)]
  · refine (hcell _).trans (selfTestFails_cell_other (fun hmem => hgood ?_) u)
    rw [mem_failedCells, Nat.mul_add_mod, Nat.mod_eq_of_lt hk] at hmem
    exact hmem.2
  · exact (hcell c).trans (selfTestFails_cell_other (fun hmem => hc (mem_failedCells.1 hmem).1) u)
  · exact (cluster_of_apart hapart m).trans (State.cluster_updCl_other { u with cells } _ hm)
  · rw [cells_of_apart hapart, cl_of_apart hapart, hapart]
    rfl

/-! ### The admission test (R150) -/

/-- A wake that fits at no slope waits on, its test noted. -/
def testFailed (n : Nat) (s : State) : State :=
  s.updCl n (fun c => { c with w := { c.w with
    testedAt := some s.clk.paceNo, firstTest := some (c.w.firstTest.getD s.clk.paceNo)
    firstStage := if c.w.firstTest.isNone then s.clk.stage else c.w.firstStage
    waited := min 255 (s.clk.stage - (if c.w.firstTest.isNone then s.clk.stage else c.w.firstStage)) } })

theorem exec_wakeAdmission_fits {n : ClusterId} {s : State} {room : Int} {k : Nat} (hturn : testTurn s n = true)
    (honly : (s.cluster n).w.lateOnly = false) (hroom : room = (s.segs.get (n % 12)).head - 250 * (drawsOf s (n % 12) false : Int))
    (hfit : fitSlope (s.cluster n) room = some k) : exec (.wakeAdmission n) s = .next (finish (admitWake n k false s)) := by
  simp only [exec, execWakeAdmission, hturn, honly, ← hroom, hfit, Bool.not_true, Bool.false_eq_true, if_false, done]

theorem exec_wakeAdmission_waits {n : ClusterId} {s : State} {room : Int} (hturn : testTurn s n = true)
    (honly : (s.cluster n).w.lateOnly = false) (hroom : room = (s.segs.get (n % 12)).head - 250 * (drawsOf s (n % 12) false : Int))
    (hfit : fitSlope (s.cluster n) room = none) : exec (.wakeAdmission n) s = .next (finish (testFailed n s)) := by
  simp only [exec, execWakeAdmission, hturn, honly, ← hroom, hfit, Bool.not_true, Bool.false_eq_true, if_false, done]
  rfl

/-! ### The deadline (R151) -/

theorem lateFits_congr {s t : State} (hcl : t.cl = s.cl) (hsegs : t.segs = s.segs) (n : Nat) : lateFits t n = lateFits s n := by
  unfold lateFits drawsOf State.cluster
  rw [hcl, hsegs]

/-- The late test of a wake: it proceeds at the slowest slope, or is from now on tested as a late one. -/
def lateTested (n : Nat) (s : State) : State :=
  if lateFits s n then admitWake n 3 true s else s.updCl n (fun c => { c with w := { c.w with late := true, lateOnly := true } })

theorem lateTested_besideWake (n : Nat) (s : State) : (lateTested n s).besideWake n = s.besideWake n := by
  unfold lateTested
  split
  · exact admitWake_besideWake n 3 true s
  · exact updCl_besideWake n _ s

/-- The WAKE bit is set. -/
def Dl.wakeSet (d : Dl) : Dl := { d with status := d.status ||| BitVec.ofNat 8 (2 ^ 7) }

theorem missed_apart (n : Nat) (data : List Byte) (s : State) :
    (dlSet 7 (raiseMiss 0x0310 n data s)).apart = ({ s with dl := s.dl.wakeSet } : State).apart := by
  have hmiss := congrArg (fun u : State => ({ u with dl := u.dl.wakeSet } : State)) (raiseMiss_apart 0x0310 n data s)
  exact hmiss

theorem exec_wakeDeadlineExpiry {n : ClusterId} {s : State} {tr : Trans} {f : Nat} (htr : (s.cluster n).s.trans = some tr)
    (hph : tr.phase = .unadmitted) (hf : (s.cluster n).w.firstTest = some f) (honly : (s.cluster n).w.lateOnly = false)
    (htest : (s.cluster n).w.testedAt = some s.clk.paceNo) (hdue : f + 16 * (s.cluster n).w.deadline ≤ s.clk.paceNo) :
    ∃ u, u.apart = ({ s with dl := s.dl.wakeSet } : State).apart ∧
      exec (.wakeDeadlineExpiry n) s = .next (finish (lateTested n u)) := by
  have hlate (u : State) : (if lateFits u n then done (admitWake n 3 true u)
      else done (u.updCl n (fun c => { c with w := { c.w with late := true, lateOnly := true } }))) = .next (finish (lateTested n u)) := by
    rw [lateTested]
    split <;> rfl
  simp only [exec, execWakeDeadlineExpiry, htr, hf, hph, honly, htest, hdue, beq_self_eq_true, Bool.not_false, decide_true, Bool.and_self,
    if_true]
  exact ⟨_, missed_apart n _ s, hlate _⟩

/-- WAKE_DEADLINE_EXPIRY (R151). -/
theorem deadline_expires {n : ClusterId} {s u : State} (hu : u.apart = ({ s with dl := s.dl.wakeSet } : State).apart) :
    let t := finish (lateTested n u)
    t.dl.status.getLsbD 7 = true ∧ (∀ m, m ≠ n.val → t.cluster m = s.cluster m) ∧
    t.apart = ({ s with cl := t.cl, cells := t.cells, rails := t.rails, feed := t.feed, dl := t.dl } : State).apart ∧
    (lateFits s n = false → t.apart = (({ s with dl := t.dl } : State).updCl n (fun c => { c with
      w := { c.w with late := true, lateOnly := true } })).apart) := by
  intro t
  have hview : t.besideWake n = ({ s with dl := s.dl.wakeSet } : State).besideWake n :=
    (besideWake_of_apart (finish_apart _)).trans ((lateTested_besideWake n u).trans (besideWake_of_apart hu))
  have hothers (m : Nat) (hm : m ≠ n.val) : t.cluster m = ({ s with dl := s.dl.wakeSet } : State).cluster m :=
    cluster_of_besideWake hview hm
  have hdl : t.dl = s.dl.wakeSet := by
    have hdl := congrArg State.dl hview
    exact hdl
  refine ⟨?_, hothers, ?_, fun hfits => ?_⟩
  · rw [hdl]
    simp [Dl.wakeSet]
  · rw [hdl]
    exact apart_of_besideWake hview
  · have hsegs : u.segs = s.segs := by
      have hsegs := congrArg State.segs hu
      exact hsegs
    have hlate : lateFits u n = false := (lateFits_congr (cl_of_apart hu) hsegs n).trans hfits
    have hwaits : lateTested n u = u.updCl n (fun c => { c with w := { c.w with late := true, lateOnly := true } }) := by
      simp [lateTested, hlate]
    have hback := congrArg (fun v : State => v.updCl n (fun c => { c with w := { c.w with late := true, lateOnly := true } })) hu
    rw [hdl, finish_apart, hwaits]
    exact hback

/-- Settles O26: the end of the self-tests cell by cell, an admission by what it leaves beside the wake, and a deadline by the late test
that follows it. -/
theorem wake : Obligations.Wake := by
  unfold Obligations.Wake
  refine fun n s => ⟨fun bad ok u tr htr hph hu => ?_, fun room hturn honly hroom => ⟨fun k tr hk htr => ?_, fun hnone => ?_⟩,
    fun tr f htr hph hf honly htest hdue => ?_⟩
  · obtain ⟨t, hexec, ht⟩ := exec_wakeSelfTestEnd htr hph hu bad ok
    exact ⟨t, hexec, selfTest_ends ht⟩
  · have hview : (finish (admitWake n k false s)).besideWake n = s.besideWake n :=
      (besideWake_of_apart (finish_apart _)).trans (admitWake_besideWake n k false s)
    obtain ⟨hpending, hslope, hlate⟩ := admitWake_wake n.isLt htr k
    refine ⟨_, exec_wakeAdmission_fits hturn honly hroom hk, ?_⟩
    rw [cluster_of_apart (finish_apart _) n]
    exact ⟨hpending, hslope, hlate, fun m hm => cluster_of_besideWake hview hm,
      fun c hc => (cell_of_apart (finish_apart _) c).trans (admitWake_cell_other hc k false s), fun r hr => rail_of_besideWake hview hr,
      apart_of_besideWake hview⟩
  · exact ⟨_, exec_wakeAdmission_waits hturn honly hroom hnone, finish_apart _⟩
  · obtain ⟨u, hu, hexec⟩ := exec_wakeDeadlineExpiry htr hph hf honly htest hdue
    exact ⟨_, hexec, deadline_expires hu⟩

end Sys2Proof.Machine
end

section
/-! SUPPORT. The warm reset and TEST_RESET: what each part of the warm reset leaves, what its end records, and the debug port after
its reset (R159, R261, R424, R435, R438, R452, R453, R459). -/

namespace Sys2Proof.Machine

/-! ### The parts of two states with the same rest -/

theorem cvy_of_apart {s t : State} (h : t.apart = s.apart) : t.cvy = s.cvy := by
  have hcvy := congrArg State.cvy h; exact hcvy

theorem rech_of_apart {s t : State} (h : t.apart = s.apart) : t.rech = s.rech := by
  have hrech := congrArg State.rech h; exact hrech

theorem table_of_apart {s t : State} (h : t.apart = s.apart) : t.seq.table = s.seq.table := by
  have htable := congrArg (fun u : State => u.seq.table) h; exact htable

theorem fw_of_apart {s t : State} (h : t.apart = s.apart) : t.fw = s.fw := by
  have hfw := congrArg State.fw h; exact hfw

/-! ### What ends with the warm reset (R261, R335, R453) -/

theorem warmCommands_apart (s : State) : (warmCommands s).apart = s.apart :=
  forEach_keeps State.apart _ (fun _ _ => putReply_apart _ _) _ s

/-- The end of a load leaves no load and a RESULT. -/
theorem loadEnd_apart (code : Nat) {s u : State} (hu : u.apart = s.apart) :
    ∃ result, (loadEnd code u).apart = ({ s with fw := { s.fw with load := none, result } } : State).apart := by
  have hback (result : Nat) := congrArg (fun v : State => { v with fw := { v.fw with load := none, result } }) hu
  cases hload : u.fw.load with
  | none =>
    have hkeeps : loadEnd code u = { u with fw := { u.fw with load := none } } := by
      unfold loadEnd
      rw [hload]
      simp only [← hload]
    rw [hkeeps]
    exact ⟨u.fw.result, hback u.fw.result⟩
  | some f =>
    simp only [loadEnd, hload, reply_apart]
    exact ⟨code, hback code⟩

theorem joinAnswered_apart (s : State) : (joinAnswered s).apart = s.apart := by
  unfold joinAnswered
  split
  · exact reply_apart _ _ _ _ s
  · rfl

theorem cvyOut_apart (s : State) : ∃ cvy, (cvyOut s).apart = ({ s with cvy } : State).apart := by
  unfold cvyOut
  split
  · exact ⟨_, rfl⟩
  · exact ⟨_, rfl⟩

/-- A join that fails changes the convoy link unit and the level table. -/
theorem joinFails_apart (s : State) :
    ∃ cvy table, (joinFails s).apart = ({ s with cvy, seq := { s.seq with table } } : State).apart := by
  unfold joinFails
  dsimp only
  split
  · next table _ =>
    obtain ⟨cvy, hout⟩ := cvyOut_apart { joinAnswered s with seq := { (joinAnswered s).seq with table } }
    have hback := congrArg (fun u : State => { u with cvy, seq := { u.seq with table } }) (joinAnswered_apart s)
    exact ⟨cvy, table, hout.trans hback⟩
  · obtain ⟨cvy, hout⟩ := cvyOut_apart (joinAnswered s)
    have hback := congrArg (fun u : State => { u with cvy }) (joinAnswered_apart s)
    exact ⟨cvy, s.seq.table, hout.trans hback⟩

/-- A join that the chip has not loaded yet fails in a warm reset (R335). -/
def warmJoin (s : State) : State := if s.cvy.st == .aligning && decide (s.cvy.step < 4) then joinFails s else s

/-- Only a chip that aligns loses anything by it. -/
theorem warmJoin_apart {s u : State} (hu : u.apart = s.apart) :
    ∃ cvy table, (warmJoin u).apart = ({ s with cvy, seq := { s.seq with table } } : State).apart ∧
      (s.cvy.st ≠ .aligning → cvy = s.cvy ∧ table = s.seq.table) := by
  have hcvy := cvy_of_apart hu
  by_cases hst : s.cvy.st = .aligning ∧ s.cvy.step < 4
  · obtain ⟨cvy, table, hfails⟩ := joinFails_apart u
    have hback := congrArg (fun v : State => { v with cvy, seq := { v.seq with table } }) hu
    have hjoin : warmJoin u = joinFails u := by simp [warmJoin, hcvy, hst]
    exact ⟨cvy, table, (congrArg State.apart hjoin).trans (hfails.trans hback), fun hne => absurd hst.1 hne⟩
  · have hkeeps : warmJoin u = u := by simp [warmJoin, hcvy, hst]
    exact ⟨s.cvy, s.seq.table, (congrArg State.apart hkeeps).trans hu, fun _ => ⟨rfl, rfl⟩⟩

/-! ### The recharacterisation that a warm reset ends (R289, R453) -/

/-- A state beside the clusters: all but the clusters, their cells, what waits to fall in a later cycle and what every command may
change. -/
def State.besideClusters (s : State) : State :=
  { s.apart with clk := { s.clk with soon := [] }, cl := State.reset.cl, cells := State.reset.cells }

theorem besideClusters_of_apart {s t : State} (h : t.apart = s.apart) : t.besideClusters = s.besideClusters := by
  have hview := congrArg State.besideClusters h
  exact hview

theorem besideClusters_of_beside {n : Nat} {s t : State} (h : t.beside n = s.beside n) : t.besideClusters = s.besideClusters := by
  have hview := congrArg State.besideClusters h
  exact hview

theorem startTrans_besideClusters (n : Nat) (g : CState) (d : Nat) (s : State) :
    (startTrans n g d s).besideClusters = s.besideClusters :=
  besideClusters_of_beside (startTrans_beside n g d s)

theorem apart_of_besideClusters {s t : State} (h : t.besideClusters = s.besideClusters) :
    t.apart = ({ s with clk := { s.clk with soon := t.clk.soon }, cl := t.cl, cells := t.cells } : State).apart := by
  have hback := congrArg (fun u : State => { u with clk := { u.clk with soon := t.clk.soon }, cl := t.cl, cells := t.cells }) h
  exact hback

/-- A warm reset isolates again the cells of a cluster that are in a retest (R289). -/
def warmRetests (n : Nat) (s : State) : State :=
  forEach ((List.range 12).filter (fun k => (s.cell (12 * n + k)).retest)) (fun k s => retestFail (12 * n + k) s) s

/-- What a warm reset does to one cluster of a recharacterisation (R289, R453). -/
def warmRecharOne (r : Rechar) (n : Nat) (s : State) : State :=
  let s := warmRetests n s
  let s := if (s.cluster n).s.recharWas && r.step < 4 then startTrans n .active 0 s else s
  s.updCl n (fun c => { c with s := { c.s with inRechar := false, recharWas := false, search := false } })

theorem warmRechar_of_some {s : State} {r : Rechar} (h : s.rech = some r) :
    warmRechar s = reply r.pkt 0x0A03 .deadlineMissed [] { forEach r.clusters (warmRecharOne r) s with rech := none } := by
  unfold warmRechar
  rw [h]
  rfl

theorem warmRetests_besideClusters (n : Nat) (s : State) : (warmRetests n s).besideClusters = s.besideClusters :=
  forEach_keeps State.besideClusters (fun k s => retestFail (12 * n + k) s) (fun _ _ => rfl) _ s

theorem warmRecharOne_besideClusters (r : Rechar) (n : Nat) (s : State) :
    (warmRecharOne r n s).besideClusters = s.besideClusters := by
  unfold warmRecharOne
  dsimp only
  split
  · exact (startTrans_besideClusters n .active 0 _).trans (warmRetests_besideClusters n s)
  · exact warmRetests_besideClusters n s

/-- A recharacterisation that ends changes the clusters, their cells and what falls in a later cycle; where there is none, nothing
changes. -/
theorem warmRechar_apart {s u : State} (hu : u.apart = s.apart) :
    ∃ soon cl cells, (warmRechar u).apart = ({ s with clk := { s.clk with soon }, cl, cells, rech := none } : State).apart ∧
      (s.rech = none → soon = s.clk.soon ∧ cl = s.cl ∧ cells = s.cells) := by
  have hrech := rech_of_apart hu
  cases hr : s.rech with
  | none =>
    have hkeeps : warmRechar u = u := by simp [warmRechar, hrech, hr]
    exact ⟨s.clk.soon, s.cl, s.cells, by rw [hkeeps, hu, ← hr], fun _ => ⟨rfl, rfl, rfl⟩⟩
  | some r =>
    have hview := forEach_keeps State.besideClusters _ (warmRecharOne_besideClusters r) r.clusters u
    have hended := apart_of_besideClusters (hview.trans (besideClusters_of_apart hu))
    have hback := congrArg (fun v : State => { v with rech := none }) hended
    rw [warmRechar_of_some (hrech.trans hr), reply_apart]
    exact ⟨_, _, _, hback, fun hnone => nomatch hnone⟩

/-! ### The caravans that a warm reset frees (R261) -/

theorem abortCommitted_apart (k cause : Nat) (fail : Option (Nat × Nat × Status)) (s : State) :
    (abortCommitted k cause fail s).apart = s.apart := by
  unfold abortCommitted
  dsimp only
  split
  · exact putReply_apart _ _
  · rfl

theorem caravanWarm_apart (s : State) : (caravanWarm s).apart = s.apart := by
  unfold caravanWarm
  change (forEach (List.range 4) _ s).apart = s.apart
  refine forEach_keeps State.apart _ (fun k u => ?_) _ s
  dsimp only
  split
  · exact raise_apart _ _ _ u
  · exact abortCommitted_apart k 8 none u
  · rfl

theorem caravanWarm_free (s : State) {k : Nat} (hk : k < 4) : ((caravanWarm s).cvn.recs.get k).st = .free :=
  congrArg CvnRec.st (Tab.get_replicate 4 ({} : CvnRec) k hk)

/-- While firmware makes no progress no failed packet is rejected (R383), so the end of a command leaves the caravans. -/
theorem finish_cvn_of_held {s : State} (h : s.fwRuns = false) : (finish s).cvn = s.cvn := by
  have hreject (n : Nat) : rejectFailed n s = s := by
    cases n with
    | zero => rfl
    | succ n => simp [rejectFailed, h]
  unfold finish
  rw [hreject]
  dsimp only
  split
  · exact boostCheck_cvn s
  · rw [enterEvents_cvn, boostCheck_cvn]

/-! ### The start of a warm reset -/

/-- Of what runs, a warm reset ends the commands taken, a load, a join and a recharacterisation (R335, R453). -/
def warmEnded (s : State) : State := warmRechar (warmJoin (loadEnd 5 (warmCommands s)))

/-- The engine starts its slots anew, the debug port is locked, its operation is dropped, and the reset is low (R159, R438). -/
def warmHeld (s : State) : State :=
  let s := (dbgLock (engineWarm s)).updDbg (fun d => { d with busy := false, submit := false })
  { s with sys := { s.sys with warmLow := true } }

theorem exec_warmResetStart {s : State} (hi : s.sys.island = .up) (hw : s.sys.warmLow = false) :
    exec .warmResetStart s = .next (finish (warmHeld (caravanWarm (warmEnded s)))) := by
  rw [exec, execWarmResetStart, if_neg (by simp [hi, hw])]
  simp only [warmHeld, warmEnded, warmJoin, done]

/-- What the warm reset ends, part by part. -/
theorem warmEnded_apart (s : State) :
    ∃ soon cl cells cvy table result, (warmEnded s).apart = ({ s with
        clk := { s.clk with soon }, cl, cells, cvy, rech := none, seq := { s.seq with table }
        fw := { s.fw with load := none, result } } : State).apart ∧
      (s.rech = none → soon = s.clk.soon ∧ cl = s.cl ∧ cells = s.cells) ∧
      (s.cvy.st ≠ .aligning → cvy = s.cvy ∧ table = s.seq.table) := by
  obtain ⟨result, hload⟩ := loadEnd_apart 5 (warmCommands_apart s)
  obtain ⟨cvy, table, hjoin, haligns⟩ := warmJoin_apart hload
  obtain ⟨soon, cl, cells, hrechar, hnone⟩ := warmRechar_apart hjoin
  exact ⟨soon, cl, cells, cvy, table, result, hrechar, hnone, haligns⟩

theorem warmHeld_apart {s u : State} (hu : u.apart = s.apart) : (warmHeld u).apart = ({ s with
    sys := { s.sys with warmLow := true }, dbg := (warmHeld u).dbg
    eng := { s.eng with inputs := [], stalls := [], slots := (warmHeld u).eng.slots } } : State).apart := by
  have hback := congrArg (fun v : State => { v with
    sys := { v.sys with warmLow := true }, dbg := (warmHeld u).dbg
    eng := { v.eng with inputs := [], stalls := [], slots := (warmHeld u).eng.slots } }) hu
  exact hback

/-- The end of a command leaves whether firmware makes progress. -/
theorem finish_fwRuns (s : State) : (finish s).fwRuns = s.fwRuns := by simp [State.fwRuns]

theorem warmHeld_fwRuns (s : State) : (warmHeld s).fwRuns = false := Bool.and_false _

/-! ### The end of a warm reset, and TEST_RESET -/

theorem exec_warmResetEnd {s : State} (hw : s.sys.warmLow = true) (hbell : s.sys.heldDoorbell = none) (hgo : s.sys.heldGo = false) :
    exec .warmResetEnd s = .next (finish (noteSet 0x44 1 (coreRestart { s with sys := { s.sys with
      warmLow := false, warm := true, warmCount := min 255 (s.sys.warmCount + 1), resetStage := BitVec.ofNat 32 s.clk.stage } }))) := by
  simp [exec, execWarmResetEnd, hw, hbell, hgo, done]

theorem exec_testReset (s : State) : exec .testReset s = .next (finish ((dbgLock s).updDbg (fun d => { d with
    busy := false, busyLost := false, submit := false, rdata := 0, status := 0, lastOp := 0, response := Tab.replicate 8 0 }))) :=
  rfl

/-- Settles O15: the start of a warm reset by way of what it ends and holds, its end and TEST_RESET by the states they leave. -/
theorem warmAndTestReset : Obligations.WarmAndTestReset := by
  unfold Obligations.WarmAndTestReset
  refine fun s => ⟨fun hi hw => ?_, fun hw hbell hgo => ⟨_, exec_warmResetEnd hw hbell hgo, finish_apart _⟩,
    ⟨_, exec_testReset s, finish_apart _⟩⟩
  obtain ⟨soon, cl, cells, cvy, table, result, hended, hnone, haligns⟩ := warmEnded_apart s
  generalize hu : caravanWarm (warmEnded s) = u
  have hfree (k : Nat) (hk : k < 4) : (u.cvn.recs.get k).st = .free := hu ▸ caravanWarm_free _ hk
  have hheld := warmHeld_apart (hu ▸ (caravanWarm_apart _).trans hended)
  have ht := (finish_apart (warmHeld u)).trans hheld
  have hclk : (finish (warmHeld u)).clk = { s.clk with soon } := clk_of_apart ht
  have hcl : (finish (warmHeld u)).cl = cl := cl_of_apart ht
  have hcells : (finish (warmHeld u)).cells = cells := cells_of_apart ht
  have hcvy : (finish (warmHeld u)).cvy = cvy := cvy_of_apart ht
  have htable : (finish (warmHeld u)).seq.table = table := table_of_apart ht
  have hfw : (finish (warmHeld u)).fw = { s.fw with load := none, result } := fw_of_apart ht
  refine ⟨finish (warmHeld u), hu ▸ exec_warmResetStart hi hw, ?_⟩
  rw [hclk, hcl, hcells, hcvy, htable, hfw, finish_eng, finish_dbg, finish_fwRuns, finish_cvn_of_held (warmHeld_fwRuns u)]
  refine ⟨ht, fun hrech => ?_, haligns, warmHeld_fwRuns u, rfl, rfl, hfree⟩
  obtain ⟨rfl, hcl, hcells⟩ := hnone hrech
  exact ⟨hcl, hcells, rfl⟩

end Sys2Proof.Machine
end

section
/-! SUPPORT. A conversion result: what a converter samples at its positions, what its coefficients make of a code, and what the
writing of a result leaves (R176, R177, R181, R184, R185, R188, R194). -/

namespace Sys2Proof

theorem listModify_id {α : Type} : ∀ (l : List α) (i : Nat), listModify id l i = l
  | [], _ => rfl
  | _ :: _, 0 => rfl
  | _ :: l, i + 1 => congrArg (_ :: ·) (listModify_id l i)

end Sys2Proof

namespace Sys2Proof.Machine

/-! ### Changes of one channel and of one converter -/

/-- A change that leaves the channel it reaches leaves the state. -/
theorem State.updChan_of_eq {s : State} {c : Nat} {f : Chan → Chan} (h : f (s.chans.get c) = s.chans.get c) : s.updChan c f = s := by
  have hid : s.chans.modify c f = s.chans := (Tab.modify_congr (g := id) h).trans (Tab.eq_of_val (listModify_id s.chans.val c))
  exact congrArg (fun chans => ({ s with chans } : State)) hid

theorem State.updChan_congr {s : State} {c : Nat} {f g : Chan → Chan} (h : f (s.chans.get c) = g (s.chans.get c)) :
    s.updChan c f = s.updChan c g :=
  congrArg (fun chans => ({ s with chans } : State)) (Tab.modify_congr h)

theorem State.updChan_updChan (s : State) (c : Nat) (f g : Chan → Chan) :
    (s.updChan c f).updChan c g = s.updChan c (fun k => g (f k)) :=
  congrArg (fun chans => ({ s with chans } : State)) (Tab.modify_modify s.chans c f g)

theorem State.updConv_congr {s : State} {u : Nat} {f g : Conv → Conv} (h : f (s.conv u) = g (s.conv u)) :
    s.updConv u f = s.updConv u g :=
  congrArg (fun convs => ({ s with convs } : State)) (Tab.modify_congr h)

theorem State.updConv_updConv (s : State) (u : Nat) (f g : Conv → Conv) :
    (s.updConv u f).updConv u g = s.updConv u (fun v => g (f v)) :=
  congrArg (fun convs => ({ s with convs } : State)) (Tab.modify_modify s.convs u f g)

theorem convs_of_apart {s t : State} (h : t.apart = s.apart) : t.convs = s.convs := by
  have hconvs := congrArg State.convs h; exact hconvs

theorem conv_of_apart {s t : State} (h : t.apart = s.apart) (u : Nat) : t.conv u = s.conv u := by
  rw [State.conv, convs_of_apart h, State.conv]

theorem conv_of_still {s t : State} (h : t.still = s.still) (u : Nat) : t.conv u = s.conv u := by
  have hconvs := congrArg State.convs h
  exact congrArg (fun l : Tab 16 Conv => l.get u) hconvs

theorem chans_of_still {s t : State} (h : t.still = s.still) : t.chans = s.chans := by
  have hchans := congrArg State.chans h; exact hchans

/-! ### A timed command whose moment is reached -/

theorem atTime_of_reach {due : Nat} {s u : State} (h : reach due s = some u) (f : State → State) :
    atTime due f s = .next (finish (f u)) := by
  rw [atTime, h]
  rfl

/-! ### What a converter keeps as it passes its positions (R184, R185, R188) -/

/-- What the positions leave of a converter for its results: its coefficients and its last urgent result. -/
def Conv.kept (v : Conv) : Int × Nat × Option (Nat × Nat × Nat) := (v.ofs, v.gain, v.urgRes)

theorem Conv.take_kept (s : State) (at_ : Nat) (slot : Option Nat) (room : Bool) (v : Conv) : (v.take s at_ slot room).kept = v.kept := by
  have hcollect : (v.collect at_).kept = v.kept := by unfold Conv.collect; split <;> rfl
  unfold Conv.take
  split
  case h_1 | h_2 | h_4 => rfl
  case h_3 => split <;> rfl
  case h_5 =>
    split
    · exact hcollect
    · rfl

theorem Conv.next_kept (s : State) (v : Conv) : (v.next s).kept = v.kept := by
  unfold Conv.next
  dsimp only
  split
  · rfl
  · exact Conv.take_kept _ _ _ _ _

theorem convTo_kept {u : Nat} (hu : u < 16) (t : Nat) (s : State) : ((convTo u t s).conv u).kept = (s.conv u).kept := by
  unfold convTo
  split
  · rfl
  · rw [State.conv_updConv_same s _ hu]
    exact List.foldlRecOn _ _ (motive := fun v => Conv.kept v = (s.conv u).kept) rfl (fun v hv _ _ => (v.next_kept s).trans hv)

theorem seekSample_kept (s : State) : ∀ (fuel : Nat) (v : Conv), (seekSample s fuel v).kept = v.kept
  | 0, _ => rfl
  | fuel + 1, v => by
    unfold seekSample
    split
    · rfl
    · exact (seekSample_kept s fuel _).trans (v.next_kept s)

/-- The converter whose next sample has been found has its coefficients and its last urgent result still. -/
theorem ahead_kept {u : Nat} (hu : u < 16) (s : State) : (Conv.ahead s u).kept = (s.conv u).kept := by
  unfold Conv.ahead
  dsimp only
  split
  · exact (seekSample_kept s 131 _).trans (convTo_kept hu s.clk.now s)
  · exact convTo_kept hu s.clk.now s

theorem corrected_of_kept {v w : Conv} (h : v.kept = w.kept) (d : Nat) : corrected v d = corrected w d := by
  simp only [Conv.kept, Prod.mk.injEq] at h
  obtain ⟨hofs, hgain, -⟩ := h
  simp only [corrected, hofs, hgain]

theorem urgRes_of_kept {v w : Conv} (h : v.kept = w.kept) : v.urgRes = w.urgRes := by
  simp only [Conv.kept, Prod.mk.injEq] at h
  exact h.2.2

/-! ### A result in its channel (R177, R181, R185, R194) -/

/-- A channel to which a result is written (R181, R185). -/
def Chan.received (u : Int) (urgent : Bool) (k : Chan) : Chan := { k with value := u, fresh := true, urgent, age := 0, seen := true }

/-- RUN of a channel whose window has compared a result. -/
def Chan.runAfter (c : Nat) (u : Int) (k : Chan) : Nat :=
  if !k.en then k.run else if inWindow c k u then 0 else min 15 (k.run + 1)

/-- A channel whose window has compared a result: its run, and its alarm, set by a run that is long enough (R194). -/
def Chan.compared (c : Nat) (u : Int) (k : Chan) : Chan :=
  { k with run := k.runAfter c u, alarm := k.alarm || (k.en && !inWindow c k u && decide (max 1 k.n ≤ k.runAfter c u)) }

theorem Chan.compared_of_off {k : Chan} (h : k.en = false) (c : Nat) (u : Int) : k.compared c u = k := by
  have hrun : k.runAfter c u = k.run := by simp [Chan.runAfter, h]
  have halarm : (k.alarm || (k.en && !inWindow c k u && decide (max 1 k.n ≤ k.run))) = k.alarm := by simp [h]
  rw [Chan.compared, hrun, halarm]

/-- The comparison changes the channel alone, beside the event that it may raise. -/
theorem windowCheck_apart (c : Nat) (u : Int) (s : State) : (windowCheck c u s).apart = (s.updChan c (Chan.compared c u)).apart := by
  unfold windowCheck
  dsimp only
  split
  case isTrue hoff => rw [State.updChan_of_eq (Chan.compared_of_off (by simpa using hoff) c u)]
  case isFalse hon =>
    split
    case isTrue hin =>
      rw [State.updChan_congr]
      simp_all [Chan.compared, Chan.runAfter]
    case isFalse hout =>
      split
      case isTrue halarm =>
        rw [raisePeriod_apart, noteSet_apart, State.updChan_updChan, State.updChan_congr]
        simp_all [Chan.compared, Chan.runAfter]
      case isFalse hquiet =>
        rw [State.updChan_congr]
        simp_all [Chan.compared, Chan.runAfter]

/-- The result of an urgent conversion goes into the register of its converter too (R185). -/
def urgentNoted (c : Nat) (u : Int) (urgent : Bool) (s : State) : State :=
  if urgent then s.updConv (c % 16) (fun v => { v with urgRes := some (c, code2 16 u, s.clk.now) }) else s

@[simp] theorem urgentNoted_chans (c : Nat) (u : Int) (urgent : Bool) (s : State) : (urgentNoted c u urgent s).chans = s.chans := by
  cases urgent <;> rfl

/-- A result stands in its channel, whose window has compared it. -/
def resultStored (c : Nat) (u : Int) (urgent : Bool) (s : State) : State :=
  (urgentNoted c u urgent s).updChan c (fun k => (k.received u urgent).compared c u)

theorem phaseSample_awayFromPhases (i : Nat) (u : Int) (s : State) : (phaseSample i u s).awayFromPhases = s.awayFromPhases := by
  unfold phaseSample
  dsimp only
  simp only [apply_ite State.awayFromPhases, soonIn_awayFromPhases, updPh_awayFromPhases, ite_self]

theorem senseSample_awayFromPhases (c : Nat) (u : Int) (s : State) : (senseSample c u s).awayFromPhases = s.awayFromPhases := by
  unfold senseSample
  split
  · rfl
  · exact forEach_keeps State.awayFromPhases _ (fun _ _ => updGrp_awayFromPhases _ _ _) _ s

/-- Beside its channel and converter a result changes the phases and their groups alone. -/
theorem writeResult_awayFromPhases (c : Nat) (u : Int) (urgent : Bool) (s : State) :
    (writeResult c u urgent s).awayFromPhases = (resultStored c u urgent s).awayFromPhases := by
  have hnoted : writeResult c u urgent s
      = if 144 ≤ c && c ≤ 271 then
          phaseSample (c - 144) u (senseSample c u (windowCheck c u ((urgentNoted c u urgent s).updChan c (Chan.received u urgent))))
        else senseSample c u (windowCheck c u ((urgentNoted c u urgent s).updChan c (Chan.received u urgent))) := by
    cases urgent <;> rfl
  have hstored : (windowCheck c u ((urgentNoted c u urgent s).updChan c (Chan.received u urgent))).awayFromPhases
      = (resultStored c u urgent s).awayFromPhases := by
    rw [awayFromPhases_of_apart (windowCheck_apart c u _), State.updChan_updChan, resultStored]
  rw [hnoted, apply_ite State.awayFromPhases, phaseSample_awayFromPhases, senseSample_awayFromPhases, ite_self, hstored]

theorem chans_of_awayFromPhases {s t : State} (h : t.awayFromPhases = s.awayFromPhases) : t.chans = s.chans := by
  have hchans := congrArg State.chans h; exact hchans

theorem convs_of_awayFromPhases {s t : State} (h : t.awayFromPhases = s.awayFromPhases) : t.convs = s.convs := by
  have hconvs := congrArg State.convs h; exact hconvs

theorem resultStored_chan_same {c : Nat} (hc : c < 320) (u : Int) (urgent : Bool) (s : State) :
    (resultStored c u urgent s).chans.get c = ((s.chans.get c).received u urgent).compared c u := by
  rw [resultStored, State.updChan, urgentNoted_chans]
  exact Tab.get_modify_same _ _ _ hc

theorem resultStored_chan_other {c k : Nat} (hk : k ≠ c) (u : Int) (urgent : Bool) (s : State) :
    (resultStored c u urgent s).chans.get k = s.chans.get k := by
  rw [resultStored, State.updChan, urgentNoted_chans]
  exact Tab.get_modify_other _ _ _ _ hk.symm

theorem resultStored_conv_same (c : Nat) (u : Int) (urgent : Bool) (s : State) :
    (resultStored c u urgent s).conv (c % 16) = { s.conv (c % 16) with
      urgRes := if urgent then some (c, code2 16 u, s.clk.now) else (s.conv (c % 16)).urgRes } := by
  cases urgent
  · rfl
  · exact State.conv_updConv_same s _ (Nat.mod_lt c (by decide))

theorem resultStored_conv_other {c v : Nat} (hv : v ≠ c % 16) (u : Int) (urgent : Bool) (s : State) :
    (resultStored c u urgent s).conv v = s.conv v := by
  cases urgent
  · rfl
  · exact State.conv_updConv_other s _ hv.symm

/-! ### ADC_RESULT (R176, R181, R184, R185, R188) -/

/-- The oldest sample of a converter is taken, and its result stored. -/
def sampleTaken (c d : Nat) (urgent : Bool) (rest : List AdcSample) (s : State) : State :=
  resultStored c (unitOf c (corrected (s.conv (c % 16)) d)) urgent (s.updConv (c % 16) (fun v => { v with pipe := rest }))

theorem sampleTaken_chan_same {c : Nat} (hc : c < 320) (d : Nat) (urgent : Bool) (rest : List AdcSample) (s : State) :
    (sampleTaken c d urgent rest s).chans.get c = ((s.chans.get c).received (unitOf c (corrected (s.conv (c % 16)) d)) urgent).compared c
      (unitOf c (corrected (s.conv (c % 16)) d)) :=
  resultStored_chan_same hc _ _ _

theorem sampleTaken_chan_other {c k : Nat} (hk : k ≠ c) (d : Nat) (urgent : Bool) (rest : List AdcSample) (s : State) :
    (sampleTaken c d urgent rest s).chans.get k = s.chans.get k :=
  resultStored_chan_other hk _ _ _

theorem sampleTaken_conv_same (c d : Nat) (urgent : Bool) (rest : List AdcSample) (s : State) :
    (sampleTaken c d urgent rest s).conv (c % 16) = { s.conv (c % 16) with
      pipe := rest
      urgRes := if urgent then some (c, code2 16 (unitOf c (corrected (s.conv (c % 16)) d)), s.clk.now)
        else (s.conv (c % 16)).urgRes } := by
  rw [sampleTaken, resultStored_conv_same, State.conv_updConv_same _ _ (Nat.mod_lt c (by decide))]
  rfl

theorem sampleTaken_conv_other {c v : Nat} (hv : v ≠ c % 16) (d : Nat) (urgent : Bool) (rest : List AdcSample) (s : State) :
    (sampleTaken c d urgent rest s).conv v = s.conv v := by
  rw [sampleTaken, resultStored_conv_other hv, State.conv_updConv_other _ _ hv.symm]

/-- It changes the channels and the converters alone. -/
theorem sampleTaken_eq (c d : Nat) (urgent : Bool) (rest : List AdcSample) (s : State) : sampleTaken c d urgent rest s
    = { s with chans := (sampleTaken c d urgent rest s).chans, convs := (sampleTaken c d urgent rest s).convs } := by
  cases urgent <;> rfl

theorem takeResult_awayFromPhases {c d : Nat} {urgent : Bool} {e : AdcSample} {rest : List AdcSample} {s : State}
    (hp : (s.conv (c % 16)).pipe = e :: rest) (hc : e.chan = c) (hu : e.urgent = urgent) :
    (takeResult (c % 16) d s).awayFromPhases = (sampleTaken c d urgent rest s).awayFromPhases := by
  unfold takeResult
  rw [hp]
  dsimp only
  rw [hc, hu]
  exact writeResult_awayFromPhases _ _ _ _

theorem exec_adcResult {c : ChanId} {d : Nat} {urgent : Bool} {s u : State} {e : AdcSample} {rest : List AdcSample} (hd : d ≤ 4095)
    (hp : (Conv.ahead s (c % 16)).pipe = e :: rest) (hc : e.chan = c.val) (hu : e.urgent = urgent)
    (hr : reach e.due (s.updConv (c % 16) (fun _ => Conv.ahead s (c % 16))) = some u) :
    exec (.adcResult c d urgent) s = .next (finish (takeResult (c % 16) d u)) := by
  have hrange : ¬ 4095 < d := Nat.not_lt.2 hd
  have hgo : (e.chan != c.val || e.urgent != urgent || decide (4095 < d)) = false := by simp [hc, hu, hrange]
  simp only [exec, execAdcResult, hp, hgo, Bool.false_eq_true, if_false, atTime_of_reach hr]

theorem corrected_eq (v : Conv) (d : Nat) : corrected v d = ((16 * (d : Int) - v.ofs) * v.gain + 8192) / 16384 := rfl

/-- The division that corrects a code rounds to the nearest integer, ties up (R188). -/
theorem corrected_nearest (v : Conv) (d : Nat) :
    16384 * corrected v d ≤ (16 * (d : Int) - v.ofs) * v.gain + 8192 ∧
      (16 * (d : Int) - v.ofs) * v.gain - 8192 < 16384 * corrected v d := by
  rw [corrected_eq]
  omega

/-- What a position samples, by what waits for it (R184). -/
theorem take_cases (s : State) (at_ : Nat) (v : Conv) (room : Bool) :
    (∀ c slot, v.carry = some c → v.take s at_ slot room = { v.sample at_ c false with carry := slot }) ∧
    (∀ c rest, v.carry = none → v.urgQ = c :: rest →
      v.take s at_ none room = { v.sample at_ c true with urgQ := rest } ∧
      (∀ x, v.take s at_ (some x) true = { v.sample at_ c true with urgQ := rest, carry := some x } ∧
        v.take s at_ (some x) false = v.sample at_ x false)) ∧
    (∀ x, v.carry = none → v.urgQ = [] → v.take s at_ (some x) room = v.sample at_ x false) := by
  refine ⟨fun c slot hcarry => ?_, fun c rest hcarry hq => ⟨?_, fun x => ⟨?_, ?_⟩⟩, fun x hcarry hq => ?_⟩
  · simp only [Conv.take, hcarry]
  · simp only [Conv.take, hcarry, hq]
  · simp only [Conv.take, hcarry, hq, if_true]
  · simp only [Conv.take, hcarry, hq, Bool.false_eq_true, if_false]
  · simp only [Conv.take, hcarry, hq]

/-- Settles O32: the result by the sample that is taken and stored at its moment, up to which the channels and converters stay; the
rounding and the choice at a position by the lemmas above. -/
theorem adcResult : Obligations.AdcResult := by
  unfold Obligations.AdcResult
  refine ⟨?_, corrected_nearest, take_cases⟩
  intro c d urgent s u e rest hc hd hp hchan hurgent hreach
  have hlt : c.val % 16 < 16 := Nat.mod_lt c.val (by decide)
  have hstill := reach_still hreach
  have hown : u.conv (c.val % 16) = Conv.ahead s (c.val % 16) :=
    (conv_of_still hstill _).trans (State.conv_updConv_same s _ hlt)
  have hother (v : Nat) (hv : v ≠ c.val % 16) : u.conv v = s.conv v :=
    (conv_of_still hstill v).trans (State.conv_updConv_other s _ hv.symm)
  have hchans : u.chans = s.chans := (chans_of_still hstill).trans rfl
  have hkept := ahead_kept hlt s
  have hview := (awayFromPhases_of_apart (finish_apart _)).trans
    (takeResult_awayFromPhases (d := d) ((congrArg Conv.pipe hown).trans hp) hchan hurgent)
  refine ⟨_, exec_adcResult hd hp hchan hurgent hreach, ?_⟩
  generalize finish (takeResult (c.val % 16) d u) = t at hview ⊢
  have htaken : t.chans = (sampleTaken c d urgent rest u).chans := chans_of_awayFromPhases hview
  have hconvs : t.convs = (sampleTaken c d urgent rest u).convs := convs_of_awayFromPhases hview
  have hself := sampleTaken_chan_same c.isLt d urgent rest u
  have hone := sampleTaken_conv_same c d urgent rest u
  rw [hown, corrected_of_kept hkept, hchans] at hself
  rw [hown, corrected_of_kept hkept, urgRes_of_kept hkept] at hone
  simp only [State.conv, htaken, hconvs] at hone ⊢
  rw [hself, hone]
  refine ⟨rfl, rfl, rfl, rfl, rfl, rfl, fun k hk => ?_, rfl, rfl, fun v hv => ?_, ?_⟩
  · rw [sampleTaken_chan_other hk, hchans]
  · have hv : v.val ≠ c.val % 16 := fun h => hv (Fin.ext h)
    exact (sampleTaken_conv_other hv d urgent rest u).trans (hother v hv)
  · refine (apart_of_awayFromPhases hview).trans ?_
    rw [sampleTaken_eq]

end Sys2Proof.Machine
end

section
/-! SUPPORT. The calibration of the converters: the end of a collection, the spare stage, a calibration that ends, and the two
commands (R188 to R193). -/

namespace Sys2Proof.Machine

/-! ### A converter whose calibration is over (R189, R190) -/

/-- A converter that no longer calibrates. -/
def Conv.calOver (v : Conv) : Conv := { v with calBusy := false, calAccept := false, calEnd := none }

@[simp] theorem calFinish_convs (u result : Nat) (s : State) : (calFinish u result s).convs = s.convs.modify u Conv.calOver := by
  unfold calFinish
  dsimp only
  split
  · rfl
  · split
    · exact (convs_of_apart (reply_apart _ _ _ _ _)).trans rfl
    · rfl

theorem calFinish_conv_same {u : Nat} (hu : u < 16) (result : Nat) (s : State) :
    (calFinish u result s).conv u = (s.conv u).calOver := by
  rw [State.conv, calFinish_convs]
  exact Tab.get_modify_same _ _ _ hu

theorem calFinish_conv_other {u x : Nat} (hx : x ≠ u) (result : Nat) (s : State) : (calFinish u result s).conv x = s.conv x := by
  rw [State.conv, calFinish_convs]
  exact Tab.get_modify_other _ _ _ _ hx.symm

/-- A state beside its calibrations: all but the converters, the calibrations in progress, and what every command may change. -/
def State.besideCals (s : State) : State := { s.apart with convs := State.reset.convs, adc := { s.adc with cals := [] } }

theorem besideCals_of_apart {s t : State} (h : t.apart = s.apart) : t.besideCals = s.besideCals := by
  have hview := congrArg State.besideCals h
  exact hview

theorem apart_of_besideCals {s t : State} (h : t.besideCals = s.besideCals) :
    t.apart = ({ s with convs := t.convs, adc := { s.adc with cals := t.adc.cals } } : State).apart := by
  have hback := congrArg (fun v : State => ({ v with convs := t.convs, adc := { v.adc with cals := t.adc.cals } } : State)) h
  exact hback

theorem calFinish_besideCals (u result : Nat) (s : State) : (calFinish u result s).besideCals = s.besideCals := by
  unfold calFinish
  dsimp only
  split
  · rfl
  · split
    · exact (besideCals_of_apart (reply_apart _ _ _ _ _)).trans rfl
    · rfl

theorem mailboxReply_fresh (r : Reply) (s : State) : (mailboxReply r s).evt.fresh = s.evt.fresh := by
  unfold mailboxReply
  dsimp only
  split <;> rfl

theorem reply_fresh (p : Packet) (op : Nat) (st : Status) (d : List Byte) (s : State) :
    (reply p op st d s).evt.fresh = s.evt.fresh := by
  unfold reply putReply
  split
  · exact mailboxReply_fresh _ s
  · split <;> rfl

theorem calFinish_fresh (u result : Nat) (s : State) : (calFinish u result s).evt.fresh = s.evt.fresh := by
  unfold calFinish
  dsimp only
  split
  · rfl
  · split
    · exact reply_fresh _ _ _ _ _
    · rfl

/-! ### A complete collection (R188, R189, R191) -/

theorem exec_adcSyscalDone {u : ConvId} {s w : State} {at_ : Nat} (he : ((convTo u s.clk.now s).conv u).calEnd = some at_)
    (hr : reach at_ (convTo u s.clk.now s) = some w) (hb : ((convTo u s.clk.now s).conv u).calBusy = true)
    (ha : ((convTo u s.clk.now s).conv u).calAccept = false) (sz sr : Nat) :
    exec (.adcSyscalDone u sz sr) s = .next (finish (sysCalJudge u sz sr w)) := by
  simp only [exec, execAdcSyscalDone, he, hb, ha, Bool.not_false, Bool.and_self, if_true, atTime_of_reach hr]

theorem exec_adcBgBlockDone {u : ConvId} {s w : State} {at_ : Nat} (he : ((convTo u s.clk.now s).conv u).calEnd = some at_)
    (hr : reach at_ (convTo u s.clk.now s) = some w) (hm : ((convTo u s.clk.now s).conv u).calMode = true) (sz sr : Nat) :
    exec (.adcBgBlockDone u sz sr) s = .next (finish (blockJudge u sz sr w)) := by
  simp only [exec, execAdcBgBlockDone, he, hm, if_true, atTime_of_reach hr]

theorem sysCalJudge_accepted {sz sr : Nat} (ho : ofsOk (ofsEstimate sz) = true) (hg : gainOk (gainEst sz sr) = true) (u : Nat)
    (s : State) : sysCalJudge u sz sr s = s.updConv u (fun v => { v with
      coefNext := some (ofsEstimate sz, (gainEst sz sr).getD 0), calAccept := true, calEnd := none }) := by
  simp [sysCalJudge, ho, hg]

theorem sysCalJudge_ofsRejected {sz : Nat} (ho : ofsOk (ofsEstimate sz) = false) (u sr : Nat) (s : State) :
    sysCalJudge u sz sr s = calFinish u 1 (raise 0x0A12 u (adcCalData 1 sz sr) s) := by
  simp [sysCalJudge, ho]

/-- A converter that finishes with an event reports it at the end of the cycle. -/
theorem raised_calFinish {s : State} (h : s.evt.fresh = []) (u result code source : Nat) (data : List Byte) :
    Raised code source data (finish (calFinish u result (raise code source data s))) := by
  refine ⟨_, { code, source, stage := s.clk.stage, data, moment := s.clk.now }, ?_, rfl, rfl, rfl, rfl⟩
  rw [calFinish_fresh, raise_of_no_fresh h]
  exact List.mem_singleton_self _

/-- Such a converter calibrates no longer, and every other is as it was. -/
theorem finishedWithEvent_frame {u : Nat} (hu : u < 16) (result code : Nat) (data : List Byte) (s : State) :
    (finish (calFinish u result (raise code u data s))).conv u = (s.conv u).calOver ∧
    (∀ x, x ≠ u → (finish (calFinish u result (raise code u data s))).conv x = s.conv x) ∧
    (finish (calFinish u result (raise code u data s))).besideCals = s.besideCals := by
  have hend := finish_apart (calFinish u result (raise code u data s))
  have hraised := raise_apart code u data s
  refine ⟨?_, fun x hx => ?_, ?_⟩
  · rw [conv_of_apart hend, calFinish_conv_same hu, conv_of_apart hraised]
  · rw [conv_of_apart hend, calFinish_conv_other hx, conv_of_apart hraised]
  · rw [besideCals_of_apart hend, calFinish_besideCals, besideCals_of_apart hraised]

/-- What an accepted block makes of its converter: coefficients an eighth of the way to the estimates (R191). -/
def Conv.blockAccepted (sz sr : Nat) (v : Conv) : Conv :=
  { v with
    calRejects := 0, calEnd := none
    coefNext := some (v.ofs + roundDiv (ofsEstimate sz - v.ofs) 8,
      ((v.gain : Int) + roundDiv (((gainEst sz sr).getD 0 : Int) - v.gain) 8).toNat) }

theorem blockJudge_accepted {sz sr : Nat} (ho : ofsOk (ofsEstimate sz) = true) (hg : gainOk (gainEst sz sr) = true) (u : Nat)
    (s : State) : blockJudge u sz sr s = s.updConv u (Conv.blockAccepted sz sr) := by
  simp only [blockJudge, ho, hg, Bool.and_self, if_true, State.updConv_updConv]
  rfl

/-- A rejected block counts, and the fourth in a row is reported (R191). -/
theorem blockJudge_rejected_apart {sz sr u : Nat} (hu : u < 16) (h : (ofsOk (ofsEstimate sz) && gainOk (gainEst sz sr)) = false)
    (s : State) : (blockJudge u sz sr s).apart
      = (s.updConv u (fun v => { v with calRejects := min 15 (v.calRejects + 1), calEnd := none })).apart := by
  simp only [blockJudge, h, Bool.false_eq_true, if_false, State.updConv_updConv, State.conv_updConv_same s _ hu]
  rw [apply_ite State.apart, raisePeriod_apart, ite_self]
  exact congrArg State.apart (State.updConv_congr rfl)

/-! ### The spare stage (R192) -/

theorem exec_adcSpareExchange {u : ConvId} {s : State} (hrun : convsRun s = true) (hm : (s.conv u).calMode = true)
    (hst : (s.conv u).spareStage ≠ 0) (hdue : (s.conv u).spareSince + 64 ≤ s.clk.stage) (w : Int) :
    exec (.adcSpareExchange u w) s = .next (finish (s.updConv u (fun v => { v with
      weights := v.weights.modify (v.spareStage - 1) (fun x => x + roundDiv (w - x) 16)
      spareStage := if v.spareStage = 10 then 1 else v.spareStage + 1
      spareSince := s.clk.stage }))) := by
  simp [exec, execAdcSpareExchange, done, hrun, hm, hst, hdue]

/-! ### The deadline of a system calibration (R190) -/

/-- The converters left finish at the deadline: with their samples, or without them. -/
def calsLapsed (left : Nat) (s : State) : State :=
  forEach (maskBits 16 left) (fun u v => calFinish u (if (v.conv u).calAccept then 0 else 3) v) s

theorem exec_adcCalTimeout {s : State} {k : AdcCal} (hp : s.clk.p0Pending = false)
    (hk : s.adc.cals.find? (fun k => decide (k.due ≤ s.clk.stage)) = some k) :
    exec .adcCalTimeout s = .next (tick (finish (calsLapsed k.left s))) := by
  simp [exec, execAdcCalTimeout, hk, lapse, hp, calsLapsed]

theorem calsLapsed_besideCals (left : Nat) (s : State) : (calsLapsed left s).besideCals = s.besideCals :=
  forEach_keeps State.besideCals _ (fun u v => calFinish_besideCals u _ v) _ s

theorem calsLapsed_calBusy {left u : Nat} (hu : u < 16) (h : left.testBit u = true) (s : State) :
    ((calsLapsed left s).conv u).calBusy = false :=
  forEach_read_same (f := fun u v => calFinish u (if (v.conv u).calAccept then 0 else 3) v)
    (R := fun u (v : State) => (v.conv u).calBusy) (b := false)
    (fun _ _ v hq => congrArg Conv.calBusy (calFinish_conv_other hq _ v))
    (fun v => (congrArg Conv.calBusy (calFinish_conv_same hu _ v)).trans rfl) _ s (mem_maskBits.2 ⟨hu, h⟩)

theorem calsLapsed_conv_other {left x : Nat} (h : left.testBit x = false) (s : State) : (calsLapsed left s).conv x = s.conv x :=
  forEach_read_other (R := fun u (v : State) => v.conv u) (fun _ _ v hq => calFinish_conv_other hq _ v) _ s
    (fun hx => absurd ((mem_maskBits.1 hx).2.symm.trans h) (by decide))

/-! ### ADC_CALIBRATE_SYSTEM (R189, R190) -/

theorem maskBits_isEmpty {n m : Nat} (h : ∃ u, u < n ∧ m.testBit u = true) : (maskBits n m).isEmpty = false :=
  List.isEmpty_eq_false_iff_exists_mem.2 (h.imp (fun _ hu => mem_maskBits.2 hu))

/-- A converter that collects for a system calibration from a pace on. -/
def Conv.calBegun (pace : Nat) (v : Conv) : Conv :=
  { v with calBusy := true, calAccept := false, calNum := 0, calFrom := pace, calEnd := none }

/-- The converters of a mask begin to collect in the next pace; those positions that have passed stay as they were. -/
def calsBegun (m : Nat) (s : State) : State :=
  forEach (maskBits 16 m) (fun u v => v.updConv u (Conv.calBegun (s.clk.paceNo + 1))) (convsTo s.clk.now s)

theorem calsBegun_eq (m : Nat) (s : State) : calsBegun m s = { s with convs := (calsBegun m s).convs } := by
  have hbegun := forEach_updConv_eq (fun _ => Conv.calBegun (s.clk.paceNo + 1)) (maskBits 16 m) (convsTo s.clk.now s)
  have hpassed := congrArg (fun v : State => ({ v with convs := (calsBegun m s).convs } : State)) (convsTo_eq s.clk.now s)
  exact hbegun.trans hpassed

theorem calsBegun_conv (m : Nat) (s : State) {u : Nat} (hu : u < 16) : (calsBegun m s).conv u
    = if m.testBit u then ((convsTo s.clk.now s).conv u).calBegun (s.clk.paceNo + 1) else (convsTo s.clk.now s).conv u := by
  have hread := conv_forEach_updConv (fun _ => Conv.calBegun (s.clk.paceNo + 1)) hu (maskBits 16 m) (convsTo s.clk.now s)
    (maskBits_nodup _ _)
  simp only [mem_maskBits, hu, true_and] at hread
  exact hread

theorem calsBegun_conv_took (m : Nat) (s : State) {u : Nat} (hu : u < 16) : (calsBegun m s.took).conv u = (calsBegun m s).conv u := by
  have hnow : convsTo s.took.clk.now s.took = (convsTo s.clk.now s).took := convsTo_took s.clk.now s
  rw [calsBegun_conv m s.took hu, calsBegun_conv m s hu, hnow]
  rfl

/-- A calibration waits for the converters that its packet names (R190). -/
def calAwaited (p : Packet) (s : State) : State :=
  { s with adc := { s.adc with cals := s.adc.cals ++ [{ pkt := p, left := field p.payload 0 2, due := replyDue p 32 s }] } }

theorem exec_adcCalibrateSystem {p : Packet} {s : State} (h : s.ready p = true) (hl : p.payload.length = 16)
    (hm : ∃ u, u < 16 ∧ (field p.payload 0 2).testBit u = true) (hz : zeros p.payload 2 14 = true)
    (hfree : ∀ u, u < 16 → (field p.payload 0 2).testBit u = true → (s.conv u).calMode = false ∧ (s.conv u).calBusy = false)
    (hen : (s.rail 3).enabled = true) (hw : (s.rail 3).inWindow = true) :
    exec (.adcCalibrateSystem p) s
      = .next (finish (markEffect p .hardware (calAwaited p (calsBegun (field p.payload 0 2) s.took)))) := by
  have hbusy : (maskBits 16 (field p.payload 0 2)).any (fun u => (s.conv u).calMode || (s.conv u).calBusy) = false :=
    List.any_eq_false.2 (fun u hu => by simp [hfree u (mem_maskBits.1 hu).1 (mem_maskBits.1 hu).2])
  have hsome := maskBits_isEmpty hm
  rw [exec, execAdcCalibrateSystem, inTurn_of_ready h]
  refine command_effect (fwRuns_of_ready h) (firstFail_eq_none ?_) _
  simp only [List.forall_mem_cons, List.not_mem_nil, false_implies, implies_true, and_true, hbusy, hsome]
  simp [hl, hz, hen, hw]

theorem calAwaited_apart (p : Packet) (m : Nat) (s : State) :
    (calAwaited p (calsBegun m s.took)).apart = ({ s with
      convs := (calsBegun m s.took).convs
      adc := { s.adc with cals := s.adc.cals ++ [{ pkt := p, left := field p.payload 0 2, due := replyDue p 32 s }] } } : State).apart := by
  rw [calsBegun_eq]
  rfl

/-! ### ADC_SET_CAL_MODE (R190, R192, R193) -/

/-- A byte of ADC_SET_CAL_MODE that is not reserved passes its check (R193). -/
theorem reservedByte_of_legal {b : Nat} (h : b ≤ 1 ∨ b = 0xFF) : (decide (1 < b) && b != 0xFF) = false := by
  rw [Bool.and_eq_false_imp]
  simp only [decide_eq_true_eq, bne_eq_false_iff_eq]
  omega

theorem exec_adcSetCalMode {p : Packet} {s : State} (h : s.ready p = true) (hl : p.payload.length = 16)
    (hm : ∃ u, u < 16 ∧ (field p.payload 0 2).testBit u = true) (hmode : field p.payload 2 1 ≤ 1 ∨ field p.payload 2 1 = 0xFF)
    (hpower : field p.payload 3 1 ≤ 1 ∨ field p.payload 3 1 = 0xFF) (hz : zeros p.payload 4 12 = true)
    (hfree : ∀ u, u < 16 → (field p.payload 0 2).testBit u = true → (s.conv u).calBusy = false) :
    exec (.adcSetCalMode p) s = .next (finish (defer p 0x0A02
      [.calMode (field p.payload 0 2) (field p.payload 2 1) (field p.payload 3 1)] s.took)) := by
  have hbusy : (maskBits 16 (field p.payload 0 2)).any (fun u => (s.conv u).calBusy) = false :=
    List.any_eq_false.2 (fun u hu => by simp [hfree u (mem_maskBits.1 hu).1 (mem_maskBits.1 hu).2])
  have hsome := maskBits_isEmpty hm
  rw [exec, execAdcSetCalMode, inTurn_of_ready h]
  refine command_effect (fwRuns_of_ready h) (firstFail_eq_none ?_) _
  simp only [List.forall_mem_cons, List.not_mem_nil, false_implies, implies_true, and_true, hbusy, hsome,
    reservedByte_of_legal hmode, reservedByte_of_legal hpower]
  simp [hl, hz]

/-- What ADC_SET_CAL_MODE makes of a converter in a stage, the converters running or not (R192, R193). -/
def Conv.modeSet (mode power stage : Nat) (on : Bool) (v : Conv) : Conv :=
  let v := if mode = 0 then { v with calMode := false, spareStage := 0, calNum := 0, calEnd := none }
    else if mode = 1 && !v.calMode then
      { v with calMode := true, calNum := 0, calEnd := none, spareStage := if on then 1 else 0, spareSince := stage }
    else v
  if power = 0xFF then v else { v with auto := power == 1 }

theorem Conv.modeSet_calMode (mode power stage : Nat) (on : Bool) (v : Conv) :
    (v.modeSet mode power stage on).calMode = if mode = 0 then false else if mode = 1 then true else v.calMode := by
  have hpower (x : Conv) : (if power = 0xFF then x else { x with auto := power == 1 }).calMode = x.calMode := by split <;> rfl
  rw [Conv.modeSet, hpower]
  split
  · rfl
  · cases hm : v.calMode <;> by_cases h1 : mode = 1 <;> simp [h1, hm]

theorem Conv.modeSet_auto (mode power stage : Nat) (on : Bool) (v : Conv) :
    (v.modeSet mode power stage on).auto = if power = 0xFF then v.auto else power == 1 := by
  unfold Conv.modeSet
  dsimp only
  split
  · split
    · rfl
    · split <;> rfl
  · rfl

/-- Whether the converters run, and the stage, stay while the modes change. -/
theorem applyCalMode_conv {u : Nat} (hu : u < 16) (m mode power : Nat) (s : State) : (applyCalMode m mode power s).conv u
    = if m.testBit u then (s.conv u).modeSet mode power s.clk.stage s.adc.on else s.conv u := by
  have hfixed : applyCalMode m mode power s
      = forEach (maskBits 16 m) (fun u v => v.updConv u (Conv.modeSet mode power s.clk.stage s.adc.on)) s :=
    forEach_congr_of (P := fun v => v.clk = s.clk ∧ v.adc = s.adc)
      (f := fun u v => v.updConv u (Conv.modeSet mode power v.clk.stage v.adc.on)) (fun _ _ h => h)
      (fun u v ⟨hclk, hadc⟩ => by rw [hclk, hadc]) _ ⟨rfl, rfl⟩
  have hread := conv_forEach_updConv (fun _ => Conv.modeSet mode power s.clk.stage s.adc.on) hu (maskBits 16 m) s (maskBits_nodup _ _)
  simp only [mem_maskBits, hu, true_and] at hread
  rw [hfixed]
  exact hread

/-- Settles O34: the ends of a collection by the judgement of its estimates, the spare stage and the deadline by the converters they
reach, and the commands by what they begin and what they leave to the next pace. -/
theorem adcCalibration : Obligations.AdcCalibration := by
  unfold Obligations.AdcCalibration
  refine ⟨⟨?_, fun u s => ⟨fun w hrun hm hst hdue =>
    ⟨_, exec_adcSpareExchange hrun hm hst hdue w, finish_apart _⟩, ?_⟩⟩, ?_, ?_⟩
  · intro u s v w sz sr at_ hv he hr
    subst hv
    refine ⟨fun hb ha => ⟨fun ho hg => ?_, fun ho hfresh => ?_⟩, fun hm => ⟨fun ho hg => ?_, fun hbad => ?_⟩⟩
    · refine ⟨_, exec_adcSyscalDone he hr hb ha sz sr, ?_⟩
      rw [finish_apart, sysCalJudge_accepted ho hg]
    · refine ⟨_, exec_adcSyscalDone he hr hb ha sz sr, ?_⟩
      obtain ⟨hself, hother, hview⟩ := finishedWithEvent_frame u.isLt 1 0x0A12 (adcCalData 1 sz sr) w
      rw [sysCalJudge_ofsRejected ho, hself]
      exact ⟨rfl, rfl, raised_calFinish hfresh u 1 _ _ _, hother, apart_of_besideCals hview⟩
    · refine ⟨_, exec_adcBgBlockDone he hr hm sz sr, ?_⟩
      rw [finish_apart, blockJudge_accepted ho hg]
      rfl
    · refine ⟨_, exec_adcBgBlockDone he hr hm sz sr, ?_⟩
      rw [finish_apart, blockJudge_rejected_apart u.isLt hbad]
  · intro k hp hk hleft
    have hrest := finish_apart (calsLapsed k.left s)
    refine ⟨_, exec_adcCalTimeout hp hk, ?_, fun x hx => ?_, ?_⟩
    · rw [conv_of_apart hrest, calsLapsed_calBusy u.isLt hleft]
    · rw [conv_of_apart hrest, calsLapsed_conv_other hx]
    · exact apart_of_besideCals ((besideCals_of_apart hrest).trans (calsLapsed_besideCals k.left s))
  · intro p s m h hl hm hsome
    subst hm
    refine ⟨fun hz hfree hen hw => ?_, fun hmode hpower hz hfree =>
      ⟨_, exec_adcSetCalMode h hl hsome hmode hpower hz hfree, finish_apart _⟩⟩
    have hrest := (finish_apart (markEffect p .hardware (calAwaited p (calsBegun (field p.payload 0 2) s.took)))).trans
      ((markEffect_apart _ _ _).trans (calAwaited_apart p _ s))
    refine ⟨_, exec_adcCalibrateSystem h hl hsome hz hfree hen hw, fun u hu => ?_, ?_⟩
    · refine (conv_of_apart hrest u).trans ((calsBegun_conv_took _ s hu).trans (calsBegun_conv _ s hu))
    · rw [convs_of_apart hrest, hrest]
  · intro se m mode power u s t hu ht
    have hconv : t.conv u = if m.testBit u then (s.conv u).modeSet mode power s.clk.stage s.adc.on else s.conv u :=
      ht ▸ applyCalMode_conv hu m mode power s
    rw [hconv]
    by_cases hm : m.testBit u = true
    · simp [hm, Conv.modeSet_calMode, Conv.modeSet_auto]
    · simp [hm]

end Sys2Proof.Machine
end

section
/-! SUPPORT. The commands that only read: what they answer is what the registers show (R239, R262, R338, R351, R367, R391, R395,
R397). -/

namespace Sys2Proof.Machine

/-! ### Registers beside the cycle of a command -/

/-- The words of a run of registers do not show the cycle in which a command took effect. -/
def RegBlock.besideTook (b : RegBlock) : Prop := ∀ (s : State) (i : Nat), b.word s.took i = b.word s i

theorem adcConvWord_took (s : State) (u : Nat) : adcConvWord s.took u = adcConvWord s u := by
  have hconv : convTo u s.took.clk.now s.took = (convTo u s.clk.now s).took := convTo_took u s.clk.now s
  rw [adcConvWord, hconv]
  rfl

theorem regsConverters_besideTook : regsConverters.Forall RegBlock.besideTook :=
  ⟨fun _ _ => rfl, adcConvWord_took, fun _ _ => rfl, fun _ _ => rfl, fun _ _ => rfl, fun _ _ => rfl, fun _ _ => rfl⟩

/-- The words before those of the converters come from fields of the state as they stand. -/
theorem regsBeforeConverters_besideTook :
    (regsIdent ++ regsUnits ++ regsRings ++ regsRails ++ regsClusters).Forall RegBlock.besideTook := by
  repeat' apply And.intro
  all_goals exact fun _ _ => rfl

/-- No register shows the cycle in which a command took effect. -/
theorem word_took {b : RegBlock} (hb : b ∈ regMap) : b.besideTook :=
  List.forall_iff_forall_mem.1 (List.forall_append.2 ⟨regsBeforeConverters_besideTook, regsConverters_besideTook⟩) b hb

@[simp] theorem regRead_took (s : State) (off : Nat) : regRead s.took off = regRead s off := by
  unfold regRead
  split
  · rfl
  · split
    · rfl
    · split
      · next b hb => exact congrArg (BitVec.ofNat 32) (word_took (List.mem_of_find?_eq_some hb) s _)
      · rfl

@[simp] theorem regBytes_took (s : State) (off : Nat) : regBytes s.took off = regBytes s off := by
  rw [regBytes, regRead_took, regBytes]

/-! ### A command that only reads -/

/-- A command that only reads is answered with what the state shows, and changes nothing apart. -/
theorem answers_read {p : Packet} {op : Nat} {checks : List (Bool × Status)} {s : State} (h : s.ready p = true)
    (hc : firstFail checks = none) (data : State → List Byte) (hd : data s.took = data s) :
    ∃ t, inTurn p s (command p op checks (fun v => reply p op .ok (data v) v)) = .next t ∧ t.apart = s.apart ∧
      Answered p op .ok (data s) s t := by
  rw [inTurn_of_ready h, command_effect (fwRuns_of_ready h) hc, hd]
  exact ⟨_, rfl, by rw [finish_apart, reply_apart, took_apart], answered_finish p op .ok (data s) s s.took rfl rfl rfl rfl rfl⟩

theorem railStatusData_took (s : State) (r : Nat) : railStatusData s.took r = railStatusData s r := by
  simp only [railStatusData, regBytes_took]
  rfl

theorem clusterStatusData_took (s : State) (n : Nat) : clusterStatusData s.took n = clusterStatusData s n := by
  simp only [clusterStatusData, regBytes_took]

/-- One without a payload is. -/
theorem answers_read_of_empty {p : Packet} {s : State} (h : s.ready p = true) (hl : p.payload = []) (op : Nat)
    (data : State → List Byte) (hd : data s.took = data s) :
    ∃ t, inTurn p s (command p op [(p.payload.length != 0, .badLength)] (fun v => reply p op .ok (data v) v)) = .next t ∧
      t.apart = s.apart ∧ Answered p op .ok (data s) s t :=
  answers_read h (by simp [firstFail, hl]) data hd

/-- One whose payload is the byte of what it reads is, where there is such a thing. -/
theorem answers_read_of_byte {p : Packet} {s : State} (h : s.ready p = true) {b : Byte} (hb : p.payload = [b]) {last : Nat}
    (hlast : b.toNat ≤ last) (op : Nat) (data : State → Nat → List Byte) (hd : ∀ k, data s.took k = data s k) :
    ∃ t, inTurn p s (command p op [(p.payload.length != 1, .badLength), (decide (last < field p.payload 0 1), .badParam)]
        (fun v => reply p op .ok (data v (field p.payload 0 1)) v)) = .next t ∧
      t.apart = s.apart ∧ Answered p op .ok (data s b.toNat) s t := by
  have hfield : field p.payload 0 1 = b.toNat := by rw [hb, field_singleton]
  rw [hfield]
  exact answers_read h (by simp [firstFail, hb, hlast]) (data · b.toNat) (hd _)

theorem clusterStatusData_eq (s : State) (n : Nat) : clusterStatusData s n = regBytes s (0x10000 + 4 * n)
    ++ regBytes s (0x19400 + 4 * n) ++ regBytes s (0x10400 + 4 * n) ++ regBytes s (0x10C00 + 4 * n) ++ regBytes s (0x19000 + 4 * n)
    ++ regBytes s (0x1A000 + 4 * n) := by
  simp [clusterStatusData]

/-- Reply data of ENERGY_READ (R367). -/
def energyData (s : State) (sel : Nat) : List Byte :=
  (mirrorsOf s sel).flatMap (leBytes 4) ++ leBytes 4 s.en.lastAck ++ leBytes 4 ((mirrorsOf s sel).foldl (· + ·) 0 / 2 ^ 32)

/-- GET_INFO of a page beyond the last is rejected (R391). -/
theorem exec_getInfo_beyond {p : Packet} {s : State} (h : s.ready p = true) {b : Byte} (hb : p.payload = [b]) (hpage : 3 < b.toNat) :
    exec (.getInfo p) s = .next (finish (reply p 0x0102 .badParam [] s)) := by
  rw [exec, execGetInfo, inTurn_of_ready h]
  exact command_rejects (fwRuns_of_ready h) (by simp [firstFail, hb, field_singleton, hpage]) _

/-- Settles O12: pages, registers, status words and totals are read as they were, whatever the cycle of the command. -/
theorem statusReads : Obligations.StatusReads := by
  unfold Obligations.StatusReads
  intro p s h
  refine ⟨fun b hb hpage => ?getInfo, fun b hb hpage => ?getInfoBeyond, fun r hr hrail => ?rail, fun n hn hcluster => ?cluster,
    fun hl => ?manifest, fun hl => ?thermal, fun b hb hsel => ?energy, fun hl => ?caravan, fun hl => ?convoy⟩
  case getInfo => exact answers_read_of_byte h hb hpage 0x0102 infoPage (fun _ => rfl)
  case getInfoBeyond =>
    obtain ⟨hanswer, hapart⟩ := answered_rejected p 0x0102 .badParam s
    exact ⟨_, exec_getInfo_beyond h hb hpage, hapart, hanswer⟩
  case rail => exact answers_read_of_byte h hr (last := 3) (by omega) 0x0204 railStatusData (railStatusData_took s)
  case cluster =>
    rw [← clusterStatusData_eq]
    exact answers_read_of_byte h hn (last := 143) (by omega) 0x0303 clusterStatusData (clusterStatusData_took s)
  case manifest => exact answers_read_of_empty h hl 0x0504 manifestData rfl
  case thermal => exact answers_read_of_empty h hl 0x0802 _ rfl
  case energy => exact answers_read_of_byte h hb hsel 0x0902 energyData (fun _ => rfl)
  case caravan => exact answers_read_of_empty h hl 0x0405 _ rfl
  case convoy => exact answers_read_of_empty h hl 0x0704 _ rfl

end Sys2Proof.Machine
end

section
/-! SUPPORT. MANIFEST_LOAD and the header: what the store is when it is empty, what a load that begins or fails leaves, and what a
header that passes gives (R216, R217, R221, R236). -/

namespace Sys2Proof.Machine

theorem man_of_apart {s t : State} (h : t.apart = s.apart) : t.man = s.man := by
  have hman := congrArg State.man h; exact hman

/-! ### A state beside the manifest engine -/

/-- A state beside its manifest: all but the manifest engine, the clusters and what every command may change. -/
def State.besideManifest (s : State) : State := { s.apart with man := State.reset.man, cl := State.reset.cl }

theorem besideManifest_of_apart {s t : State} (h : t.apart = s.apart) : t.besideManifest = s.besideManifest := by
  have hview := congrArg State.besideManifest h
  exact hview

theorem apart_of_besideManifest {s t : State} (h : t.besideManifest = s.besideManifest) :
    t.apart = ({ s with man := t.man, cl := t.cl } : State).apart := by
  have hback := congrArg (fun v : State => ({ v with man := t.man, cl := t.cl } : State)) h
  exact hback

/-! ### Reads from the host (R70) -/

@[simp] theorem dmaRead_apart (addr beats most : Nat) (due : Option (Nat × Nat)) (s : State) :
    (dmaRead addr beats most due s).apart = s.apart := by
  unfold dmaRead
  dsimp only
  split
  · exact foldl_keeps State.apart _ (by intro _ _; rfl) _ s
  · rw [dma_apart]
    exact foldl_keeps State.apart _ (by intro _ _; rfl) _ s

/-- A read of fewer beats than a request holds is one request. -/
theorem dmaRead_one {beats most : Nat} (hlo : 0 < beats) (hhi : beats < most) (addr : Nat) (due : Option (Nat × Nat)) (s : State) :
    dmaRead addr beats most due s = dma { op := .read, addr, beats, deadline := dueCode addr due s } s := by
  simp [dmaRead, Nat.div_eq_of_lt hhi, Nat.mod_eq_of_lt hhi, hlo.ne']

/-! ### The empty store (R236) -/

theorem withMan_besideManifest (m : Man) (s : State) : ({ s with man := m } : State).besideManifest = s.besideManifest := rfl

theorem manEmpty_besideManifest (s : State) : (manEmpty s).besideManifest = s.besideManifest := rfl

/-- Without a manifest a cluster is released, and its power state is as it was. -/
theorem manEmpty_cluster (s : State) {n : Nat} (hn : n < 144) :
    ((manEmpty s).cluster n).m.engaged = false ∧ ((manEmpty s).cluster n).s = (s.cluster n).s := by
  have hget : (manEmpty s).cluster n = { s.cluster n with m := { (s.cluster n).m with
      engaged := false, evs := [], ents := Tab.replicate 3 {} } } := Tab.get_map s.cl _ n hn
  rw [hget]
  exact ⟨rfl, rfl⟩

/-! ### MANIFEST_LOAD (R236) -/

/-- The store as a load begins: empty, with the image and the command that waits for it (R236). -/
def loadBegun (p : Packet) (s : State) : State :=
  { manEmpty s with man := { (manEmpty s).man with
      st := .loading, addr := field p.payload 0 8, len := field p.payload 8 4, load := some p, due := replyDue p 64 s } }

theorem loadBegun_besideManifest (p : Packet) (s : State) : (loadBegun p s.took).besideManifest = s.besideManifest :=
  (withMan_besideManifest _ _).trans (manEmpty_besideManifest s.took)

/-- MANIFEST_LOAD that passes its checks begins a load and asks for the header in one request. -/
theorem exec_manifestLoad {p : Packet} {s : State} (h : s.ready p = true) (hl : p.payload.length = 16)
    (ha : field p.payload 0 8 % 64 = 0) (hz : zeros p.payload 12 4 = true) (hmax : field p.payload 8 4 ≠ 0xFFFFFFFF)
    (hmin : 10304 ≤ field p.payload 8 4) (hfb : s.fbOk = true) (hloading : s.man.st ≠ .loading) (hrunning : s.man.st ≠ .running) :
    ∃ t, exec (.manifestLoad p) s = .next t ∧ t.apart = (loadBegun p s.took).apart ∧
      ∃ r, Output.dma r ∈ t.out ∧ r.op = .read ∧ r.addr = field p.payload 0 8 ∧ r.beats = 16 := by
  rw [exec, execManifestLoad, inTurn_of_ready h]
  refine ⟨_, command_effect (fwRuns_of_ready h) (firstFail_eq_none ?_) _, ?_, ?_⟩
  · simp [hl, ha, hz, hmax, hmin, hfb, hloading, hrunning]
  · rw [finish_apart, dmaRead_apart, markEffect_apart]
    rfl
  · obtain ⟨⟨l, hout⟩, -⟩ := finish_grows (dmaRead (field p.payload 0 8) 16 64 none (markEffect p .hardware (loadBegun p s.took)))
    rw [dmaRead_one (by decide) (by decide)] at hout
    exact ⟨_, hout ▸ List.mem_append_right l List.mem_cons_self, rfl, rfl, rfl⟩

/-! ### A load that fails (R236) -/

theorem loadFailAt_of_load {s : State} {p : Packet} (h : s.man.load = some p) (result nblk block : Nat) :
    loadFailAt result nblk block s
      = reply p 0x0501 (loadStatus result) (loadData s result 0 nblk block 0xFF 0xFF 0xFF 0xFF) (manEmpty s) := by
  simp [loadFailAt, loadFail, h]

/-- A load that fails leaves the store empty, is answered, and changes nothing else. -/
theorem finish_loadFailAt {s : State} {p : Packet} (h : s.man.load = some p) (result nblk block : Nat) :
    ∀ t, t = finish (loadFailAt result nblk block s) → t.man.st = .empty ∧ t.man.load = none ∧
      (∃ data, Answered p 0x0501 (loadStatus result) data s t) ∧ t.apart = ({ s with man := t.man, cl := t.cl } : State).apart := by
  rintro t rfl
  rw [loadFailAt_of_load h]
  have hrest := (finish_apart _).trans
    (reply_apart p 0x0501 (loadStatus result) (loadData s result 0 nblk block 0xFF 0xFF 0xFF 0xFF) (manEmpty s))
  have hman := man_of_apart hrest
  refine ⟨congrArg Man.st hman, congrArg Man.load hman, ⟨_, answered_finish p 0x0501 _ _ s (manEmpty s) rfl rfl rfl rfl rfl⟩, ?_⟩
  exact apart_of_besideManifest ((besideManifest_of_apart hrest).trans (manEmpty_besideManifest s))

theorem exec_manifestHeaderArrival_none {s : State} (hst : s.man.st = .loading) (hh : s.man.hdrDone = false) :
    exec (.manifestHeaderArrival none) s = .next (finish (loadFailAt 8 0 0xFFFF s)) := by
  simp [exec, execManifestHeaderArrival, done, hst, hh]

theorem exec_manifestLoadTimeout {s : State} (hst : s.man.st = .loading) (hdue : s.man.due ≤ s.clk.stage)
    (hp : s.clk.p0Pending = false) :
    exec .manifestLoadTimeout s = .next (tick (finish (loadFailAt 9 s.man.nblk 0xFFFF s))) := by
  simp [exec, execManifestLoadTimeout, lapse, hst, hdue, hp]

/-! ### A header that passes (R216, R217, R221) -/

/-- The settings of a header are taken (R216). -/
def headerTaken (d : List Byte) (s : State) : State :=
  { s with man := { s.man with
      hdrDone := true, freq := field d 5 1, stepMin := field d 6 1, loopEn := field d 7 1 == 1, nblk := field d 10 2
      loop := field d 12 2 } }

/-- Ledger RAM with a tile sealed in it (R431, R432). -/
def Led.withSealed (t : Nat) (bs : List Byte) (l : Led) : Led :=
  { l with
    ram := Memory.store l.ram (tileAddr t) ((padTo 1024 bs).take 1024)
    tiles := l.tiles.set t { crc := crc32c ((padTo 1024 bs).take 1024), bad := false }
    tileBuf := l.tileBuf.filter (fun x => x != t) }

theorem sealTile_eq (t : Nat) (bs : List Byte) (s : State) : sealTile t bs s = { s with led := s.led.withSealed t bs } := rfl

/-- A header that is taken and stored changes the manifest engine and Ledger RAM alone. -/
theorem sealTile_headerTaken (d : List Byte) (s : State) :
    sealTile 639 [] (sealTile 638 d (headerTaken d s))
      = { s with man := (headerTaken d s).man, led := (sealTile 639 [] (sealTile 638 d s)).led } := by
  simp only [headerTaken, sealTile_eq]

theorem exec_manifestHeaderArrival_passes {s : State} {d : List Byte} (hd : d.length = 1024) (hst : s.man.st = .loading)
    (hh : s.man.hdrDone = false) (hcrc : (crc32c (d.take 1020)).toNat = field d 1020 4) (hok : headerOk d = true)
    (hlen : s.man.len = 1024 + 9280 * field d 10 2) :
    exec (.manifestHeaderArrival (some d)) s
      = .next (finish (forEach (List.range 14) (fun q => fetchSeq q none)
          { s with man := (headerTaken d s).man, led := (sealTile 639 [] (sealTile 638 d s)).led })) := by
  have hwhole : (padTo 1024 d).take 1024 = d := by simp [padTo, hd]
  rw [← sealTile_headerTaken]
  simp [exec, execManifestHeaderArrival, done, hst, hh, hwhole, hcrc, hok, hlen, headerTaken]

/-- A state beside the slots of the store: all but them and what every command may change. -/
def State.besideSlots (s : State) : State := { s.apart with man := { s.man with slots := State.reset.man.slots } }

theorem besideSlots_of_apart {s t : State} (h : t.apart = s.apart) : t.besideSlots = s.besideSlots := by
  have hview := congrArg State.besideSlots h
  exact hview

theorem man_of_besideSlots {s t : State} (h : t.besideSlots = s.besideSlots) : t.man = { s.man with slots := t.man.slots } := by
  have hback := congrArg (fun v : State => ({ v.man with slots := t.man.slots } : Man)) h
  exact hback

theorem apart_of_besideSlots {s t : State} (h : t.besideSlots = s.besideSlots) : t.apart = ({ s with man := t.man } : State).apart := by
  have hback := congrArg (fun v : State => ({ v with man := t.man } : State)) h
  exact hback

/-- A fetch fills a slot. -/
theorem fetchSeq_besideSlots (q : Nat) (due : Option (Nat × Nat)) (s : State) : (fetchSeq q due s).besideSlots = s.besideSlots := by
  unfold fetchSeq
  split
  · rfl
  · exact (besideSlots_of_apart (dmaRead_apart _ _ _ _ _)).trans rfl

/-- The fetches behind a header that passes change the slots alone. -/
theorem exec_manifestHeaderArrival_slots {s : State} {d : List Byte} (hd : d.length = 1024) (hst : s.man.st = .loading)
    (hh : s.man.hdrDone = false) (hcrc : (crc32c (d.take 1020)).toNat = field d 1020 4) (hok : headerOk d = true)
    (hlen : s.man.len = 1024 + 9280 * field d 10 2) :
    ∃ t, exec (.manifestHeaderArrival (some d)) s = .next t ∧
      t.besideSlots = ({ s with man := (headerTaken d s).man, led := (sealTile 639 [] (sealTile 638 d s)).led } : State).besideSlots :=
  ⟨_, exec_manifestHeaderArrival_passes hd hst hh hcrc hok hlen, (besideSlots_of_apart (finish_apart _)).trans
    (forEach_keeps State.besideSlots (fun q => fetchSeq q none) (fun q u => fetchSeq_besideSlots q none u) (List.range 14) _)⟩

/-- Settles O35: a load that begins, one that fails by the header or by its deadline, and the fetches behind a header that passes. -/
theorem manifestLoading : Obligations.ManifestLoading := by
  unfold Obligations.ManifestLoading
  intro s
  refine ⟨fun p h hl ha hz hmax hmin hfb hloading hrunning => ?load, fun p hst hh hp => ?noHeader, fun p hst hdue hp hp0 => ?timeout,
    fun d hd hst hh hcrc hok hlen => ?header⟩
  case load =>
    obtain ⟨t, ht, hrest, hread⟩ := exec_manifestLoad h hl ha hz hmax hmin hfb hloading hrunning
    have hman := man_of_apart hrest
    have hframe := apart_of_besideManifest ((besideManifest_of_apart hrest).trans (loadBegun_besideManifest p s))
    refine ⟨t, ht, ?_⟩
    rw [hman] at hframe ⊢
    refine ⟨rfl, rfl, rfl, rfl, rfl, rfl, fun n hn => ?_, hread, hframe⟩
    rw [cluster_of_apart hrest]
    exact manEmpty_cluster s.took hn
  case noHeader => exact ⟨_, exec_manifestHeaderArrival_none hst hh, finish_loadFailAt hp 8 0 0xFFFF _ rfl⟩
  case timeout => exact ⟨_, exec_manifestLoadTimeout hst hdue hp0, finish_loadFailAt hp 9 s.man.nblk 0xFFFF _ rfl⟩
  case header =>
    obtain ⟨t, ht, hslots⟩ := exec_manifestHeaderArrival_slots hd hst hh hcrc hok hlen
    have hman := man_of_besideSlots hslots
    have hloop : (headerTaken d s).man.loopEn = true ↔ field d 7 1 = 1 := beq_iff_eq
    have hframe := apart_of_besideSlots hslots
    refine ⟨t, ht, ?_⟩
    rw [hman] at hframe ⊢
    exact ⟨hst, rfl, rfl, rfl, hloop, rfl, rfl, hframe⟩

end Sys2Proof.Machine
end

section
/-! SUPPORT. Blocks and tiles of a running manifest: a fetch refused, a block that is late, and a tile read for the stage two on
(R223 to R225, R228). -/

namespace Sys2Proof

/-! ### The places of a table -/

theorem listMapFrom_eq_map {α β : Type} (f : Nat → α → β) :
    ∀ (l : List α) (k : Nat), listMapFrom f k l = (l.zipIdx k).map (fun x => f x.2 x.1)
  | [], _ => rfl
  | _ :: l, k => congrArg (_ :: ·) (listMapFrom_eq_map f l (k + 1))

/-- The places are those whose entry satisfies the condition. -/
theorem Tab.mem_places {n : Nat} {α : Type} [Inhabited α] {t : Tab n α} {p : Nat → α → Bool} {i : Nat} :
    i ∈ t.places p ↔ i < n ∧ p i (t.get i) = true := by
  have hentry (a : α) : t.val[i]? = some a ↔ i < n ∧ t.get i = a := by
    by_cases hi : i < n
    · simp [Tab.get, hi, t.len]
    · simp [hi, t.len]
  simp [Tab.places, listMapFrom_eq_map, List.mem_zipIdx_iff_getElem?, hentry]

end Sys2Proof

namespace Sys2Proof.Machine

/-! ### A fetch refused (R224) -/

theorem exec_manifestBlockArrival_none {s : State} {slot q : Nat} (hslot : slot < 14) (hq : (manSlot s slot).seq = some q)
    (hstored : (manSlot s slot).stored = false) (hrefused : (manSlot s slot).refused = false)
    (hcond : (manSlot s slot).condemned = false) (hst : s.man.st ≠ .loading) :
    exec (.manifestBlockArrival slot none) s = .next (finish (raise 0x0513 slot
      (leBytes 2 (manSlot s slot).block ++ leBytes 4 (firstStageOf s q)) (updSlot slot (fun m => { m with refused := true }) s))) := by
  simp [exec, execManifestBlockArrival, done, hq, hstored, hrefused, hcond, hst, Nat.not_le.2 hslot]

/-! ### A block that is late (R45, R223) -/

/-- What a list of changes leaves is what its last change leaves. -/
theorem forEach_last {α : Type} {P : State → Prop} {f : α → State → State} (h : ∀ a s, P (f a s)) {l : List α} (hl : l ≠ [])
    (s : State) : P (forEach l f s) := by
  rw [← List.dropLast_concat_getLast hl, forEach, List.foldl_concat]
  exact h _ _

/-- The lateness of a block is judged once, and missed by the clusters engaged for its first stage (R45, R223). -/
def lateJudged (slot first : Nat) (s : State) : State :=
  forEach (s.cl.places (fun _ c => engagedFor c.m first)) (fun n s => dlSet 4 (raiseMiss 0x0510 n [] s))
    (updSlot slot (fun m => { m with lateDone := true }) s)

theorem exec_manifestLateExpiry {s : State} {slot q : Nat} (hslot : slot < 14) (hq : (manSlot s slot).seq = some q)
    (hst : s.man.st = .running) (hrefused : (manSlot s slot).refused = false) (hdone : (manSlot s slot).lateDone = false)
    (hdue : firstStageOf s q ≤ s.clk.stage + 2)
    (hlate : (manSlot s slot).stored = false ∨ firstStageOf s q < (manSlot s slot).storedIn + 2) (hp : s.clk.p0Pending = false) :
    exec (.manifestLateExpiry slot) s = .next (tick (finish (lateJudged slot (firstStageOf s q) s))) := by
  have hmissed : ((manSlot s slot).stored && decide ((manSlot s slot).storedIn + 2 ≤ firstStageOf s q)) = false := by
    rw [Bool.and_eq_false_imp, decide_eq_false_iff_not, Nat.not_le]
    exact fun h => hlate.resolve_left (by simp [h])
  simp [exec, execManifestLateExpiry, lapse, hq, hst, hrefused, hdone, hmissed, hp, Nat.not_le.2 hslot, Nat.not_lt.2 hdue,
    lateJudged, updSlot]

/-- A state beside the deadline status: all but it and what every command may change. -/
def State.besideDl (s : State) : State := { s.apart with dl := State.reset.dl }

theorem besideDl_of_apart {s t : State} (h : t.apart = s.apart) : t.besideDl = s.besideDl := by
  have hview := congrArg State.besideDl h
  exact hview

theorem apart_of_besideDl {s t : State} (h : t.besideDl = s.besideDl) : t.apart = ({ s with dl := t.dl } : State).apart := by
  have hback := congrArg (fun v : State => ({ v with dl := t.dl } : State)) h
  exact hback

theorem dl_of_apart {s t : State} (h : t.apart = s.apart) : t.dl = s.dl := by
  have hdl := congrArg State.dl h; exact hdl

theorem dlSet_besideDl (bit : Nat) (s : State) : (dlSet bit s).besideDl = s.besideDl := rfl

theorem lateJudged_besideDl (slot first : Nat) (s : State) :
    (lateJudged slot first s).besideDl = (updSlot slot (fun m => { m with lateDone := true }) s).besideDl :=
  forEach_keeps State.besideDl _ (by intro n u; exact (dlSet_besideDl 4 _).trans (besideDl_of_apart (raiseMiss_apart 0x0510 n [] u))) _ _

/-- The MANIFEST bit of the deadline status is set where a cluster is engaged for the first stage (R45, R223). -/
theorem lateJudged_manifestBit {slot first : Nat} {s : State} (h : ∃ n, n < 144 ∧ engagedFor (s.cluster n).m first = true) :
    (lateJudged slot first s).dl.status.getLsbD 4 = true := by
  obtain ⟨n, hn, heng⟩ := h
  refine forEach_last (P := fun u => u.dl.status.getLsbD 4 = true) (fun n u => ?_) (List.ne_nil_of_mem (Tab.mem_places.2 ⟨hn, heng⟩)) _
  rw [dlSet_dl, BitVec.getLsbD_or, getLsbD_ofNat_two_pow (by decide), Bool.or_true]

theorem lateJudged_of_none_engaged {slot first : Nat} {s : State} (h : ∀ n, n < 144 → engagedFor (s.cluster n).m first = false) :
    lateJudged slot first s = updSlot slot (fun m => { m with lateDone := true }) s := by
  have hnone : s.cl.places (fun _ c => engagedFor c.m first) = [] := by
    refine List.eq_nil_iff_forall_not_mem.2 (fun n hn => ?_)
    obtain ⟨hlt, heng⟩ := Tab.mem_places.1 hn
    exact absurd ((h n hlt).symm.trans heng) (by decide)
  rw [lateJudged, hnone]
  rfl

/-! ### Tile reads for the stage two on (R225, R228) -/

/-- The clusters of tile `g` of a block have these entries for the stage two on (R228). -/
def entriesSet (g : Nat) (e : Nat → ManEnt) (s : State) : State :=
  { s with cl := s.cl.mapI (fun n c => if n / 16 = g then { c with m := { c.m with ents := c.m.ents.set 2 (e n) } } else c) }

theorem entriesSet_ents (g : Nat) (e : Nat → ManEnt) (s : State) {n : Nat} (hn : n < 144) :
    ((entriesSet g e s).cluster n).m.ents.get 2 = if n / 16 = g then e n else (s.cluster n).m.ents.get 2 := by
  have hget : (entriesSet g e s).cluster n = if n / 16 = g then
      { s.cluster n with m := { (s.cluster n).m with ents := (s.cluster n).m.ents.set 2 (e n) } } else s.cluster n :=
    Tab.get_mapI _ _ n hn
  rw [hget]
  split
  · exact Tab.get_set_same _ 2 _ (by decide)
  · rfl

/-- Tile `k` of the store is one of the nine that hold the entries of the stage two on, and can be read (R228). -/
structure TileAwaited (s : State) (k q : Nat) : Prop where
  lt : k < 126
  seq : seqOf s (s.clk.stage + 2) = some q
  slot : k / 9 = q % 14
  held : (manSlot s (q % 14)).seq = some q
  notRefused : (manSlot s (q % 14)).refused = false
  stored : (manSlot s (q % 14)).stored = true
  inTime : (manSlot s (q % 14)).storedIn + 2 ≤ s.clk.stage + 2
  good : (manSlot s (q % 14)).tileOk.get (k % 9) = true

theorem exec_manifestTileReadDone_passes {s : State} {k q : Nat} (h : TileAwaited s k q) (hbad : tileBad s (512 + k) = false)
    (hp : tilePasses s (512 + k) false = true) :
    exec (.manifestTileReadDone k false) s
      = .next (finish (entriesSet (k % 9) (readEntry s (s.clk.stage + 2) (tileBytes s (512 + k))) s)) := by
  simp [exec, execManifestTileReadDone, done, entriesSet, h.seq, h.slot, h.held, h.notRefused, h.stored, h.good, hp, hbad,
    Nat.not_le.2 h.lt, Nat.not_lt.2 h.inTime]

/-- A tile that fails its read is marked, and its clusters have no entry for the stage two on (R225, R228). -/
def manTileFailed (k q : Nat) (s : State) : State :=
  entriesSet (k % 9) (fun _ => { word := none, why := 4 })
    (updSlot (q % 14) (fun m => { m with tileOk := m.tileOk.set (k % 9) false }) (markBad (512 + k) s))

theorem exec_manifestTileReadDone_fails {s : State} {k q : Nat} (h : TileAwaited s k q) :
    ∃ d, exec (.manifestTileReadDone k true) s = .next (finish (raise 0x0512 k d (manTileFailed k q s))) := by
  refine ⟨tileData 3 (manSlot s (q % 14)).block (s.clk.stage + 2) (k % 9), ?_⟩
  simp [exec, execManifestTileReadDone, done, manTileFailed, entriesSet, h.seq, h.slot, h.held, h.notRefused, h.stored, h.good,
    Nat.not_le.2 h.lt, Nat.not_lt.2 h.inTime]

/-- Settles O36: a refused fetch by its event, a late block by the clusters that miss it, and a tile by the entries of its clusters. -/
theorem manifestBlocks : Obligations.ManifestBlocks := by
  unfold Obligations.ManifestBlocks
  refine ⟨fun s slot q hslot hq => ⟨fun hstored hrefused hcond hst hfresh => ?refused,
    fun hst hrefused hdone hdue hlate hp => ?late⟩, fun s k q hk hseq hdiv hheld hrefused hstored hin hgood hbad => ?tile⟩
  case refused =>
    refine ⟨_, exec_manifestBlockArrival_none hslot hq hstored hrefused hcond hst, by rw [finish_apart, raise_apart], ?_⟩
    exact raised_of_no_fresh (s := updSlot slot (fun m => { m with refused := true }) s) hfresh _ _ _
  case late =>
    have hrest := finish_apart (lateJudged slot (firstStageOf s q) s)
    refine ⟨_, exec_manifestLateExpiry hslot hq hst hrefused hdone hdue hlate hp, ?_, fun heng => ?_, fun hnone => ?_⟩
    · exact apart_of_besideDl ((besideDl_of_apart hrest).trans (lateJudged_besideDl slot _ s))
    · rw [dl_of_apart hrest]
      exact lateJudged_manifestBit heng
    · rw [dl_of_apart hrest, lateJudged_of_none_engaged hnone]
      rfl
  case tile =>
    have htile : TileAwaited s k q := ⟨hk, hseq, hdiv, hheld, hrefused, hstored, hin, hgood⟩
    refine ⟨fun hp => ⟨_, exec_manifestTileReadDone_passes htile hbad hp, fun n hn => ?_, ?_⟩, fun hfresh => ?_⟩
    · rw [cluster_of_apart (finish_apart _)]
      exact entriesSet_ents (k % 9) _ s hn
    · rw [finish_apart, finish_cl]
      rfl
    · obtain ⟨d, hexec⟩ := exec_manifestTileReadDone_fails htile
      have hrest := (finish_apart _).trans (raise_apart 0x0512 k d (manTileFailed k q s))
      refine ⟨_, hexec, ?_, fun n hn hg => ?_, ⟨d, raised_of_no_fresh (s := manTileFailed k q s) hfresh _ _ _⟩, ?_⟩
      · rw [tileBad_of_apart hrest]
        exact tileBad_markBad (by omega) s
      · rw [cluster_of_apart hrest, manTileFailed, entriesSet_ents _ _ _ hn, if_pos hg]
      · rw [hrest, cl_of_apart hrest, man_of_apart hrest, led_of_apart hrest]
        rfl

end Sys2Proof.Machine
end

section
/-! SUPPORT. MANIFEST_ENGAGE that joins clusters to a running manifest, and what becomes of its value of LIFT_MAX (R237). -/

namespace Sys2Proof.Machine

/-! ### MANIFEST_ENGAGE to a running manifest (R237) -/

/-- One cluster joins a running manifest three stages on, with its value of LIFT_MAX (R237). -/
def engageJoined (p : Packet) (n : Nat) (s : State) : State :=
  applyEngage s.clk.stage n false (field p.payload 19 1) (field p.payload 24 6) s

theorem exec_manifestEngage_join {p : Packet} {s : State} (h : s.ready p = true) (hl : p.payload.length = 32)
    (hlegal : engageLegal s.clk.stage p.payload = true) (hflags : field p.payload 18 1 = 0) (hst : s.man.st = .running) :
    ∃ t, exec (.manifestEngage p) s = .next t ∧
      t.man = (forEach (maskBits 144 (field p.payload 0 18)) (engageJoined p) s.took).man := by
  rw [exec, execManifestEngage, inTurn_of_ready h]
  refine ⟨_, command_effect (fwRuns_of_ready h) (firstFail_eq_none ?_) _, ?_⟩
  · simp [hl, hlegal, hflags, hst, engageChecks]
  · rw [finish_man, man_of_apart (reply_apart _ _ _ _ _), engageActs, hflags, forEach, List.foldl_map]
    rfl

/-- The values of LIFT_MAX that wait, with one more behind those of its stage unless it is the last of them (R237). -/
def liftsWith (stage lift : Nat) (lifts : List (Nat × Nat)) : List (Nat × Nat) :=
  if (lifts.filter (fun x => x.1 == stage)).getLast? == some (stage, lift) then lifts else insertAt Prod.fst (stage, lift) lifts

theorem liftAt_eq (stage lift : Nat) (s : State) :
    liftAt stage lift s = { s with man := { s.man with lifts := liftsWith stage lift s.man.lifts } } := by
  unfold liftAt liftsWith
  split <;> rfl

theorem engageJoined_eq {p : Packet} (hlift : field p.payload 19 1 ≤ 2) (n : Nat) (s : State) :
    engageJoined p n s = engageAt { stage := s.clk.stage + 3, on := true, rejoin := true } n { s with man := { s.man with
      lifts := liftsWith (s.clk.stage + 3) (field p.payload 19 1) s.man.lifts } } := by
  simp [engageJoined, applyEngage, hlift, liftAt_eq]

/-- Two clusters that join put their value of LIFT_MAX in the list one after the other. -/
theorem engageJoined_twice_lifts {p : Packet} (hlift : field p.payload 19 1 ≤ 2) (m n : Nat) (s : State) :
    (engageJoined p n (engageJoined p m s)).man.lifts = liftsWith (s.clk.stage + 3) (field p.payload 19 1)
      (liftsWith (s.clk.stage + 3) (field p.payload 19 1) s.man.lifts) := by
  rw [engageJoined_eq hlift, engageJoined_eq hlift]
  rfl

/-! ### Waiting values out of the order of their stages -/

/-- A MANIFEST_ENGAGE that joins clusters 0 and 1 with LIFT_MAX 0. -/
def joinTwo : Packet := { (default : Packet) with payload := 3 :: List.replicate 31 0 }

/-- Stage 0 of a running manifest, where a value of LIFT_MAX for stage 10 waits ahead of one for stage 3. -/
def liftsOutOfOrder : State :=
  { State.reset with core := { on := true }, man := { st := .running, lifts := [(10, 1), (3, 2)] } }

theorem liftsOutOfOrder_joinTwo_legal : liftsOutOfOrder.ready joinTwo = true ∧ joinTwo.payload.length = 32 ∧
    engageLegal liftsOutOfOrder.clk.stage joinTwo.payload = true ∧ field joinTwo.payload 18 1 = 0 := by decide

/-- Each of the two clusters puts the value in the list again: ahead of stage 10, it is not the last one of stage 3. -/
theorem liftsWith_twice : liftsWith 3 0 (liftsWith 3 0 [(10, 1), (3, 2)]) ≠ liftsWith 3 0 [(10, 1), (3, 2)] := by decide

/-- The two clusters that join. -/
theorem joinTwo_clusters : maskBits 144 (field joinTwo.payload 0 18) = [0, 1] := by decide

theorem joinTwo_lift : field joinTwo.payload 19 1 = 0 := by decide

/-- Refutes O37: the clause of a join. A MANIFEST_ENGAGE names two clusters, and the values of LIFT_MAX that wait are not in order of
their stages, which the statement does not exclude; its value then waits twice, once for each cluster, and not once. -/
theorem not_manifestEngageRelease : ¬ Obligations.ManifestEngageRelease := by
  unfold Obligations.ManifestEngageRelease
  intro h
  obtain ⟨hready, hlen, hlegal, hflags⟩ := liftsOutOfOrder_joinTwo_legal
  obtain ⟨hengage, -⟩ := h joinTwo liftsOutOfOrder hready
  obtain ⟨t, ht, hman, -⟩ := (hengage hlen hlegal).2 hflags rfl
  obtain ⟨u, hu, htwice⟩ := exec_manifestEngage_join hready hlen hlegal hflags rfl
  obtain rfl : t = u := Host.Outcome.next.inj (ht.symm.trans hu)
  have honce : t.man.lifts = liftsWith 3 0 [(10, 1), (3, 2)] := by
    rw [hman, joinTwo_lift, liftAt_eq]
    rfl
  have hagain : t.man.lifts = liftsWith 3 0 (liftsWith 3 0 [(10, 1), (3, 2)]) := by
    have hlift : field joinTwo.payload 19 1 ≤ 2 := by rw [joinTwo_lift]; decide
    rw [htwice, joinTwo_clusters]
    refine (engageJoined_twice_lifts hlift 0 1 liftsOutOfOrder.took).trans ?_
    rw [joinTwo_lift]
    rfl
  exact liftsWith_twice (hagain.symm.trans honce)

end Sys2Proof.Machine
end

section
/-! SUPPORT. What the time up to a moment leaves of the frame of the stage, the caravans and the standing of the clusters. -/

namespace Sys2Proof.Machine

/-! ### What falls in a later cycle leaves the stage frame, the caravans and the power states -/

/-- What no passing cycle within a pace changes: the rest of the state with the clock but for its cycle, the tick and what waits to
fall; the caravan unit; and where every cluster stands. -/
def State.timeless (s : State) : State × Cvn × List CSt :=
  ({ s.still with clk := { s.clk with now := 0, tick := false, soon := [] } }, s.cvn, s.cl.val.map Cluster.s)

theorem timeless_of_apart {s t : State} (h : t.apart = s.apart) (hc : t.cvn = s.cvn) : t.timeless = s.timeless := by
  rw [State.timeless, still_of_apart h, clk_of_apart h, hc, cl_of_apart h, State.timeless]

@[simp] theorem ite_timeless (c : Prop) [Decidable c] (a b : State) :
    (if c then a else b).timeless = if c then a.timeless else b.timeless := apply_ite State.timeless c a b

theorem forEach_timeless {α : Type} {f : α → State → State} (h : ∀ a s, (f a s).timeless = s.timeless) (l : List α) (s : State) :
    (forEach l f s).timeless = s.timeless := forEach_keeps State.timeless f h l s

@[simp] theorem updPh_timeless (i : Nat) (f : Phase → Phase) (s : State) : (s.updPh i f).timeless = s.timeless := rfl
@[simp] theorem updGrp_timeless (g : Nat) (f : Group → Group) (s : State) : (s.updGrp g f).timeless = s.timeless := rfl
@[simp] theorem updCell_timeless (i : Nat) (f : Cell → Cell) (s : State) : (s.updCell i f).timeless = s.timeless := rfl
@[simp] theorem soonIn_timeless (k : Nat) (w : Soon) (s : State) : (soonIn k w s).timeless = s.timeless := rfl
@[simp] theorem slotFreed_timeless (s : State) : (slotFreed s).timeless = s.timeless := rfl
@[simp] theorem unparkAll_timeless (g : Nat) (s : State) : (unparkAll g s).timeless = s.timeless := rfl

/-- A change of a cluster that leaves where it stands. -/
theorem updCl_timeless (n : Nat) {f : Cluster → Cluster} (h : ∀ c, (f c).s = c.s) (s : State) :
    (s.updCl n f).timeless = s.timeless :=
  congrArg (fun l => (s.timeless.1, s.cvn, l)) (listModify_map Cluster.s f h s.cl.val n)

@[simp] theorem raise_timeless (c k : Nat) (d : List Byte) (s : State) : (raise c k d s).timeless = s.timeless :=
  timeless_of_apart (raise_apart c k d s) (raise_cvn c k d s)

@[simp] theorem enterEvents_timeless (s : State) : (enterEvents s).timeless = s.timeless :=
  timeless_of_apart (enterEvents_apart s) (enterEvents_cvn s)

@[simp] theorem boostCheck_timeless (s : State) : (boostCheck s).timeless = s.timeless :=
  timeless_of_apart (boostCheck_apart s) (boostCheck_cvn s)

@[simp] theorem ripTo_timeless (g : Nat) (s : State) : (ripTo g s).timeless = s.timeless :=
  ripTo_keeps State.timeless (fun _ _ _ => rfl) (fun _ _ _ => rfl) g s

@[simp] theorem refreshOn_timeless (g : Nat) (s : State) : (refreshOn g s).timeless = s.timeless := ripTo_timeless g s

@[simp] theorem pulseOrWait_timeless (g : Nat) (s : State) : (pulseOrWait g s).timeless = s.timeless := by
  unfold pulseOrWait
  split
  · exact ripTo_timeless g s
  · dsimp only
    split <;> rfl

theorem pulseDue_timeless (g : Nat) (s : State) : (pulseDue g s).timeless = s.timeless := by simp [pulseDue]

@[simp] theorem endPulse_timeless (i : Nat) (s : State) : (endPulse i s).timeless = s.timeless := by simp [endPulse]

theorem inhibitDue_timeless (i : Nat) (s : State) : (inhibitDue i s).timeless = s.timeless := by simp [inhibitDue]

@[simp] theorem disablePhase_timeless (i : Nat) (c : PhCause) (s : State) : (disablePhase i c s).timeless = s.timeless := by
  simp [disablePhase]

theorem disableDue_timeless (i : Nat) (c : PhCause) (s : State) : (disableDue i c s).timeless = s.timeless := by simp [disableDue]

theorem phaseLoss_timeless (i : Nat) (c : PhCause) (s : State) : (phaseLoss i c s).timeless = s.timeless := by simp [phaseLoss]

theorem calSettle_timeless (n : Nat) (s : State) : (calSettle n s).timeless = s.timeless := by
  unfold calSettle
  dsimp only
  split
  · rw [updCl_timeless n (by intro _; rfl)]
    exact forEach_timeless (fun _ _ => by simp) _ s
  · rfl

theorem chargeEnded_timeless (n : Nat) (s : State) : (chargeEnded n s).timeless = s.timeless := by
  unfold chargeEnded
  dsimp only
  split
  · rfl
  · rw [ite_timeless, soonIn_timeless, ite_self, slotFreed_timeless]
    exact updCl_timeless n (by intro _; rfl) s

theorem blwFaulted_timeless (n c : Nat) (s : State) : (blwFaulted n c s).timeless = s.timeless := by
  unfold blwFaulted
  dsimp only
  split
  · rfl
  · rw [updCl_timeless n (by intro _; rfl), ite_timeless, slotFreed_timeless, ite_self]

theorem stretchHigh_timeless (n st : Nat) (d : List Byte) (s : State) : (stretchHigh n st d s).timeless = s.timeless := by
  unfold stretchHigh
  split
  · rfl
  · exact timeless_of_apart (raiseEv_apart _ _) (raiseEv_cvn _ _)

theorem fireEnded_timeless (n : Nat) (s : State) : (fireEnded n s).timeless = s.timeless :=
  updCl_timeless n (by intro _; split <;> rfl) s

theorem fallNow_timeless (w : Soon) (s : State) : (fallNow w s).timeless = s.timeless := by
  cases w with
  | refresh r => exact forEach_timeless refreshOn_timeless _ s
  | tickLow | unpark _ | raiseEn _ | masks _ _ _ => rfl
  | pulse g => exact pulseDue_timeless g s
  | inhibit i => exact inhibitDue_timeless i s
  | disable i c => exact disableDue_timeless i c s
  | loss i c => exact phaseLoss_timeless i c s
  | calSettle n => exact calSettle_timeless n s
  | fireEnd n => exact fireEnded_timeless n s
  | chargeEnd n => exact chargeEnded_timeless n s
  | blwFault n c => exact blwFaulted_timeless n c s
  | stretchHigh n st d => exact stretchHigh_timeless n st d s

theorem fallTo_timeless (t : Nat) : ∀ (fuel : Nat) (s : State), (fallTo t fuel s).timeless = s.timeless
  | 0, _ => rfl
  | fuel + 1, s => by
    unfold fallTo
    split
    · rfl
    · dsimp only
      rw [fallTo_timeless t fuel, ite_timeless, enterEvents_timeless, ite_self, boostCheck_timeless, fallNow_timeless]
      rfl

theorem passTo_timeless (t : Nat) (s : State) : (passTo t s).timeless = s.timeless := by
  unfold passTo
  split
  · rfl
  · exact fallTo_timeless t _ s

theorem reach_timeless {due : Nat} {s u : State} (h : reach due s = some u) : u.timeless = s.timeless := by
  unfold reach at h
  split at h
  · rw [Option.some.inj h]
  · split at h
    · rw [← Option.some.inj h, passTo_timeless]
    · simp at h

/-- A moment that time passes to is not before the present. -/
theorem passTo_now_ge (t : Nat) (s : State) : t ≤ (passTo t s).clk.now := by
  unfold passTo
  split <;> exact le_max_right _ _

/-! ### The parts of two states between which only time has passed -/

theorem cvn_of_timeless {s t : State} (h : t.timeless = s.timeless) : t.cvn = s.cvn := congrArg (fun v => v.2.1) h

/-- The pace in progress: its number, where it began, its stage, and whether its edge still owes the boundary of p0. -/
theorem frame_of_timeless {s t : State} (h : t.timeless = s.timeless) : t.clk.pace = s.clk.pace ∧
    t.clk.paceStart = s.clk.paceStart ∧ t.clk.stage = s.clk.stage ∧ t.clk.p0Pending = s.clk.p0Pending := by
  have hpart {α : Type} (f : Clk → α) : f t.timeless.1.clk = f s.timeless.1.clk := congrArg (fun v => f v.1.clk) h
  exact ⟨hpart Clk.pace, hpart Clk.paceStart, hpart Clk.stage, hpart Clk.p0Pending⟩

/-- Whether some cluster stands in a state with a property. -/
theorem anyStand_of_timeless {s t : State} (h : t.timeless = s.timeless) (p : CSt → Bool) :
    t.cl.any (fun c => p c.s) = s.cl.any (fun c => p c.s) := by
  have hstand : t.cl.val.map Cluster.s = s.cl.val.map Cluster.s := congrArg (fun v => v.2.2) h
  have hany := congrArg (List.any · p) hstand
  rw [List.any_map, List.any_map] at hany
  exact hany

/-- The time up to a moment, which leaves no event of its own behind within a pace, leaves none at all. -/
theorem reach_fresh {due : Nat} {s u : State} (h : reach due s = some u) (hrun : s.clk.running = true ∨ due ≤ s.clk.now)
    (hf : s.evt.fresh = []) : u.evt.fresh = [] := by
  by_cases hdue : due ≤ s.clk.now
  · have hsame : some s = some u := by rw [← h, reach, if_pos hdue]
    rw [← Option.some.inj hsame, hf]
  · have hp : s.clk.p0Pending = false := by
      by_contra hpend
      simp [reach, hdue, hrun.resolve_right hdue, hpend] at h
    exact reach_settled h (fun _ => hf) ((frame_of_timeless (reach_timeless h)).2.2.2.trans hp)

end Sys2Proof.Machine
end

section
/-! SUPPORT. What time does to caravans: the time-out, the cut-off of an edge and the edge check (R244, R251, R252, R260). -/

namespace Sys2Proof.Machine

/-! ### The time-out of an Open caravan (R244, R260) -/

/-- An Open caravan whose time is over is aborted, with its event. -/
def timedOut (k : Nat) (s : State) : State := cvnAbort k 6 (abortEvent (recAt s k) 6 s)

theorem exec_caravanOpenTimeout {k : Nat} {s : State} (ho : (s.cvn.recs.get k).st = .open_)
    (hdue : (s.cvn.recs.get k).lastArr + (s.cvn.recs.get k).timeout ≤ s.clk.stage) (hp : s.clk.p0Pending = false) :
    exec (.caravanOpenTimeout k) s = .next (tick (finish (timedOut k s))) := by
  have hlate := Nat.not_lt.2 hdue
  simp [exec, execCaravanOpenTimeout, lapse, timedOut, recAt, ho, hlate, hp]

theorem timedOut_recs (k : Nat) (s : State) : (timedOut k s).cvn.recs = s.cvn.recs.modify k (abortedRec 6 s.cvn.order) := by
  rw [timedOut, cvnAbort_recs, abortEvent, raise_cvn]

theorem timedOut_apart (k : Nat) (s : State) : (timedOut k s).apart = s.apart := raise_apart _ _ _ s

theorem timedOut_calm (k : Nat) {s : State} (hc : s.calm = true) : (timedOut k s).calm = true := by
  have hcmd : (timedOut k s).cmd = s.cmd := congrArg Prod.fst (raise_replySide _ _ _ s)
  rw [State.calm, hcmd]
  exact hc

/-- The only event of a cycle is raised in it, whatever follows that leaves the events of the cycle. -/
theorem raised_of_fresh_kept {s u : State} {code source : Nat} {data : List Byte} (hf : s.evt.fresh = [])
    (hu : u.evt.fresh = (raise code source data s).evt.fresh) : Raised code source data (finish u) := by
  refine ⟨u, { code, source, stage := s.clk.stage, data, moment := s.clk.now }, ?_, rfl, rfl, rfl, rfl⟩
  rw [hu, raise_of_no_fresh hf]
  exact List.mem_singleton_self _

theorem timedOut_raised (k : Nat) {s : State} (hf : s.evt.fresh = []) : ∃ d, Raised 0x0420 0 d (finish (timedOut k s)) :=
  ⟨_, raised_of_fresh_kept hf rfl⟩

/-! ### The cut-off of the coming edge (R46, R251) -/

/-- The cut-off of the coming edge has expired. -/
def cutOff (s : State) : State := { s with cvn := { s.cvn with cutoffFor := some (s.clk.stage + 1) } }

theorem cutoffPassed_of_cycle_zero {s : State} (h : s.clk.now = s.clk.paceStart) : cutoffPassed s = false := by
  simp [cutoffPassed, h]

theorem exec_caravanCutoff {s : State} (hr : s.clk.running = true) (hpace : s.clk.pace = 15) (hp : s.clk.p0Pending = false)
    (hnow : s.clk.now = s.clk.paceStart) : exec .caravanCutoff s = .next (tick (finish (cutOff s))) := by
  simp [exec, execCaravanCutoff, lapse, cutOff, hr, hpace, hp, cutoffPassed_of_cycle_zero hnow]

/-- A commit that comes in p15 after its cycle 0 has missed the cut-off of the coming edge. -/
theorem firstEdge_tick {s : State} (hpace : s.clk.pace = 15) (hp : s.clk.p0Pending = false) (hnow : s.clk.paceStart ≤ s.clk.now)
    (hend : s.clk.now + 1 < s.paceEnd) : firstEdge (tick s) = s.clk.stage + 2 := by
  rw [tick_passes (.inr ⟨hp, hend⟩)]
  obtain ⟨hpace', hstart, hstage, -⟩ := frame_of_timeless (passTo_timeless (s.clk.now + 1) s)
  have hpast : (passTo (s.clk.now + 1) s).clk.paceStart < (passTo (s.clk.now + 1) s).clk.now := by
    have hge := passTo_now_ge (s.clk.now + 1) s
    omega
  simp [firstEdge, cutoffPassed, hpace', hpace, hpast, hstage]

/-! ### The edge check (R252 to R254) -/

theorem exec_caravanEdgeCheck {s u : State} (hr : s.clk.running = true) (hpace : s.clk.pace = 15) (hp : s.clk.p0Pending = false)
    (hu : reach (s.clk.paceStart + 1) s = some u) : exec .caravanEdgeCheck s = .next (finish (edgeCheck u)) := by
  simp [exec, execCaravanEdgeCheck, hr, hpace, hp, atTime_of_reach hu]

/-- The check of one caravan answers its commit at most. -/
theorem checkRecord_apart (k : Nat) (x : State × State) : (checkRecord k x).2.apart = x.2.apart := by
  unfold checkRecord
  refine iteInduction (motive := fun y : State × State => y.2.apart = x.2.apart) (fun _ => abortCommitted_apart k 7 none x.2)
    (fun _ => ?_)
  split
  · exact abortCommitted_apart k 4 _ x.2
  · rfl

theorem foldl_checkRecord_apart : ∀ (l : List Nat) (x : State × State),
    (l.foldl (fun x k => checkRecord k x) x).2.apart = x.2.apart
  | [], _ => rfl
  | k :: l, x => (foldl_checkRecord_apart l (checkRecord k x)).trans (checkRecord_apart k x)

theorem edgeCheck_apart (s : State) : (edgeCheck s).apart = s.apart := foldl_checkRecord_apart _ (s, s)

/-- With no record Committed none is due. -/
theorem dueRecords_of_none_committed {s : State} (h : ∀ k, k < 4 → (s.cvn.recs.get k).st ≠ .committed) (stage : Nat)
    (p : CvnRec → Bool) : dueRecords s stage p = [] := by
  have hnone : s.cvn.recs.places (fun _ r => r.st == .committed && decide (r.edge ≤ stage) && p r) = [] := by
    refine List.eq_nil_iff_forall_not_mem.2 fun k hk => ?_
    obtain ⟨hlt, hdue⟩ := Tab.mem_places.1 hk
    simp [h k hlt] at hdue
  rw [dueRecords, hnone]
  rfl

theorem edgeCheck_of_none_committed {s : State} (h : ∀ k, k < 4 → (s.cvn.recs.get k).st ≠ .committed) : edgeCheck s = s := by
  rw [edgeCheck, dueRecords_of_none_committed h]
  rfl

/-- The time up to a moment leaves the command interface calm. -/
theorem reach_calm {due : Nat} {s u : State} (h : reach due s = some u) (hc : s.calm = true) : u.calm = true := by
  have hcmd : u.cmd = s.cmd := congrArg Prod.fst (reach_replySide h)
  rw [State.calm, hcmd]
  exact hc

/-- Settles O49: the record that a time-out leaves, the cycle after the cut-off, and the check with nothing to check. Of a
time-out and of the cut-off the cycle is over when the command ends (`tick`, log 91). -/
theorem caravanTime : Obligations.CaravanTime := by
  unfold Obligations.CaravanTime
  refine fun s => ⟨fun k hk hc ho hdue hf hp => ?timeout, fun hr hpace hp hnow hend => ?cutoff, fun u hr hpace hp hu => ?check⟩
  case timeout =>
    obtain ⟨hrec, hother⟩ := finish_rec hk _ (timedOut_recs k s) (timedOut_calm k hc)
    refine ⟨_, exec_caravanOpenTimeout ho hdue hp, ?_, ?_, hother, timedOut_raised k hf, (finish_apart _).trans (timedOut_apart k s)⟩
    · rw [hrec]
      rfl
    · rw [hrec]
      rfl
  case cutoff =>
    have hrest : (finish (cutOff s)).apart = s.apart := finish_apart (cutOff s)
    have hclk := clk_of_apart hrest
    have hlast : (finish (cutOff s)).paceEnd = s.paceEnd := by rw [State.paceEnd, State.paceLen, hclk]; rfl
    refine ⟨by rw [firstEdge, cutoffPassed_of_cycle_zero hnow]; rfl, _, exec_caravanCutoff hr hpace hp hnow, ?_, hrest⟩
    rw [firstEdge_tick (by rw [hclk, hpace]) (by rw [hclk, hp]) (by rw [hclk, hnow]) (by rw [hclk, hlast]; exact hend), hclk]
  case check =>
    refine ⟨_, exec_caravanEdgeCheck hr hpace hp hu, (finish_apart _).trans (edgeCheck_apart u), fun hc hnone => ?_⟩
    have hcvn := cvn_of_timeless (reach_timeless hu)
    rw [edgeCheck_of_none_committed (by rw [hcvn]; exact hnone), finish_cvn (reach_calm hu hc), hcvn]

end Sys2Proof.Machine
end

section
/-! SUPPORT. The diode results and the trip (R339, R347 to R349). -/

namespace Sys2Proof.Machine

/-! ### A good diode result (R339, R340, R347, R348) -/

/-- A result without the broken marks: its two readings lie in their ranges (R349). -/
structure GoodResult (d vf : Int) : Prop where
  d_ge : 40000 ≤ d
  d_le : d ≤ 95000
  vf_ge : 250 ≤ vf
  vf_le : vf ≤ 900

/-- The sensor is not broken, and no change of thresholds or offset waits for a result (R349, R350). -/
structure PlainTherm (t : Therm) : Prop where
  sensorGood : t.sensorBad = false
  noCfg : t.resCfg = none
  noOfs : t.ofsNext = none

/-- The thermal unit with a good result taken: the temperature, the moment of the next result and the runs (R339, R340, R347
to R349). -/
def resultTaken (raw : Int) (s : State) : Therm :=
  let t := s.therm
  let temp := raw + t.ofs
  { t with
    temp, lastGood := temp, riseGood := riseAtDiode s
    cal := t.cal.map (fun k => if k.n < 64 then { k with sum := k.sum + raw, n := k.n + 1 } else k)
    first := true, pinLow := if t.first = false then t.trip else t.pinLow
    nextRes := (if t.first = false then s.clk.now else t.nextRes) + 100000
    badRun := 0, goodRun := min 16 (t.goodRun + 1)
    tripRun := if (16 * t.tripC : Int) ≤ temp then min 2 (t.tripRun + 1) else 0
    coolRun := if t.trip = true ∧ temp < 16 * t.restC then min 16 (t.coolRun + 1) else 0
    maxTemp := if t.trip then max t.maxTemp temp else t.maxTemp }

/-- The trip is released (R348). -/
def tripReleased (s : State) : State :=
  { s with therm := { s.therm with trip := false, tripSeen := false, pinLow := false, coolRun := 0, release := true } }

/-- What the runs of results say of the trip: the second hot result asserts it, the sixteenth cool one releases it (R347, R348). -/
def tripJudged (s : State) : State :=
  if s.therm.trip = false ∧ s.therm.tripRun = 2 then assertTrip s
  else if s.therm.trip = true ∧ s.therm.coolRun = 16 then tripReleased s
  else s

theorem judgeSensor_good {s : State} (h : s.therm.sensorBad = false) : judgeSensor false s
    = { s with therm := { s.therm with badRun := 0, goodRun := min 16 (s.therm.goodRun + 1) } } := by
  simp [judgeSensor, h]

theorem onEstimate_good {s : State} (h : s.therm.sensorBad = false) : onEstimate s = false := by simp [onEstimate, h]

theorem estimateTemp_good {s : State} (h : s.therm.sensorBad = false) : estimateTemp s = s := by simp [estimateTemp, h]

theorem diodeResult_good {d vf : Int} {s : State} (hres : GoodResult d vf) (ht : PlainTherm s.therm) :
    diodeResult d vf s = tripJudged { s with therm := resultTaken (rawTemp s.fuses.diodeGain d) s } := by
  obtain ⟨hbad, hcfg, hofs⟩ := ht
  have hbroken : (decide (d < 40000) || decide (95000 < d) || decide (vf < 250) || decide (900 < vf)) = false := by
    simp [not_lt.2 hres.d_ge, not_lt.2 hres.d_le, not_lt.2 hres.vf_ge, not_lt.2 hres.vf_le]
  unfold diodeResult tripJudged resultTaken
  rw [hbroken]
  simp [judgeSensor_good, estimateTemp_good, onEstimate_good, tripReleased, hbad, hcfg, hofs]

theorem exec_diodeResult {d vf : Int} {s : State} (hpor : s.sys.porHigh = true)
    (hnext : s.therm.first = true → s.therm.nextRes ≤ s.clk.now) : exec (.diodeResult d vf) s = .next (finish (diodeResult d vf s)) := by
  have harm : exec (.diodeResult d vf) s = if !s.sys.porHigh then idle s
      else if s.therm.first then atTime s.therm.nextRes (diodeResult d vf) s else done (diodeResult d vf s) := rfl
  rw [harm, hpor]
  by_cases hfirst : s.therm.first = true
  · have hreach : reach s.therm.nextRes s = some s := if_pos (hnext hfirst)
    simp [hfirst, atTime_of_reach hreach]
  · simp [hfirst, done]

/-! ### What becomes of the trip -/

theorem assertTrip_of_clear {s : State} (h : s.therm.trip = false) : assertTrip s = forcePads { s with therm := { s.therm with
    trip := true, tripSeen := false, pinLow := true, trips := min 65535 (s.therm.trips + 1), maxTemp := s.therm.temp
    coolRun := 0, tripRun := 0, release := false, restart := 0 } } :=
  if_neg (by simp [h])

/-- The judgement touches the thermal unit and the pads alone, and of the results it keeps the temperature and the broken run. -/
theorem tripJudged_frame (s : State) : (tripJudged s).therm.temp = s.therm.temp ∧ (tripJudged s).therm.badRun = s.therm.badRun ∧
    (tripJudged s).apart = ({ s with therm := (tripJudged s).therm, phases := (tripJudged s).phases } : State).apart := by
  unfold tripJudged
  split
  next h =>
    rw [assertTrip_of_clear h.1]
    exact ⟨rfl, rfl, rfl⟩
  next =>
    split <;> exact ⟨rfl, rfl, rfl⟩

theorem tripJudged_trip_of_clear {s : State} (h : s.therm.trip = false) :
    (tripJudged s).therm.trip = true ↔ s.therm.tripRun = 2 := by
  by_cases hrun : s.therm.tripRun = 2
  · have hasserts : tripJudged s = assertTrip s := if_pos ⟨h, hrun⟩
    rw [hasserts, assertTrip_of_clear h]
    exact iff_of_true rfl hrun
  · simp [tripJudged, h, hrun]

theorem tripJudged_trip_of_set {s : State} (h : s.therm.trip = true) :
    (tripJudged s).therm.trip = false ↔ s.therm.coolRun = 16 := by
  by_cases hrun : s.therm.coolRun = 16 <;> simp [tripJudged, tripReleased, h, hrun]

/-- The second consecutive hot result (R347). -/
theorem resultTaken_tripRun (raw : Int) (s : State) :
    (resultTaken raw s).tripRun = 2 ↔ s.therm.tripRun ≠ 0 ∧ (16 * s.therm.tripC : Int) ≤ raw + s.therm.ofs := by
  by_cases hhot : (16 * s.therm.tripC : Int) ≤ raw + s.therm.ofs
  · simp only [resultTaken, hhot, if_true, and_true]
    omega
  · simp [resultTaken, hhot]

/-- The sixteenth consecutive cool result of a trip (R348). -/
theorem resultTaken_coolRun {s : State} (h : s.therm.trip = true) (raw : Int) :
    (resultTaken raw s).coolRun = 16 ↔ 15 ≤ s.therm.coolRun ∧ raw + s.therm.ofs < 16 * s.therm.restC := by
  by_cases hcool : raw + s.therm.ofs < 16 * s.therm.restC
  · simp only [resultTaken, h, hcool, if_true, and_true]
    omega
  · simp [resultTaken, hcool]

end Sys2Proof.Machine
end

section
/-! SUPPORT. The trip in the Bruxon domain: every rail goes Off and every cluster to Dormant (R255, R347). -/

namespace Sys2Proof.Machine

/-! ### What the descent of the trip leaves -/

/-- A state beside what the trip takes down: the rails with their phases, groups and segments, the clusters and their cells, the
converters with their channels and calibrations, starts and stops, what waits to fall, and what every command may change; the events
of the cycle stay in it. -/
def State.besideTrip (s : State) : State :=
  { s.apart with
    clk := { s.clk with soon := [] }, evt := { s.evt.apart with fresh := s.evt.fresh }
    rails := State.reset.rails, phases := State.reset.phases, groups := State.reset.groups, segs := State.reset.segs
    cl := State.reset.cl, cells := State.reset.cells, starts := [], stops := []
    convs := State.reset.convs, chans := State.reset.chans, adc := { s.adc with on := false, cals := [] } }

/-- Beside what the trip takes down, the events of the cycle decide what `State.apart` does not see. -/
theorem besideTrip_of_fresh {s t : State} (h : t.besideTrip.apart = s.besideTrip.apart) (hf : t.evt.fresh = s.evt.fresh) :
    t.besideTrip = s.besideTrip := by
  have hview := congrArg₂ (fun (u : State) fresh => ({ u with evt := { u.evt with fresh } } : State)) h hf
  exact hview

theorem besideTrip_of_apart {s t : State} (h : t.apart = s.apart) (hf : t.evt.fresh = s.evt.fresh) : t.besideTrip = s.besideTrip := by
  have hrest := congrArg (fun u : State => u.besideTrip.apart) h
  exact besideTrip_of_fresh hrest hf

theorem besideTrip_of_beside {n : Nat} {s t : State} (h : t.beside n = s.beside n) (hf : t.evt.fresh = s.evt.fresh) :
    t.besideTrip = s.besideTrip := by
  have hrest := congrArg (fun u : State => u.besideTrip.apart) h
  exact besideTrip_of_fresh hrest hf

theorem besideTrip_of_besideCals {s t : State} (h : t.besideCals = s.besideCals) (hf : t.evt.fresh = s.evt.fresh) :
    t.besideTrip = s.besideTrip := by
  have hrest := congrArg (fun u : State => u.besideTrip.apart) h
  exact besideTrip_of_fresh hrest hf

/-- What is not beside them is put back. -/
theorem apart_of_besideTrip {s t : State} (h : t.besideTrip = s.besideTrip) : t.apart = ({ s with
    rails := t.rails, phases := t.phases, groups := t.groups, segs := t.segs, cl := t.cl, cells := t.cells
    starts := t.starts, stops := t.stops, convs := t.convs, chans := t.chans
    adc := { s.adc with on := t.adc.on, cals := t.adc.cals }, clk := { s.clk with soon := t.clk.soon } } : State).apart := by
  have hback := congrArg (fun u : State => ({ u with
    rails := t.rails, phases := t.phases, groups := t.groups, segs := t.segs, cl := t.cl, cells := t.cells
    starts := t.starts, stops := t.stops, convs := t.convs, chans := t.chans
    adc := { u.adc with on := t.adc.on, cals := t.adc.cals }, clk := { u.clk with soon := t.clk.soon } } : State).apart) h
  exact hback

theorem therm_of_besideTrip {s t : State} (h : t.besideTrip = s.besideTrip) : t.therm = s.therm := by
  have htherm := congrArg State.therm h; exact htherm

theorem fresh_of_besideTrip {s t : State} (h : t.besideTrip = s.besideTrip) : t.evt.fresh = s.evt.fresh := by
  have hfresh := congrArg (fun u : State => u.evt.fresh) h; exact hfresh

/-! ### Starts and stops end (R347) -/

theorem answerStart_fresh (k : TrackStart) (st : Status) (pre win : Nat) (s : State) :
    (answerStart k st pre win s).evt.fresh = s.evt.fresh := by
  unfold answerStart
  split
  · exact reply_fresh _ _ _ _ _
  · rfl

/-- The command of a stop that ends with the trip is answered, if it still waits. -/
def answerStop (k : TrackStop) (s : State) : State :=
  match k.pkt with
  | some p => reply p 0x0202 .badState [] s
  | none => s

theorem answerStop_besideTrip (k : TrackStop) (s : State) : (answerStop k s).besideTrip = s.besideTrip := by
  unfold answerStop
  split
  · exact besideTrip_of_apart (reply_apart _ _ _ _ _) (reply_fresh _ _ _ _ _)
  · rfl

theorem endTracking_steps (s : State) : endTracking s
    = forEach s.stops answerStop (forEach s.starts (fun k => answerStart k .badState 0 0) { s with starts := [], stops := [] }) := rfl

theorem endTracking_besideTrip (s : State) : (endTracking s).besideTrip = s.besideTrip := by
  rw [endTracking_steps, forEach_keeps State.besideTrip _ answerStop_besideTrip]
  exact forEach_keeps State.besideTrip _
    (fun k u => besideTrip_of_apart (answerStart_apart k .badState 0 0 u) (answerStart_fresh k .badState 0 0 u)) _ _

/-! ### The clusters go to Dormant (R347) -/

theorem stretchEnd_fresh (n : Nat) (s : State) : (stretchEnd n s).evt.fresh = s.evt.fresh := by
  have hcount : (countStretch false n s).evt.fresh = s.evt.fresh := by
    unfold countStretch
    dsimp only
    split
    · rfl
    · split <;> rfl
  unfold stretchEnd
  split
  · exact hcount
  · rfl

theorem setCells_besideTrip (n : Nat) (m : CellMode) (s : State) : (setCells n m s).besideTrip = s.besideTrip := by
  obtain ⟨cells, hset⟩ := setCells_eq n m s
  rw [hset]
  rfl

theorem tripCluster_besideTrip (n : Nat) (s : State) : (tripCluster n s).besideTrip = s.besideTrip := by
  have hchange (f : Cluster → Cluster) (u : State) : (u.updCl n f).besideTrip = u.besideTrip := rfl
  rw [tripCluster, powerOff, hchange, setCells_besideTrip, hchange]
  exact besideTrip_of_beside (stretchEnd_beside n s) (stretchEnd_fresh n s)

/-- A cluster stands in Dormant, with no transition in progress. -/
def CSt.down (c : CSt) : Prop := c.st = .dormant ∧ c.trans = none

theorem tripCluster_down {n : Nat} (hn : n < 144) (s : State) : ((tripCluster n s).cluster n).s.down := by
  rw [tripCluster, State.cluster_updCl_same _ hn]
  exact ⟨rfl, rfl⟩

theorem tripCluster_other {n m : Nat} (h : m ≠ n) (s : State) : (tripCluster n s).cluster m = s.cluster m := by
  have hchange (f : Cluster → Cluster) (u : State) : (u.updCl n f).cluster m = u.cluster m := Tab.get_modify_other _ _ _ _ h.symm
  obtain ⟨cells, hset⟩ := setCells_eq n .off ((stretchEnd n s).updCl n (fun c => { c with
    s := { c.s with rstN := false }, d := { st := .none, req := 0 }
    v := { c.v with target := 0, sp := { c.v.sp.hold 0 with every := 250 } } }))
  rw [tripCluster, powerOff, hset, hchange]
  refine (hchange _ _).trans ((hchange _ _).trans ?_)
  exact cluster_of_beside (stretchEnd_beside n s) h

/-- Every cluster of a list goes down, and one that is down stays down. -/
theorem forEach_tripCluster_down {m : Nat} (hm : m < 144) :
    ∀ (l : List Nat) (s : State), m ∈ l ∨ (s.cluster m).s.down → ((forEach l tripCluster s).cluster m).s.down
  | [], _, h => h.resolve_left (by simp)
  | n :: l, s, h => by
    refine forEach_tripCluster_down hm l (tripCluster n s) ?_
    by_cases hmn : m = n
    · exact .inr (hmn ▸ tripCluster_down hm s)
    · rw [tripCluster_other hmn]
      exact h.imp_left fun hmem => (List.mem_cons.1 hmem).resolve_left hmn

/-! ### The rails go Off (R347) -/

theorem convsHalted_besideTrip (r : Nat) (s : State) : (convsHalted r s).besideTrip = s.besideTrip := by
  have hto : (convsTo s.clk.now s).besideTrip = s.besideTrip := by
    rw [convsTo_eq]
    rfl
  have hleft (u : State) : (calAbandon u).besideTrip = u.besideTrip :=
    forEach_keeps State.besideTrip _
      (fun i v => besideTrip_of_besideCals (calFinish_besideCals i 5 v) (calFinish_fresh i 5 v)) _ _
  unfold convsHalted
  split
  · exact (hleft _).trans hto
  · exact hto

theorem bellowsOff_besideTrip (s : State) : (bellowsOff s).besideTrip = s.besideTrip := rfl

theorem railOff_besideTrip (r : Nat) (s : State) : (railOff r s).besideTrip = s.besideTrip := by
  have hoff (u : State) : (u.updRail r Rail.off).besideTrip = u.besideTrip := rfl
  have hphases (u : State) : (phasesOff r u).besideTrip = u.besideTrip := rfl
  have hgroups (u : State) : (groupsOff r u).besideTrip = u.besideTrip := by rw [groupsOff_eq]; rfl
  have hwindows (u : State) : (windowsOff r u).besideTrip = u.besideTrip := by
    unfold windowsOff
    dsimp only
    split <;> split <;> rfl
  rw [railOff_steps, hoff, hwindows, hgroups, hphases, convsHalted_besideTrip]

theorem bellowsOff_standing {n : Nat} (hn : n < 144) (s : State) : ((bellowsOff s).cluster n).s = (s.cluster n).s := by
  have hmap : (bellowsOff s).cluster n = _ := Tab.get_map s.cl _ n hn
  rw [hmap]
  split <;> rfl

/-- A rail that goes Off leaves where a cluster stands. -/
theorem railOff_standing {n : Nat} (hn : n < 144) (r : Nat) (s : State) : ((railOff r s).cluster n).s = (s.cluster n).s := by
  by_cases hr : r = 3
  · have hconvs : (convsHalted r s).cl = s.cl := by
      have hcl := congrArg State.cl (convsHalted_besideConvs r s)
      exact hcl
    have hwindows (u : State) : windowsOff r u = bellowsOff u := by
      subst hr
      rfl
    have hcl : (phasesOff r (convsHalted r s)).cluster n = s.cluster n := congrArg (fun l : Tab 144 Cluster => l.get n) hconvs
    rw [railOff_steps, hwindows, groupsOff_eq, ← hcl]
    exact bellowsOff_standing hn _
  · rw [State.cluster, (railOff_other hr s).2.2, State.cluster]

theorem forEach_railOff_rail {r : Nat} (hr : r < 4) (l : List Nat) (s : State) :
    (forEach l railOff s).rail r = if r ∈ l then (s.rail r).off else s.rail r := by
  have hrails : (forEach l railOff s).rails = l.foldl (fun t r => t.modify r Rail.off) s.rails :=
    (List.foldl_hom State.rails (fun u r => (railOff_rails r u).symm)).symm
  rw [State.rail, hrails, Tab.get_foldl_modify (by intro _; rfl) hr, State.rail]

/-! ### The trip seen in the Bruxon domain -/

/-- The starts and stops ended, every cluster Dormant, every rail Off and the bellows off (R347). -/
def tripDown (s : State) : State := bellowsOff (forEach [0, 1, 2, 3] railOff (forEach (List.range 144) tripCluster (endTracking s)))

theorem tripDown_besideTrip (s : State) : (tripDown s).besideTrip = s.besideTrip := by
  rw [tripDown, bellowsOff_besideTrip, forEach_keeps State.besideTrip _ railOff_besideTrip,
    forEach_keeps State.besideTrip _ tripCluster_besideTrip, endTracking_besideTrip]

theorem tripDown_rail_off {r : Nat} (hr : r < 4) (s : State) : ((tripDown s).rail r).enabled = false := by
  have hmem : r ∈ [0, 1, 2, 3] := by
    simp only [List.mem_cons, List.not_mem_nil]
    omega
  have hbellows (u : State) : (bellowsOff u).rail r = u.rail r := rfl
  rw [tripDown, hbellows, forEach_railOff_rail hr, if_pos hmem]
  rfl

theorem tripDown_cluster_down {n : Nat} (hn : n < 144) (s : State) : ((tripDown s).cluster n).s.down := by
  have hrails := forEach_keeps (fun u : State => (u.cluster n).s) _ (railOff_standing hn) [0, 1, 2, 3]
    (forEach (List.range 144) tripCluster (endTracking s))
  rw [tripDown, bellowsOff_standing hn, hrails]
  exact forEach_tripCluster_down hn _ _ (.inl (List.mem_range.2 hn))

/-- A cluster is not Dormant. -/
def anyAwake (s : State) : Bool := s.cl.any (fun c => c.s.st != .dormant)

/-- The trip is seen, what has lost its context is recorded, and chip drone mode is over (R347). -/
def tripNoted (lost : Bool) (s : State) : State :=
  { s with
    therm := { s.therm with tripSeen := true, contextLost := s.therm.contextLost || lost }
    feed := { s.feed with chipDrone := false } }

theorem tripNoted_rail (lost : Bool) (s : State) (r : Nat) : (tripNoted lost s).rail r = s.rail r := rfl
theorem tripNoted_cluster (lost : Bool) (s : State) (n : Nat) : (tripNoted lost s).cluster n = s.cluster n := rfl
theorem tripNoted_fresh (lost : Bool) (s : State) : (tripNoted lost s).evt.fresh = s.evt.fresh := rfl

/-- A state with what the trip changes as it stands in `t`. -/
def tripChanged (t s : State) : State :=
  { s with
    therm := { s.therm with tripSeen := true, contextLost := t.therm.contextLost }
    rails := t.rails, cl := t.cl, cells := t.cells, groups := t.groups, phases := t.phases, segs := t.segs
    starts := t.starts, stops := t.stops, feed := { s.feed with chipDrone := false }
    adc := { s.adc with on := t.adc.on, cals := t.adc.cals }, convs := t.convs, chans := t.chans
    clk := { s.clk with soon := t.clk.soon } }

theorem tripChanged_of_apart {t v : State} (h : t.apart = v.apart) (s : State) : tripChanged t s = tripChanged v s := by
  have hview := congrArg (tripChanged · s) h
  exact hview

theorem tripNoted_apart {s t : State} (h : t.besideTrip = s.besideTrip) (lost : Bool) :
    (tripNoted lost t).apart = (tripChanged (tripNoted lost t) s).apart := by
  have hlost : (tripNoted lost t).therm.contextLost = (s.therm.contextLost || lost) := by
    rw [tripNoted, therm_of_besideTrip h]
  have hback := congrArg (tripNoted lost) (apart_of_besideTrip h)
  rw [tripChanged, hlost]
  exact hback

/-- The context lost is told to software in its cycle (R9). -/
def lossNoted (lost : Bool) (s : State) : State := if lost then noteSet 0x600 11 s else s

theorem lossNoted_apart (lost : Bool) (s : State) : (lossNoted lost s).apart = s.apart := by
  unfold lossNoted
  split <;> rfl

theorem lossNoted_fresh (lost : Bool) (s : State) : (lossNoted lost s).evt.fresh = s.evt.fresh := by
  unfold lossNoted
  split <;> rfl

theorem tripActs_steps (s : State) :
    tripActs s = raise 0x0810 0 [] (lossNoted (anyAwake s) (tripNoted (anyAwake s) (tripDown s))) := rfl

theorem tripActs_apart (s : State) : (tripActs s).apart = (tripNoted (anyAwake s) (tripDown s)).apart := by
  rw [tripActs_steps, raise_apart, lossNoted_apart]

theorem tripActs_raised {s : State} (hf : s.evt.fresh = []) : Raised 0x0810 0 [] (finish (tripActs s)) := by
  rw [tripActs_steps]
  refine raised_of_no_fresh ?_ _ _ _
  rw [lossNoted_fresh, tripNoted_fresh]
  exact (fresh_of_besideTrip (tripDown_besideTrip s)).trans hf

/-- The cycle in which the consequences of the trip follow: the present one, or the next in an edge cycle (R49, R413). -/
def tripDue (s : State) : Nat := if s.clk.running && s.clk.now == s.clk.stageStart then s.clk.now + 1 else s.clk.now

theorem running_or_tripDue_le {s : State} : s.clk.running = true ∨ tripDue s ≤ s.clk.now := by
  cases hrun : s.clk.running <;> simp [tripDue, hrun]

theorem exec_thermalTrip {s u : State} (htrip : s.therm.trip = true) (hseen : s.therm.tripSeen = false) (hup : s.islandUp = true)
    (hwait : tripWaits s = false) (hu : reach (tripDue s) s = some u) : exec .thermalTrip s = .next (finish (tripActs u)) := by
  have harm : exec .thermalTrip s = if !s.therm.trip || s.therm.tripSeen || !s.islandUp || tripWaits s then idle s
      else atTime (tripDue s) tripActs s := rfl
  rw [harm, htrip, hseen, hup, hwait]
  exact atTime_of_reach hu tripActs

/-- What the time up to a moment leaves of the thermal unit, the feed follower and the converters. -/
theorem units_of_still {s t : State} (h : t.still = s.still) : t.therm = s.therm ∧ t.feed = s.feed ∧ t.adc = s.adc := by
  have htherm := congrArg State.therm h
  have hfeed := congrArg State.feed h
  have hadc := congrArg State.adc h
  exact ⟨htherm, hfeed, hadc⟩

/-- Settles O43: a good result by the runs that it leaves, and the trip by what it takes down. Log 38 is the model's taking of
results by brx_por_n_i alone. -/
theorem thermalTrip : Obligations.ThermalTrip := by
  unfold Obligations.ThermalTrip
  refine ⟨fun d vf s temp hpor hd hd' hvf hvf' hbad hcfg hofs htemp hnext => ?result,
    fun s u htrip hseen hup hf hwait hu => ?trip⟩
  case result =>
    have hgood := diodeResult_good ⟨hd, hd', hvf, hvf'⟩ ⟨hbad, hcfg, hofs⟩
    obtain ⟨hsame, hrun, hrest⟩ := tripJudged_frame { s with therm := resultTaken (rawTemp s.fuses.diodeGain d) s }
    refine ⟨_, exec_diodeResult hpor hnext, ?_⟩
    subst htemp
    rw [finish_apart, finish_therm, finish_phases, hgood]
    refine ⟨hsame, hrun, hrest, fun hclear => ?_, fun hset => ?_⟩
    · exact (tripJudged_trip_of_clear (s := { s with therm := resultTaken _ s }) hclear).trans (resultTaken_tripRun _ s)
    · exact (tripJudged_trip_of_set (s := { s with therm := resultTaken _ s }) hset).trans (resultTaken_coolRun hset _)
  case trip =>
    obtain ⟨htherm, hfeed, hadc⟩ := units_of_still (reach_still hu)
    have hdown := tripDown_besideTrip u
    have hview := (finish_apart (tripActs u)).trans (tripActs_apart u)
    have hlost : anyAwake u = anyAwake s := anyStand_of_timeless (reach_timeless hu) (fun c => c.st != .dormant)
    refine ⟨_, exec_thermalTrip htrip hseen hup hwait hu, fun r hr => ?_, fun n hn => ?_, ?_,
      tripActs_raised (reach_fresh hu running_or_tripDue_le hf), ?_⟩
    · rw [rail_of_apart hview, tripNoted_rail]
      exact tripDown_rail_off hr u
    · rw [cluster_of_apart hview, tripNoted_cluster]
      exact tripDown_cluster_down hn u
    · have hnoted := congrArg (fun v : State => v.therm.contextLost) hview
      refine hnoted.trans ?_
      rw [tripNoted, therm_of_besideTrip hdown, htherm, hlost]
      rfl
    · have hrest := hview.trans (tripNoted_apart hdown _)
      rw [← tripChanged_of_apart hview] at hrest
      rw [← htherm, ← hfeed, ← hadc]
      exact hrest

end Sys2Proof.Machine
end

section
/-! SUPPORT. Bytes of numbers, and what a byte of Ledger RAM reads after a store and after a seal (R4, R431). -/

namespace Sys2Proof.Machine

/-! ### The bytes of a number (R4) -/

@[simp] theorem length_leBytes : ∀ k n : Nat, (leBytes k n).length = k
  | 0, _ => rfl
  | k + 1, n => by rw [leBytes, List.length_cons, length_leBytes k]

theorem leNat_leBytes : ∀ k n : Nat, leNat (leBytes k n) = n % 256 ^ k
  | 0, n => by rw [leBytes, leNat, Nat.pow_zero, Nat.mod_one]
  | k + 1, n => by
    have hbyte : (BitVec.ofNat 8 n).toNat = n % 256 := BitVec.toNat_ofNat n 8
    rw [leBytes, leNat, leNat_leBytes k, hbyte, Nat.pow_succ', Nat.mod_mul]

/-! ### Reading a memory -/

theorem Memory.read_of_absent {k : Nat} : ∀ {m : Memory}, (∀ c ∈ m, c.1 ≠ k) → Memory.read m k = unlisted
  | [], _ => rfl
  | (a, b) :: rest, h => by
    rw [Memory.read, if_neg (h (a, b) (by simp)), Memory.read_of_absent fun c hc => h c (by simp [hc])]

theorem Memory.read_append_left {k : Nat} {n : Memory} (h : ∀ c ∈ n, c.1 ≠ k) : ∀ m : Memory, Memory.read (m ++ n) k = Memory.read m k
  | [] => Memory.read_of_absent h
  | (a, b) :: rest => by
    rw [List.cons_append, Memory.read, Memory.read, Memory.read_append_left h rest]

theorem Memory.read_append_right {k : Nat} (n : Memory) : ∀ {m : Memory}, (∀ c ∈ m, c.1 ≠ k) → Memory.read (m ++ n) k = Memory.read n k
  | [], _ => rfl
  | (a, b) :: rest, h => by
    rw [List.cons_append, Memory.read, if_neg (h (a, b) (by simp)), Memory.read_append_right n fun c hc => h c (by simp [hc])]

/-- Cells left out of a memory do not matter where the address is kept. -/
theorem Memory.read_filter {k : Nat} {p : Host.Cell → Bool} (h : ∀ b, p (k, b) = true) :
    ∀ m : Memory, Memory.read (m.filter p) k = Memory.read m k
  | [] => rfl
  | (a, b) :: rest => by
    have ih := Memory.read_filter h rest
    by_cases ha : a = k
    · subst ha; simp [h, Memory.read]
    · by_cases hp : p (a, b) = true
      · simp [hp, Memory.read, ha, ih]
      · simp [hp, Memory.read, ha, ih]

theorem Memory.cellsOf_ge (bs : List Byte) (a : Nat) : ∀ c ∈ Memory.cellsOf a bs, a ≤ c.1 :=
  Memory.wfFrom_le _ a (Memory.cellsOf_wfFrom bs a)

/-- A byte among consecutive bytes. -/
theorem Memory.read_cellsOf {k : Nat} : ∀ (bs : List Byte) (a : Nat), a ≤ k → Memory.read (Memory.cellsOf a bs) k = bs.getD (k - a) 0
  | [], a, _ => rfl
  | b :: bs, a, hak => by
    rcases Nat.eq_or_lt_of_le hak with rfl | hlt
    · have hrest : Memory.read (Memory.cellsOf (a + 1) bs) a = unlisted :=
        Memory.read_of_absent fun c hc => by have := Memory.cellsOf_ge bs (a + 1) c hc; omega
      by_cases hb : b = unlisted
      · simpa [Memory.cellsOf, hb] using hrest
      · simp [Memory.cellsOf, hb, Memory.read]
    · have hk : k - a = (k - (a + 1)) + 1 := by omega
      have ih := Memory.read_cellsOf bs (a + 1) hlt
      by_cases hb : b = unlisted
      · simpa [Memory.cellsOf, hb, hk] using ih
      · simpa [Memory.cellsOf, hb, hk, Memory.read, Nat.ne_of_lt hlt] using ih

/-- A byte after a store is the byte stored within the stored bytes, and as before elsewhere. -/
theorem Memory.read_store (m : Memory) (a k : Nat) (bs : List Byte) :
    Memory.read (Memory.store m a bs) k = if a ≤ k ∧ k < a + bs.length then bs.getD (k - a) 0 else Memory.read m k := by
  have hlow : ∀ c ∈ m.filter (fun c => decide (c.1 < a)), c.1 < a := fun c hc => by simpa using (List.mem_filter.1 hc).2
  have hhigh : ∀ c ∈ m.filter (fun c => decide (a + bs.length ≤ c.1)), a + bs.length ≤ c.1 :=
    fun c hc => by simpa using (List.mem_filter.1 hc).2
  have hge := Memory.cellsOf_ge bs a
  have hlt := Memory.cellsOf_lt bs a
  unfold Memory.store
  rcases Nat.lt_or_ge k a with hk | hk
  · rw [if_neg (by omega), Memory.read_append_left (fun c hc => by have := hhigh c hc; omega),
      Memory.read_append_left (fun c hc => by have := hge c hc; omega), Memory.read_filter (by simp [hk])]
  · rw [List.append_assoc, Memory.read_append_right _ (fun c hc => by have := hlow c hc; omega)]
    rcases Nat.lt_or_ge k (a + bs.length) with hk' | hk'
    · rw [if_pos ⟨hk, hk'⟩, Memory.read_append_left (fun c hc => by have := hhigh c hc; omega), Memory.read_cellsOf bs a hk]
    · rw [if_neg (by omega), Memory.read_append_right _ (fun c hc => by have := hlt c hc; omega),
        Memory.read_filter (by simp [hk'])]

theorem Memory.load_eq (m : Memory) (a k : Nat) : Memory.load m a k = (List.range k).map (fun i => Memory.read m (a + i)) := by
  unfold Memory.load
  refine List.map_congr_left fun i hi => Memory.read_filter ?_ m
  have := List.mem_range.1 hi
  simp only [Bool.and_eq_true, decide_eq_true_eq]
  omega

/-- Bytes just stored are read back. -/
theorem Memory.load_store_same (m : Memory) (a : Nat) (bs : List Byte) : Memory.load (Memory.store m a bs) a bs.length = bs := by
  rw [Memory.load_eq]
  refine List.ext_getElem (by simp) fun i hi hi' => ?_
  simp [Memory.read_store, hi']

/-! ### Sealed tiles (R426, R431) -/

/-- A sealed tile lies below the trace. -/
theorem tileAddr_lt {t : Nat} (h : t < 640) : tileAddr t + 1024 ≤ 0xC0000 := by
  unfold tileAddr; split <;> omega

theorem tileBytes_eq_load {t : Nat} (h : t < 640) (s : State) : tileBytes s t = Memory.load s.led.ram (tileAddr t) 1024 := by
  have hlow : tileAddr t + 1024 ≤ 0xD0000 := (tileAddr_lt h).trans (by decide)
  unfold tileBytes ramLoad
  rw [if_pos (by simp [hlow])]

theorem take_padTo_of_length {k : Nat} {bs : List Byte} (h : bs.length = k) : (padTo k bs).take k = bs := by
  simp [padTo, h]

/-- Sealing 1,024 bytes stores them as they are. -/
theorem sealTile_ram {bs : List Byte} (h : bs.length = 1024) (t : Nat) (s : State) :
    (sealTile t bs s).led.ram = Memory.store s.led.ram (tileAddr t) bs := by
  show Memory.store s.led.ram (tileAddr t) ((padTo 1024 bs).take 1024) = _
  rw [take_padTo_of_length h]

theorem tileBytes_sealTile {t : Nat} {bs : List Byte} (ht : t < 640) (h : bs.length = 1024) (s : State) :
    tileBytes (sealTile t bs s) t = bs := by
  rw [tileBytes_eq_load ht, sealTile_ram h, ← h, Memory.load_store_same]

/-- A sealed tile passes a read without a disturbance. -/
theorem tilePasses_sealTile {t : Nat} {bs : List Byte} (ht : t < 640) (h : bs.length = 1024) (s : State) :
    tilePasses (sealTile t bs s) t false = true := by
  have hcrc : ((sealTile t bs s).led.tiles.get t).crc = crc32c bs := by
    have hset := Tab.get_set_same s.led.tiles t { crc := crc32c ((padTo 1024 bs).take 1024), bad := false } ht
    rw [take_padTo_of_length h] at hset
    simp [sealTile, take_padTo_of_length h, hset]
  simp [tilePasses, tileBytes_sealTile ht h, hcrc]

/-- Settles O7: the laws of bytes, stores and seals. -/
theorem ledgerRam : Obligations.LedgerRam := by
  unfold Obligations.LedgerRam
  refine ⟨fun k n => ⟨length_leBytes k n, leNat_leBytes k n⟩, fun m a k bs _ => Memory.read_store m a k bs,
    fun t bs s ht hl _ => ⟨tileBytes_sealTile ht hl s, tileBad_sealTile ht bs s, tilePasses_sealTile ht hl s, fun a ha => ?_⟩⟩
  rw [sealTile_ram hl, Memory.read_store, if_neg (by omega)]

end Sys2Proof.Machine
end

section
/-! SUPPORT. The bytes of Ledger RAM, first part: the shared operations and those of the phases, the converters, the clusters and the
level sequencer that store nothing leave them as they are. One lemma for each, in the order of the model's files. -/

namespace Sys2Proof.Machine

/-- Ledger RAM holds in `t` what it holds in `s`; a structure, which `simp` opens by `sameRam_iff` alone. -/
structure SameRam (s t : State) : Prop where
  ram_eq : t.led.ram = s.led.ram

@[simp] theorem sameRam_iff {s t : State} : SameRam s t ↔ t.led.ram = s.led.ram := ⟨SameRam.ram_eq, SameRam.mk⟩

@[simp] theorem ite_ram (c : Prop) [Decidable c] (a b : State) :
    (if c then a else b).led.ram = if c then a.led.ram else b.led.ram := apply_ite (fun u : State => u.led.ram) c a b

@[simp] theorem forEach_ram {α : Type} {f : α → State → State} (h : ∀ a s, SameRam s (f a s)) (l : List α) (s : State) :
    (forEach l f s).led.ram = s.led.ram := forEach_keeps (fun u : State => u.led.ram) f (fun a s => (h a s).ram_eq) l s

@[simp] theorem foldl_ram {α : Type} {f : State → α → State} (h : ∀ s a, SameRam s (f s a)) (l : List α) (s : State) :
    (l.foldl f s).led.ram = s.led.ram := foldl_keeps (fun u : State => u.led.ram) f (fun s a => (h s a).ram_eq) l s

/-- The same for a state carried along with a result. -/
theorem foldl_pair_ram {α β : Type} {f : α → β × State → β × State} (h : ∀ a x, (f a x).2.led.ram = x.2.led.ram) (l : List α)
    (x : β × State) : (l.foldl (fun x a => f a x) x).2.led.ram = x.2.led.ram := by
  induction l generalizing x with
  | nil => rfl
  | cons a l ih => exact (ih (f a x)).trans (h a x)

/-! ### Ops -/

@[simp] theorem raiseEv_ram (e : Event) (s : State) : (raiseEv e s).led.ram = s.led.ram := by simp [raiseEv]
@[simp] theorem raise_ram (code source : Nat) (data : List Byte) (s : State) :
    (raise code source data s).led.ram = s.led.ram := by simp [raise]
@[simp] theorem soonIn_ram (k : Nat) (w : Soon) (s : State) : (soonIn k w s).led.ram = s.led.ram := by simp [soonIn]
@[simp] theorem raisePeriod_ram (code source : Nat) (data : List Byte) (s : State) :
    (raisePeriod code source data s).led.ram = s.led.ram := by simp [raisePeriod]
@[simp] theorem raiseMiss_ram (code source : Nat) (data : List Byte) (s : State) :
    (raiseMiss code source data s).led.ram = s.led.ram := by simp [raiseMiss]
@[simp] theorem causeSet_ram (code : Nat) (s : State) : (causeSet code s).led.ram = s.led.ram := by simp [causeSet]
@[simp] theorem evTrace_ram (e : Event) (flags : Nat) (s : State) :
    (evTrace e flags s).led.ram = s.led.ram := by simp [evTrace]
@[simp] theorem evNumber_ram (e : Event) (s : State) : (evNumber e s).2.led.ram = s.led.ram := by simp [evNumber]
@[simp] theorem reportLost_ram (s : State) : (reportLost s).led.ram = s.led.ram := by simp [reportLost]
@[simp] theorem countLost_ram (code : Nat) (s : State) : (countLost code s).led.ram = s.led.ram := by simp [countLost]

@[simp] theorem evEnter_ram (e : Event) (s : State) : (evEnter e s).led.ram = s.led.ram := by
  unfold evEnter
  dsimp only
  repeat' split
  all_goals simp

@[simp] theorem postBoostEnd_ram (s : State) : (postBoostEnd s).led.ram = s.led.ram := by simp [postBoostEnd]
@[simp] theorem boostCheck_ram (s : State) :
    (boostCheck s).led.ram = s.led.ram := by unfold boostCheck; dsimp only; split <;> simp
@[simp] theorem rplTrace_ram (r : Reply) (s : State) : (rplTrace r s).led.ram = s.led.ram := by simp [rplTrace]
@[simp] theorem dma_ram (r : DmaReq) (s : State) : (dma r s).led.ram = s.led.ram := by simp [dma]
@[simp] theorem dmaRead_ram (addr beats most : Nat) (due : Option (Nat × Nat)) (s : State) :
    (dmaRead addr beats most due s).led.ram = s.led.ram := by simp [dmaRead]
@[simp] theorem ringReply_ram (r : Reply) (s : State) : (ringReply r s).led.ram = s.led.ram := by simp [ringReply]
@[simp] theorem mailboxReply_ram (r : Reply) (s : State) : (mailboxReply r s).led.ram = s.led.ram := by simp [mailboxReply]
@[simp] theorem putReply_ram (r : Reply) (s : State) :
    (putReply r s).led.ram = s.led.ram := by unfold putReply; split <;> simp
@[simp] theorem reply_ram (p : Packet) (opcode : Nat) (st : Status) (data : List Byte) (s : State) :
    (reply p opcode st data s).led.ram = s.led.ram := by simp [reply]
@[simp] theorem cvnAbort_ram (k cause : Nat) (s : State) : (cvnAbort k cause s).led.ram = s.led.ram := by simp [cvnAbort]

@[simp] theorem memberFails_ram (id : Nat) (st : Status) (cause : Nat) (s : State) :
    (memberFails id st cause s).2.led.ram = s.led.ram := by
  unfold memberFails
  repeat' split
  all_goals simp

@[simp] theorem enterEvents_ram (s : State) : (enterEvents s).led.ram = s.led.ram := by simp [enterEvents]
@[simp] theorem applyEventMask_ram (op catMask : Nat) (codes : List Nat) (s : State) :
    (applyEventMask op catMask codes s).led.ram = s.led.ram := by simp [applyEventMask]

/-! ### Voltage -/

@[simp] theorem feedUpdate_ram (s : State) : (feedUpdate s).led.ram = s.led.ram := by simp [feedUpdate]
@[simp] theorem retargetAll_ram (at_ : Nat) (s : State) : (retargetAll at_ s).led.ram = s.led.ram := by simp [retargetAll]
@[simp] theorem droneRecalc_ram (s : State) : (droneRecalc s).led.ram = s.led.ram := by simp [droneRecalc]
@[simp] theorem droneRide_ram (s : State) : (droneRide s).led.ram = s.led.ram := by simp [droneRide]

/-! ### Groups -/

@[simp] theorem ripTo_ram (g : Nat) (s : State) : (ripTo g s).led.ram = s.led.ram := by simp [ripTo]
@[simp] theorem refreshOn_ram (g : Nat) (s : State) : (refreshOn g s).led.ram = s.led.ram := by simp [refreshOn]
@[simp] theorem refreshRail_ram (r : Nat) (s : State) : (refreshRail r s).led.ram = s.led.ram := by simp [refreshRail]
@[simp] theorem unparkAll_ram (g : Nat) (s : State) : (unparkAll g s).led.ram = s.led.ram := by simp [unparkAll]
@[simp] theorem raiseEn_ram (g : Nat) (s : State) : (raiseEn g s).led.ram = s.led.ram := by simp [raiseEn]
@[simp] theorem unparkOne_ram (g : Nat) (s : State) :
    (unparkOne g s).led.ram = s.led.ram := by unfold unparkOne; split <;> simp
@[simp] theorem unparkAtPace_ram (g forecast : Nat) (s : State) :
    (unparkAtPace g forecast s).led.ram = s.led.ram := by simp [unparkAtPace]

@[simp] theorem shedAtEdge_ram (g forecast : Nat) (s : State) : (shedAtEdge g forecast s).led.ram = s.led.ram := by
  unfold shedAtEdge
  dsimp only
  repeat' split
  all_goals simp

@[simp] theorem phaseLoss_ram (i : Nat) (cause : PhCause) (s : State) :
    (phaseLoss i cause s).led.ram = s.led.ram := by simp [phaseLoss]
@[simp] theorem disablePhase_ram (i : Nat) (cause : PhCause) (s : State) :
    (disablePhase i cause s).led.ram = s.led.ram := by simp [disablePhase]
@[simp] theorem disableDue_ram (i : Nat) (cause : PhCause) (s : State) :
    (disableDue i cause s).led.ram = s.led.ram := by simp [disableDue]
@[simp] theorem judgeFlags_ram (l : List Nat) (s : State) : (judgeFlags l s).led.ram = s.led.ram := by simp [judgeFlags]
@[simp] theorem phaseSample_ram (i : Nat) (u : Int) (s : State) :
    (phaseSample i u s).led.ram = s.led.ram := by simp [phaseSample]
@[simp] theorem trimGroup_ram (g : Nat) (s : State) : (trimGroup g s).led.ram = s.led.ram := by simp [trimGroup]
@[simp] theorem phaseAverages_ram (s : State) : (phaseAverages s).led.ram = s.led.ram := by simp [phaseAverages]
@[simp] theorem groupCurrents_ram (s : State) : (groupCurrents s).led.ram = s.led.ram := by simp [groupCurrents]
@[simp] theorem startPulse_ram (g i : Nat) (s : State) : (startPulse g i s).led.ram = s.led.ram := by simp [startPulse]

@[simp] theorem pulseOrWait_ram (g : Nat) (s : State) : (pulseOrWait g s).led.ram = s.led.ram := by
  unfold pulseOrWait
  dsimp only
  repeat' split
  all_goals simp

@[simp] theorem pulseDue_ram (g : Nat) (s : State) : (pulseDue g s).led.ram = s.led.ram := by simp [pulseDue]
@[simp] theorem endPulse_ram (i : Nat) (s : State) : (endPulse i s).led.ram = s.led.ram := by simp [endPulse]
@[simp] theorem inhibitDue_ram (i : Nat) (s : State) : (inhibitDue i s).led.ram = s.led.ram := by simp [inhibitDue]

/-! ### Positions -/

@[simp] theorem convTo_ram (u t : Nat) (s : State) : (convTo u t s).led.ram = s.led.ram := by simp [convTo]
@[simp] theorem convsTo_ram (t : Nat) (s : State) : (convsTo t s).led.ram = s.led.ram := by simp [convsTo]
@[simp] theorem urgentRequest_ram (c : Nat) (s : State) : (urgentRequest c s).led.ram = s.led.ram := by simp [urgentRequest]
@[simp] theorem calFinish_ram (u result : Nat) (s : State) :
    (calFinish u result s).led.ram = s.led.ram := by unfold calFinish; dsimp only; split <;> simp
@[simp] theorem calAbandon_ram (s : State) : (calAbandon s).led.ram = s.led.ram := by simp [calAbandon]
@[simp] theorem convsStop_ram (s : State) : (convsStop s).led.ram = s.led.ram := by simp [convsStop]

/-! ### Ram -/

@[simp] theorem markBad_ram (t : Nat) (s : State) : (markBad t s).led.ram = s.led.ram := by simp [markBad]

/-! ### Cells -/

@[simp] theorem calSettle_ram (n : Nat) (s : State) : (calSettle n s).led.ram = s.led.ram := by simp [calSettle]
@[simp] theorem setCells_ram (n : Nat) (m : CellMode) (s : State) : (setCells n m s).led.ram = s.led.ram := by simp [setCells]
@[simp] theorem shareTrims_ram (n : Nat) (s : State) : (shareTrims n s).led.ram = s.led.ram := by simp [shareTrims]
@[simp] theorem healthRuns_ram (n : Nat) (s : State) : (healthRuns n s).led.ram = s.led.ram := by simp [healthRuns]

@[simp] theorem cellWords_ram (ws : List CellWord) (s : State) : (cellWords ws s).led.ram = s.led.ram := by
  simp [cellWords]

@[simp] theorem commandCluster_ram (n : Nat) (s : State) :
    (commandCluster n s).led.ram = s.led.ram := by simp [commandCluster]
@[simp] theorem cellCommands_ram (s : State) : (cellCommands s).led.ram = s.led.ram := by simp [cellCommands]
@[simp] theorem isolate_ram (c : Nat) (cause : CellCause) (s : State) :
    (isolate c cause s).led.ram = s.led.ram := by simp [isolate]
@[simp] theorem recountCells_ram (n : Nat) (s : State) : (recountCells n s).led.ram = s.led.ram := by simp [recountCells]

@[simp] theorem reportIsolations_ram (m : Nat) (l : List IsoRec) (s : State) : (reportIsolations m l s).led.ram = s.led.ram := by
  induction l generalizing m s with
  | nil => rfl
  | cons r rs ih => simp [reportIsolations, ih]

@[simp] theorem accountIsolations_ram (n : Nat) (s : State) :
    (accountIsolations n s).led.ram = s.led.ram := by simp [accountIsolations]

/-! ### Droop -/

@[simp] theorem countStretch_ram (edge : Bool) (n : Nat) (s : State) :
    (countStretch edge n s).led.ram = s.led.ram := by simp [countStretch]
@[simp] theorem stretchHigh_ram (n stage : Nat) (data : List Byte) (s : State) :
    (stretchHigh n stage data s).led.ram = s.led.ram := by simp [stretchHigh]
@[simp] theorem stretchEnd_ram (n : Nat) (s : State) : (stretchEnd n s).led.ram = s.led.ram := by simp [stretchEnd]
@[simp] theorem stretchClose_ram (n : Nat) (s : State) : (stretchClose n s).led.ram = s.led.ram := by simp [stretchClose]
@[simp] theorem stuckReport_ram (n : Nat) (s : State) : (stuckReport n s).led.ram = s.led.ram := by simp [stuckReport]
@[simp] theorem stretchPace_ram (s : State) : (stretchPace s).led.ram = s.led.ram := by simp [stretchPace]
@[simp] theorem blwFire_ram (n cur cause : Nat) (s : State) : (blwFire n cur cause s).led.ram = s.led.ram := by simp [blwFire]
@[simp] theorem blwTrip_ram (n : Nat) (s : State) :
    (blwTrip n s).led.ram = s.led.ram := by unfold blwTrip; dsimp only; split <;> simp
@[simp] theorem trip_ram (n : Nat) (uv : Int) (s : State) : (trip n uv s).led.ram = s.led.ram := by simp [trip]
@[simp] theorem trips_ram (l : List Crossing) (s : State) : (trips l s).led.ram = s.led.ram := by simp [trips]

@[simp] theorem forecastFire_ram (n : Nat) (s : State) : (forecastFire n s).led.ram = s.led.ram := by
  unfold forecastFire
  dsimp only
  repeat' split
  all_goals simp

@[simp] theorem fireEnded_ram (n : Nat) (s : State) : (fireEnded n s).led.ram = s.led.ram := by simp [fireEnded]
@[simp] theorem slotFreed_ram (s : State) : (slotFreed s).led.ram = s.led.ram := by simp [slotFreed]
@[simp] theorem chargeEnded_ram (n : Nat) (s : State) : (chargeEnded n s).led.ram = s.led.ram := by simp [chargeEnded]
@[simp] theorem blwFaulted_ram (n cause : Nat) (s : State) :
    (blwFaulted n cause s).led.ram = s.led.ram := by simp [blwFaulted]
@[simp] theorem bellowsOff_ram (s : State) : (bellowsOff s).led.ram = s.led.ram := by simp [bellowsOff]
@[simp] theorem bellowsWake_ram (s : State) : (bellowsWake s).led.ram = s.led.ram := by simp [bellowsWake]
@[simp] theorem blwArm_ram (n : Nat) (s : State) : (blwArm n s).led.ram = s.led.ram := by simp [blwArm]
@[simp] theorem blwDisarm_ram (n : Nat) (s : State) : (blwDisarm n s).led.ram = s.led.ram := by simp [blwDisarm]

/-! ### Time -/

@[simp] theorem fallNow_ram (w : Soon) (s : State) : (fallNow w s).led.ram = s.led.ram := by unfold fallNow; split <;> simp

@[simp] theorem fallTo_ram (t fuel : Nat) (s : State) : (fallTo t fuel s).led.ram = s.led.ram := by
  induction fuel generalizing s with
  | zero => rfl
  | succ fuel ih =>
    unfold fallTo
    split
    · rfl
    · simp [ih]

@[simp] theorem passTo_ram (t : Nat) (s : State) : (passTo t s).led.ram = s.led.ram := by simp [passTo]
@[simp] theorem tick_ram (s : State) : (tick s).led.ram = s.led.ram := by simp [tick]

/-! ### Phases -/

@[simp] theorem applyGroup_ram (g shedEn minSw shedA addA ripAmp ripTau : Nat) (s : State) :
    (applyGroup g shedEn minSw shedA addA ripAmp ripTau s).led.ram = s.led.ram := by simp [applyGroup]
@[simp] theorem startCheck_ram (c : PhCheck) (s : State) : (startCheck c s).led.ram = s.led.ram := by simp [startCheck]
@[simp] theorem joinChecked_ram (i : Nat) (s : State) : (joinChecked i s).led.ram = s.led.ram := by simp [joinChecked]

/-! ### Adc -/

@[simp] theorem seqSwapRequest_ram (mask : Nat) (s : State) :
    (seqSwapRequest mask s).led.ram = s.led.ram := by simp [seqSwapRequest]
@[simp] theorem seqReject_ram (u q : Nat) (s : State) : (seqReject u q s).led.ram = s.led.ram := by simp [seqReject]
@[simp] theorem convApply_ram (s : State) : (convApply s).led.ram = s.led.ram := by simp [convApply]
@[simp] theorem windowCheck_ram (c : Nat) (u : Int) (s : State) :
    (windowCheck c u s).led.ram = s.led.ram := by simp [windowCheck]
@[simp] theorem senseSample_ram (c : Nat) (u : Int) (s : State) :
    (senseSample c u s).led.ram = s.led.ram := by simp [senseSample]
@[simp] theorem writeResult_ram (c : Nat) (u : Int) (urgent : Bool) (s : State) :
    (writeResult c u urgent s).led.ram = s.led.ram := by simp [writeResult]
@[simp] theorem takeResult_ram (u d : Nat) (s : State) :
    (takeResult u d s).led.ram = s.led.ram := by unfold takeResult; split <;> simp

theorem reach_ram {due : Nat} {s u : State} (h : reach due s = some u) : u.led.ram = s.led.ram := by
  unfold reach at h
  split at h
  · exact Option.some.inj h ▸ rfl
  · split at h
    · exact Option.some.inj h ▸ passTo_ram due s
    · exact absurd h (by simp)

@[simp] theorem boundaryResults_ram (l : List AdcCode) (s : State) : (boundaryResults l s).led.ram = s.led.ram :=
  forEach_ram (fun _ _ => by split <;> simp) _ _

@[simp] theorem snapshot_ram (s : State) : (snapshot s).led.ram = s.led.ram := by simp [snapshot]
@[simp] theorem idleMin_ram (len : Nat) (s : State) : (idleMin len s).led.ram = s.led.ram := by simp [idleMin]
@[simp] theorem convPower_ram (s : State) : (convPower s).led.ram = s.led.ram := by simp [convPower]
@[simp] theorem convRun_ram (axWas : Bool) (s : State) : (convRun axWas s).led.ram = s.led.ram := by simp [convRun]
@[simp] theorem sysCalJudge_ram (u sz sr : Nat) (s : State) :
    (sysCalJudge u sz sr s).led.ram = s.led.ram := by simp [sysCalJudge]
@[simp] theorem blockJudge_ram (u sz sr : Nat) (s : State) :
    (blockJudge u sz sr s).led.ram = s.led.ram := by simp [blockJudge]
@[simp] theorem applyCalMode_ram (mask mode power : Nat) (s : State) :
    (applyCalMode mask mode power s).led.ram = s.led.ram := by simp [applyCalMode]
@[simp] theorem convPeriod_ram (s : State) : (convPeriod s).led.ram = s.led.ram := by simp [convPeriod]

/-! ### Transient -/

@[simp] theorem blwFault_ram (n cause : Nat) (s : State) : (blwFault n cause s).led.ram = s.led.ram := by simp [blwFault]

/-! ### Clusters -/

@[simp] theorem settle_ram (n : Nat) (st : CState) (s : State) : (settle n st s).led.ram = s.led.ram := by simp [settle]
@[simp] theorem echoed_ram (n : Nat) (t : Trans) (last : Bool) (s : State) :
    (echoed n t last s).led.ram = s.led.ram := by simp [echoed]
@[simp] theorem driveCode_ram (free : Bool) (n : Nat) (t : Trans) (s : State) :
    (driveCode free n t s).led.ram = s.led.ram := by simp [driveCode]
@[simp] theorem startTrans_ram (n : Nat) (target : CState) (deadline : Nat) (s : State) :
    (startTrans n target deadline s).led.ram = s.led.ram := by simp [startTrans]
@[simp] theorem leaveDrone_ram (n : Nat) (st : DroneSt) (s : State) :
    (leaveDrone n st s).led.ram = s.led.ram := by simp [leaveDrone]
@[simp] theorem powerOff_ram (n : Nat) (s : State) : (powerOff n s).led.ram = s.led.ram := by simp [powerOff]

@[simp] theorem paceTrans_ram (n : Nat) (s : State) : (paceTrans n s).led.ram = s.led.ram := by
  unfold paceTrans
  dsimp only
  repeat' split
  all_goals simp

@[simp] theorem headrooms_ram (s : State) : (headrooms s).led.ram = s.led.ram := by simp [headrooms]
@[simp] theorem wakeComplete_ram (n : Nat) (s : State) : (wakeComplete n s).led.ram = s.led.ram := by simp [wakeComplete]
@[simp] theorem admitWake_ram (n slope : Nat) (late : Bool) (s : State) :
    (admitWake n slope late s).led.ram = s.led.ram := by unfold admitWake; dsimp only; split <;> simp
@[simp] theorem sentinelTest_ram (n : Nat) (ok : Bool) (s : State) :
    (sentinelTest n ok s).led.ram = s.led.ram := by simp [sentinelTest]
@[simp] theorem saRelease_ram (s : State) : (saRelease s).led.ram = s.led.ram := by simp [saRelease]
@[simp] theorem lostEvent_ram (n cause d : Nat) (s : State) :
    (lostEvent n cause d s).led.ram = s.led.ram := by simp [lostEvent]
@[simp] theorem holdRetain_ram (n cause d : Nat) (s : State) :
    (holdRetain n cause d s).led.ram = s.led.ram := by simp [holdRetain]
@[simp] theorem droneStart_ram (n : Nat) (s : State) : (droneStart n s).led.ram = s.led.ram := by simp [droneStart]
@[simp] theorem droneJudge_ram (n : Nat) (s : State) : (droneJudge n s).led.ram = s.led.ram := by simp [droneJudge]

@[simp] theorem cellLoss_ram (n : Nat) (s : State) : (cellLoss n s).led.ram = s.led.ram := by
  unfold cellLoss
  dsimp only
  repeat' split
  all_goals simp

@[simp] theorem deadOff_ram (n : Nat) (s : State) : (deadOff n s).led.ram = s.led.ram := by simp [deadOff]
@[simp] theorem paceCells_ram (n : Nat) (s : State) : (paceCells n s).led.ram = s.led.ram := by simp [paceCells]
@[simp] theorem paceDrone_ram (n : Nat) (s : State) :
    (paceDrone n s).led.ram = s.led.ram := by unfold paceDrone; dsimp only; split <;> simp
@[simp] theorem droneLeave_ram (n : Nat) (s : State) : (droneLeave n s).led.ram = s.led.ram := by simp [droneLeave]
@[simp] theorem droneExitDone_ram (n : Nat) (s : State) : (droneExitDone n s).led.ram = s.led.ram := by simp [droneExitDone]

@[simp] theorem rampReached_ram (n : Nat) (s : State) : (rampReached n s).led.ram = s.led.ram := by
  unfold rampReached
  dsimp only
  repeat' split
  all_goals simp

@[simp] theorem stepCluster_ram (n : Nat) (s : State) : (stepCluster n s).led.ram = s.led.ram := by simp [stepCluster]
@[simp] theorem emptyRamp_ram (n : Nat) (s : State) : (emptyRamp n s).led.ram = s.led.ram := by simp [emptyRamp]
@[simp] theorem applyDroneEnter_ram (n : Nat) (chip : Bool) (s : State) :
    (applyDroneEnter n chip s).led.ram = s.led.ram := by simp [applyDroneEnter]
@[simp] theorem applyDroneExit_ram (n : Nat) (chip : Bool) (s : State) :
    (applyDroneExit n chip s).led.ram = s.led.ram := by simp [applyDroneExit]
@[simp] theorem applySetState_ram (n : Nat) (t : CState) (d : Nat) (s : State) :
    (applySetState n t d s).led.ram = s.led.ram := by simp [applySetState]
@[simp] theorem applyOffset_ram (n sel : Nat) (ofs : Int) (thresh : Nat) (s : State) :
    (applyOffset n sel ofs thresh s).led.ram = s.led.ram := by simp [applyOffset]
@[simp] theorem bankPinned_ram (b : Nat) (s : State) : (bankPinned b s).led.ram = s.led.ram := by simp [bankPinned]
@[simp] theorem saRequest_ram (s : State) : (saRequest s).led.ram = s.led.ram := by simp [saRequest]

/-! ### Levels -/

@[simp] theorem post_ram (code level stage : Nat) (src : PendSource) (s : State) :
    (post code level stage src s).led.ram = s.led.ram := by simp [post]
@[simp] theorem hostPost_ram (code level : Nat) (src : PendSource) (s : State) :
    (hostPost code level src s).led.ram = s.led.ram := by simp [hostPost]
@[simp] theorem deriveLevel_ram (s : State) : (deriveLevel s).led.ram = s.led.ram := by unfold deriveLevel; split <;> simp
@[simp] theorem endHold_ram (s : State) : (endHold s).led.ram = s.led.ram := by simp [endHold]
@[simp] theorem tableEdited_ram (old : Tab 16 LvlEnt) (s : State) :
    (tableEdited old s).led.ram = s.led.ram := by unfold tableEdited; dsimp only; split <;> simp
@[simp] theorem applyLevel_ram (k code : Nat) (boost : Bool) (s : State) :
    (applyLevel k code boost s).led.ram = s.led.ram := by simp [applyLevel]
@[simp] theorem applyFixed_ram (kind lv code : Nat) (s : State) :
    (applyFixed kind lv code s).led.ram = s.led.ram := by simp [applyFixed]
@[simp] theorem holdStep_ram (p : Pend) (reason n : Nat) (gap : Int) (s : State) :
    (holdStep p reason n gap s).led.ram = s.led.ram := by simp [holdStep]
@[simp] theorem applyStep_ram (p : Pend) (s : State) : (applyStep p s).led.ram = s.led.ram := by simp [applyStep]

@[simp] theorem levelEdge_ram (judge s : State) : (levelEdge judge s).led.ram = s.led.ram := by
  unfold levelEdge
  dsimp only
  repeat' split
  all_goals simp

@[simp] theorem freqDrive_ram (s : State) : (freqDrive s).led.ram = s.led.ram := by unfold freqDrive; split <;> simp
@[simp] theorem judgeCurves_ram (s : State) : (judgeCurves s).led.ram = s.led.ram := by simp [judgeCurves]
@[simp] theorem takeBrackets_ram (t : Nat) (b : List Byte) (s : State) :
    (takeBrackets t b s).led.ram = s.led.ram := by simp [takeBrackets]
@[simp] theorem calAdvance_ram (s : State) : (calAdvance s).led.ram = s.led.ram := by unfold calAdvance; dsimp only; split <;> rfl
@[simp] theorem recharOpen_ram (r : Rechar) (s : State) : (recharOpen r s).led.ram = s.led.ram := by simp [recharOpen]

@[simp] theorem searchPoint_ram (n : Nat) (todo : List Nat) (s : State) : (searchPoint n todo s).led.ram = s.led.ram := by
  unfold searchPoint
  dsimp only
  repeat' split
  all_goals simp

@[simp] theorem searchUp_ram (n : Nat) (v : Int) (s : State) :
    (searchUp n v s).led.ram = s.led.ram := by unfold searchUp; split <;> simp
@[simp] theorem searchResult_ram (n : Nat) (q : RecharPoint) (rest : List Nat) (s : State) :
    (searchResult n q rest s).led.ram = s.led.ram := by unfold searchResult; split <;> simp
@[simp] theorem searchRun_ram (n : Nat) (pass : Bool) (x : RecharRes) (s : State) :
    (searchRun n pass x s).led.ram = s.led.ram := by unfold searchRun; split <;> simp
@[simp] theorem retestBegin_ram (n : Nat) (bad : List Nat) (r : Rechar) (s : State) :
    (retestBegin n bad r s).led.ram = s.led.ram := by simp [retestBegin]
@[simp] theorem retestFail_ram (i : Nat) (s : State) : (retestFail i s).led.ram = s.led.ram := by simp [retestFail]
@[simp] theorem retestDrop_ram (n k : Nat) (s : State) :
    (retestDrop n k s).led.ram = s.led.ram := by unfold retestDrop; split <;> simp
@[simp] theorem retestPace_ram (x : RecharRes) (s : State) :
    (retestPace x s).led.ram = s.led.ram := by unfold retestPace; split <;> simp
@[simp] theorem recharPace_ram (s : State) : (recharPace s).led.ram = s.led.ram := by unfold recharPace; split <;> simp

@[simp] theorem returnCells_ram (r : Rechar) (n : Nat) (x : RecharSum × State) : (returnCells r n x).2.led.ram = x.2.led.ram := by
  simp [returnCells]

@[simp] theorem recharReturn_ram (r : Rechar) (s : State) : (recharReturn r s).led.ram = s.led.ram := by simp [recharReturn]
@[simp] theorem recharEnd_ram (r : Rechar) (s : State) : (recharEnd r s).led.ram = s.led.ram := by simp [recharEnd]

@[simp] theorem recharReport_ram (r : Rechar) (n : Nat) (pass : Bool) (bad : List Nat) (s : State) :
    (recharReport r n pass bad s).led.ram = s.led.ram := by
  unfold recharReport
  dsimp only
  repeat' split
  all_goals simp

end Sys2Proof.Machine
end

section
/-! SUPPORT. The bytes of Ledger RAM, second part: the same for the other units, from the rails to the stage frame. -/

namespace Sys2Proof.Machine

/-! ### Rails -/

@[simp] theorem railMirrors_ram (s : State) : (railMirrors s).led.ram = s.led.ram := by simp [railMirrors]
@[simp] theorem segWindowAt_ram (s0 : State) (x : Nat) (s : State) :
    (segWindowAt s0 x s).led.ram = s.led.ram := by simp [segWindowAt]
@[simp] theorem railWindowAcross_ram (run : Nat) (s : State) :
    (railWindowAcross run s).led.ram = s.led.ram := by simp [railWindowAcross]
@[simp] theorem railWindowAt_ram (axComp : Bool) (s0 : State) (r : Nat) (s : State) :
    (railWindowAt axComp s0 r s).led.ram = s.led.ram := by simp [railWindowAt]
@[simp] theorem railWindows_ram (axComp : Bool) (s : State) :
    (railWindows axComp s).led.ram = s.led.ram := by simp [railWindows]
@[simp] theorem windowClear_ram (s : State) : (windowClear s).led.ram = s.led.ram := by simp [windowClear]
@[simp] theorem joinPhases_ram (r : Nat) (s : State) : (joinPhases r s).led.ram = s.led.ram := by simp [joinPhases]
@[simp] theorem railJoin_ram (r : Nat) (s : State) : (railJoin r s).led.ram = s.led.ram := by simp [railJoin]
@[simp] theorem railOff_ram (r : Nat) (s : State) : (railOff r s).led.ram = s.led.ram := by simp [railOff]
@[simp] theorem sparesToReserve_ram (r : Nat) (s : State) :
    (sparesToReserve r s).led.ram = s.led.ram := by simp [sparesToReserve]
@[simp] theorem answerStart_ram (t : TrackStart) (st : Status) (pre win : Nat) (s : State) :
    (answerStart t st pre win s).led.ram = s.led.ram := by unfold answerStart; split <;> simp
@[simp] theorem beginStart_ram (t : TrackStart) (s : State) : (beginStart t s).led.ram = s.led.ram := by simp [beginStart]
@[simp] theorem rampRail_ram (t : TrackStart) (axUv : Int) (rr r : Nat) (s : State) :
    (rampRail t axUv rr r s).led.ram = s.led.ram := by simp [rampRail]
@[simp] theorem rampTopRail_ram (t : TrackStart) (r : Nat) (s : State) :
    (rampTopRail t r s).led.ram = s.led.ram := by simp [rampTopRail]
@[simp] theorem stepStart_ram (t : TrackStart) (axUv : Int) (s : State) :
    (stepStart t axUv s).led.ram = s.led.ram := by simp [stepStart]
@[simp] theorem paceStart_ram (t : TrackStart) (s : State) :
    (paceStart t s).led.ram = s.led.ram := by unfold paceStart; split <;> simp
@[simp] theorem endStartFor_ram (m : Nat) (t : TrackStart) (s : State) :
    (endStartFor m t s).led.ram = s.led.ram := by simp [endStartFor]

@[simp] theorem stopRailOff_ram (r : Nat) (s : State) : (stopRailOff r s).led.ram = s.led.ram := by
  unfold stopRailOff
  dsimp only
  repeat' split
  all_goals simp

@[simp] theorem holdLow_ram (r : Nat) (s : State) : (holdLow r s).led.ram = s.led.ram := by simp [holdLow]
@[simp] theorem beginStop_ram (t : TrackStop) (s : State) : (beginStop t s).led.ram = s.led.ram := by simp [beginStop]
@[simp] theorem stepStop_ram (t : TrackStop) (s : State) : (stepStop t s).led.ram = s.led.ram := by simp [stepStop]
@[simp] theorem paceTracking_ram (s : State) : (paceTracking s).led.ram = s.led.ram := by simp [paceTracking]
@[simp] theorem applyRailTarget_ram (r code : Nat) (s : State) :
    (applyRailTarget r code s).led.ram = s.led.ram := by simp [applyRailTarget]
@[simp] theorem senseFallback_ram (r line since : Nat) (s : State) :
    (senseFallback r line since s).led.ram = s.led.ram := by simp [senseFallback]
@[simp] theorem senseOffsets_ram (s : State) : (senseOffsets s).led.ram = s.led.ram := by simp [senseOffsets]

/-! ### Governor -/

@[simp] theorem addPace_ram (s : State) : (addPace s).led.ram = s.led.ram := by simp [addPace]
@[simp] theorem checkLimit_ram (id kind : Nat) (m : Frac) (limit window : Nat) (s : State) :
    (checkLimit id kind m limit window s).led.ram = s.led.ram := by simp [checkLimit]
@[simp] theorem closeSums_ram (s : State) : (closeSums s).led.ram = s.led.ram := by simp [closeSums]
@[simp] theorem stageLimits_ram (s : State) : (stageLimits s).led.ram = s.led.ram := by simp [stageLimits]
@[simp] theorem integrate_ram (s : State) : (integrate s).led.ram = s.led.ram := by simp [integrate]

@[simp] theorem governPeriod_ram (len : Nat) (s : State) : (governPeriod len s).led.ram = s.led.ram := by
  unfold governPeriod
  extract_lets g s₁ g₁ s₂ s₃ excess o mj g₂ s₄ n g₃ s₅
  have h₃ : s₃.led.ram = s₂.led.ram := forEach_ram (fun r u => by simp) _ _
  have h₄ : s₄.led.ram = s₃.led.ram := by simp [s₄]
  have h₅ : s₅.led.ram = s₄.led.ram := by simp [s₅]
  dsimp only
  rw [h₅, h₄, h₃]

@[simp] theorem keepOne_ram (v : GovEval) (q : Nat × Nat) (s : State) :
    (keepOne v q s).led.ram = s.led.ram := by simp [keepOne]
@[simp] theorem govPost_ram (l : Nat) (s : State) : (govPost l s).led.ram = s.led.ram := by simp [govPost]

@[simp] theorem govDecide_ram (l : Nat) (s : State) : (govDecide l s).led.ram = s.led.ram := by
  unfold govDecide
  dsimp only
  repeat' split
  all_goals simp

@[simp] theorem applyLimit_ram (id param value : Nat) (s : State) :
    (applyLimit id param value s).led.ram = s.led.ram := by simp [applyLimit]
@[simp] theorem applyPref_ram (label : Nat) (lvl : Option Nat) (s : State) :
    (applyPref label lvl s).led.ram = s.led.ram := by simp [applyPref]
@[simp] theorem shadowSet_ram (x : Nat × BitVec 32) (s : State) : (shadowSet x s).led.ram = s.led.ram := by simp [shadowSet]
@[simp] theorem govLatch_ram (x : GovEval × List (Nat × Nat)) (s : State) :
    (govLatch x s).led.ram = s.led.ram := by simp [govLatch]
@[simp] theorem clampRelease_ram (s : State) : (clampRelease s).led.ram = s.led.ram := by simp [clampRelease]
@[simp] theorem driveSwell_ram (s : State) : (driveSwell s).led.ram = s.led.ram := by simp [driveSwell]
@[simp] theorem applySwell_ram (n code : Nat) (s : State) : (applySwell n code s).led.ram = s.led.ram := by simp [applySwell]
@[simp] theorem applyAdmit_ram (i : Nat) (s : State) : (applyAdmit i s).led.ram = s.led.ram := by simp [applyAdmit]
@[simp] theorem applyRevoke_ram (gid : Nat) (s : State) : (applyRevoke gid s).led.ram = s.led.ram := by simp [applyRevoke]

/-! ### Convoy -/

@[simp] theorem cvySend_ram (port : Nat) (prio : Bool) (m : List Byte) (s : State) :
    (cvySend port prio m s).led.ram = s.led.ram := by simp [cvySend]
@[simp] theorem cvyDown_ram (prio : Bool) (m : List Byte) (s : State) :
    (cvyDown prio m s).led.ram = s.led.ram := by simp [cvyDown]
@[simp] theorem cvyForward_ram (m : ConvoyMsg) (s : State) : (cvyForward m s).led.ram = s.led.ram := by simp [cvyForward]
@[simp] theorem cvyDiscard_ram (port : Nat) (s : State) : (cvyDiscard port s).led.ram = s.led.ram := by simp [cvyDiscard]
@[simp] theorem cvyPost_ram (lvl stage : Nat) (s : State) : (cvyPost lvl stage s).led.ram = s.led.ram := by simp [cvyPost]
@[simp] theorem cvyAgree_ram (lvl stage : Nat) (s : State) : (cvyAgree lvl stage s).led.ram = s.led.ram := by simp [cvyAgree]
@[simp] theorem clearPend_ram (s : State) : (clearPend s).led.ram = s.led.ram := by simp [clearPend]
@[simp] theorem expectAt_ram (stage lvl : Nat) (s : State) : (expectAt stage lvl s).led.ram = s.led.ram := by simp [expectAt]
@[simp] theorem cvyPace_ram (s : State) : (cvyPace s).led.ram = s.led.ram := by simp [cvyPace]
@[simp] theorem takeTable_ram (s : State) : (takeTable s).led.ram = s.led.ram := by simp [takeTable]
@[simp] theorem cvyLoaded_ram (s : State) :
    (cvyLoaded s).led.ram = s.led.ram := by unfold cvyLoaded; dsimp only; split <;> simp
@[simp] theorem noteMissing_ram (s : State) : (noteMissing s).led.ram = s.led.ram := by simp [noteMissing]
@[simp] theorem sendUp_ram (s : State) : (sendUp s).led.ram = s.led.ram := by simp [sendUp]
@[simp] theorem tryUp_ram (s : State) : (tryUp s).led.ram = s.led.ram := by simp [tryUp]
@[simp] theorem tryAck_ram (s : State) : (tryAck s).led.ram = s.led.ram := by simp [tryAck]
@[simp] theorem enterSkewed_ram (s : State) : (enterSkewed s).led.ram = s.led.ram := by simp [enterSkewed]
@[simp] theorem hearAnnounce_ram (level t exp : Nat) (skew : Bool) (s : State) :
    (hearAnnounce level t exp skew s).led.ram = s.led.ram := by simp [hearAnnounce]
@[simp] theorem sendAnnounce_ram (s : State) : (sendAnnounce s).led.ram = s.led.ram := by simp [sendAnnounce]
@[simp] theorem cancelAt_ram (t acked source : Nat) (s : State) :
    (cancelAt t acked source s).led.ram = s.led.ram := by simp [cancelAt]
@[simp] theorem prioNote_ram (s : State) : (prioNote s).led.ram = s.led.ram := by simp [prioNote]
@[simp] theorem hearPrio_ram (t level cause : Nat) (s : State) :
    (hearPrio t level cause s).led.ram = s.led.ram := by simp [hearPrio]
@[simp] theorem rootPrio_ram (s : State) : (rootPrio s).led.ram = s.led.ram := by unfold rootPrio; dsimp only; split <;> simp
@[simp] theorem prioApplied_ram (s : State) : (prioApplied s).led.ram = s.led.ram := by unfold prioApplied; split <;> simp
@[simp] theorem dropKid_ram (port : Nat) (s : State) : (dropKid port s).led.ram = s.led.ram := by simp [dropKid]
@[simp] theorem cvyOut_ram (s : State) : (cvyOut s).led.ram = s.led.ram := by simp [cvyOut]
@[simp] theorem joinAnswered_ram (s : State) : (joinAnswered s).led.ram = s.led.ram := by unfold joinAnswered; split <;> simp
@[simp] theorem joinFails_ram (s : State) :
    (joinFails s).led.ram = s.led.ram := by unfold joinFails; dsimp only; split <;> simp
@[simp] theorem joinDone_ram (s : State) : (joinDone s).led.ram = s.led.ram := by unfold joinDone; dsimp only; split <;> simp
@[simp] theorem cvyLeaves_ram (s : State) : (cvyLeaves s).led.ram = s.led.ram := by simp [cvyLeaves]
@[simp] theorem windowEdge_ram (s : State) : (windowEdge s).led.ram = s.led.ram := by simp [windowEdge]
@[simp] theorem rootSync_ram (s : State) : (rootSync s).led.ram = s.led.ram := by simp [rootSync]
@[simp] theorem cvyCounts_ram (s : State) : (cvyCounts s).led.ram = s.led.ram := by simp [cvyCounts]
@[simp] theorem cvyEdge_ram (loads : Bool) (s : State) : (cvyEdge loads s).led.ram = s.led.ram := by simp [cvyEdge]
@[simp] theorem cvyPeriod_ram (s : State) : (cvyPeriod s).led.ram = s.led.ram := by simp [cvyPeriod]

/-! ### Energy -/

@[simp] theorem actEvent_ram (n : Nat) (s : State) : (actEvent n s).led.ram = s.led.ram := by simp [actEvent]
@[simp] theorem enContribute_ram (s : State) : (enContribute s).led.ram = s.led.ram := by simp [enContribute]
@[simp] theorem enHandOver_ram (s : State) : (enHandOver s).led.ram = s.led.ram := by unfold enHandOver; split <;> simp
@[simp] theorem enPace_ram (len : Nat) (s : State) : (enPace len s).led.ram = s.led.ram := by simp [enPace]
@[simp] theorem enCapture_ram (s : State) : (enCapture s).led.ram = s.led.ram := by simp [enCapture]

@[simp] theorem enPeriod_ram (s : State) : (enPeriod s).led.ram = s.led.ram := by
  unfold enPeriod
  dsimp only
  repeat' split
  all_goals simp

@[simp] theorem retirePers_ram (s : State) : (retirePers s).led.ram = s.led.ram := by simp [retirePers]
@[simp] theorem dropFrame_ram (cause : Nat) (s : State) : (dropFrame cause s).led.ram = s.led.ram := by simp [dropFrame]

@[simp] theorem issueFrame_ram (s : State) : (issueFrame s).led.ram = s.led.ram := by
  unfold issueFrame
  dsimp only
  repeat' split
  all_goals simp

@[simp] theorem issueFrames_ram (s : State) : (issueFrames s).led.ram = s.led.ram := by simp [issueFrames]

@[simp] theorem postLanes_ram (p : EnPer) (s : State) : (postLanes p s).2.led.ram = s.led.ram := by
  unfold postLanes
  dsimp only
  repeat' split
  all_goals simp

@[simp] theorem rangeEvents_ram (p : EnPer) (s : State) : (rangeEvents p s).led.ram = s.led.ram := by simp [rangeEvents]
@[simp] theorem takeShares_ram (p : EnPer) (s : State) : (takeShares p s).led.ram = s.led.ram := by simp [takeShares]
@[simp] theorem enLatch_ram (s : State) : (enLatch s).led.ram = s.led.ram := by simp [enLatch]
@[simp] theorem applyLedger_ram (addr : Nat) (zero : Bool) (s : State) :
    (applyLedger addr zero s).led.ram = s.led.ram := by simp [applyLedger]
@[simp] theorem applyFrameRing_ram (addr count : Nat) (s : State) :
    (applyFrameRing addr count s).led.ram = s.led.ram := by simp [applyFrameRing]

/-! ### Manifest -/

@[simp] theorem updSlot_ram (b : Nat) (f : ManSlot → ManSlot) (s : State) :
    (updSlot b f s).led.ram = s.led.ram := by simp [updSlot]
@[simp] theorem fetchSeq_ram (q : Nat) (deadline : Option (Nat × Nat)) (s : State) :
    (fetchSeq q deadline s).led.ram = s.led.ram := by unfold fetchSeq; split <;> simp
@[simp] theorem manEmpty_ram (s : State) : (manEmpty s).led.ram = s.led.ram := by simp [manEmpty]
@[simp] theorem loadFail_ram (result rule nblk block stage pace cluster tile : Nat) (s : State) :
    (loadFail result rule nblk block stage pace cluster tile s).led.ram = s.led.ram := by unfold loadFail; split <;> simp
@[simp] theorem loadFailAt_ram (result nblk block : Nat) (s : State) :
    (loadFailAt result nblk block s).led.ram = s.led.ram := by simp [loadFailAt]

@[simp] theorem shiftEntries_ram (s : State) : (shiftEntries s).led.ram = s.led.ram := by simp [shiftEntries]

@[simp] theorem manifestEdge_ram (s : State) : (manifestEdge s).led.ram = s.led.ram := by
  unfold manifestEdge
  dsimp only
  repeat' split
  all_goals simp

@[simp] theorem divergence_ram (n : Nat) (s : State) : (divergence n s).led.ram = s.led.ram := by simp [divergence]
@[simp] theorem manifestCluster_ram (n : Nat) (s : State) :
    (manifestCluster n s).led.ram = s.led.ram := by simp [manifestCluster]
@[simp] theorem unserve_ram (s : State) : (unserve s).led.ram = s.led.ram := by simp [unserve]
@[simp] theorem manifestPace_ram (s : State) : (manifestPace s).led.ram = s.led.ram := by simp [manifestPace]
@[simp] theorem guards_ram (s : State) : (guards s).led.ram = s.led.ram := by simp [guards]
@[simp] theorem liftAt_ram (stage lift : Nat) (s : State) : (liftAt stage lift s).led.ram = s.led.ram := by simp [liftAt]
@[simp] theorem engageAt_ram (e : EngEv) (n : Nat) (s : State) : (engageAt e n s).led.ram = s.led.ram := by simp [engageAt]
@[simp] theorem applyEngage_ram (se n : Nat) (setStart : Bool) (lift start : Nat) (s : State) :
    (applyEngage se n setStart lift start s).led.ram = s.led.ram := by simp [applyEngage]
@[simp] theorem applyRelease_ram (se n : Nat) (unload : Bool) (s : State) :
    (applyRelease se n unload s).led.ram = s.led.ram := by simp [applyRelease]

/-! ### Thermal -/

@[simp] theorem estimateTemp_ram (s : State) : (estimateTemp s).led.ram = s.led.ram := by simp [estimateTemp]
@[simp] theorem warnEdge_ram (s : State) : (warnEdge s).led.ram = s.led.ram := by simp [warnEdge]
@[simp] theorem throtEdge_ram (s : State) : (throtEdge s).led.ram = s.led.ram := by simp [throtEdge]
@[simp] theorem thermalEdge_ram (s : State) : (thermalEdge s).led.ram = s.led.ram := by unfold thermalEdge; split <;> simp
@[simp] theorem thermalPeriod_ram (s : State) : (thermalPeriod s).led.ram = s.led.ram := by simp [thermalPeriod]
@[simp] theorem noteAwake_ram (s : State) : (noteAwake s).led.ram = s.led.ram := by simp [noteAwake]
@[simp] theorem forcePads_ram (s : State) : (forcePads s).led.ram = s.led.ram := by simp [forcePads]
@[simp] theorem assertTrip_ram (s : State) : (assertTrip s).led.ram = s.led.ram := by simp [assertTrip]
@[simp] theorem tellSensor_ram (s : State) : (tellSensor s).led.ram = s.led.ram := by simp [tellSensor]
@[simp] theorem judgeSensor_ram (broken : Bool) (s : State) :
    (judgeSensor broken s).led.ram = s.led.ram := by simp [judgeSensor]
@[simp] theorem diodeResult_ram (dUv vf : Int) (s : State) :
    (diodeResult dUv vf s).led.ram = s.led.ram := by simp [diodeResult]
@[simp] theorem tripCluster_ram (n : Nat) (s : State) : (tripCluster n s).led.ram = s.led.ram := by simp [tripCluster]

@[simp] theorem endTracking_ram (s : State) : (endTracking s).led.ram = s.led.ram :=
  (forEach_ram (fun _ _ => by split <;> simp) _ _).trans (by simp)

@[simp] theorem tripActs_ram (s : State) : (tripActs s).led.ram = s.led.ram := by simp [tripActs]
@[simp] theorem restartEnd_ram (result mask : Nat) (s : State) :
    (restartEnd result mask s).led.ram = s.led.ram := by simp [restartEnd]

/-! ### Acts -/

@[simp] theorem applyArm_ram (action fireWin fireI mask : Nat) (s : State) :
    (applyArm action fireWin fireI mask s).led.ram = s.led.ram := by simp [applyArm]
@[simp] theorem applyDisarm_ram (action mask : Nat) (s : State) :
    (applyDisarm action mask s).led.ram = s.led.ram := by simp [applyDisarm]
@[simp] theorem applyAct_ram (se : Nat) (a : Act) (s : State) :
    (applyAct se a s).led.ram = s.led.ram := by unfold applyAct; split <;> simp
@[simp] theorem applyActs_ram (se : Nat) (acts : List Act) (s : State) :
    (applyActs se acts s).led.ram = s.led.ram := by simp [applyActs]
@[simp] theorem applyDeferred_ram (l : List Deferred) (s : State) :
    (applyDeferred l s).led.ram = s.led.ram := by simp [applyDeferred]
@[simp] theorem applyNext_ram (s : State) : (applyNext s).led.ram = s.led.ram := by simp [applyNext]
@[simp] theorem applyEdge_ram (s : State) : (applyEdge s).led.ram = s.led.ram := by simp [applyEdge]

/-! ### Caravan -/

@[simp] theorem updRec_ram (k : Nat) (f : CvnRec → CvnRec) (s : State) :
    (updRec k f s).led.ram = s.led.ram := by simp [updRec]
@[simp] theorem abortEvent_ram (r : CvnRec) (cause : Nat) (s : State) :
    (abortEvent r cause s).led.ram = s.led.ram := by simp [abortEvent]
@[simp] theorem commitReply_ram (p : Packet) (st : Status) (data : List Byte) (s : State) :
    (commitReply p st data s).led.ram = s.led.ram := by simp [commitReply]
@[simp] theorem abortCommitted_ram (k cause : Nat) (fail : Option (Nat × Nat × Status)) (s : State) :
    (abortCommitted k cause fail s).led.ram = s.led.ram := by unfold abortCommitted; dsimp only; split <;> simp

@[simp] theorem checkRecord_ram (k : Nat) (x : State × State) : (checkRecord k x).2.led.ram = x.2.led.ram := by
  unfold checkRecord
  dsimp only
  repeat' split
  all_goals simp

@[simp] theorem edgeCheck_ram (s : State) : (edgeCheck s).led.ram = s.led.ram :=
  foldl_pair_ram checkRecord_ram _ _

@[simp] theorem commitRecord_ram (p : Packet) (k : Nat) (s : State) :
    (commitRecord p k s).led.ram = s.led.ram := by simp [commitRecord]
@[simp] theorem applyCaravan_ram (k : Nat) (s : State) : (applyCaravan k s).led.ram = s.led.ram := by simp [applyCaravan]
@[simp] theorem caravanEdge_ram (s : State) : (caravanEdge s).led.ram = s.led.ram := by simp [caravanEdge]

@[simp] theorem caravanReplies_ram (s : State) : (caravanReplies s).led.ram = s.led.ram :=
  forEach_ram (fun _ _ => by dsimp only; split <;> simp) _ _

@[simp] theorem caravanWarm_ram (s : State) : (caravanWarm s).led.ram = s.led.ram :=
  forEach_ram (fun _ _ => by dsimp only; split <;> simp) _ _

@[simp] theorem caravanPeriod_ram (s : State) : (caravanPeriod s).led.ram = s.led.ram := by simp [caravanPeriod]

/-! ### Commands -/

@[simp] theorem askPayload_ram (f : InFlight) (s : State) :
    (askPayload f s).led.ram = s.led.ram := by unfold askPayload; split <;> simp
@[simp] theorem cmdFetch_ram (s : State) : (cmdFetch s).led.ram = s.led.ram := by simp [cmdFetch]
@[simp] theorem doorbell_ram (tail : Nat) (s : State) : (doorbell tail s).led.ram = s.led.ram := by simp [doorbell]
@[simp] theorem hostDoorbell_ram (tail : Nat) (s : State) :
    (hostDoorbell tail s).led.ram = s.led.ram := by simp [hostDoorbell]
@[simp] theorem takeSlot_ram (o : Origin) (since : Nat) (slot : Option (List Byte)) (late : Bool) (s : State) :
    (takeSlot o since slot late s).led.ram = s.led.ram := by simp [takeSlot]
@[simp] theorem mailboxTake_ram (s : State) : (mailboxTake s).led.ram = s.led.ram := by simp [mailboxTake]
@[simp] theorem hostGo_ram (s : State) : (hostGo s).led.ram = s.led.ram := by simp [hostGo]

@[simp] theorem eventVector_ram (e : Event) (s : State) : (eventVector e s).led.ram = s.led.ram := by
  simp [eventVector]

@[simp] theorem ringControl_ram (w : BitVec 32) (s : State) : (ringControl w s).led.ram = s.led.ram := by simp [ringControl]
@[simp] theorem causeClear_ram (w : BitVec 32) (s : State) : (causeClear w s).led.ram = s.led.ram := by simp [causeClear]
@[simp] theorem apertureWrite_ram (s : State) : (apertureWrite s).led.ram = s.led.ram := by simp [apertureWrite]
@[simp] theorem mailboxCtrl_ram (w : BitVec 32) (s : State) : (mailboxCtrl w s).led.ram = s.led.ram := by simp [mailboxCtrl]
@[simp] theorem regWrite_ram (off : Nat) (w : BitVec 32) (s : State) :
    (regWrite off w s).led.ram = s.led.ram := by simp [regWrite]
@[simp] theorem parityRead_ram (a : Nat) (s : State) : (parityRead a s).led.ram = s.led.ram := by simp [parityRead]
@[simp] theorem markParity_ram (upset : Bool) (a : Nat) (s : State) :
    (markParity upset a s).led.ram = s.led.ram := by simp [markParity]
@[simp] theorem readEffect_ram (off : Nat) (s : State) : (readEffect off s).led.ram = s.led.ram := by simp [readEffect]
@[simp] theorem hostRead_ram (off size : Nat) (s : State) : (hostRead off size s).led.ram = s.led.ram := by simp [hostRead]
@[simp] theorem dmaWrite_ram (addr : Nat) (data : List Byte) (n : Nat) (s : State) :
    (dmaWrite addr data n s).led.ram = s.led.ram := by simp [dmaWrite]

/-! ### Engine -/

@[simp] theorem engineStall_ram (t : Nat) (s : State) : (engineStall t s).led.ram = s.led.ram := by simp [engineStall]
@[simp] theorem engineApply_ram (s : State) : (engineApply s).led.ram = s.led.ram := by simp [engineApply]
@[simp] theorem engineLatch_ram (s : State) : (engineLatch s).led.ram = s.led.ram := by simp [engineLatch]
@[simp] theorem swapRequest_ram (s : State) : (swapRequest s).led.ram = s.led.ram := by simp [swapRequest]
@[simp] theorem planReject_ram (slot reason : Nat) (s : State) :
    (planReject slot reason s).led.ram = s.led.ram := by simp [planReject]
@[simp] theorem bankSwap_ram (s : State) : (bankSwap s).led.ram = s.led.ram := by simp [bankSwap]

@[simp] theorem engineSwap_ram (s : State) : (engineSwap s).led.ram = s.led.ram := by
  unfold engineSwap
  dsimp only
  repeat' split
  all_goals simp

@[simp] theorem bankWrite_ram (addr : Nat) (w : BitVec 32) (s : State) :
    (bankWrite addr w s).led.ram = s.led.ram := by simp [bankWrite]
@[simp] theorem engineWarm_ram (s : State) : (engineWarm s).led.ram = s.led.ram := by simp [engineWarm]

/-! ### Bus -/

@[simp] theorem failTile_ram (t : Nat) (s : State) : (failTile t s).led.ram = s.led.ram := by
  unfold failTile
  dsimp only
  repeat' split
  all_goals simp

@[simp] theorem tileWritten_ram (t : Nat) (s : State) : (tileWritten t s).led.ram = s.led.ram := by
  unfold tileWritten
  dsimp only
  repeat' split
  all_goals simp

@[simp] theorem bufferTile_ram (t : Nat) (upset : Bool) (s : State) : (bufferTile t upset s).2.led.ram = s.led.ram := by
  unfold bufferTile
  dsimp only
  repeat' split
  all_goals simp

@[simp] theorem busRead_ram (a : Nat) (s : State) : (busRead a s).2.led.ram = s.led.ram := by
  unfold busRead
  dsimp only
  repeat' split
  all_goals simp

@[simp] theorem sealGo_ram (tile : Nat) (s : State) : (sealGo tile s).led.ram = s.led.ram := by simp [sealGo]
@[simp] theorem controlWrite_ram (off : Nat) (w : BitVec 32) (s : State) :
    (controlWrite off w s).led.ram = s.led.ram := by unfold controlWrite; split <;> simp
@[simp] theorem converterWrite_ram (off : Nat) (w : BitVec 32) (s : State) :
    (converterWrite off w s).led.ram = s.led.ram := by simp [converterWrite]
@[simp] theorem windowWrite_ram (off : Nat) (w : BitVec 32) (s : State) :
    (windowWrite off w s).led.ram = s.led.ram := by simp [windowWrite]

/-! ### Hart -/

@[simp] theorem setX_ram (k : Nat) (v : BitVec 32) (s : State) : (setX k v s).led.ram = s.led.ram := by simp [setX]
@[simp] theorem csrWrite_ram (num : Nat) (v : BitVec 32) (s : State) :
    (csrWrite num v s).led.ram = s.led.ram := by simp [csrWrite]
@[simp] theorem fallback_ram (cause : Nat) (addr : BitVec 32) (s : State) :
    (fallback cause addr s).led.ram = s.led.ram := by simp [fallback]
@[simp] theorem enterTrap_ram (cause : Nat) (tval : BitVec 32) (s : State) :
    (enterTrap cause tval s).led.ram = s.led.ram := by simp [enterTrap]
@[simp] theorem coreTrap_ram (cause : Nat) (tval : BitVec 32) (s : State) :
    (coreTrap cause tval s).led.ram = s.led.ram := by simp [coreTrap]
@[simp] theorem coreLoad_ram (a k : Nat) (s : State) :
    (coreLoad a k s).2.led.ram = s.led.ram := by unfold coreLoad; split <;> simp

@[simp] theorem fetchHalf_ram (a : Nat) (s : State) :
    (fetchHalf a s).2.led.ram = s.led.ram := by unfold fetchHalf; split <;> simp

@[simp] theorem fetchHart_ram (s : State) : (fetchHart s).2.led.ram = s.led.ram := by
  unfold fetchHart
  dsimp only
  repeat' split
  all_goals simp

@[simp] theorem fetchFails_ram {trap : Nat → BitVec 32 → State → State} (ht : ∀ c a s, (trap c a s).led.ram = s.led.ram)
    (a : Nat) (s : State) : (fetchFails trap a s).led.ram = s.led.ram := by
  simp [fetchFails, ht]

/-! ### Debug -/

@[simp] theorem dbgResult_ram (st : DbgSt) (rdata : BitVec 32) (s : State) :
    (dbgResult st rdata s).led.ram = s.led.ram := by simp [dbgResult]
@[simp] theorem dbgBusy_ram (s : State) : (dbgBusy s).led.ram = s.led.ram := by simp [dbgBusy]
@[simp] theorem dbgLock_ram (s : State) : (dbgLock s).led.ram = s.led.ram := by simp [dbgLock]

@[simp] theorem submitDone_ram (s : State) : (submitDone s).led.ram = s.led.ram := by
  unfold submitDone
  dsimp only
  repeat' split
  all_goals simp

@[simp] theorem dbgPeriod_ram (s : State) : (dbgPeriod s).led.ram = s.led.ram := by simp [dbgPeriod]
@[simp] theorem haltWith_ram (cause index : Nat) (s : State) :
    (haltWith cause index s).led.ram = s.led.ram := by simp [haltWith]
@[simp] theorem stepHalt_ram (t : Touch) (s : State) :
    (stepHalt t s).led.ram = s.led.ram := by unfold stepHalt; split <;> simp

/-! ### Firmware -/

@[simp] theorem loadEnd_ram (result : Nat) (s : State) :
    (loadEnd result s).led.ram = s.led.ram := by unfold loadEnd; split <;> simp
@[simp] theorem updLoad_ram (f : FwLoad → FwLoad) (s : State) : (updLoad f s).led.ram = s.led.ram := by simp [updLoad]

@[simp] theorem loadEdge_ram (s : State) : (loadEdge s).led.ram = s.led.ram := by
  unfold loadEdge
  dsimp only
  repeat' split
  all_goals simp

@[simp] theorem restoreCluster_ram (tr : List Byte) (n : Nat) (s : State) :
    (restoreCluster tr n s).led.ram = s.led.ram := by simp [restoreCluster]
@[simp] theorem recordResumes_ram (f : FwLoad) (s : State) :
    (recordResumes f s).led.ram = s.led.ram := by simp [recordResumes]

/-! ### Power -/

@[simp] theorem closeSwitch_ram (s : State) : (closeSwitch s).led.ram = s.led.ram := by simp [closeSwitch]
@[simp] theorem islandLoads_ram (s : State) : (islandLoads s).led.ram = s.led.ram := by simp [islandLoads]
@[simp] theorem stageTick_ram (stage : Nat) (s : State) : (stageTick stage s).led.ram = s.led.ram := by simp [stageTick]

@[simp] theorem chipEdge_ram (s : State) : (chipEdge s).led.ram = s.led.ram := by simp [chipEdge]
@[simp] theorem beginDescent_ram (s : State) : (beginDescent s).led.ram = s.led.ram := by simp [beginDescent]
@[simp] theorem paceDescent_ram (s : State) : (paceDescent s).led.ram = s.led.ram := by simp [paceDescent]
@[simp] theorem descentStop_ram (m : Nat) (s : State) : (descentStop m s).led.ram = s.led.ram := by simp [descentStop]
@[simp] theorem warmCommands_ram (s : State) : (warmCommands s).led.ram = s.led.ram := by simp [warmCommands]
@[simp] theorem warmRechar_ram (s : State) : (warmRechar s).led.ram = s.led.ram := by unfold warmRechar; split <;> simp
@[simp] theorem coreRestart_ram (s : State) : (coreRestart s).led.ram = s.led.ram := by simp [coreRestart]

/-! ### Frame -/

@[simp] theorem rollPeriod_ram (s : State) : (rollPeriod s).led.ram = s.led.ram := by simp [rollPeriod]
@[simp] theorem rollEvents_ram (s : State) : (rollEvents s).led.ram = s.led.ram := by simp [rollEvents]
@[simp] theorem endPace_ram (s : State) : (endPace s).led.ram = s.led.ram := by simp [endPace]
@[simp] theorem closeClock_ram (s : State) : (closeClock s).led.ram = s.led.ram := by simp [closeClock]
@[simp] theorem closeStage_ram (s : State) : (closeStage s).led.ram = s.led.ram := by simp [closeStage]
@[simp] theorem openStage_ram (stage : Nat) (s : State) : (openStage stage s).led.ram = s.led.ram := by simp [openStage]
@[simp] theorem latchPolicy_ram (x : Option (GovEval × List (Nat × Nat))) (s : State) :
    (latchPolicy x s).led.ram = s.led.ram := by unfold latchPolicy; split <;> simp
@[simp] theorem shedGroups_ram (s : State) : (shedGroups s).led.ram = s.led.ram := by simp [shedGroups]
@[simp] theorem retentionEdge_ram (s : State) : (retentionEdge s).led.ram = s.led.ram := by simp [retentionEdge]
@[simp] theorem unitsEdge_ram (loads : Bool) (s : State) : (unitsEdge loads s).led.ram = s.led.ram := by simp [unitsEdge]
@[simp] theorem edgeProtections_ram (crossings : List Crossing) (s : State) :
    (edgeProtections crossings s).led.ram = s.led.ram := by simp [edgeProtections]
@[simp] theorem edgeEffects_ram (x : Option (GovEval × List (Nat × Nat))) (loads : Bool) (s : State) :
    (edgeEffects x loads s).led.ram = s.led.ram := by simp [edgeEffects]
@[simp] theorem boundaryClock_ram (s : State) : (boundaryClock s).led.ram = s.led.ram := by simp [boundaryClock]
@[simp] theorem vinPace_ram (s : State) : (vinPace s).led.ram = s.led.ram := by simp [vinPace]
@[simp] theorem paceMeasures_ram (len : Nat) (inp : PaceIn) (s : State) :
    (paceMeasures len inp s).led.ram = s.led.ram := by simp [paceMeasures]
@[simp] theorem paceUnits_ram (s : State) : (paceUnits s).led.ram = s.led.ram := by simp [paceUnits]
@[simp] theorem paceResults_ram (s : State) : (paceResults s).led.ram = s.led.ram := by simp [paceResults]
@[simp] theorem paceTargets_ram (s : State) : (paceTargets s).led.ram = s.led.ram := by simp [paceTargets]
@[simp] theorem paceTrims_ram (s : State) : (paceTrims s).led.ram = s.led.ram := by simp [paceTrims]
@[simp] theorem paceDrives_ram (s : State) : (paceDrives s).led.ram = s.led.ram := by simp [paceDrives]

@[simp] theorem armNext_ram (s : State) : (armNext s).led.ram = s.led.ram := by
  refine forEach_ram (fun a u => ?_) _ _
  cases a with
  | arm k w i m =>
    by_cases hk : k = 1
    · subst hk; simp
    · simp [hk]
  | _ => simp

/-- The work of a pace ends by counting the pace; up to there its operations keep Ledger RAM. -/
theorem paceWork_eq (len : Nat) (inp : PaceIn) (s : State) :
    ∃ (u : State) (e : En), paceWork len inp s = { u with en := e } ∧ u.led.ram = s.led.ram :=
  ⟨_, _, rfl, by simp⟩

@[simp] theorem paceWork_ram (len : Nat) (inp : PaceIn) (s : State) : (paceWork len inp s).led.ram = s.led.ram := by
  obtain ⟨u, e, h, hu⟩ := paceWork_eq len inp s
  rw [h]
  exact hu

@[simp] theorem stepRail_ram (r : Nat) (s : State) : (stepRail r s).led.ram = s.led.ram := by simp [stepRail]
@[simp] theorem closePeriod_ram (s : State) : (closePeriod s).led.ram = s.led.ram := by simp [closePeriod]

end Sys2Proof.Machine
end

section
/-! SUPPORT. The bytes of Ledger RAM, third part: the operations that store bytes keep its canonical form (R426, R430, R431). -/

namespace Sys2Proof.Machine

/-- If Ledger RAM is in canonical form in `s`, it is in `t`; a structure, which `simp` opens by `canonTo_iff` alone. -/
structure CanonTo (s t : State) : Prop where
  wf : Memory.wf s.led.ram = true → Memory.wf t.led.ram = true

@[simp] theorem canonTo_iff {s t : State} : CanonTo s t ↔ (Memory.wf s.led.ram = true → Memory.wf t.led.ram = true) :=
  ⟨CanonTo.wf, CanonTo.mk⟩

theorem CanonTo.trans {s t u : State} (h : CanonTo s t) (h' : CanonTo t u) : CanonTo s u := ⟨h'.wf ∘ h.wf⟩

/-- An operation that leaves the bytes as they are keeps their form. -/
theorem CanonTo.of_ram_eq {s t : State} (h : t.led.ram = s.led.ram) : CanonTo s t := ⟨by rw [h]; exact id⟩

theorem forEach_canon {α : Type} {f : α → State → State} (h : ∀ a s, CanonTo s (f a s)) (l : List α) (s : State) :
    CanonTo s (forEach l f s) := by
  induction l generalizing s with
  | nil => exact ⟨id⟩
  | cons a l ih => exact (h a s).trans (ih (f a s))

/-- The same for a state carried along with a result. -/
theorem foldl_pair_canon {α β : Type} {f : α → β × State → β × State} (h : ∀ a x, CanonTo x.2 (f a x).2) (l : List α)
    (x : β × State) : CanonTo x.2 (l.foldl (fun x a => f a x) x).2 := by
  induction l generalizing x with
  | nil => exact ⟨id⟩
  | cons a l ih => exact (h a x).trans (ih (f a x))

theorem ramStore_canon (a : Nat) (bs : List Byte) (s : State) : CanonTo s (ramStore a bs s) := ⟨ramStore_wf a bs s⟩

theorem sealTile_canon (t : Nat) (bs : List Byte) (s : State) : CanonTo s (sealTile t bs s) := ⟨sealTile_wf t bs s⟩

/-! ### The tables of the cells (R285 to R289) -/

theorem writeCurve_canon (n : Nat) (s : State) : CanonTo s (writeCurve n s) := sealTile_canon _ _ s

theorem writeCal_canon (r : Rechar) (c : Nat) (pts : List (Nat × Nat)) (s : State) : CanonTo s (writeCal r c pts s) := by
  unfold writeCal
  dsimp only
  split
  · exact ⟨id⟩
  · exact .trans ⟨sealTile_wf _ _ { s with freeCount := s.freeCount + 1 }⟩ (.of_ram_eq (takeBrackets_ram _ _ _))

theorem writeSearched_canon (r : Rechar) (n : Nat) (x : RecharSum × State) : CanonTo x.2 (writeSearched r n x).2 := by
  unfold writeSearched
  split
  next a s =>
  extract_lets c old pts a₀
  split
  · exact ⟨id⟩
  · rename_i new gf vo raised fails s₁ s₂ live good a₁ s₃ a₂ vn rem s₄ s₅ a₃ a₄ hw
    have h₁ : CanonTo s s₁ := .of_ram_eq (by simp [s₁])
    have h₂ : CanonTo s₁ s₂ := writeCurve_canon n s₁
    have h₃ : CanonTo s₂ s₃ := by
      simp only [s₃]
      split
      · exact ⟨id⟩
      · exact forEach_canon (fun i u => writeCal_canon r i good u) live s₂
    have h₅ : CanonTo s₃ s₅ := .of_ram_eq (by
      simp only [s₅]
      clear_value rem
      cases rem with
      | none => simp [s₄]
      | some h => by_cases h1500 : h < 1500 <;> simp [s₄, h1500])
    exact h₁.trans (h₂.trans (h₃.trans h₅))

theorem recharWrite_canon (r : Rechar) (s : State) : CanonTo s (recharWrite r s) := by
  unfold recharWrite
  extract_lets x₁ x₂ s₁
  have h₁ : CanonTo s x₁.2 := by
    simp only [x₁]
    split
    · exact foldl_pair_canon (writeSearched_canon r) r.clusters ({}, s)
    · exact ⟨id⟩
  have h₂ : CanonTo x₁.2 x₂.2 := by
    simp only [x₂]
    split
    · exact foldl_pair_canon (fun n x => .of_ram_eq (returnCells_ram r n x)) r.clusters x₁
    · exact ⟨id⟩
  have h₃ : CanonTo x₂.2 s₁ := .of_ram_eq (forEach_ram (by simp) _ _)
  exact ⟨(h₁.trans (h₂.trans h₃)).wf⟩

/-! ### Blocks of a manifest (R225) -/

theorem storeBlock_canon (b : Nat) (d : List Byte) (good ramp : List Nat) (s : State) : CanonTo s (storeBlock b d good ramp s) :=
  (forEach_canon (fun _ u => sealTile_canon _ _ u) good s).trans (.of_ram_eq (updSlot_ram _ _ _))

theorem loadBlock_canon (b q i : Nat) (d : List Byte) (s : State) : CanonTo s (loadBlock b q i d s) := by
  have hst : CanonTo s (storeBlock b d (List.range 9) [] s) := storeBlock_canon b d _ _ s
  unfold loadBlock
  dsimp only
  generalize storeBlock b d (List.range 9) [] s = u at hst
  repeat' split
  · exact .of_ram_eq (loadFailAt_ram _ _ _ _)
  · exact .of_ram_eq (loadFailAt_ram _ _ _ _)
  · exact .of_ram_eq (loadFail_ram _ _ _ _ _ _ _ _ _)
  · exact .of_ram_eq (loadFail_ram _ _ _ _ _ _ _ _ _)
  all_goals exact hst.trans (.of_ram_eq (by simp))

theorem runBlock_canon (b q i : Nat) (d : List Byte) (s : State) : CanonTo s (runBlock b q i d s) := by
  unfold runBlock
  dsimp only
  split
  · exact .trans (.of_ram_eq (by simp)) (storeBlock_canon _ _ _ _ _)
  · exact .of_ram_eq (by simp)

/-! ### What the core and the debug port write (R415, R426, R443) -/

theorem openStore_canon (a : Nat) (w : BitVec 32) (lanes : Nat) (s : State) : CanonTo s (openStore a w lanes s) :=
  ⟨ramStore_wf _ _ s⟩

theorem withSealBuf_ram (s : State) (b : List Byte) :
    ({ s with led := { s.led with sealBuf := b } } : State).led.ram = s.led.ram := rfl

theorem busWrite_canon (port : Bool) (a : Nat) (w : BitVec 32) (lanes : Nat) (s : State) :
    CanonTo s (busWrite port a w lanes s).2 := by
  unfold busWrite
  dsimp only
  split
  · split
    · exact openStore_canon a w lanes s
    · exact ⟨id⟩
  · refine .of_ram_eq ?_
    repeat' split
    · rfl
    · rfl
    · exact bankWrite_ram _ _ s
    · exact swapRequest_ram s
    · rfl
    · simp only [converterWrite_ram]
    · simp only [converterWrite_ram]
    · simp only [controlWrite_ram]
    · exact withSealBuf_ram s _
    · rfl
    · rfl
    · simp only [windowWrite_ram]
    · rfl

theorem coreStore_canon (a k v : Nat) (s : State) : CanonTo s (coreStore a k v s).2 := by
  unfold coreStore
  dsimp only
  repeat' split
  · exact busWrite_canon _ _ _ _ s
  · exact busWrite_canon _ _ _ _ s
  · exact (busWrite_canon _ _ _ _ s).trans (busWrite_canon _ _ _ _ _)

theorem runHart_canon {trap : Nat → BitVec 32 → State → State} (ht : ∀ c a s, (trap c a s).led.ram = s.led.ram)
    (i : HInstr) (raw : BitVec 32) (len : Nat) (s : State) : CanonTo s (runHart trap i raw len s) := by
  cases i with
  | store f3 rs2 rs1 imm =>
    refine (coreStore_canon (s.xreg rs1 + imm).toNat (2 ^ f3) (s.xreg rs2).toNat s).trans ?_
    simp only [runHart]
    split
    · exact ⟨id⟩
    · exact .of_ram_eq (ht _ _ _)
  | _ =>
    refine .of_ram_eq ?_
    simp only [runHart]
    repeat' split
    all_goals simp [ht]

theorem stepHart_canon (s : State) : CanonTo s (stepHart s) := by
  unfold stepHart
  dsimp only
  split
  · exact .of_ram_eq (by simp)
  · split
    · exact .of_ram_eq (by simp)
    · next i raw len _ _ =>
      have hrun : CanonTo (fetchHart s).2 (runHart enterTrap i raw len (fetchHart s).2) :=
        runHart_canon enterTrap_ram i raw len _
      exact .trans (.of_ram_eq (fetchHart_ram s)) (hrun.trans (.of_ram_eq (by simp)))

/-! ### Images and part records (R422, R425), and what the copier writes (R418) -/

theorem sealTiles_canon (t : Nat) (b : List Byte) (s : State) : CanonTo s (sealTiles t b s) :=
  forEach_canon (fun _ u => (sealTile_canon _ _ u).trans (.of_ram_eq (tileWritten_ram _ _))) _ s

theorem storeImage_canon (h b : List Byte) (s : State) : CanonTo s (storeImage h b s) :=
  ⟨fun hw => (sealTiles_canon _ _ _).wf ((ramStore_canon _ _ _).wf ((sealTiles_canon _ _ _).wf hw))⟩

theorem applyRecord_canon (b : List Byte) (s : State) : CanonTo s (applyRecord b s) :=
  (sealTiles_canon _ _ s).trans ((sealTiles_canon _ _ _).trans (.of_ram_eq (forEach_ram (by simp) _ _)))

theorem copyTile_canon (t : Nat) (b : List Byte) (s : State) : CanonTo s (copyTile t b s) :=
  (sealTile_canon t b s).trans (.of_ram_eq (tileWritten_ram _ _))

theorem copier_canon (s : State) : CanonTo s (copier s) := by
  unfold copier
  extract_lets f s₁ s₂ s₃ s₄ s₅
  have h₁ : CanonTo s s₁ := forEach_canon (fun _ u => copyTile_canon _ _ u) _ s
  have h₂ : CanonTo s₁ s₂ := forEach_canon (fun t u => by
    split
    · exact copyTile_canon _ _ u
    · exact .of_ram_eq (failTile_ram _ u)) _ s₁
  have h₃ : CanonTo s₂ s₃ := by
    simp only [s₃]
    split
    · exact copyTile_canon _ _ s₂
    · exact .of_ram_eq (failTile_ram _ s₂)
  have h₄ : CanonTo s₃ s₄ := copyTile_canon _ _ s₃
  have h₅ : CanonTo s₄ s₅ := ramStore_canon _ _ s₄
  exact ⟨(h₁.trans (h₂.trans (h₃.trans (h₄.trans h₅)))).wf⟩

@[simp] theorem islandReset_ram (s : State) : (islandReset s).led.ram = [] := rfl

end Sys2Proof.Machine
end

section
/-! SUPPORT. Every command keeps Ledger RAM canonical: the frames of the commands, then one lemma for each command, in the order of the
model's files; from them the statement about all steps (R426, R430). -/

namespace Sys2Proof.Machine

/-! ### How a command goes on -/

/-- From `s` a command goes on to a next state, in which Ledger RAM is in canonical form if it is in `s`. -/
def KeepsCanon (s : State) (o : Host.Outcome State Fault Refusal) : Prop := ∃ t, o = .next t ∧ CanonTo s t

theorem keepsCanon_next {s t : State} : KeepsCanon s (.next t) ↔ CanonTo s t := by
  simp [KeepsCanon]

/-- A command may start from a state with the same bytes. -/
theorem KeepsCanon.of_start {s u : State} {o : Host.Outcome State Fault Refusal} (h : KeepsCanon u o) (hu : u.led.ram = s.led.ram) :
    KeepsCanon s o := by
  obtain ⟨t, ho, ht⟩ := h
  exact ⟨t, ho, (CanonTo.of_ram_eq hu).trans ht⟩

@[simp] theorem keepsCanon_idle (s : State) : KeepsCanon s (idle s) := keepsCanon_next.2 ⟨id⟩

@[simp] theorem keepsCanon_next_finish {s u : State} : KeepsCanon s (.next (finish u)) ↔ CanonTo s u := by
  simp [keepsCanon_next]

@[simp] theorem keepsCanon_done {s u : State} : KeepsCanon s (done u) ↔ CanonTo s u := keepsCanon_next_finish

@[simp] theorem keepsCanon_ite (s : State) (c : Prop) [Decidable c] (a b : Host.Outcome State Fault Refusal) :
    KeepsCanon s (if c then a else b) ↔ if c then KeepsCanon s a else KeepsCanon s b := by split <;> rfl

theorem keepsCanon_tick (s : State) : KeepsCanon s (.next (tick s)) := keepsCanon_next.2 (.of_ram_eq (tick_ram s))

/-! ### The frames of the commands

Each has its rule for an operation that may store, and the rule for one that stores nothing, by which `simp` goes. -/

theorem keepsCanon_atTime {f : State → State} (hf : ∀ u, CanonTo u (f u)) (due : Nat) (s : State) :
    KeepsCanon s (atTime due f s) := by
  unfold atTime
  split
  · next u hu => exact (keepsCanon_done.2 (hf u)).of_start (reach_ram hu)
  · exact keepsCanon_idle s

@[simp] theorem keepsCanon_atTime_of_ram {f : State → State} (hf : ∀ u, SameRam u (f u)) (due : Nat) (s : State) :
    KeepsCanon s (atTime due f s) := keepsCanon_atTime (fun u => .of_ram_eq (hf u).ram_eq) due s

@[simp] theorem keepsCanon_lapse_of_ram {f : State → State} (hf : ∀ u, SameRam u (f u)) (s : State) :
    KeepsCanon s (lapse f s) := by
  unfold lapse
  split
  · exact keepsCanon_idle s
  · exact keepsCanon_next.2 (.of_ram_eq (by simp [(hf s).ram_eq]))

@[simp] theorem keepsCanon_lapseAt_of_ram {f : State → State} (hf : ∀ u, SameRam u (f u)) (due : Nat) (s : State) :
    KeepsCanon s (lapseAt due f s) := by
  unfold lapseAt
  split
  · next u hu => exact (keepsCanon_lapse_of_ram hf u).of_start (reach_ram hu)
  · exact keepsCanon_idle s

@[simp] theorem keepsCanon_inTurn {f : State → Host.Outcome State Fault Refusal} (hf : ∀ u, KeepsCanon u (f u)) (p : Packet)
    (s : State) : KeepsCanon s (inTurn p s f) := by
  unfold inTurn
  split
  · exact keepsCanon_idle s
  · split
    · exact hf s
    · split
      · exact keepsCanon_idle s
      · exact (hf (tick s)).of_start (tick_ram s)

theorem keepsCanon_command {effect : State → State} (he : ∀ u, CanonTo u (effect u)) (p : Packet) (op : Nat)
    (checks : List (Bool × Status)) (s : State) : KeepsCanon s (command p op checks effect s) := by
  unfold command
  split
  · exact keepsCanon_idle s
  · split
    · simp
    · exact keepsCanon_next_finish.2 ⟨fun hw => (he _).wf hw⟩

@[simp] theorem keepsCanon_command_of_ram {effect : State → State} (he : ∀ u, SameRam u (effect u)) (p : Packet) (op : Nat)
    (checks : List (Bool × Status)) (s : State) : KeepsCanon s (command p op checks effect s) :=
  keepsCanon_command (fun u => .of_ram_eq (he u).ram_eq) p op checks s

@[simp] theorem keepsCanon_cvyReceive_of_ram {f : State → State} (hf : ∀ u, SameRam u (f u)) (type : Nat) (m : ConvoyMsg)
    (s : State) : KeepsCanon s (cvyReceive type m f s) := by
  simp [cvyReceive, (hf _).ram_eq]

theorem keepsCanon_dbgOp {effect : State → State} (he : ∀ u, CanonTo u (effect u)) (op : Nat) (whenLocked : Bool)
    (s : State) : KeepsCanon s (dbgOp op whenLocked effect s) := by
  have hop : ∀ d, CanonTo s (effect (s.updDbg d)) := fun d => ⟨(he (s.updDbg d)).wf⟩
  unfold dbgOp
  split
  · exact keepsCanon_idle s
  · split
    · exact keepsCanon_done.2 ⟨id⟩
    · dsimp only
      split
      · simp
      · exact keepsCanon_done.2 (hop _)

@[simp] theorem keepsCanon_dbgOp_of_ram {effect : State → State} (he : ∀ u, SameRam u (effect u)) (op : Nat)
    (whenLocked : Bool) (s : State) : KeepsCanon s (dbgOp op whenLocked effect s) :=
  keepsCanon_dbgOp (fun u => .of_ram_eq (he u).ram_eq) op whenLocked s

/-! ### Cells -/

@[simp] theorem execCellCurrentLimit_keepsCanon (x : CellVolt) (s : State) :
    KeepsCanon s (execCellCurrentLimit x s) := by simp [execCellCurrentLimit]
@[simp] theorem execCellHealthFault_keepsCanon (x : CellSense) (cause : CellCause) (s : State) :
    KeepsCanon s (execCellHealthFault x cause s) := by simp [execCellHealthFault]
@[simp] theorem execCellIsolationComplete_keepsCanon (c : CellId) (s : State) :
    KeepsCanon s (execCellIsolationComplete c s) := by unfold execCellIsolationComplete; split <;> simp

/-! ### Phases -/

@[simp] theorem execPhasePulseStart_keepsCanon (g : GroupId) (sense : Int) (s : State) :
    KeepsCanon s (execPhasePulseStart g sense s) := by simp [execPhasePulseStart]
@[simp] theorem execPhasePulseEnd_keepsCanon (i : PhaseId) (s : State) :
    KeepsCanon s (execPhasePulseEnd i s) := by simp [execPhasePulseEnd]
@[simp] theorem execPhaseOvercurrent_keepsCanon (i : PhaseId) (below : Bool) (s : State) :
    KeepsCanon s (execPhaseOvercurrent i below s) := by simp [execPhaseOvercurrent]
@[simp] theorem execPhaseFaultFlag_keepsCanon (i : PhaseId) (low : Bool) (s : State) :
    KeepsCanon s (execPhaseFaultFlag i low s) := by simp [execPhaseFaultFlag]
@[simp] theorem execPhaseParkDisable_keepsCanon (i : PhaseId) (amps : Nat) (s : State) :
    KeepsCanon s (execPhaseParkDisable i amps s) := by simp [execPhaseParkDisable]
@[simp] theorem execPhaseUnparkReady_keepsCanon (i : PhaseId) (s : State) :
    KeepsCanon s (execPhaseUnparkReady i s) := by unfold execPhaseUnparkReady; dsimp only; split <;> simp
@[simp] theorem execPhaseGroupSettings_keepsCanon (p : Packet) (s : State) :
    KeepsCanon s (execPhaseGroupSettings p s) := by simp [execPhaseGroupSettings]
@[simp] theorem execPhaseDisableByHost_keepsCanon (p : Packet) (s : State) :
    KeepsCanon s (execPhaseDisableByHost p s) := by simp [execPhaseDisableByHost]
@[simp] theorem execPhaseReenable_keepsCanon (p : Packet) (s : State) :
    KeepsCanon s (execPhaseReenable p s) := by simp [execPhaseReenable]
@[simp] theorem execSpareIntoService_keepsCanon (p : Packet) (s : State) :
    KeepsCanon s (execSpareIntoService p s) := by simp [execSpareIntoService]
@[simp] theorem execSpareToReserve_keepsCanon (p : Packet) (s : State) :
    KeepsCanon s (execSpareToReserve p s) := by simp [execSpareToReserve]

@[simp] theorem execPhaseCheckDone_keepsCanon (i : PhaseId) (curr : Int) (s : State) : KeepsCanon s (execPhaseCheckDone i curr s) := by
  unfold execPhaseCheckDone
  dsimp only
  repeat' split
  all_goals simp

/-! ### Adc -/

@[simp] theorem execSeqSwap_keepsCanon (mask : BitVec 16) (s : State) : KeepsCanon s (execSeqSwap mask s) := by simp [execSeqSwap]

@[simp] theorem execSeqValidationDone_keepsCanon (u : ConvId) (s : State) : KeepsCanon s (execSeqValidationDone u s) := by
  unfold execSeqValidationDone
  dsimp only
  repeat' split
  all_goals simp

@[simp] theorem execAdcResult_keepsCanon (c : ChanId) (d : Nat) (urgent : Bool) (s : State) : KeepsCanon s (execAdcResult c d urgent s) := by
  unfold execAdcResult
  dsimp only
  split
  · exact keepsCanon_idle s
  · split
    · exact keepsCanon_idle s
    · exact (keepsCanon_atTime (by simp) _ _).of_start rfl

@[simp] theorem execAdcUrgentRequest_keepsCanon (c : Nat) (s : State) :
    KeepsCanon s (execAdcUrgentRequest c s) := by simp [execAdcUrgentRequest]

@[simp] theorem execAdcSyscalDone_keepsCanon (u : ConvId) (sz sr : Nat) (s : State) : KeepsCanon s (execAdcSyscalDone u sz sr s) := by
  unfold execAdcSyscalDone
  dsimp only
  split
  · split
    · exact (keepsCanon_atTime (by simp) _ _).of_start (by simp)
    · exact keepsCanon_idle s
  · exact keepsCanon_idle s

@[simp] theorem execAdcBgBlockDone_keepsCanon (u : ConvId) (sz sr : Nat) (s : State) : KeepsCanon s (execAdcBgBlockDone u sz sr s) := by
  unfold execAdcBgBlockDone
  dsimp only
  split
  · split
    · exact (keepsCanon_atTime (by simp) _ _).of_start (by simp)
    · exact keepsCanon_idle s
  · exact keepsCanon_idle s

@[simp] theorem execAdcSpareExchange_keepsCanon (u : ConvId) (w : Int) (s : State) :
    KeepsCanon s (execAdcSpareExchange u w s) := by simp [execAdcSpareExchange]
@[simp] theorem execAdcCalibrateSystem_keepsCanon (p : Packet) (s : State) : KeepsCanon s (execAdcCalibrateSystem p s) := by
  refine keepsCanon_inTurn (fun u => keepsCanon_command_of_ram (fun v => ⟨?_⟩) _ _ _ u) p s
  simp
@[simp] theorem execAdcCalTimeout_keepsCanon (s : State) :
    KeepsCanon s (execAdcCalTimeout s) := by unfold execAdcCalTimeout; split <;> simp
@[simp] theorem execAdcSetCalMode_keepsCanon (p : Packet) (s : State) :
    KeepsCanon s (execAdcSetCalMode p s) := by simp [execAdcSetCalMode]

/-! ### Transient -/

@[simp] theorem execSentinelTrip_keepsCanon (x : DomainVolt) (s : State) :
    KeepsCanon s (execSentinelTrip x s) := by simp [execSentinelTrip]

@[simp] theorem execStretchRelease_keepsCanon (x : DomainSince) (s : State) : KeepsCanon s (execStretchRelease x s) := by
  unfold execStretchRelease
  dsimp only
  split
  · exact keepsCanon_idle s
  · split
    · next u hu => simp [reach_ram hu]
    · exact keepsCanon_idle s

@[simp] theorem execBellowsFireEnd_keepsCanon (n : ClusterId) (low : Bool) (s : State) :
    KeepsCanon s (execBellowsFireEnd n low s) := by simp [execBellowsFireEnd]
@[simp] theorem execBellowsSlotGrant_keepsCanon (n : ClusterId) (s : State) :
    KeepsCanon s (execBellowsSlotGrant n s) := by unfold execBellowsSlotGrant; dsimp only; split <;> simp
@[simp] theorem execBellowsChargeDone_keepsCanon (n : ClusterId) (s : State) :
    KeepsCanon s (execBellowsChargeDone n s) := by simp [execBellowsChargeDone]
@[simp] theorem execBellowsChargeTimeout_keepsCanon (n : ClusterId) (s : State) :
    KeepsCanon s (execBellowsChargeTimeout n s) := by simp [execBellowsChargeTimeout]
@[simp] theorem execBellowsFlagConflict_keepsCanon (n : ClusterId) (s : State) :
    KeepsCanon s (execBellowsFlagConflict n s) := by simp [execBellowsFlagConflict]

/-! ### Clusters -/

@[simp] theorem execClusterStateEcho_keepsCanon (n : ClusterId) (code : Nat) (s : State) :
    KeepsCanon s (execClusterStateEcho n code s) := by
  unfold execClusterStateEcho
  dsimp only
  repeat' split
  all_goals simp

@[simp] theorem execHandshakeTimeout_keepsCanon (n : ClusterId) (s : State) :
    KeepsCanon s (execHandshakeTimeout n s) := by unfold execHandshakeTimeout; dsimp only; split <;> simp

@[simp] theorem execWakeAdmission_keepsCanon (n : ClusterId) (s : State) : KeepsCanon s (execWakeAdmission n s) := by
  unfold execWakeAdmission
  dsimp only
  repeat' split
  all_goals simp

@[simp] theorem execWakeDeadlineExpiry_keepsCanon (n : ClusterId) (s : State) :
    KeepsCanon s (execWakeDeadlineExpiry n s) := by unfold execWakeDeadlineExpiry; dsimp only; split <;> simp
@[simp] theorem execWakeSelfTestEnd_keepsCanon (n : ClusterId) (badCells : List Nat) (sentinelOk : Bool) (s : State) :
    KeepsCanon s (execWakeSelfTestEnd n badCells sentinelOk s) := by unfold execWakeSelfTestEnd; split <;> simp
@[simp] theorem execClusterWakeEdge_keepsCanon (n : ClusterId) (s : State) :
    KeepsCanon s (execClusterWakeEdge n s) := by simp [execClusterWakeEdge]
@[simp] theorem execWakeLatchReplay_keepsCanon (n : ClusterId) (s : State) :
    KeepsCanon s (execWakeLatchReplay n s) := by simp [execWakeLatchReplay]
@[simp] theorem execDroneEnter_keepsCanon (p : Packet) (s : State) : KeepsCanon s (execDroneEnter p s) := by simp [execDroneEnter]
@[simp] theorem execDroneExit_keepsCanon (p : Packet) (s : State) : KeepsCanon s (execDroneExit p s) := by simp [execDroneExit]
@[simp] theorem execClusterSetState_keepsCanon (p : Packet) (s : State) :
    KeepsCanon s (execClusterSetState p s) := by simp [execClusterSetState]
@[simp] theorem execClusterSetOffset_keepsCanon (p : Packet) (s : State) :
    KeepsCanon s (execClusterSetOffset p s) := by simp [execClusterSetOffset]
@[simp] theorem execSaRetentionAck_keepsCanon (banks : List Nat) (s : State) :
    KeepsCanon s (execSaRetentionAck banks s) := by simp [execSaRetentionAck]
@[simp] theorem execSaBankPinned_keepsCanon (b : Nat) (pinned : Bool) (s : State) :
    KeepsCanon s (execSaBankPinned b pinned s) := by simp [execSaBankPinned]

/-! ### Levels -/

@[simp] theorem execSetLevelTable_keepsCanon (p : Packet) (s : State) :
    KeepsCanon s (execSetLevelTable p s) := by simp [execSetLevelTable]
@[simp] theorem execSetFixedFrequency_keepsCanon (p : Packet) (s : State) :
    KeepsCanon s (execSetFixedFrequency p s) := by simp [execSetFixedFrequency]
@[simp] theorem execFreqDone_keepsCanon (s : State) : KeepsCanon s (execFreqDone s) := by simp [execFreqDone]
@[simp] theorem execFreqNoDoneTimeout_keepsCanon (s : State) : KeepsCanon s (execFreqNoDoneTimeout s) := by simp [execFreqNoDoneTimeout]
@[simp] theorem execCurveTileReadDone_keepsCanon (t : Nat) (upset : Bool) (s : State) :
    KeepsCanon s (execCurveTileReadDone t upset s) := by simp [execCurveTileReadDone]
@[simp] theorem execCalTileReadDone_keepsCanon (t : Nat) (upset : Bool) (s : State) :
    KeepsCanon s (execCalTileReadDone t upset s) := by simp [execCalTileReadDone]
@[simp] theorem execCellRecharacterize_keepsCanon (p : Packet) (s : State) :
    KeepsCanon s (execCellRecharacterize p s) := by simp [execCellRecharacterize]
@[simp] theorem execRecharWindowStep_keepsCanon (n : ClusterId) (pass : Bool) (bad : List Nat) (s : State) :
    KeepsCanon s (execRecharWindowStep n pass bad s) := by
  unfold execRecharWindowStep
  split
  · exact keepsCanon_idle s
  · next r _ =>
    have hwrite : KeepsCanon s (done (recharWrite r s)) := keepsCanon_done.2 (recharWrite_canon r s)
    simp [-keepsCanon_done, hwrite]
    simp

/-! ### Rails -/

@[simp] theorem execRailEnable_keepsCanon (p : Packet) (s : State) : KeepsCanon s (execRailEnable p s) := by simp [execRailEnable]
@[simp] theorem execTrackingPrecheck_keepsCanon (meas : List PreCheck) (s : State) :
    KeepsCanon s (execTrackingPrecheck meas s) := by
  unfold execTrackingPrecheck
  split
  · exact keepsCanon_idle s
  · refine keepsCanon_atTime_of_ram (fun u => ⟨?_⟩) _ s
    dsimp only
    split <;> simp
@[simp] theorem execRailDisable_keepsCanon (p : Packet) (s : State) : KeepsCanon s (execRailDisable p s) := by
  refine keepsCanon_inTurn (fun u => keepsCanon_command_of_ram (fun v => ⟨?_⟩) _ _ _ u) p s
  simp
@[simp] theorem execTrackingStopLowSideEnd_keepsCanon (r : Nat) (below : Bool) (s : State) :
    KeepsCanon s (execTrackingStopLowSideEnd r below s) := by unfold execTrackingStopLowSideEnd; split <;> simp
@[simp] theorem execRailSetTarget_keepsCanon (p : Packet) (s : State) :
    KeepsCanon s (execRailSetTarget p s) := by simp [execRailSetTarget]

@[simp] theorem execSenseLineLoss_keepsCanon (r : Nat) (x : SenseIn) (s : State) : KeepsCanon s (execSenseLineLoss r x s) := by
  unfold execSenseLineLoss
  repeat' split
  all_goals simp

/-! ### Governor -/

@[simp] theorem execSetLimits_keepsCanon (p : Packet) (s : State) : KeepsCanon s (execSetLimits p s) := by simp [execSetLimits]
@[simp] theorem execSetLevelPreference_keepsCanon (p : Packet) (s : State) :
    KeepsCanon s (execSetLevelPreference p s) := by simp [execSetLevelPreference]
@[simp] theorem execSetSwell_keepsCanon (p : Packet) (s : State) : KeepsCanon s (execSetSwell p s) := by simp [execSetSwell]
@[simp] theorem execAdmitGuarantee_keepsCanon (p : Packet) (s : State) :
    KeepsCanon s (execAdmitGuarantee p s) := by simp [execAdmitGuarantee]
@[simp] theorem execRevokeGuarantee_keepsCanon (p : Packet) (s : State) :
    KeepsCanon s (execRevokeGuarantee p s) := by simp [execRevokeGuarantee]

/-! ### Convoy -/

@[simp] theorem execSync_keepsCanon (m : ConvoyMsg) (s : State) : KeepsCanon s (execSync m s) := by simp [execSync]
@[simp] theorem execEchoReq_keepsCanon (m : ConvoyMsg) (s : State) : KeepsCanon s (execEchoReq m s) := by simp [execEchoReq]

@[simp] theorem execEchoRsp_keepsCanon (m : ConvoyMsg) (s : State) : KeepsCanon s (execEchoRsp m s) :=
  keepsCanon_cvyReceive_of_ram (fun _ => by split <;> simp) _ m s

@[simp] theorem execStageTrimDecision_keepsCanon (s : State) :
    KeepsCanon s (execStageTrimDecision s) := by unfold execStageTrimDecision; dsimp only; split <;> simp
@[simp] theorem execConvoyCheckpoint_keepsCanon (s : State) : KeepsCanon s (execConvoyCheckpoint s) := by simp [execConvoyCheckpoint]
@[simp] theorem execConvoyUpDeadline_keepsCanon (s : State) : KeepsCanon s (execConvoyUpDeadline s) := by simp [execConvoyUpDeadline]
@[simp] theorem execUp_keepsCanon (m : ConvoyMsg) (s : State) : KeepsCanon s (execUp m s) := by simp [execUp]
@[simp] theorem execRootAnnounce_keepsCanon (s : State) : KeepsCanon s (execRootAnnounce s) := by simp [execRootAnnounce]
@[simp] theorem execAnnounce_keepsCanon (m : ConvoyMsg) (s : State) : KeepsCanon s (execAnnounce m s) := by simp [execAnnounce]
@[simp] theorem execAck_keepsCanon (m : ConvoyMsg) (s : State) : KeepsCanon s (execAck m s) := by simp [execAck]

@[simp] theorem execConvoyAckDeadline_keepsCanon (s : State) : KeepsCanon s (execConvoyAckDeadline s) := by
  unfold execConvoyAckDeadline
  dsimp only
  repeat' split
  all_goals simp

@[simp] theorem execCancel_keepsCanon (m : ConvoyMsg) (s : State) : KeepsCanon s (execCancel m s) := by simp [execCancel]
@[simp] theorem execPrioReq_keepsCanon (m : ConvoyMsg) (s : State) : KeepsCanon s (execPrioReq m s) := by simp [execPrioReq]
@[simp] theorem execPrioAnnounce_keepsCanon (m : ConvoyMsg) (s : State) :
    KeepsCanon s (execPrioAnnounce m s) := by simp [execPrioAnnounce]
@[simp] theorem execJoined_keepsCanon (m : ConvoyMsg) (s : State) : KeepsCanon s (execJoined m s) := by simp [execJoined]
@[simp] theorem execLeft_keepsCanon (m : ConvoyMsg) (s : State) : KeepsCanon s (execLeft m s) := by simp [execLeft]
@[simp] theorem execConvoySyncLoss_keepsCanon (s : State) : KeepsCanon s (execConvoySyncLoss s) := by simp [execConvoySyncLoss]
@[simp] theorem execConvoyJoinTimeout_keepsCanon (s : State) : KeepsCanon s (execConvoyJoinTimeout s) := by simp [execConvoyJoinTimeout]
@[simp] theorem execConvoyJoin_keepsCanon (p : Packet) (s : State) : KeepsCanon s (execConvoyJoin p s) := by simp [execConvoyJoin]
@[simp] theorem execConvoyLeave_keepsCanon (p : Packet) (s : State) : KeepsCanon s (execConvoyLeave p s) := by simp [execConvoyLeave]
@[simp] theorem execConvoyHostProposal_keepsCanon (p : Packet) (s : State) :
    KeepsCanon s (execConvoyHostProposal p s) := by simp [execConvoyHostProposal]
@[simp] theorem execConvoyClearSkew_keepsCanon (p : Packet) (s : State) :
    KeepsCanon s (execConvoyClearSkew p s) := by simp [execConvoyClearSkew]
@[simp] theorem execConvoyDropPort_keepsCanon (p : Packet) (s : State) :
    KeepsCanon s (execConvoyDropPort p s) := by simp [execConvoyDropPort]
@[simp] theorem execConvoyStatus_keepsCanon (p : Packet) (s : State) : KeepsCanon s (execConvoyStatus p s) := by simp [execConvoyStatus]

/-! ### Energy -/

@[simp] theorem execActivityRecord_keepsCanon (rec : BitVec 128) (s : State) :
    KeepsCanon s (execActivityRecord rec s) := by simp [execActivityRecord]
@[simp] theorem execEnergyReconcile_keepsCanon (s : State) :
    KeepsCanon s (execEnergyReconcile s) := by unfold execEnergyReconcile; split <;> simp
@[simp] theorem execFrameDeadlineExpiry_keepsCanon (s : State) :
    KeepsCanon s (execFrameDeadlineExpiry s) := by unfold execFrameDeadlineExpiry; split <;> simp
@[simp] theorem execLedgerPostAck_keepsCanon (st : DmaStatus) (s : State) :
    KeepsCanon s (execLedgerPostAck st s) := by unfold execLedgerPostAck; split <;> simp
@[simp] theorem execFrameWriteDone_keepsCanon (st : DmaStatus) (s : State) :
    KeepsCanon s (execFrameWriteDone st s) := by unfold execFrameWriteDone; split <;> simp
@[simp] theorem execEnergySetLedgerAddr_keepsCanon (p : Packet) (s : State) :
    KeepsCanon s (execEnergySetLedgerAddr p s) := by simp [execEnergySetLedgerAddr]
@[simp] theorem execEnergySetFrameRing_keepsCanon (p : Packet) (s : State) :
    KeepsCanon s (execEnergySetFrameRing p s) := by simp [execEnergySetFrameRing]
@[simp] theorem execEnergyRead_keepsCanon (p : Packet) (s : State) : KeepsCanon s (execEnergyRead p s) := by simp [execEnergyRead]
@[simp] theorem execEnergyModelLoad_keepsCanon (p : Packet) (s : State) :
    KeepsCanon s (execEnergyModelLoad p s) := by
  refine keepsCanon_inTurn (fun u => keepsCanon_command (fun v => ?_) _ _ _ u) p s
  exact (ramStore_canon modelAddr p.payload v).trans (.of_ram_eq (by simp))

/-! ### Manifest -/

@[simp] theorem execManifestLoad_keepsCanon (p : Packet) (s : State) : KeepsCanon s (execManifestLoad p s) := by simp [execManifestLoad]

@[simp] theorem execManifestHeaderArrival_keepsCanon (data : Option (List Byte)) (s : State) :
    KeepsCanon s (execManifestHeaderArrival data s) := by
  unfold execManifestHeaderArrival
  dsimp only
  repeat' split
  iterate 5 simp
  refine keepsCanon_done.2 ⟨fun hw => ?_⟩
  rw [forEach_ram (by simp)]
  exact sealTile_wf 639 [] _ (sealTile_wf 638 _ _ hw)

@[simp] theorem execManifestBlockArrival_keepsCanon (slot : Nat) (data : Option (List Byte)) (s : State) :
    KeepsCanon s (execManifestBlockArrival slot data s) := by
  unfold execManifestBlockArrival
  dsimp only
  repeat' split
  · exact keepsCanon_idle s
  · exact keepsCanon_idle s
  · simp
  · exact keepsCanon_done.2 (loadBlock_canon _ _ _ _ s)
  · simp
  · exact keepsCanon_done.2 (runBlock_canon _ _ _ _ s)

@[simp] theorem execManifestLoadTimeout_keepsCanon (s : State) :
    KeepsCanon s (execManifestLoadTimeout s) := by simp [execManifestLoadTimeout]
@[simp] theorem execManifestLateExpiry_keepsCanon (slot : Nat) (s : State) :
    KeepsCanon s (execManifestLateExpiry slot s) := by unfold execManifestLateExpiry; dsimp only; split <;> simp
@[simp] theorem execManifestTileReadDone_keepsCanon (t : Nat) (upset : Bool) (s : State) :
    KeepsCanon s (execManifestTileReadDone t upset s) := by unfold execManifestTileReadDone; dsimp only; split <;> simp

@[simp] theorem execManifestEngage_keepsCanon (p : Packet) (s : State) : KeepsCanon s (execManifestEngage p s) := by
  refine keepsCanon_inTurn (fun u => keepsCanon_command_of_ram (fun v => ⟨?_⟩) _ _ _ u) p s
  rw [reply_ram, forEach_ram]
  intro a w
  split <;> simp

@[simp] theorem execManifestRelease_keepsCanon (p : Packet) (s : State) : KeepsCanon s (execManifestRelease p s) := by
  refine keepsCanon_inTurn (fun u => keepsCanon_command_of_ram (fun v => ⟨?_⟩) _ _ _ u) p s
  refine forEach_ram (fun a w => ?_) _ _
  split <;> simp

@[simp] theorem execManifestStatus_keepsCanon (p : Packet) (s : State) :
    KeepsCanon s (execManifestStatus p s) := by simp [execManifestStatus]

/-! ### Thermal -/

@[simp] theorem execGraceExpiry_keepsCanon (s : State) : KeepsCanon s (execGraceExpiry s) := by unfold execGraceExpiry; split <;> simp
@[simp] theorem execThermalCeilingStep_keepsCanon (s : State) :
    KeepsCanon s (execThermalCeilingStep s) := by simp [execThermalCeilingStep]
@[simp] theorem execDiodeResult_keepsCanon (dUv vf : Int) (s : State) :
    KeepsCanon s (execDiodeResult dUv vf s) := by simp [execDiodeResult]
@[simp] theorem execRestartToStandbyReady_keepsCanon (s : State) :
    KeepsCanon s (execRestartToStandbyReady s) := by simp [execRestartToStandbyReady]
@[simp] theorem execRestartCoreRails_keepsCanon (s : State) : KeepsCanon s (execRestartCoreRails s) := by simp [execRestartCoreRails]
@[simp] theorem execThermalThresholds_keepsCanon (p : Packet) (s : State) :
    KeepsCanon s (execThermalThresholds p s) := by simp [execThermalThresholds]
@[simp] theorem execThermalCalibrate_keepsCanon (p : Packet) (s : State) :
    KeepsCanon s (execThermalCalibrate p s) := by simp [execThermalCalibrate]
@[simp] theorem execThermalCalDone_keepsCanon (s : State) :
    KeepsCanon s (execThermalCalDone s) := by unfold execThermalCalDone; split <;> simp
@[simp] theorem execThermalStatus_keepsCanon (p : Packet) (s : State) :
    KeepsCanon s (execThermalStatus p s) := by simp [execThermalStatus]

/-! ### Caravan -/

@[simp] theorem execCaravanOpen_keepsCanon (p : Packet) (s : State) : KeepsCanon s (execCaravanOpen p s) := by simp [execCaravanOpen]
@[simp] theorem execCaravanOpenTimeout_keepsCanon (k : Nat) (s : State) :
    KeepsCanon s (execCaravanOpenTimeout k s) := by simp [execCaravanOpenTimeout]

@[simp] theorem execCaravanMember_keepsCanon (p : Packet) (op id : Nat) (s : State) : KeepsCanon s (execCaravanMember p op id s) := by
  refine keepsCanon_inTurn (fun u => ?_) p s
  dsimp only
  repeat' split
  all_goals simp

@[simp] theorem execCaravanEdgeCheck_keepsCanon (s : State) : KeepsCanon s (execCaravanEdgeCheck s) := by simp [execCaravanEdgeCheck]
@[simp] theorem execThermalTrip_keepsCanon (s : State) : KeepsCanon s (execThermalTrip s) := by simp [execThermalTrip]
@[simp] theorem execCaravanCutoff_keepsCanon (s : State) : KeepsCanon s (execCaravanCutoff s) := by simp [execCaravanCutoff]
@[simp] theorem execCaravanCommit_keepsCanon (p : Packet) (s : State) :
    KeepsCanon s (execCaravanCommit p s) := by simp [execCaravanCommit]

@[simp] theorem execCaravanAbort_keepsCanon (p : Packet) (s : State) : KeepsCanon s (execCaravanAbort p s) := by
  refine keepsCanon_inTurn (fun u => ?_) p s
  dsimp only
  split
  · exact keepsCanon_idle u
  · refine keepsCanon_command (fun v => ⟨?_⟩) _ _ _ u
    rw [reply_ram]
    split <;> simp

@[simp] theorem execCaravanStatus_keepsCanon (p : Packet) (s : State) :
    KeepsCanon s (execCaravanStatus p s) := by simp [execCaravanStatus]

/-! ### Commands -/

@[simp] theorem execCommandDoorbell_keepsCanon (tail : Nat) (s : State) :
    KeepsCanon s (execCommandDoorbell tail s) := by simp [execCommandDoorbell]
@[simp] theorem execCommandSlotFetchDone_keepsCanon (slots : List (Option (List Byte))) (s : State) :
    KeepsCanon s (execCommandSlotFetchDone slots s) := by simp [execCommandSlotFetchDone]
@[simp] theorem execCommandSlotTake_keepsCanon (s : State) :
    KeepsCanon s (execCommandSlotTake s) := by unfold execCommandSlotTake; split <;> simp
@[simp] theorem execIndirectPayloadFetchDone_keepsCanon (o : Origin) (data : Option (List Byte)) (s : State) :
    KeepsCanon s (execIndirectPayloadFetchDone o data s) := by simp [execIndirectPayloadFetchDone]
@[simp] theorem execMailboxGo_keepsCanon (s : State) : KeepsCanon s (execMailboxGo s) := by simp [execMailboxGo]
@[simp] theorem slotExpiry_keepsCanon (o : Origin) (s : State) : KeepsCanon s (slotExpiry o s) := by unfold slotExpiry; split <;> simp
@[simp] theorem execReplyDeadlineExpiry_keepsCanon (o : Origin) (s : State) :
    KeepsCanon s (execReplyDeadlineExpiry o s) := by simp [execReplyDeadlineExpiry]
@[simp] theorem execReplyHoldDrain_keepsCanon (s : State) :
    KeepsCanon s (execReplyHoldDrain s) := by unfold execReplyHoldDrain; split <;> simp

@[simp] theorem execEventRingWrite_keepsCanon (s : State) : KeepsCanon s (execEventRingWrite s) := by
  unfold execEventRingWrite
  dsimp only
  repeat' split
  all_goals simp

@[simp] theorem execRingControlWrite_keepsCanon (w : BitVec 32) (s : State) :
    KeepsCanon s (execRingControlWrite w s) := by simp [execRingControlWrite]
@[simp] theorem execEventCauseClear_keepsCanon (w : BitVec 32) (s : State) :
    KeepsCanon s (execEventCauseClear w s) := by simp [execEventCauseClear]
@[simp] theorem execApertureWrite_keepsCanon (x : Access) (_w : BitVec 32) (s : State) :
    KeepsCanon s (execApertureWrite x _w s) := by simp [execApertureWrite]
@[simp] theorem execRegisterWrite_keepsCanon (x : Access) (w : BitVec 32) (s : State) :
    KeepsCanon s (execRegisterWrite x w s) := by simp [execRegisterWrite]
@[simp] theorem execStageLoRead_keepsCanon (s : State) : KeepsCanon s (execStageLoRead s) := by simp [execStageLoRead]
@[simp] theorem execLedgerLoRead_keepsCanon (x : LedgerRead) (s : State) :
    KeepsCanon s (execLedgerLoRead x s) := by simp [execLedgerLoRead]
@[simp] theorem execApertureRead_keepsCanon (x : Access) (upset : Bool) (s : State) :
    KeepsCanon s (execApertureRead x upset s) := by simp [execApertureRead]
@[simp] theorem execPing_keepsCanon (p : Packet) (s : State) : KeepsCanon s (execPing p s) := by simp [execPing]
@[simp] theorem execGetInfo_keepsCanon (p : Packet) (s : State) : KeepsCanon s (execGetInfo p s) := by simp [execGetInfo]
@[simp] theorem execArm_keepsCanon (p : Packet) (s : State) : KeepsCanon s (execArm p s) := by simp [execArm]
@[simp] theorem execDisarm_keepsCanon (p : Packet) (s : State) : KeepsCanon s (execDisarm p s) := by simp [execDisarm]
@[simp] theorem execSetEventMask_keepsCanon (p : Packet) (s : State) : KeepsCanon s (execSetEventMask p s) := by simp [execSetEventMask]
@[simp] theorem execRailGetStatus_keepsCanon (p : Packet) (s : State) :
    KeepsCanon s (execRailGetStatus p s) := by simp [execRailGetStatus]
@[simp] theorem execClusterGetStatus_keepsCanon (p : Packet) (s : State) :
    KeepsCanon s (execClusterGetStatus p s) := by simp [execClusterGetStatus]
@[simp] theorem execDiagReadTrace_keepsCanon (p : Packet) (s : State) :
    KeepsCanon s (execDiagReadTrace p s) := by simp [execDiagReadTrace]
@[simp] theorem execTraceCopyDone_keepsCanon (s : State) :
    KeepsCanon s (execTraceCopyDone s) := by unfold execTraceCopyDone; split <;> simp

/-! ### Engine -/

theorem evaluated_ram (parity : List Nat) (s : State) : (evaluated parity s).led.ram = s.led.ram := by
  by_cases h : overruns s = []
  · rw [led_of_apart (evaluated_apart_of_fits parity h)]
  · rw [led_of_apart (evaluated_apart_of_overrun parity h)]

@[simp] theorem execEngineEvalDeadline_keepsCanon (parity : List Nat) (s : State) : KeepsCanon s (execEngineEvalDeadline parity s) := by
  unfold execEngineEvalDeadline
  split
  · exact keepsCanon_idle s
  · exact keepsCanon_lapseAt_of_ram (f := evaluated parity) (fun u => ⟨evaluated_ram parity u⟩) _ s

@[simp] theorem execSwap_keepsCanon (s : State) : KeepsCanon s (execSwap s) := by simp [execSwap]

@[simp] theorem execPlanValidationDone_keepsCanon (parity : List Nat) (s : State) : KeepsCanon s (execPlanValidationDone parity s) := by
  unfold execPlanValidationDone
  dsimp only
  repeat' split
  all_goals simp

@[simp] theorem execEngineBankWrite_keepsCanon (addr : Nat) (w : BitVec 32) (s : State) :
    KeepsCanon s (execEngineBankWrite addr w s) := by simp [execEngineBankWrite]

/-! ### Bus -/

@[simp] theorem execSealGo_keepsCanon (tile : Nat) (s : State) : KeepsCanon s (execSealGo tile s) := by simp [execSealGo]
@[simp] theorem execSealWriteDone_keepsCanon (s : State) : KeepsCanon s (execSealWriteDone s) := by
  unfold execSealWriteDone
  split
  · exact keepsCanon_idle s
  · next t _ => exact keepsCanon_done.2 ((sealTile_canon t s.led.sealBuf s).trans (.of_ram_eq (by simp)))
@[simp] theorem execCoreHostWindowWrite_keepsCanon (off : Nat) (w : BitVec 32) (s : State) :
    KeepsCanon s (execCoreHostWindowWrite off w s) := by simp [execCoreHostWindowWrite]

/-! ### Hart -/

@[simp] theorem execCoreTileReadDone_keepsCanon (t : Nat) (upset fetch : Bool) (s : State) :
    KeepsCanon s (execCoreTileReadDone t upset fetch s) := by simp [execCoreTileReadDone]
@[simp] theorem execFirmwareFallback_keepsCanon (cause : Nat) (addr : BitVec 32) (s : State) :
    KeepsCanon s (execFirmwareFallback cause addr s) := by simp [execFirmwareFallback]

/-! ### Debug -/

@[simp] theorem execNop_keepsCanon (s : State) : KeepsCanon s (execNop s) := by simp [execNop]

@[simp] theorem execChallenge_keepsCanon (addr : Nat) (s : State) : KeepsCanon s (execChallenge addr s) := by
  refine keepsCanon_dbgOp (fun u => ?_) _ _ s
  dsimp only
  repeat' split
  all_goals simp

@[simp] theorem execResponse_keepsCanon (addr : Nat) (w : BitVec 32) (s : State) :
    KeepsCanon s (execResponse addr w s) := by simp [execResponse]
@[simp] theorem execSubmit_keepsCanon (s : State) : KeepsCanon s (execSubmit s) := by simp [execSubmit]

@[simp] theorem execDebugOperationDone_keepsCanon (s : State) : KeepsCanon s (execDebugOperationDone s) := by
  unfold execDebugOperationDone
  dsimp only
  repeat' split
  all_goals simp

@[simp] theorem execDebugChallengeExpiry_keepsCanon (s : State) :
    KeepsCanon s (execDebugChallengeExpiry s) := by simp [execDebugChallengeExpiry]
@[simp] theorem execDebugWithholdEnd_keepsCanon (s : State) : KeepsCanon s (execDebugWithholdEnd s) := by simp [execDebugWithholdEnd]
@[simp] theorem execLock_keepsCanon (s : State) : KeepsCanon s (execLock s) := by simp [execLock]
@[simp] theorem execTestReset_keepsCanon (s : State) : KeepsCanon s (execTestReset s) := by simp [execTestReset]
@[simp] theorem execHalt_keepsCanon (s : State) : KeepsCanon s (execHalt s) := by simp [execHalt]
@[simp] theorem execResume_keepsCanon (s : State) : KeepsCanon s (execResume s) := by simp [execResume]
@[simp] theorem execStep_keepsCanon (s : State) : KeepsCanon s (execStep s) := by
  refine keepsCanon_dbgOp (fun u => ?_) _ _ s
  split
  · exact .of_ram_eq (by simp)
  · exact (stepHart_canon u).trans (.of_ram_eq (by simp))
@[simp] theorem execCoreHalt_keepsCanon (cause index : Nat) (ctx : CoreCtx) (s : State) :
    KeepsCanon s (execCoreHalt cause index ctx s) := by simp [execCoreHalt]
@[simp] theorem execSetMatch_keepsCanon (addr : Nat) (w : BitVec 32) (s : State) :
    KeepsCanon s (execSetMatch addr w s) := by simp [execSetMatch]

@[simp] theorem execReadMem_keepsCanon (addr : BitVec 32) (s : State) : KeepsCanon s (execReadMem addr s) := by
  refine keepsCanon_dbgOp (fun u => ?_) _ _ s
  dsimp only
  repeat' split
  all_goals simp

@[simp] theorem execWriteMem_keepsCanon (addr w : BitVec 32) (s : State) : KeepsCanon s (execWriteMem addr w s) := by
  refine keepsCanon_dbgOp (fun u => ?_) _ _ s
  split
  · exact .of_ram_eq (by simp)
  · refine (busWrite_canon true addr.toNat w 15 u).trans (.of_ram_eq ?_)
    dsimp only
    split <;> simp

@[simp] theorem execReadReg_keepsCanon (num : BitVec 32) (s : State) : KeepsCanon s (execReadReg num s) := by
  unfold execReadReg
  dsimp only
  refine keepsCanon_dbgOp (fun u => ?_) _ _ s
  repeat' split
  all_goals simp

@[simp] theorem execWriteReg_keepsCanon (num w : BitVec 32) (s : State) : KeepsCanon s (execWriteReg num w s) := by simp [execWriteReg]
@[simp] theorem execConvert_keepsCanon (chan : Nat) (s : State) : KeepsCanon s (execConvert chan s) := by simp [execConvert]

/-! ### Firmware -/

@[simp] theorem execLoadFirmware_keepsCanon (p : Packet) (s : State) : KeepsCanon s (execLoadFirmware p s) := by simp [execLoadFirmware]

@[simp] theorem execFirmwareFetchDone_keepsCanon (data : Option (List Byte)) (s : State) :
    KeepsCanon s (execFirmwareFetchDone data s) := by
  unfold execFirmwareFetchDone
  split
  · exact keepsCanon_idle s
  · split
    · simp
    · simp
    · dsimp only
      repeat' split
      all_goals simp
    · dsimp only
      split
      · split
        · exact keepsCanon_done.2 ((applyRecord_canon _ s).trans (.of_ram_eq (loadEnd_ram _ _)))
        · simp
      · exact keepsCanon_done.2 ((storeImage_canon _ _ s).trans (.of_ram_eq (updLoad_ram _ _)))
    · exact keepsCanon_idle s

@[simp] theorem execFirmwareAuthDone_keepsCanon (s : State) :
    KeepsCanon s (execFirmwareAuthDone s) := by unfold execFirmwareAuthDone; split <;> simp
@[simp] theorem execFirmwareLoadTimeout_keepsCanon (s : State) :
    KeepsCanon s (execFirmwareLoadTimeout s) := by unfold execFirmwareLoadTimeout; split <;> simp

/-! ### Power -/

@[simp] theorem execPowerOnReset_keepsCanon (req : Bool) (s : State) : KeepsCanon s (execPowerOnReset req s) := by
  simp [execPowerOnReset, reset_ram_wf]
@[simp] theorem execPowerRequestUp_keepsCanon (s : State) : KeepsCanon s (execPowerRequestUp s) := by simp [execPowerRequestUp]
@[simp] theorem execClockGeneratorStart_keepsCanon (s : State) :
    KeepsCanon s (execClockGeneratorStart s) := by simp [execClockGeneratorStart]
@[simp] theorem execClockLock_keepsCanon (s : State) : KeepsCanon s (execClockLock s) := by
  simp [execClockLock, reset_ram_wf.symm, Memory.wf, Memory.wfFrom]
@[simp] theorem execCopierDone_keepsCanon (s : State) : KeepsCanon s (execCopierDone s) := by
  unfold execCopierDone
  split
  · exact keepsCanon_idle s
  · refine keepsCanon_atTime (fun u => (copier_canon u).trans (.of_ram_eq ?_)) _ s
    simp
@[simp] theorem execPowerRequestDown_keepsCanon (s : State) : KeepsCanon s (execPowerRequestDown s) := by simp [execPowerRequestDown]
@[simp] theorem execDescentRailsStop_keepsCanon (s : State) :
    KeepsCanon s (execDescentRailsStop s) := by unfold execDescentRailsStop; split <;> simp
@[simp] theorem execDescentIslandOff_keepsCanon (s : State) : KeepsCanon s (execDescentIslandOff s) := by
  simp [execDescentIslandOff, Memory.wf, Memory.wfFrom]
@[simp] theorem execWarmResetStart_keepsCanon (s : State) : KeepsCanon s (execWarmResetStart s) := by simp [execWarmResetStart]

@[simp] theorem execWarmResetEnd_keepsCanon (s : State) : KeepsCanon s (execWarmResetEnd s) := by
  unfold execWarmResetEnd
  dsimp only
  repeat' split
  all_goals simp

/-! ### Frame -/

@[simp] theorem execStageEdge_keepsCanon (x : EdgeIn) (s : State) : KeepsCanon s (execStageEdge x s) := by
  unfold execStageEdge
  dsimp only
  repeat' split
  all_goals simp

@[simp] theorem execPaceBoundary_keepsCanon (inp : PaceIn) (s : State) :
    KeepsCanon s (execPaceBoundary inp s) := by simp [execPaceBoundary]

@[simp] theorem execSetpointStep_keepsCanon (o : SpObj) (s : State) : KeepsCanon s (execSetpointStep o s) := by
  unfold execSetpointStep
  repeat' split
  all_goals simp

@[simp] theorem execPeriodClose_keepsCanon (s : State) : KeepsCanon s (execPeriodClose s) := by simp [execPeriodClose]

/-! ### All commands and all steps -/

/-- Each arm of the dispatcher is a call of the meaning of its command. -/
theorem exec_keepsCanon (c : Instr) (s : State) : KeepsCanon s (exec c s) := by
  cases c <;> simp [exec]

/-- A step goes on from the state whose queue is the rest, and so does a cycle without a command. -/
theorem step_keepsCanon (s : State) : KeepsCanon s (step s) := by
  cases h : s.pending with
  | nil =>
    rw [step_nil h]
    exact keepsCanon_tick s
  | cons c rest =>
    rw [step_cons h]
    exact (exec_keepsCanon c _).of_start rfl

/-- Settles O5: every command stores through operations that keep the canonical form, and time stores nothing. -/
theorem stepKeepsRam : Obligations.StepKeepsRam := by
  unfold Obligations.StepKeepsRam
  intro s t hw hstep
  obtain ⟨u, hu, hcanon⟩ := step_keepsCanon s
  obtain rfl : u = t := Host.Outcome.next.inj (hu.symm.trans hstep)
  exact hcanon.wf hw

end Sys2Proof.Machine
end

section
/-! SUPPORT. The end of boost, every packet, and PING (R274, R378, R380 to R383, R390). -/

namespace Sys2Proof.Machine

/-! ### A packet that passes its checks or fails one (R378, R380) -/

/-- A packet whose check fails is answered with the status of that check, and changes nothing apart. -/
theorem command_answers_rejection {p : Packet} {op : Nat} {checks : List (Bool × Status)} {st : Status} {s : State}
    (hr : s.fwRuns = true) (hc : firstFail checks = some st) (effect : State → State) :
    ∃ t, command p op checks effect s = .next t ∧ t.apart = s.apart ∧ Answered p op st [] s t := by
  obtain ⟨hanswer, hapart⟩ := answered_rejected p op st s
  exact ⟨_, command_rejects hr hc effect, hapart, hanswer⟩

/-! ### PING (R390) -/

/-- What PING answers shows nothing of the cycle in which it took effect. -/
def pingData (p : Packet) (s : State) : List Byte :=
  padTo 16 p.payload ++ leBytes 6 s.clk.stage ++ [BitVec.ofNat 8 s.sys.chip.code, if s.fw.loaded then 1 else 0]

/-- Settles O11: PING only reads, and a payload beyond 16 bytes fails its one check. -/
theorem ping : Obligations.Ping := by
  unfold Obligations.Ping
  intro p s h
  refine ⟨fun hl => ?_, fun hl => ?_⟩
  · exact answers_read h (by simp [firstFail, hl]) (pingData p) rfl
  · rw [exec, execPing, inTurn_of_ready h]
    exact command_answers_rejection (fwRuns_of_ready h) (by simp [firstFail, hl]) _

/-! ### The end of boost (R274) -/

/-- Bit i of the mask is condition i + 1. -/
theorem boostMask_getLsbD (s : State) {i : Nat} (hi : i < 5) : (boostMask s).getLsbD i = (boostConds s).getD i true := by
  rw [boostMask, BitVec.getLsbD_ofNat, bitsMask_testBit]
  simp [hi]

/-- A condition has just ceased to hold where it was held before and is not now. -/
theorem boostFell_getLsbD (s : State) {i : Nat} (hi : i < 5) :
    (s.seq.boostHeld &&& ~~~boostMask s).getLsbD i = (s.seq.boostHeld.getLsbD i && !(boostConds s).getD i true) := by
  rw [BitVec.getLsbD_and, BitVec.getLsbD_not, boostMask_getLsbD s hi, decide_eq_true hi, Bool.true_and]

/-- The first condition by number that has ceased to hold. -/
theorem find_boostFell {s : State} {i : Nat} (hi : i < 5) (hheld : s.seq.boostHeld.getLsbD i = true)
    (hnot : (boostConds s).getD i true = false)
    (hfirst : ∀ j, j < i → s.seq.boostHeld.getLsbD j = true → (boostConds s).getD j true = true) :
    (List.range 5).find? (fun i => (s.seq.boostHeld &&& ~~~boostMask s).getLsbD i) = some i := by
  rw [List.find?_range_eq_some]
  refine ⟨by rw [boostFell_getLsbD s hi, hheld, hnot]; rfl, List.mem_range.2 hi, fun j hj => ?_⟩
  rw [boostFell_getLsbD s (hj.trans hi)]
  cases hb : s.seq.boostHeld.getLsbD j
  · rfl
  · rw [hfirst j hj hb]; rfl

theorem boosting_iff {s : State} :
    boosting s = true ↔ (s.lvl s.seq.level).boost = true ∧ (s.seq.fixed ≠ .off → s.seq.code = (s.lvl s.seq.level).code) := by
  simp [boosting, or_iff_not_imp_left]

/-- Settles O9: the first condition that has fallen is found in the mask, and a posted change of the host stands. -/
theorem boostEnds : Obligations.BoostEnds := by
  unfold Obligations.BoostEnds
  intro s i hi hboost hcode hheld hnot hfirst
  have hin : boosting { s with seq := { s.seq with boostHeld := boostMask s } } = true := boosting_iff.2 ⟨hboost, hcode⟩
  have hcheck : boostCheck s = raise 0x0620 0 [BitVec.ofNat 8 (i + 1)]
      (postBoostEnd { s with seq := { s.seq with boostHeld := boostMask s } }) := by
    unfold boostCheck
    dsimp only
    rw [find_boostFell hi hheld hnot hfirst]
    dsimp only
    rw [hin, if_pos rfl]
  rw [hcheck]
  refine ⟨fun hpost => ?_, fun hpost => ?_⟩
  · exact congrArg _ (if_neg (Bool.eq_false_iff.1 hpost))
  · exact congrArg _ (if_pos hpost)

/-! ### Every packet (R378, R380 to R383) -/

theorem inTurn_of_not_turn {s : State} {p : Packet} (h : s.fwRuns = false ∨ turn s p = false)
    (f : State → Host.Outcome State Fault Refusal) : inTurn p s f = .next s := by
  have h' : (!s.fwRuns || !turn s p) = true := by simpa using h
  rw [inTurn, if_pos h']
  rfl

theorem inTurn_of_took {s : State} {p : Packet} (hr : s.fwRuns = true) (ht : turn s p = true)
    (hk : s.cmd.tookAt = some s.clk.now) (hn : (tick s).clk.now ≠ s.clk.now) (f : State → Host.Outcome State Fault Refusal) :
    inTurn p s f = f (tick s) := by
  simp [inTurn, hr, ht, hk, hn]

/-- The commands that apply are applied one after the other. -/
theorem applyNext_cons {d : Deferred} {rest : List Deferred} {s : State} (h : s.cmd.next = d :: rest) :
    applyNext s = applyDeferred rest (applyDeferred [d] { s with cmd := { s.cmd with next := [] } }) := by
  rw [applyNext, h]
  rfl

theorem applyDeferred_busy {d : Deferred} {v : State} (h : actsBusy d.acts v = true) :
    applyDeferred [d] v = reply d.pkt d.opcode .busyRetry [] v :=
  if_pos h

theorem applyDeferred_not_ok {d : Deferred} {v : State} (h : actsBusy d.acts v = false) (hok : actsOk d.acts v = false) :
    applyDeferred [d] v = reply d.pkt d.opcode .badParam [] v := by
  simp [applyDeferred, forEach, h, hok]

theorem applyDeferred_ok {d : Deferred} {v : State} (h : actsBusy d.acts v = false) (hok : actsOk d.acts v = true) :
    applyDeferred [d] v = reply d.pkt d.opcode .ok (deferredData d v (applyActs d.se d.acts v)) (applyActs d.se d.acts v) := by
  simp [applyDeferred, forEach, h, hok]

/-- The one command that a condition selects and that waits for no earlier slot is the first. -/
theorem firstTaken_of_only {p : InFlight → Bool} {f : InFlight} (hp : p f = true) (ht : f.effect = .taken)
    (hw : ∀ ahead, waitsFor ahead f = false) :
    ∀ (l ahead : List InFlight), f ∈ l → (∀ g ∈ l, p g = true → g.effect = .taken → g = f) → firstTaken p ahead l = some f
  | [], _, hmem, _ => absurd hmem List.not_mem_nil
  | g :: gs, ahead, hmem, honly => by
    obtain ⟨hhead, hrest⟩ := List.forall_mem_cons.1 honly
    unfold firstTaken
    split
    · next hg =>
      simp only [Bool.and_eq_true, beq_iff_eq] at hg
      obtain ⟨⟨hpg, htg⟩, -⟩ := hg
      rw [hhead hpg htg]
    · next hg =>
      refine firstTaken_of_only hp ht hw gs _ ?_ hrest
      refine (List.mem_cons.1 hmem).resolve_left (fun hfg => hg ?_)
      simp [← hfg, hp, ht, hw]

theorem waitsFor_of_opcode {f : InFlight} (h3 : f.opcode ≠ 0x0403) (h4 : f.opcode ≠ 0x0404) (ahead : List InFlight) :
    waitsFor ahead f = false := by
  simp [waitsFor, h3, h4]

/-- The only urgent command not yet processed is the next. -/
theorem nextTaken_of_only_urgent {l : List InFlight} {f : InFlight} (hmem : f ∈ l) (ht : f.effect = .taken) (hu : f.urgent = true)
    (hc : f.caravan = none) (h3 : f.opcode ≠ 0x0403) (h4 : f.opcode ≠ 0x0404)
    (honly : ∀ g ∈ l, g.effect = .taken → g.urgent = true → g = f) : nextTaken l = some f := by
  have hfirst : firstTaken (fun f => f.urgent && f.caravan.isNone) [] l = some f := by
    refine firstTaken_of_only (by simp [hu, hc]) ht (waitsFor_of_opcode h3 h4) l [] hmem (fun g hg hpg htg => honly g hg htg ?_)
    simp only [Bool.and_eq_true] at hpg
    exact hpg.1
  rw [nextTaken, hfirst]

/-- Settles O10: a packet by its checks and its turn, what has waited for the pace one command after the other. -/
theorem packets : Obligations.Packets := by
  unfold Obligations.Packets
  refine ⟨fun p op checks effect st s hr hc => command_answers_rejection hr hc effect, fun p op checks effect s hr => ?stays,
    fun s hs => ?none, fun d rest s hs v hv => ?deferred, fun p f s => ?turn,
    fun s p f hmem horg hseq ht hu hc hd h3 h4 honly => ?urgent⟩
  case stays => simp [command, hr]
  case none =>
    rw [applyNext, hs]
    exact congrArg (fun n => ({ s with cmd := { s.cmd with next := n } } : State)) hs.symm
  case deferred =>
    subst hv
    have hnext := applyNext_cons hs
    refine ⟨fun hb => ?_, fun hb hl hok => ?_, fun hb hl hok u hu => ?_, fun hb hl u hu => ?_⟩
    · rw [hnext, applyDeferred_busy hb]
    · rw [hnext, applyDeferred_not_ok hb (by simp only [actsOk, hl, hok]; rfl)]
    · rw [hnext, applyDeferred_ok hb (by simp only [actsOk, hok, Bool.or_true]), ← hu]
    · rw [hnext, applyDeferred_ok hb (by simp [actsOk, hl]), hu]
      simp [applyActs, hl]
  case turn =>
    exact ⟨fun h => inTurn_of_ready h f, fun h => inTurn_of_not_turn h f, fun hr ht hk hn => inTurn_of_took hr ht hk hn f⟩
  case urgent =>
    rw [turn, nextTaken_of_only_urgent hmem ht hu hc h3 h4 honly]
    simp [horg, hseq, hd]

end Sys2Proof.Machine
end

section
/-! SUPPORT. The governor: guarantees, and the commands that wait for a pace or a stage edge (R265, R275, R296, R304, R308 to R314). -/

namespace Sys2Proof.Machine

/-! ### A command that waits (R382) -/

/-- A packet whose checks pass and that waits for cycle 0 of the next pace waits there, and changes nothing else. -/
theorem command_waits {p : Packet} {op : Nat} {checks : List (Bool × Status)} {s : State} (h : s.ready p = true)
    (hc : firstFail checks = none) (acts : List Act) :
    ∃ t, command p op checks (defer p op acts) s = .next t ∧ t.apart = (s.awaiting p op acts).apart :=
  ⟨_, command_effect (fwRuns_of_ready h) hc _, finish_apart _⟩

/-- A packet whose checks pass, whose changes wait for the stage edge and that is answered at once. -/
theorem command_waits_edge {p : Packet} {op : Nat} {checks : List (Bool × Status)} {s : State} (h : s.ready p = true)
    (hc : firstFail checks = none) (acts : List Act) (st : State → Status) (data : State → List Byte) :
    ∃ t, command p op checks (fun v => reply p op (st v) (data v) (v.awaitingEdge acts)) s = .next t ∧
      t.apart = (s.awaitingEdge acts).apart ∧ Answered p op (st s.took) (data s.took) s t := by
  refine ⟨_, command_effect (fwRuns_of_ready h) hc _, by rw [finish_apart, reply_apart]; rfl, ?_⟩
  exact answered_finish p op _ _ s (s.took.awaitingEdge acts) rfl rfl rfl rfl rfl

/-! ### Guarantees (R309 to R311, R314) -/

/-- The guarantee that an ADMIT_GUARANTEE asks for (R309 to R311). -/
def guaranteeAsked (l : List Byte) : Guarantee :=
  { gid := field l 0 2, kind := field l 2 1, prec := field l 3 1, label := if field l 4 1 = 0xFF then 127 else field l 4 1
    req := if field l 2 1 = 1 then field l 5 1 else bandCurrent (field l 8 4) (field l 12 4), amount := field l 8 4 }

/-- What ADMIT_GUARANTEE does once its checks have passed, by the outcome of the admission tests. -/
def admitEffect (p : Packet) (s : State) : State :=
  if (admission s p.payload).1 = 0 then
    defer p 0x0603 [.takeGuarantee (((s.gov.guar.places (fun _ g => g.gid == 0)).head?).getD 0)] { s with gov := { s.gov with
      guar := s.gov.guar.set (((s.gov.guar.places (fun _ g => g.gid == 0)).head?).getD 0) (guaranteeAsked p.payload) } }
  else reply p 0x0603 (if (admission s p.payload).1 = 5 then .checksumFail else .admissionDenied)
    (admitData p.payload (admission s p.payload)) s

theorem exec_admitGuarantee {p : Packet} {s : State} (h : s.ready p = true) (hl : p.payload.length = 32)
    (hlegal : admitLegal s p.payload = true) (hnew : ∀ g ∈ s.gov.guar.val, g.gid ≠ field p.payload 0 2) :
    exec (.admitGuarantee p) s = .next (finish (admitEffect p s.took)) := by
  have hany : s.gov.guar.any (fun g => g.gid == field p.payload 0 2) = false :=
    List.any_eq_false.2 (fun g hg => by simpa using hnew g hg)
  rw [exec, execAdmitGuarantee, inTurn_of_ready h]
  exact command_effect (fwRuns_of_ready h) (by simp [firstFail, hl, hlegal, hany]) (admitEffect p)

theorem admission_took (s : State) (l : List Byte) : admission s.took l = admission s l := rfl

theorem exec_revokeGuarantee {p : Packet} {s : State} (h : s.ready p = true) (hl : p.payload.length = 16)
    (hz : zeros p.payload 2 14 = true) (h0 : field p.payload 0 2 ≠ 0) (hr : field p.payload 0 2 ≠ 0xFFFF)
    (hheld : ∃ g ∈ s.gov.guar.val, g.gid = field p.payload 0 2) :
    ∃ t, exec (.revokeGuarantee p) s = .next t ∧ t.apart = (s.awaiting p 0x0604 [.revoke (field p.payload 0 2)]).apart := by
  have hany : s.gov.guar.any (fun g => g.gid == field p.payload 0 2) = true := by simpa [Tab.any] using hheld
  rw [exec, execRevokeGuarantee, inTurn_of_ready h]
  exact command_waits h (by simp [firstFail, hl, hz, h0, hr, hany]) _

/-- Settles O40: by the outcome of the admission tests, and by the guarantee held. -/
theorem guarantees : Obligations.Guarantees := by
  unfold Obligations.Guarantees
  intro p s h
  refine ⟨fun hl hlegal hnew => ⟨fun hfit i hi hfree g hg => ?fits, fun reason need have_ hadm hreason => ?denied⟩,
    fun hl hz h0 hr hheld => exec_revokeGuarantee h hl hz h0 hr hheld⟩
  all_goals refine ⟨_, exec_admitGuarantee h hl hlegal hnew, ?_⟩
  case fits =>
    rw [finish_apart, admitEffect, admission_took, if_pos hfit, defer_apart, hg]
    have hi' : ((s.took.gov.guar.places (fun _ g => g.gid == 0)).head?).getD 0 = i := congrArg (Option.getD · 0) hfree
    rw [hi']
    rfl
  case denied =>
    have heffect : admitEffect p s.took = reply p 0x0603 (if reason = 5 then .checksumFail else .admissionDenied)
        (admitData p.payload (reason, need, have_)) s.took := by
      rw [admitEffect, admission_took, hadm, if_neg hreason]
    rw [heffect]
    exact ⟨by rw [finish_apart, reply_apart, took_apart], answered_finish p 0x0603 _ _ s s.took rfl rfl rfl rfl rfl⟩

/-! ### The governor's commands (R265, R275, R296, R304, R308) -/

theorem exec_setLevelTable {p : Packet} {s : State} (h : s.ready p = true) (hl : p.payload.length = 32)
    (hlegal : levelLegal p.payload = true) (hok : tableOk s.fuses (editTable (pendingTable s) (levelActs p.payload)) = true)
    (hconvoy : s.inConvoy = false) (hfixed : ∀ k c b, Act.level k c b ∈ levelActs p.payload → fixedLevel s ≠ some k) :
    ∃ t, exec (.setLevelTable p) s = .next t ∧ t.apart = (s.awaiting p 0x0601 (levelActs p.payload)).apart := by
  have hany : ((levelActs p.payload).any (fun a => match a with
      | .level k _ _ => fixedLevel s == some k
      | _ => false)) = false := by
    rw [List.any_eq_false]
    intro a ha
    cases a with
    | level k c b => simpa using hfixed k c b ha
    | _ => simp
  have hchecks : firstFail ([(p.payload.length != 32, Status.badLength),
      (!levelLegal p.payload || !tableOk s.fuses (editTable (pendingTable s) (levelActs p.payload)), .badParam)]
        ++ levelChecks s (levelActs p.payload)) = none := by
    refine firstFail_eq_none ?_
    simp only [levelChecks, List.cons_append, List.nil_append, List.forall_mem_cons, List.not_mem_nil, false_implies, implies_true,
      and_true]
    exact ⟨by simp [hl], by simp [hlegal, hok], hconvoy, hany⟩
  rw [exec, execSetLevelTable, inTurn_of_ready h]
  exact command_waits h hchecks _

theorem exec_setFixedFrequency {p : Packet} {s : State} (h : s.ready p = true) (hl : p.payload.length = 16)
    (hlegal : fixedLegal s p.payload = true)
    (hboost : field p.payload 0 1 = 1 → (s.lvl (field p.payload 1 1)).boost = false)
    (hconvoy : field p.payload 0 1 = 2 → s.inConvoy = false) :
    ∃ t, exec (.setFixedFrequency p) s = .next t ∧ t.apart =
      (s.awaiting p 0x0605 [.fixed (field p.payload 0 1) (field p.payload 1 1) (field p.payload 2 1)]).apart := by
  have hchecks : firstFail ([(p.payload.length != 16, Status.badLength), (!fixedLegal s p.payload, .badParam)]
      ++ fixedChecks s (field p.payload 0 1) (field p.payload 1 1)) = none := by
    refine firstFail_eq_none ?_
    simp only [fixedChecks, List.cons_append, List.nil_append, List.forall_mem_cons, List.not_mem_nil, false_implies, implies_true,
      and_true]
    exact ⟨by simp [hl], by simp [hlegal], by simpa using hboost, by simpa using hconvoy⟩
  rw [exec, execSetFixedFrequency, inTurn_of_ready h]
  exact command_waits h hchecks _

theorem exec_setSwell {p : Packet} {s : State} (h : s.ready p = true) (hl : p.payload.length = 24)
    (hlegal : swellLegal p.payload = true) :
    ∃ t, exec (.setSwell p) s = .next t ∧ t.apart =
      (s.awaiting p 0x0606 ((maskBits 144 (field p.payload 0 18)).map (fun n => .swell n (field p.payload 18 1)))).apart := by
  rw [exec, execSetSwell, inTurn_of_ready h]
  exact command_waits h (by simp [firstFail, hl, hlegal]) _

/-- SET_LIMITS says in its status whether the set that it leaves can be kept (R313, R315). -/
theorem exec_setLimits {p : Packet} {s : State} (h : s.ready p = true) (hl : p.payload.length = 48)
    (hlegal : limitsLegal p.payload = true) :
    ∃ t, exec (.setLimits p) s = .next t ∧ t.apart = (s.awaitingEdge (limitActs p.payload)).apart ∧
      ∃ st data, (st = .ok ∨ st = .acceptedUnreachable) ∧ Answered p 0x0602 st data s t := by
  rw [exec, execSetLimits, inTurn_of_ready h]
  obtain ⟨t, ht, hapart, hanswer⟩ := command_waits_edge h (op := 0x0602)
    (checks := [(p.payload.length != 48, .badLength), (!limitsLegal p.payload, .badParam)]) (by simp [firstFail, hl, hlegal])
    (limitActs p.payload) _ _
  exact ⟨t, ht, hapart, _, _, (ite_eq_or_eq _ _ _).symm, hanswer⟩

theorem exec_setLevelPreference {p : Packet} {s : State} (h : s.ready p = true) (hl : p.payload.length = 32)
    (hlegal : prefLegal p.payload = true) :
    ∃ t, exec (.setLevelPreference p) s = .next t ∧ t.apart = (s.awaitingEdge (prefActs p.payload)).apart ∧
      ∃ data, Answered p 0x0601 .ok data s t := by
  rw [exec, execSetLevelPreference, inTurn_of_ready h]
  obtain ⟨t, ht, hapart, hanswer⟩ := command_waits_edge h (op := 0x0601)
    (checks := [(p.payload.length != 32, .badLength), (!prefLegal p.payload, .badParam)]) (by simp [firstFail, hl, hlegal])
    (prefActs p.payload) (fun _ => .ok) (fun v => prefData (v.awaitingEdge (prefActs p.payload)))
  exact ⟨t, ht, hapart, _, hanswer⟩

/-! ### What the governor's commands change as they apply -/

theorem lvl_applyLevel_same {k : Nat} (hk : k < 16) (c : Nat) (b : Bool) (s : State) : (applyLevel k c b s).lvl k = ⟨c, b⟩ :=
  Tab.get_set_same s.seq.table k ⟨c, b⟩ hk

theorem lvl_applyLevel_other {j k : Nat} (h : j ≠ k) (c : Nat) (b : Bool) (s : State) : (applyLevel k c b s).lvl j = s.lvl j :=
  Tab.get_set_other s.seq.table k j ⟨c, b⟩ h.symm

/-- The end of a hold leaves the clusters, the governor and the level table. -/
theorem endHold_keeps (s : State) : (endHold s).gov = s.gov ∧ (endHold s).cl = s.cl ∧ (endHold s).seq.table = s.seq.table := by
  unfold endHold
  split
  · exact ⟨rfl, rfl, rfl⟩
  · split <;> exact ⟨rfl, rfl, rfl⟩

theorem applyLimit_cluster (n w v : Nat) (s : State) :
    applyLimit (0x100 + n) w v s = s.updCl n (fun c => { c with g := { c.g with sus := v % 65536, one := v / 65536 } }) := by
  unfold applyLimit
  rw [if_neg (by omega), if_neg (by omega), if_neg (by omega), if_neg (by omega), if_neg (by omega), Nat.add_sub_cancel_left]

/-- Settles O39: the commands wait, and each change by the table, the cluster or the limit that it writes. -/
theorem governor : Obligations.Governor := by
  unfold Obligations.Governor
  refine ⟨fun p s h => ⟨fun hl hlegal hok hc hf => exec_setLevelTable h hl hlegal hok hc hf,
    fun hl hlegal hb hc => exec_setFixedFrequency h hl hlegal hb hc, fun hl hlegal => exec_setSwell h hl hlegal,
    fun hl hlegal => exec_setLimits h hl hlegal, fun hl hlegal => exec_setLevelPreference h hl hlegal⟩, fun se s t => ?_⟩
  refine ⟨fun k c b hk ht => ?level, fun n c _ ht => ht, fun l v _ ht => ?pref, fun n w v _ ht => ?cluster, fun w v ht => ht,
    fun r w v hr ht => ?window, fun g ht => ?revoke⟩
  case level =>
    subst ht
    exact ⟨lvl_applyLevel_same hk c b s, fun j hj => lvl_applyLevel_other hj c b s, rfl⟩
  case pref =>
    subst ht
    exact endHold_keeps _
  case cluster => rw [ht, applyAct, applyLimit_cluster]
  case window => rw [ht, applyAct, applyLimit, if_pos hr]
  case revoke =>
    subst ht
    refine ⟨rfl, fun k hk => ?_⟩
    have hget := Tab.get_map s.gov.guar (fun x : Guarantee => if x.gid == g then { x with leaving := true } else x) k hk
    refine hget.trans ?_
    simp

end Sys2Proof.Machine
end

section
/-! SUPPORT. The thermal unit: the restart after a trip, grace, the ceiling, THERMAL_CONFIG (R340, R345, R346, R348, R350). -/

namespace Sys2Proof.Machine

/-! ### The restart after a trip (R348) -/

/-- The restart ends with its event and without its tracking starts. -/
theorem restartEnd_apart (result mask : Nat) (s : State) : (finish (restartEnd result mask s)).apart
    = ({ s with therm := { s.therm with restart := 0 }, starts := s.starts.filter (fun t => !t.restart) } : State).apart := by
  rw [finish_apart, restartEnd, raise_apart]

/-- A restart that ends is reported, and what it leaves is told by its tracking starts. -/
theorem restartEnd_reported {s : State} (hf : s.evt.fresh = []) (result mask : Nat) :
    Raised 0x0823 0 [BitVec.ofNat 8 result, BitVec.ofNat 8 mask] (finish (restartEnd result mask s)) ∧
      (finish (restartEnd result mask s)).apart
        = ({ s with therm := { s.therm with restart := 0 }, starts := (finish (restartEnd result mask s)).starts } : State).apart := by
  have hapart := restartEnd_apart result mask s
  have hstarts : (finish (restartEnd result mask s)).starts = s.starts.filter (fun t => !t.restart) := by
    have h := congrArg State.starts hapart; exact h
  exact ⟨raised_of_no_fresh (by exact hf) _ _ _, by rw [hstarts, hapart]⟩

theorem exec_restartCoreRails_failed {s : State} (hr : s.therm.restart ≠ 0) (hfail : restartFailed s ≠ []) :
    exec .restartCoreRails s = .next (finish (restartEnd 1 (bitsMask (restartFailed s)) s)) := by
  have hne : (!(restartFailed s).isEmpty) = true := by simpa using hfail
  rw [exec, execRestartCoreRails, if_neg hr, if_pos hne]
  rfl

/-- With every start of the restart settled and every rail of its step in window, the restart goes on. -/
theorem exec_restartCoreRails_ok {s : State} (hr : s.therm.restart ≠ 0) (hfail : restartFailed s = [])
    (hsettled : ∀ k ∈ s.starts, k.restart = true → k.phase = .settle)
    (hwindow : ∀ r ∈ restartRails s, (s.rail r).inWindow = true) :
    exec .restartCoreRails s = if s.therm.restart = 1 then
        done { s with
          starts := s.starts.filter (fun t => !t.restart)
            ++ [restartStart 7 { s with starts := s.starts.filter (fun t => !t.restart) }]
          therm := { s.therm with restart := 2 } }
      else done (restartEnd 0 0 s) := by
  have hstarts : s.starts.any (fun t => t.restart && t.phase != .settle) = false :=
    List.any_eq_false.2 (fun k hk => by simpa using hsettled k hk)
  have hrails : (restartRails s).all (fun r => (s.rail r).inWindow) = true := List.all_eq_true.2 hwindow
  rw [exec, execRestartCoreRails, if_neg hr, hfail, hstarts, hrails]
  rfl

/-- Settles O44: the start of AX or none, and the end of each step of the restart. -/
theorem thermalRestart : Obligations.ThermalRestart := by
  unfold Obligations.ThermalRestart
  intro s
  refine ⟨fun hrel => ⟨fun hup hreq hdesc => ?starts, fun hno => ?none⟩, fun hr => ⟨fun hfail hf => ?failed,
    fun hfail hsettled hwindow => ⟨fun h1 => ?core, fun h2 hf => ?done⟩⟩⟩
  case starts =>
    refine ⟨_, ?_, rfl, rfl, rfl, finish_apart _⟩
    rw [exec, execRestartToStandbyReady, hrel, hup, hreq, hdesc]
    rfl
  case none =>
    have hnot : (!s.islandUp || !s.sys.pwrReq || s.sys.descent != .none) = true := by
      simpa [or_assoc] using hno
    refine ⟨_, ?_, finish_apart _⟩
    rw [exec, execRestartToStandbyReady, hrel, hnot]
    rfl
  case failed =>
    obtain ⟨hraised, hapart⟩ := restartEnd_reported hf 1 (bitsMask (restartFailed s))
    exact ⟨_, exec_restartCoreRails_failed hr hfail, hraised, hapart⟩
  case core =>
    rw [exec_restartCoreRails_ok hr hfail hsettled hwindow, if_pos h1]
    exact ⟨_, rfl, finish_apart _⟩
  case done =>
    obtain ⟨hraised, hapart⟩ := restartEnd_reported hf 0 0
    rw [exec_restartCoreRails_ok hr hfail hsettled hwindow, if_neg (by omega)]
    exact ⟨_, rfl, hraised, hapart⟩

/-! ### Grace and the ceiling (R345, R346) -/

theorem exec_graceExpiry {s : State} {e : Nat} (hd : s.therm.graceDue = some e) (hp : s.clk.p0Pending = false) (he : e < s.clk.stage) :
    exec .graceExpiry s = if s.therm.throt = false then done { s with therm := { s.therm with graceDue := none } }
      else done (raise 0x0822 0 [BitVec.ofNat 8 (s.seq.level - 1)] { s with therm := { s.therm with
        graceDue := none, ceil := s.seq.level - 1, enforcing := true, ceilPers := 0 } }) := by
  have hdue : ¬ (s.clk.p0Pending || decide (s.clk.stage ≤ e)) = true := by simp [hp, he]
  rw [exec, execGraceExpiry, hd]
  dsimp only
  rw [if_neg hdue]
  simp only [Bool.not_eq_true']

theorem exec_thermalCeilingStep {s : State} (he : s.therm.enforcing = true) (hp : 10 ≤ s.therm.ceilPers) :
    exec .thermalCeilingStep s = if s.therm.throt then done { s with therm := { s.therm with ceil := s.therm.ceil - 1, ceilPers := 0 } }
      else if 15 ≤ s.therm.ceil + 1 then
        done (raise 0x0821 0 [] { s with therm := { s.therm with ceil := 15, enforcing := false, ceilPers := 0 } })
      else done { s with therm := { s.therm with ceil := s.therm.ceil + 1, ceilPers := 0 } } := by
  have hnot : ¬ (!s.therm.enforcing || decide (s.therm.ceilPers < 10)) = true := by simp [he, hp]
  rw [exec, execThermalCeilingStep]
  dsimp only
  rw [if_neg hnot]

/-! ### THERMAL_CONFIG (R340, R350) -/

theorem exec_thermalThresholds {p : Packet} {s : State} {w h c r : Nat} (hs : s.ready p = true) (hl : p.payload.length = 16)
    (hlegal : thermLegal s p.payload = true) (hnew : thermNew s p.payload = (w, h, c, r)) :
    exec (.thermalThresholds p) s = .next (finish (defer p 0x0801 [] { s.took with therm := { s.therm with
      edgeCfg := if (field p.payload 1 1).testBit 0 || (field p.payload 1 1).testBit 1 then some (w, h) else s.therm.edgeCfg
      resCfg := if (field p.payload 1 1).testBit 2 || (field p.payload 1 1).testBit 3 then some (c, r) else s.therm.resCfg
      grace := if (field p.payload 1 1).testBit 4 then field p.payload 6 2 else s.therm.grace } })) := by
  have hnew' : thermNew s.took p.payload = (w, h, c, r) := hnew
  rw [exec, execThermalThresholds, inTurn_of_ready hs]
  dsimp only
  rw [command_effect (fwRuns_of_ready hs) (by simp [firstFail, hl, hlegal]), hnew']
  rfl

theorem exec_thermalCalibrate {p : Packet} {s : State} (h : s.ready p = true) (hl : p.payload.length = 16)
    (hop : field p.payload 0 1 = 1) (hm : field p.payload 1 1 = 0) (hz : zeros p.payload 4 12 = true)
    (hlo : -640 ≤ signed 16 (field p.payload 2 2)) (hhi : signed 16 (field p.payload 2 2) ≤ 2000)
    (hchip : s.sys.chip = .standbyReady) (hdorm : 100 ≤ s.therm.dormantPers) (hcal : s.therm.cal = none) :
    ∃ t, exec (.thermalCalibrate p) s = .next t ∧ t.apart
      = ({ s with therm := { s.therm with cal := some { pkt := p, tref := signed 16 (field p.payload 2 2) } } } : State).apart := by
  rw [exec, execThermalCalibrate, inTurn_of_ready h]
  refine ⟨_, command_effect (fwRuns_of_ready h) ?_ _, by rw [finish_apart, setDue_apart, markEffect_apart]; rfl⟩
  simp [firstFail, hl, hop, hm, hz, hchip, hcal, Int.not_lt.2 hlo, Int.not_lt.2 hhi, Nat.not_lt.2 hdorm]

/-- A calibration of 64 results ends with its offset, which waits for the next result if it is within 16 °C (R340). -/
theorem exec_thermalCalDone {k : ThermCal} {s : State} (hc : s.therm.cal = some k) (hn : 64 ≤ k.n) {ok : Bool}
    (hok : ok = (decide (-256 ≤ k.tref - (k.sum + 32) / 64) && decide (k.tref - (k.sum + 32) / 64 ≤ 256))) :
    ∃ t, exec .thermalCalDone s = .next t ∧
      t.apart = ({ s with therm := { s.therm with
        cal := none, ofsNext := if ok then some (k.tref - (k.sum + 32) / 64) else s.therm.ofsNext } } : State).apart ∧
      Answered k.pkt 0x0801 .ok ([if ok then 0 else 1]
        ++ leBytes 2 (code2 16 (if ok then k.tref - (k.sum + 32) / 64 else s.therm.ofs))) s t := by
  rw [exec, execThermalCalDone, hc]
  dsimp only
  rw [if_neg (Nat.not_lt.2 hn), ← hok]
  exact ⟨_, rfl, by rw [finish_apart, reply_apart], answered_finish k.pkt 0x0801 .ok _ s _ rfl rfl rfl rfl rfl⟩

/-- Settles O45: grace and ceiling by the throttle, the thresholds and the calibration by their commands. -/
theorem thermalCeilingAndConfig : Obligations.ThermalCeilingAndConfig := by
  unfold Obligations.ThermalCeilingAndConfig
  refine ⟨fun s => ⟨fun e hd hp he => ⟨fun ht => ?off, fun ht hf => ?enforced⟩, fun hen hper => ⟨fun ht => ?falls,
    fun ht hc => ?rises, fun ht hc hf => ?top⟩⟩, fun s => ⟨fun p w h c r hs hl hlegal hnew => ?thresholds,
    fun p v h hl hop hm hz hv hlo hhi hchip hdorm hcal => ?calibrate, fun k o hc hn ho => ⟨fun hlo hhi => ?taken, fun hout => ?refused⟩⟩⟩
  case off =>
    rw [exec_graceExpiry hd hp he, if_pos ht]
    exact ⟨_, rfl, finish_apart _⟩
  case enforced =>
    rw [exec_graceExpiry hd hp he, if_neg (by simp [ht])]
    exact ⟨_, rfl, by rw [finish_apart, raise_apart], raised_of_no_fresh (by exact hf) _ _ _⟩
  case falls =>
    rw [exec_thermalCeilingStep hen hper, if_pos ht]
    exact ⟨_, rfl, finish_apart _⟩
  case rises =>
    rw [exec_thermalCeilingStep hen hper, if_neg (by simp [ht]), if_neg (by omega)]
    exact ⟨_, rfl, finish_apart _⟩
  case top =>
    rw [exec_thermalCeilingStep hen hper, if_neg (by simp [ht]), if_pos (by omega)]
    exact ⟨_, rfl, by rw [finish_apart, raise_apart], raised_of_no_fresh (by exact hf) _ _ _⟩
  case thresholds =>
    refine ⟨_, exec_thermalThresholds hs hl hlegal hnew, ?_⟩
    rw [finish_apart, defer_apart]
    simp only [Bool.or_eq_true]
    rfl
  case calibrate =>
    subst hv
    exact exec_thermalCalibrate h hl hop hm hz hlo hhi hchip hdorm hcal
  case taken =>
    subst ho
    simpa [hlo, hhi] using exec_thermalCalDone hc hn rfl
  case refused =>
    subst ho
    have hnot : (decide (-256 ≤ k.tref - (k.sum + 32) / 64) && decide (k.tref - (k.sum + 32) / 64 ≤ 256)) = false := by
      rw [Bool.and_eq_false_iff, decide_eq_false_iff_not, decide_eq_false_iff_not, Int.not_le, Int.not_le]
      exact hout
    simpa using exec_thermalCalDone hc hn hnot.symm

end Sys2Proof.Machine
end

section
/-! SUPPORT. The unlock of the debug port, the load of firmware, and the system commands (R388, R392, R393, R399, R421, R422, R434 to
R437). -/

namespace Sys2Proof.Machine

/-! ### Operations of the debug port (R433, R434) -/

/-- An update has been taken as an operation: its code is kept, and no update is lost (R434). -/
def State.operated (op : Nat) (s : State) : State := s.updDbg (fun d => { d with lastOp := op, busyLost := false })

/-- An update of a free port is its operation's effect, where the lock does not bar it. -/
theorem dbgOp_takes {s : State} (hup : s.islandUp = true) (hb : s.dbg.busy = false) {whenLocked : Bool}
    (hl : whenLocked = true ∨ s.dbg.unlocked = true) (op : Nat) (effect : State → State) :
    dbgOp op whenLocked effect s = .next (finish (effect (s.operated op))) := by
  have hbar : (!whenLocked && !s.dbg.unlocked) = false := by
    rcases hl with h | h <;> simp [h]
  have hbar' : (!whenLocked && !(s.operated op).dbg.unlocked) = false := hbar
  rw [dbgOp, hup, hb]
  exact if_neg (Bool.eq_false_iff.1 hbar')

theorem operated_dbg (op : Nat) (s : State) : (s.operated op).dbg = { s.dbg with lastOp := op, busyLost := false } := rfl

/-! ### Unlocking (R436, R437) -/

theorem exec_challenge {s : State} (hup : s.islandUp = true) (hb : s.dbg.busy = false) (hw : s.dbg.withheld = 0) :
    exec (.challenge 0) s = .next (finish (dbgResult .ok (challengeWord (Config.challenge s.freeCount) 0)
      (({ s.operated 1 with freeCount := s.freeCount + 1 } : State).updDbg (fun d => { d with
        challenge := some (Config.challenge s.freeCount), challengeAge := 0 })))) := by
  have hw' : (s.operated 1).dbg.withheld = 0 := hw
  rw [exec, execChallenge, dbgOp_takes hup hb (.inl rfl), hw']
  rfl

theorem exec_submit {s : State} (hup : s.islandUp = true) (hb : s.dbg.busy = false) {c : BitVec 128} (hc : s.dbg.challenge = some c) :
    exec .submit s = .next (finish (dbgBusy (dbgResult (if responseMatches s c then .ok else .authFail) 0
      ((s.operated 3).updDbg (fun d => { d with challenge := none, submit := true }))))) := by
  have hc' : (s.operated 3).dbg.challenge = some c := hc
  rw [exec, execSubmit, dbgOp_takes hup hb (.inl rfl), hc']
  rfl

theorem exec_debugOperationDone {s : State} (hb : s.dbg.busy = true) (hs : s.dbg.submit = true) :
    exec .debugOperationDone s = .next (finish (submitDone (s.updDbg (fun d => { d with busy := false })))) := by
  have hs' : (s.updDbg (fun d => { d with busy := false })).dbg.submit = true := hs
  rw [exec, execDebugOperationDone, hb]
  dsimp only
  rw [hs']
  rfl

theorem submitDone_ok {s : State} (h : s.dbg.status = DbgSt.ok.code) :
    submitDone s = raise 0x0B20 0 [] (s.updDbg (fun d => { d with submit := false, unlocked := true })) :=
  if_pos h

theorem submitDone_authFail {s : State} (h : s.dbg.status = DbgSt.authFail.code) :
    submitDone s = raise 0x0B10 0 [] (s.updDbg (fun d => { d with
      submit := false, authFails := min 255 (d.authFails + 1), withheld := 1001 })) := by
  have hne : ¬ s.dbg.status = DbgSt.ok.code := by rw [h]; decide
  exact (if_neg hne).trans (if_pos h)

/-- An effect that lapses lapses in the next cycle, outside the edge cycle. -/
theorem lapse_of_not_edge {s : State} (hp : s.clk.p0Pending = false) (f : State → State) : lapse f s = .next (tick (finish (f s))) := by
  simp [lapse, hp]

/-- Settles O60: each step of the unlocking by the port's state that it leaves. -/
theorem debugUnlock : Obligations.DebugUnlock := by
  unfold Obligations.DebugUnlock
  intro s
  refine ⟨fun hup hb hw => ?challenge, fun hup hb c hc => ?submit, fun hb hs hf => ⟨fun hst => ?unlocked, fun hst => ?failed⟩,
    fun hc hage hp => ?lapses, fun hw => ?ends⟩
  case challenge => exact ⟨_, exec_challenge hup hb hw, finish_apart _⟩
  case submit =>
    refine ⟨_, exec_submit hup hb hc, (finish_apart _).trans ?_⟩
    rw [← apply_ite DbgSt.code, dbgBusy, dbgResult, State.operated, State.updDbg, State.updDbg, State.updDbg, State.updDbg, State.updDbg]
  case unlocked =>
    rw [exec_debugOperationDone hb hs, submitDone_ok (by exact hst)]
    exact ⟨_, rfl, raised_of_no_fresh (by exact hf) _ _ _, by rw [finish_apart, raise_apart]; rfl⟩
  case failed =>
    rw [exec_debugOperationDone hb hs, submitDone_authFail (by exact hst)]
    exact ⟨_, rfl, raised_of_no_fresh (by exact hf) _ _ _, by rw [finish_apart, raise_apart]; rfl⟩
  case lapses =>
    have hdue : (s.dbg.challenge.isSome && decide (100 ≤ s.dbg.challengeAge)) = true := by simp [hc, hage]
    rw [exec, execDebugChallengeExpiry, if_pos hdue, lapse_of_not_edge hp]
    exact ⟨_, rfl, finish_apart _⟩
  case ends =>
    rw [exec, execDebugWithholdEnd, if_pos hw]
    exact ⟨_, rfl, finish_apart _⟩

/-! ### LOAD_FIRMWARE (R392, R421, R422) -/

theorem exec_loadFirmware {p : Packet} {s : State} (h : s.ready p = true) (hl : p.payload.length = 16)
    (hlo : 1024 ≤ field p.payload 8 4) (hhi : field p.payload 8 4 ≤ 524288) (ha : field p.payload 0 8 % 64 = 0)
    (hz : zeros p.payload 12 4 = true) (hfb : s.fbOk = true) (hu : s.dbg.unlocked = false) (hload : s.fw.load = none)
    (hcvn : caravanHeld s = false) :
    exec (.loadFirmware p) s = .next (finish (markEffect p .firmware { s.took with fw := { s.fw with
      load := some { pkt := p, addr := field p.payload 0 8, len := field p.payload 8 4, due := replyDue p 4096 s } } })) := by
  rw [exec, execLoadFirmware, inTurn_of_ready h]
  exact command_effect (fwRuns_of_ready h)
    (by simp [firstFail, hl, ha, hz, hfb, hu, hload, hcvn, Nat.not_lt.2 hlo, Nat.not_lt.2 hhi]) _

/-- A load that ends leaves its result, and its command is answered with the status of that result. -/
theorem loadEnd_ends {f : FwLoad} {s : State} (hf : s.fw.load = some f) (result : Nat) :
    (finish (loadEnd result s)).apart = ({ s with fw := { s.fw with load := none, result } } : State).apart ∧
      ∃ data, Answered f.pkt 0x0103 (resultStatus result) data s (finish (loadEnd result s)) := by
  rw [loadEnd, hf]
  exact ⟨by rw [finish_apart, reply_apart], _, answered_finish f.pkt 0x0103 _ _ s _ rfl rfl rfl rfl rfl⟩

theorem exec_firmwareFetchDone_none {f : FwLoad} {s : State} (hf : s.fw.load = some f) (hstep : f.step = .header ∨ f.step = .body) :
    exec (.firmwareFetchDone none) s = .next (finish (loadEnd 4 s)) := by
  rw [exec, execFirmwareFetchDone, hf]
  dsimp only
  rcases hstep with h | h <;> rw [h] <;> rfl

theorem exec_firmwareAuthDone {f : FwLoad} {s : State} (hf : s.fw.load = some f) (hstep : f.step = .auth) :
    exec .firmwareAuthDone s = if f.authentic = false then done (loadEnd 1 s)
      else if imgEpoch f.header < s.fuses.counter then done (loadEnd 2 s)
      else done { s with fw := { s.fw with load := some { f with step := .passed } } } := by
  rw [exec, execFirmwareAuthDone, hf]
  dsimp only
  rw [hstep, if_neg (by decide), updLoad, hf]
  simp only [Bool.not_eq_true']
  rfl

/-- Settles O57: a load that waits, and each of its ends by its result. -/
theorem firmwareLoad : Obligations.FirmwareLoad := by
  unfold Obligations.FirmwareLoad
  intro s
  refine ⟨fun p h hl hlo hhi ha hz hfb hu hload hcvn f hf => ?load, fun f hf => ⟨fun hstep => ?fetch, fun hstep hau => ?image,
    fun hstep hau he => ?epoch, fun hstep hau he => ?passed, fun hdue hp => ?late⟩⟩
  case load =>
    subst hf
    exact ⟨_, exec_loadFirmware h hl hlo hhi ha hz hfb hu hload hcvn, finish_apart _⟩
  case fetch =>
    obtain ⟨hapart, hanswer⟩ := loadEnd_ends hf 4
    exact ⟨_, exec_firmwareFetchDone_none hf hstep, hanswer, hapart⟩
  case image =>
    obtain ⟨hapart, hanswer⟩ := loadEnd_ends hf 1
    rw [exec_firmwareAuthDone hf hstep, if_pos hau]
    exact ⟨_, rfl, hanswer, hapart⟩
  case epoch =>
    obtain ⟨hapart, hanswer⟩ := loadEnd_ends hf 2
    rw [exec_firmwareAuthDone hf hstep, if_neg (by simp [hau]), if_pos he]
    exact ⟨_, rfl, hanswer, hapart⟩
  case passed =>
    rw [exec_firmwareAuthDone hf hstep, if_neg (by simp [hau]), if_neg (Nat.not_lt.2 he)]
    exact ⟨_, rfl, finish_apart _⟩
  case late =>
    obtain ⟨hapart, hanswer⟩ := loadEnd_ends hf 5
    rw [exec, execFirmwareLoadTimeout, hf]
    dsimp only
    rw [if_pos hdue, lapse_of_not_edge hp]
    exact ⟨_, rfl, hanswer, hapart⟩

/-! ### ARM and SET_EVENT_MASK (R388, R393) -/

theorem exec_setEventMask {p : Packet} {s : State} (h : s.ready p = true) (hl : p.payload.length = 48)
    (hlegal : maskLegal s p.payload = true) :
    exec (.setEventMask p) s = .next (finish (reply p 0x0105 .ok
      (leBytes 2 (applyEventMask (field p.payload 0 1) (field p.payload 2 2) (maskCodes p.payload) s).evt.catMask.toNat
        ++ [BitVec.ofNat 8 (applyEventMask (field p.payload 0 1) (field p.payload 2 2) (maskCodes p.payload) s).evt.codes.length])
      (soonIn 1 (.masks (field p.payload 0 1) (field p.payload 2 2) (maskCodes p.payload)) s.took))) := by
  rw [exec, execSetEventMask, inTurn_of_ready h]
  exact command_effect (fwRuns_of_ready h) (by simp [firstFail, hl, hlegal]) _

/-- The masks by operation: written, codes added, codes taken out, or cleared (R388). -/
theorem applyEventMask_masks (op m : Nat) (cs : List Nat) (s : State) :
    let u := applyEventMask op m cs s
    (op = 0 → u.evt.catMask = BitVec.ofNat 16 m ∧ u.evt.codes = s.evt.codes) ∧
    (op = 3 → u.evt.catMask = 0 ∧ u.evt.codes = []) ∧
    (op = 1 → u.evt.catMask = s.evt.catMask ∧ ∀ c, c ∈ u.evt.codes ↔ c ∈ s.evt.codes ∨ c ∈ cs) ∧
    (op = 2 → u.evt.catMask = s.evt.catMask ∧ ∀ c, c ∈ u.evt.codes ↔ c ∈ s.evt.codes ∧ c ∉ cs) := by
  refine ⟨fun h => ?_, fun h => ?_, fun h => ?_, fun h => ?_⟩ <;> subst h
  · exact ⟨rfl, rfl⟩
  · exact ⟨rfl, rfl⟩
  · refine ⟨rfl, fun c => ?_⟩
    simp only [applyEventMask, Nat.one_ne_zero, if_false, if_true, List.mem_append, List.mem_filter, Bool.not_eq_true',
      List.contains_eq_mem, decide_eq_false_iff_not]
    tauto
  · refine ⟨rfl, fun c => ?_⟩
    simp [applyEventMask]

/-! ### DIAG_READ_TRACE (R399) -/

theorem forEach_preserves {α : Type} {P : State → Prop} {f : α → State → State} (h : ∀ a s, P s → P (f a s)) (l : List α) :
    ∀ {s : State}, P s → P (forEach l f s) := by
  induction l with
  | nil => exact fun hs => hs
  | cons a l ih => exact fun hs => ih (h a _ hs)

/-- A write to `addr` has been put out. -/
def WrittenTo (addr : Nat) (s : State) : Prop := ∃ r, Output.dma r ∈ s.out ∧ r.op = .write ∧ r.addr = addr

/-- The first of the writes that cover some data goes to its address. -/
theorem dmaWrite_writtenTo (addr : Nat) (data : List Byte) {n : Nat} (hn : 0 < n) (s : State) : WrittenTo addr (dmaWrite addr data n s) := by
  obtain ⟨m, hm⟩ : ∃ m, ceilDiv n 64 = m + 1 := Nat.exists_eq_add_one.2 (Nat.div_pos (by omega) (by decide))
  rw [dmaWrite, hm, List.range_succ_eq_map]
  refine forEach_preserves (fun k u hu => ?_) (List.map Nat.succ (List.range m)) ⟨_, List.mem_cons_self, rfl, Nat.add_zero addr⟩
  obtain ⟨r, hr, hop, haddr⟩ := hu
  exact ⟨r, List.mem_cons_of_mem _ hr, hop, haddr⟩

@[simp] theorem dmaWrite_apart (addr : Nat) (data : List Byte) (n : Nat) (s : State) : (dmaWrite addr data n s).apart = s.apart := by
  unfold dmaWrite
  refine forEach_keeps State.apart _ ?_ _ s
  exact fun _ _ => rfl

theorem WrittenTo.finish {addr : Nat} {s : State} (h : WrittenTo addr s) : WrittenTo addr (finish s) := by
  obtain ⟨r, hr, hop, haddr⟩ := h
  obtain ⟨⟨l, hout⟩, -⟩ := finish_grows s
  exact ⟨r, by rw [hout]; exact List.mem_append_right l hr, hop, haddr⟩

/-- A copy waits for its completion. -/
def State.copying (c : TraceCopy) (s : State) : State := { s with cmd := { s.cmd with traceReq := s.cmd.traceReq ++ [c] } }

theorem copying_apart (c : TraceCopy) {s t : State} (h : t.apart = s.apart) : (t.copying c).apart = (s.copying c).apart :=
  congrArg (fun u : State => u.copying c) h

theorem exec_diagReadTrace {p : Packet} {s : State} (h : s.ready p = true) (hl : p.payload.length = 16)
    (ha : field p.payload 0 8 % 64 = 0) (hlo : 1 ≤ field p.payload 12 2) (hhi : field p.payload 12 2 ≤ 8192)
    (hfirst : field p.payload 8 4 ≠ 0xFFFFFFFF → field p.payload 8 4 ≤ s.trc.next) (hz : zeros p.payload 14 2 = true)
    (hfb : s.fbOk = true) {a k : Nat} (hspan : traceSpan s (field p.payload 8 4) (field p.payload 12 2) = (a, k)) (hk : k ≠ 0) :
    exec (.diagReadTrace p) s = .next (finish (markEffect p .hardware
      ((dmaWrite (field p.payload 0 8) (traceBytes s a k) (ceilDiv (16 * k) 64) s.took).copying
        { pkt := p, first := a, count := k, next := s.trc.next }))) := by
  have hspan' : traceSpan s.took (field p.payload 8 4) (field p.payload 12 2) = (a, k) := hspan
  have hbefore : (field p.payload 8 4 != 0xFFFFFFFF && decide (s.trc.next < field p.payload 8 4)) = false := by
    simpa using hfirst
  rw [exec, execDiagReadTrace, inTurn_of_ready h]
  dsimp only
  rw [command_effect (fwRuns_of_ready h), hspan']
  · exact congrArg (fun u => Host.Outcome.next (finish u)) (if_neg hk)
  · simp [firstFail, hl, ha, hz, hfb, hbefore, Nat.not_lt.2 hhi, Nat.one_le_iff_ne_zero.1 hlo]

/-- Settles O56: the arms by what they arm, the masks by operation, a copy by its writes and its completion. -/
theorem systemCommands : Obligations.SystemCommands := by
  unfold Obligations.SystemCommands
  refine ⟨fun p s h => ⟨fun hl hlegal => ?arm, fun hl hlegal => ?disarm, fun op m cs u hl hlegal hop hm hcs hu => ?masks,
    fun a k hl ha hlo hhi hfirst hz hfb hspan hk => ?trace⟩, fun s c rest hc => ?copied, fun se m n s hn => ?acts⟩
  case arm =>
    rw [exec, execArm, inTurn_of_ready h]
    exact command_waits h (by simp [firstFail, hl, hlegal]) _
  case disarm =>
    rw [exec, execDisarm, inTurn_of_ready h]
    exact command_waits h (by simp [firstFail, hl, hlegal]) _
  case masks =>
    subst hop hm hcs hu
    obtain ⟨hwritten, hcleared, hadded, htaken⟩ := applyEventMask_masks (field p.payload 0 1) (field p.payload 2 2) (maskCodes p.payload) s
    refine ⟨hwritten, hcleared, hadded, htaken, rfl, _, exec_setEventMask h hl hlegal, ?_, by rw [finish_apart, reply_apart]; rfl⟩
    exact answered_finish p 0x0105 .ok _ s _ rfl rfl rfl rfl rfl
  case trace =>
    refine ⟨_, exec_diagReadTrace h hl ha hlo hhi hfirst hz hfb hspan hk, ?_, ?_⟩
    · have hpos : 0 < ceilDiv (16 * k) 64 := Nat.div_pos (by omega) (by decide)
      have hout := dmaWrite_writtenTo (field p.payload 0 8) (traceBytes s a k) hpos s.took
      exact WrittenTo.finish hout
    · rw [finish_apart, markEffect_apart]
      exact copying_apart _ (dmaWrite_apart _ _ _ _)
  case copied =>
    rw [exec, execTraceCopyDone, hc]
    exact ⟨_, rfl, by rw [finish_apart, reply_apart], answered_finish c.pkt 0x0B01 .ok _ s _ rfl rfl rfl rfl rfl⟩
  case acts =>
    have harm : (s.cl.mapI (fun n c => if m.testBit n then { c with k := { c.k with armDrone := true } } else c)).get n = _ :=
      Tab.get_mapI s.cl _ n hn
    have hdisarm : (s.cl.mapI (fun n c => if m.testBit n then { c with k := { c.k with armDrone := false } } else c)).get n = _ :=
      Tab.get_mapI s.cl _ n hn
    refine ⟨(congrArg (fun c : Cluster => c.k.armDrone) harm).trans ?_, (congrArg (fun c : Cluster => c.k.armDrone) hdisarm).trans ?_,
      rfl, rfl, rfl, rfl⟩
    · cases hm : m.testBit n <;> simp [State.cluster]
    · cases hm : m.testBit n <;> simp [State.cluster]

end Sys2Proof.Machine
end

section
/-! SUPPORT. The descent to Cold, and what happens to the core while it runs (R284, R405, R417, R423, R432, R439). -/

namespace Sys2Proof.Machine

theorem core_of_apart {s t : State} (h : t.apart = s.apart) : t.core = s.core := by
  have hcore := congrArg State.core h; exact hcore

theorem stops_of_apart {s t : State} (h : t.apart = s.apart) : t.stops = s.stops := by
  have hstops := congrArg State.stops h; exact hstops

/-! ### The descent to Cold (R284) -/

/-- The rails of a mask that a descent has still to stop: up or rising, and not stopping already (R284 step 3). -/
def railsToStop (l : List Nat) (s : State) : List Nat :=
  l.filter (fun r => ((s.rail r).enabled || starting s r) && !stopping s r)

/-- The tracking stops that a descent adds: one for all the rails, or none where there is no rail to stop. -/
def stopsAdded (rs : List Nat) : List TrackStop := if rs.isEmpty then [] else [{ mask := bitsMask rs, coincident := true, pkt := none }]

/-- A descent step adds its tracking stop, and its groups are unparked in the next cycle. -/
theorem descentStop_eq (m : Nat) (s : State) : ∃ l, descentStop m s = { s with
    clk := { s.clk with soon := s.clk.soon ++ l }, stops := s.stops ++ stopsAdded (railsToStop (railsIn m) s) } := by
  unfold descentStop
  dsimp only
  split
  · next h =>
    refine ⟨[], ?_⟩
    have hnone : stopsAdded (railsToStop (railsIn m) s) = [] := if_pos h
    rw [hnone, List.append_nil, List.append_nil]
  · next h =>
    have hone : stopsAdded (railsToStop (railsIn m) s) = [{ mask := bitsMask (railsToStop (railsIn m) s), coincident := true, pkt := none }] :=
      if_neg h
    rw [forEach_forEach, forEach_soonIn, hone]
    exact ⟨_, rfl⟩

/-- The end of a descent step, by the rails that its mask names. -/
theorem finish_descentStop {m : Nat} {l : List Nat} (hm : railsIn m = l) {d : Descent} {s t : State}
    (ht : t = finish (descentStop m { s with sys := { s.sys with descent := d } })) :
    t.apart = ({ s with clk := { s.clk with soon := t.clk.soon }, sys := { s.sys with descent := d }, stops := t.stops } : State).apart ∧
      (∃ k, t.clk.soon = s.clk.soon ++ k) ∧ ∀ rs, rs = railsToStop l s → t.stops = s.stops ++ stopsAdded rs := by
  obtain ⟨k, hk⟩ := descentStop_eq m { s with sys := { s.sys with descent := d } }
  have hapart := finish_apart (descentStop m { s with sys := { s.sys with descent := d } })
  rw [← ht, hk] at hapart
  have hsoon := congrArg Clk.soon (clk_of_apart hapart)
  have hstops := stops_of_apart hapart
  refine ⟨?_, ⟨k, hsoon⟩, fun rs hrs => ?_⟩
  · rw [hapart, hsoon, hstops]
  · rw [hstops, hrs, hm]
    rfl

/-- The island that has just lost its power is switched on again where power is requested. -/
theorem closeSwitch_islandReset (s : State) : closeSwitch (islandReset s) =
    if s.sys.pwrReq && s.sys.porHigh then
      { islandReset s with sys := { (islandReset s).sys with island := .switched, switchAt := s.clk.now } }
    else islandReset s := by
  unfold closeSwitch
  cases hp : s.sys.pwrReq <;> cases hq : s.sys.porHigh <;> simp [islandReset, hp, hq]

/-- Settles O14: each step of the descent by the state that it leaves. -/
theorem descent : Obligations.Descent := by
  unfold Obligations.Descent
  intro s
  refine ⟨fun hpor => ?begins, fun hd hdorm => ?coreRails, fun hd hdown => ?axRail, fun hd hdown => ?cold⟩
  case begins =>
    rw [exec, execPowerRequestDown, hpor]
    refine ⟨_, rfl, (finish_apart _).trans (congrArg State.apart ?_)⟩
    unfold beginDescent
    by_cases hb : s.sys.descent = .none ∧ s.sys.chip ≠ .cold
    · obtain ⟨hnone, hchip⟩ := hb
      simp [hnone, hchip]
    · rw [if_neg hb]
      refine if_pos ?_
      simpa [or_iff_not_imp_left] using hb
  case coreRails =>
    rw [exec, execDescentRailsStop, hd]
    dsimp only
    rw [if_pos hdorm]
    exact ⟨_, rfl, finish_descentStop (l := [0, 1, 2]) (by decide) rfl⟩
  case axRail =>
    rw [exec, execDescentRailsStop, hd]
    dsimp only
    rw [if_pos hdown]
    exact ⟨_, rfl, finish_descentStop (l := [3]) (by decide) rfl⟩
  case cold =>
    have hstep : (s.sys.descent == .axRail && railsDown 15 s) = true := by simp [hd, hdown]
    rw [exec, execDescentIslandOff, if_pos hstep, closeSwitch_islandReset]
    split
    · next hreq => exact ⟨_, rfl, by simp [islandReset], by simp, by rw [finish_apart, finish_sys, finish_therm]; rfl⟩
    · next hreq => exact ⟨_, rfl, by simp [islandReset], by simp [islandReset], by rw [finish_apart, finish_sys, finish_therm]; rfl⟩

/-! ### What happens to the core (R405, R417, R423, R432, R439) -/

/-- A loaded image that stops, in the state before its event. -/
def State.fallenBack (cause : Nat) (addr : BitVec 32) (s : State) : State :=
  { s with
    fw := { s.fw with loaded := false, valid := false, fallback := cause, trapAddr := addr }
    core := { s.core with pc := 0x00100000#32, inTrap := false, mie := false } }

theorem fallback_eq (cause : Nat) (addr : BitVec 32) (s : State) :
    fallback cause addr s = raise 0x0116 0 ([BitVec.ofNat 8 cause] ++ leBytes 4 addr.toNat) (s.fallenBack cause addr) := rfl

theorem exec_firmwareFallback {cause : Nat} {s : State} (hr : s.fwRuns = true) (hl : s.fw.loaded = true) (hc : cause = 1 ∨ cause = 2)
    (addr : BitVec 32) : exec (.firmwareFallback cause addr) s = .next (finish (fallback cause addr s)) := by
  have hnot : ¬ (!s.fwRuns || !s.fw.loaded || !(cause == 1 || cause == 2)) = true := by
    rcases hc with h | h <;> simp [hr, hl, h]
  rw [exec, execFirmwareFallback, if_neg hnot]
  rfl

theorem bufferTile_of_passes {k : Nat} {s : State} (hb : tileBad s k = false) (hp : tilePasses s k false = true) :
    bufferTile k false s = (true, { s with led := { s.led with tileBuf := (k :: s.led.tileBuf.filter (fun x => x != k)).take 8 } }) := by
  simp [bufferTile, hb, hp]

/-- The registers of a core that halts: those of its context, the first 0. -/
def haltRegs (ctx : CoreCtx) : Tab 32 (BitVec 32) := Tab.ofFn 32 (fun k => if k = 0 then 0 else ctx.regs.getD k 0)

theorem exec_coreHalt {cause index : Nat} {ctx : CoreCtx} {s : State} (hr : s.fwRuns = true)
    (hh : haltHolds s cause index ctx.pc = true) :
    exec (.coreHalt cause index ctx) s = .next (finish (raise 0x0B21 0 [] (haltWith cause (if cause = 2 ∨ cause = 3 then index else 0)
      { s with core := { s.core with pc := ctx.pc &&& 0xFFFFFFFE#32, regs := haltRegs ctx } }))) := by
  rw [exec, execCoreHalt, hr, hh]
  simp only [Bool.or_eq_true, decide_eq_true_eq]
  rfl

/-- Settles O58: a fallback, a tile, a halt and a write of the window, each by what it leaves of the core. -/
theorem coreEvents : Obligations.CoreEvents := by
  unfold Obligations.CoreEvents
  intro s
  refine ⟨fun cause addr hr hl hc hf => ?fallback, fun k fetch hk hon hb hp => ?tile, fun cause index ctx hr hh hf => ?halt,
    fun off w hr ho => ?window⟩
  case fallback =>
    have hapart : (finish (fallback cause addr s)).apart = (s.fallenBack cause addr).apart := by
      rw [finish_apart, fallback_eq, raise_apart]
    have hfw := fw_of_apart hapart
    have hcore := core_of_apart hapart
    refine ⟨_, exec_firmwareFallback hr hl hc addr, by rw [hfw]; rfl, by rw [hfw]; rfl, by rw [hfw]; rfl, by rw [hcore]; rfl,
      by rw [hcore]; rfl, raised_of_no_fresh (by exact hf) _ _ _, by rw [hfw, hcore, hapart]; rfl⟩
  case tile =>
    have hnot : ¬ (decide (640 ≤ k) || !s.core.on) = true := by simp [hk, hon]
    rw [exec, execCoreTileReadDone]
    rw [if_neg (by simpa using hnot), bufferTile_of_passes hb hp]
    exact ⟨_, rfl, finish_apart _⟩
  case halt =>
    have hapart : (finish (raise 0x0B21 0 [] (haltWith cause (if cause = 2 ∨ cause = 3 then index else 0)
        { s with core := { s.core with pc := ctx.pc &&& 0xFFFFFFFE#32, regs := haltRegs ctx } }))).apart
          = (haltWith cause (if cause = 2 ∨ cause = 3 then index else 0)
            { s with core := { s.core with pc := ctx.pc &&& 0xFFFFFFFE#32, regs := haltRegs ctx } }).apart := by
      rw [finish_apart, raise_apart]
    have hcore := core_of_apart hapart
    refine ⟨_, exec_coreHalt hr hh, fun k h0 hk => ?_, raised_of_no_fresh (by exact hf) _ _ _, by rw [hcore, hapart]; rfl⟩
    rw [hcore]
    exact (Tab.get_ofFn 32 _ k hk).trans (if_neg (Nat.ne_of_gt h0))
  case window =>
    have hnot : ¬ (!s.fwRuns || off % 4 != 0) = true := by simp [hr, ho]
    rw [exec, execCoreHostWindowWrite, if_neg hnot]
    refine ⟨_, rfl, (finish_apart _).trans (congrArg State.apart ?_)⟩
    unfold windowWrite
    simp only [Bool.or_eq_true, Bool.and_eq_true, decide_eq_true_eq]
    split <;> rfl

end Sys2Proof.Machine
end

section
/-! SUPPORT. Telemetry frames and the energy commands (R354, R355, R359, R364 to R366). -/

namespace Sys2Proof.Machine

/-! ### What the frames change (R364, R365) -/

/-- A state beside the frames: all but the periods that wait and the count of drops, and what every command may change. -/
def State.besideFrames (s : State) : State := { s.apart with en := { s.en with dropped := 0, pers := [] } }

theorem besideFrames_of_apart {s t : State} (h : t.apart = s.apart) : t.besideFrames = s.besideFrames := by
  have hview := congrArg State.besideFrames h
  exact hview

theorem apart_of_besideFrames {s t : State} (h : t.besideFrames = s.besideFrames) :
    t.apart = ({ s with en := { s.en with dropped := t.en.dropped, pers := t.en.pers } } : State).apart := by
  have hback := congrArg (fun v : State => ({ v with en := { v.en with dropped := t.en.dropped, pers := t.en.pers } } : State)) h
  exact hback

theorem dropFrame_besideFrames (cause : Nat) (s : State) : (dropFrame cause s).besideFrames = s.besideFrames := by
  unfold dropFrame
  dsimp only
  split
  · exact (besideFrames_of_apart (raise_apart _ _ _ _)).trans rfl
  · rfl

theorem retirePers_besideFrames (s : State) : (retirePers s).besideFrames = s.besideFrames := rfl

theorem issueFrame_besideFrames (s : State) : (issueFrame s).besideFrames = s.besideFrames := by
  unfold issueFrame
  dsimp only
  repeat' split
  · rfl
  · rfl
  · exact dropFrame_besideFrames 4 _
  · exact dropFrame_besideFrames 1 _
  · rfl
  · rfl

theorem issueFrames_besideFrames (s : State) : (issueFrames s).besideFrames = s.besideFrames :=
  forEach_keeps State.besideFrames _ (fun _ u => issueFrame_besideFrames u) _ s

/-! ### What the frames put out -/

/-- An output stays put out. -/
def PutOut (o : Output) (s : State) : Prop := o ∈ s.out

theorem PutOut.of_grows {o : Output} {s t : State} (h : PutOut o s) (hg : Grows s t) : PutOut o t := by
  obtain ⟨⟨l, hout⟩, -⟩ := hg
  rw [PutOut, hout]
  exact List.mem_append_right l h

theorem dropFrame_grows (cause : Nat) (s : State) : Grows s (dropFrame cause s) := by
  unfold dropFrame
  dsimp only
  split
  · exact grows_of_ports (raiseEv_ports _ _)
  · exact grows_of_eq rfl rfl

theorem issueFrame_grows (s : State) : Grows s (issueFrame s) := by
  unfold issueFrame
  dsimp only
  repeat' split
  · exact Grows.rfl
  · exact Grows.rfl
  · exact dropFrame_grows 4 _
  · exact dropFrame_grows 1 _
  · exact Grows.rfl
  · exact ⟨⟨[_], rfl⟩, ⟨[], (List.append_nil _).symm⟩⟩

theorem issueFrames_putOut {o : Output} {s : State} (h : PutOut o s) : PutOut o (issueFrames s) :=
  forEach_preserves (P := PutOut o) (fun _ u hu => hu.of_grows (issueFrame_grows u)) _ h

/-! ### FRAME_WRITE_DONE (R364, R365) -/

/-- The periods once the write of a frame is over. -/
def persWritten (ok : Bool) (h t next : Nat) (p : EnPer) (l : List EnPer) : List EnPer :=
  (updPer (fun q => q.frameOpen) (fun q => { q with frameOpen := false }) l).map (fun q =>
    if ok && q.ring == some (h, t) && q.ringAddr == p.ringAddr then { q with ring := some (next, t) } else q)

theorem exec_frameWriteDone_ok {p : EnPer} {s : State} (hp : s.en.pers.find? (fun q => q.frameOpen) = some p) (hr : p.ring = none)
    {st : DmaStatus} (hst : st ≠ .error) : exec (.frameWriteDone st) s = .next (finish (retirePers (issueFrames (vector 3 { s with
      en := { s.en with
        head := (s.en.head + 1) % max 1 p.ringCount, dropped := 0
        pers := persWritten true s.en.head s.en.tail ((s.en.head + 1) % max 1 p.ringCount) p s.en.pers } })))) := by
  have hok : (st != .error) = true := by simpa using hst
  rw [exec, execFrameWriteDone, hp]
  dsimp only
  rw [ringOf, hr, hok]
  rfl

theorem exec_frameWriteDone_error {p : EnPer} {s : State} (hp : s.en.pers.find? (fun q => q.frameOpen) = some p) (hr : p.ring = none) :
    exec (.frameWriteDone .error) s = .next (finish (retirePers (issueFrames (dropFrame 2 { s with en := { s.en with
      pers := persWritten false s.en.head s.en.tail ((s.en.head + 1) % max 1 p.ringCount) p s.en.pers } })))) := by
  rw [exec, execFrameWriteDone, hp]
  dsimp only
  rw [ringOf, hr]
  rfl

/-- The end of a frame leaves all beside the frames. -/
theorem finish_frames_besideFrames (s : State) : (finish (retirePers (issueFrames s))).besideFrames = s.besideFrames :=
  (besideFrames_of_apart (finish_apart _)).trans ((retirePers_besideFrames _).trans (issueFrames_besideFrames s))

/-! ### FRAME_DEADLINE_EXPIRY (R42, R359, R365) -/

/-- A period that is not done at its deadline is late, and that is reported. -/
def frameMissed (p : EnPer) (s : State) : State :=
  dlSet 6 (raiseMiss 0x0910 0 [] { s with en := { s.en with
    pers := updPer (fun q => q.seq == p.seq) (fun q => { q with late := true }) s.en.pers } })

/-- At the deadline of a period a frame that FB still keeps back is dropped. -/
def frameLapsed (p : EnPer) (s : State) : State :=
  if p.frameHeld && !(frameMissed p s).fbOk then
    retirePers (dropFrame 3 { frameMissed p s with en := { (frameMissed p s).en with
      pers := updPer (fun q => q.seq == p.seq) (fun q => { q with frameHeld := false }) (frameMissed p s).en.pers } })
  else frameMissed p s

theorem exec_frameDeadlineExpiry {p : EnPer} {s : State}
    (hp : s.en.pers.find? (fun q => !q.late && decide (q.due ≤ s.clk.stage)) = some p) (hedge : s.clk.p0Pending = false) :
    exec .frameDeadlineExpiry s = .next (tick (finish (frameLapsed p s))) := by
  rw [exec, execFrameDeadlineExpiry, hp]
  exact lapse_of_not_edge hedge _

theorem frameLapsed_besideFrames (p : EnPer) (s : State) : (frameLapsed p s).besideFrames = (frameMissed p s).besideFrames := by
  unfold frameLapsed
  split
  · exact (retirePers_besideFrames _).trans (dropFrame_besideFrames 3 _)
  · rfl

theorem frameMissed_besideFrames (p : EnPer) (s : State) :
    (frameMissed p s).besideFrames = ({ s with dl := (frameMissed p s).dl } : State).besideFrames := by
  have hdl : (frameMissed p s).besideDl = ({ s with en := { s.en with
      pers := updPer (fun q => q.seq == p.seq) (fun q => { q with late := true }) s.en.pers } } : State).besideDl :=
    (dlSet_besideDl 6 _).trans (besideDl_of_apart (raiseMiss_apart _ _ _ _))
  exact (besideFrames_of_apart (apart_of_besideDl hdl)).trans rfl

theorem frameMissed_frameBit (p : EnPer) (s : State) : (frameMissed p s).dl.status.getLsbD 6 = true := by
  rw [frameMissed, dlSet_dl, BitVec.getLsbD_or, getLsbD_ofNat_two_pow (by decide), Bool.or_true]

theorem dl_of_besideFrames {s t : State} (h : t.besideFrames = s.besideFrames) : t.dl = s.dl := by
  have hdl := congrArg State.dl h; exact hdl

/-! ### The energy commands (R354, R355, R366) -/

theorem exec_energySetLedgerAddr {p : Packet} {s : State} (h : s.ready p = true) (hl : p.payload.length = 24)
    (hlegal : ledgerLegal p.payload = true) (hpost : ∀ q ∈ s.en.pers, q.postOpen = false) :
    exec (.energySetLedgerAddr p) s = .next (finish (reply p 0x0901 .ok (nextPeriod s)
      (applyLedger (field p.payload 8 8) (field p.payload 1 1 == 1) s.took))) := by
  have hopen : postsOpen s = false := List.any_eq_false.2 (fun q hq => by simp [hpost q hq])
  rw [exec, execEnergySetLedgerAddr, inTurn_of_ready h]
  exact command_effect (fwRuns_of_ready h) (by simp [firstFail, hl, hlegal, hopen]) _

theorem exec_energySetFrameRing {p : Packet} {s : State} (h : s.ready p = true) (hl : p.payload.length = 24)
    (hlegal : ringLegal p.payload = true) :
    exec (.energySetFrameRing p) s = .next (finish (reply p 0x0901 .ok (nextPeriod s)
      (applyFrameRing (field p.payload 8 8) (field p.payload 4 4) s.took))) := by
  rw [exec, execEnergySetFrameRing, inTurn_of_ready h]
  exact command_effect (fwRuns_of_ready h) (by simp [firstFail, hl, hlegal]) _

/-- An energy model is in Ledger RAM, good again there, and governs from the next period (R355). -/
def modelStored (l : List Byte) (s : State) : State :=
  { s with
    en := { s.en with modelNew := true }
    led := { s.led with ram := Memory.store s.led.ram 0xC0000 l
                        parityBad := s.led.parityBad.filter (fun a => decide (a < 0xC0000) || decide (0xC0040 ≤ a)) } }

theorem exec_energyModelLoad {p : Packet} {s : State} (h : s.ready p = true) (hi : p.indirect = true) (hl : p.payload.length = 64)
    (hlegal : modelLegal p.payload = true) (hfb : s.fbOk = true) :
    exec (.energyModelLoad p) s = .next (finish (reply p 0x0903 .ok (nextPeriod s) (modelStored p.payload s.took))) := by
  rw [exec, execEnergyModelLoad, inTurn_of_ready h]
  exact command_effect (fwRuns_of_ready h) (by simp [firstFail, hi, hl, hlegal, hfb]) _

theorem applyLedger_eq (addr : Nat) (zero : Bool) (s : State) : applyLedger addr zero s =
    { s with en := { s.en with addrNext := some (addr, zero || (s.en.addrNext.map Prod.snd).getD false) } } := by
  unfold applyLedger
  cases s.en.addrNext <;> rfl

/-- Settles O47: a frame by what it changes beside the frames and puts out, a command by what it sets. -/
theorem framesAndEnergyCommands : Obligations.FramesAndEnergyCommands := by
  unfold Obligations.FramesAndEnergyCommands
  refine ⟨fun s p => ⟨fun hp hr => ⟨fun st hst => ?written, ?dropped⟩, fun hp hedge => ?late⟩, fun p s h =>
    ⟨fun hl hlegal hpost z hz => ?ledger, fun hl hlegal => ?ring, fun hi hl hlegal hfb => ?model⟩⟩
  case written =>
    refine ⟨_, exec_frameWriteDone_ok hp hr hst, ?_, ?_⟩
    · have hvector : PutOut (.vector 3) (vector 3 { s with en := { s.en with
          head := (s.en.head + 1) % max 1 p.ringCount, dropped := 0
          pers := persWritten true s.en.head s.en.tail ((s.en.head + 1) % max 1 p.ringCount) p s.en.pers } }) := List.mem_cons_self
      have hissued := issueFrames_putOut hvector
      exact PutOut.of_grows (s := retirePers (issueFrames _)) hissued (finish_grows _)
    · exact apart_of_besideFrames (s := { s with en := { s.en with head := (s.en.head + 1) % max 1 p.ringCount } })
        (finish_frames_besideFrames _)
  case dropped =>
    refine ⟨_, exec_frameWriteDone_error hp hr, ?_⟩
    exact apart_of_besideFrames ((finish_frames_besideFrames _).trans (dropFrame_besideFrames 2 _))
  case late =>
    have hview : (finish (frameLapsed p s)).besideFrames = ({ s with dl := (frameMissed p s).dl } : State).besideFrames :=
      (besideFrames_of_apart (finish_apart _)).trans ((frameLapsed_besideFrames p s).trans (frameMissed_besideFrames p s))
    have hdl : (finish (frameLapsed p s)).dl = (frameMissed p s).dl := (dl_of_besideFrames hview :)
    refine ⟨_, exec_frameDeadlineExpiry hp hedge, by rw [hdl]; exact frameMissed_frameBit p s, ?_⟩
    rw [hdl]
    exact apart_of_besideFrames hview
  case ledger =>
    refine ⟨_, exec_energySetLedgerAddr h hl hlegal hpost, ?_, answered_finish p 0x0901 .ok _ s _ rfl rfl rfl rfl rfl⟩
    rw [finish_apart, reply_apart, applyLedger_eq, hz]
    rfl
  case ring =>
    exact ⟨_, exec_energySetFrameRing h hl hlegal, by rw [finish_apart, reply_apart]; rfl,
      answered_finish p 0x0901 .ok _ s _ rfl rfl rfl rfl rfl⟩
  case model =>
    exact ⟨_, exec_energyModelLoad h hi hl hlegal hfb, by rw [finish_apart, reply_apart]; rfl,
      answered_finish p 0x0903 .ok _ s _ rfl rfl rfl rfl rfl⟩

end Sys2Proof.Machine
end

section
/-! SUPPORT. The command path: doorbell, GO, slots and payloads (R372, R373, R376 to R378, R452). -/

namespace Sys2Proof.Machine

/-! ### The command interface at the end of a command -/

theorem boostCheck_ports (s : State) : (boostCheck s).ports = s.ports := by
  unfold boostCheck
  dsimp only
  split
  · rfl
  · split
    · rw [raise, raiseEv_ports]
      unfold postBoostEnd
      split <;> rfl
    · rfl

theorem enterEvents_ports (s : State) : (enterEvents s).ports = s.ports := by
  unfold enterEvents
  rw [reportLost_ports, foldl_keeps State.ports _ (fun s e => evEnter_ports e s)]
  rfl

/-- Where no packet waits for its rejection the end of a command leaves the command interface as it is. -/
theorem finish_cmd_of_calm {s : State} (hc : s.calm = true) : (finish s).cmd = s.cmd := by
  have hports : (finish s).ports = s.ports := by
    unfold finish
    rw [rejectFailed_of_calm hc]
    dsimp only
    split
    · exact boostCheck_ports s
    · rw [enterEvents_ports, boostCheck_ports]
  exact congrArg Prod.snd hports

/-! ### Fetches (R372, R374) -/

/-- The read of the payload of a command in flight has been issued, where reads are issued. -/
def askedFor (reads : Bool) (f : InFlight) : InFlight := { f with asked := f.asked || (reads && f.desc.isSome) }

theorem askedFor_false (f : InFlight) : askedFor false f = f := by
  simp [askedFor]

/-- A state that has put out nothing. -/
def State.mute (s : State) : State := { s with out := [] }

/-- What leaves all but the outputs changes only them. -/
theorem eq_of_mute {s t : State} (h : t.mute = s.mute) : t = { s with out := t.out } := by
  have hback := congrArg (fun v : State => ({ v with out := t.out } : State)) h
  exact hback

theorem dmaRead_mute (addr beats most : Nat) (due : Option (Nat × Nat)) (s : State) : (dmaRead addr beats most due s).mute = s.mute := by
  have hfull := foldl_keeps State.mute
    (fun s k => dma { op := .read, addr := addr + 64 * most * k, beats := most, deadline := dueCode (addr + 64 * most * k) due s } s)
    (fun _ _ => rfl) (List.range (beats / most)) s
  unfold dmaRead
  dsimp only
  split
  · exact hfull
  · exact hfull

theorem askPayload_mute (f : InFlight) (s : State) : (askPayload f s).mute = s.mute := by
  unfold askPayload
  split
  · split
    · rfl
    · exact dmaRead_mute _ _ _ _ s
  · rfl

theorem readRuns_mute (runs : List (Nat × Nat)) (s : State) :
    (forEach runs (fun r s => dmaRead (cmdBase s + 64 * r.1) r.2 8 none s) s).mute = s.mute :=
  forEach_keeps State.mute _ (fun r u => dmaRead_mute _ r.2 8 none u) runs s

/-- A fetch marks the payloads asked for, counts the slots asked for and puts out its reads; it changes nothing else. -/
theorem cmdFetch_eq (s : State) : ∃ o n, cmdFetch s = { s with
    out := o, cmd := { s.cmd with asked := n, inflight := s.cmd.inflight.map (askedFor s.fbOk) } } := by
  unfold cmdFetch
  cases hfb : s.fbOk
  · have hmap : s.cmd.inflight.map (askedFor false) = s.cmd.inflight := by
      rw [funext askedFor_false]
      exact List.map_id' _
    rw [hmap]
    exact ⟨s.out, s.cmd.asked, rfl⟩
  · have hask := eq_of_mute (forEach_keeps State.mute askPayload askPayload_mute s.cmd.inflight s)
    dsimp only
    rw [hask]
    simp only [Bool.not_true, Bool.false_eq_true, if_false]
    split
    · exact ⟨_, s.cmd.asked, rfl⟩
    · rw [eq_of_mute (readRuns_mute _ _)]
      exact ⟨_, _, rfl⟩

theorem cmdFetch_apart (s : State) :
    (cmdFetch s).apart = ({ s with cmd := { s.cmd with asked := (cmdFetch s).cmd.asked } } : State).apart := by
  obtain ⟨o, n, h⟩ := cmdFetch_eq s
  rw [h]
  rfl

theorem cmdFetch_inflight (s : State) : (cmdFetch s).cmd.inflight = s.cmd.inflight.map (askedFor s.fbOk) := by
  obtain ⟨o, n, h⟩ := cmdFetch_eq s
  rw [h]

theorem cmdFetch_calm {s : State} (hc : s.calm = true) : (cmdFetch s).calm = true :=
  calm_of_inflight_map (askedFor s.fbOk) (fun _ => rfl) (cmdFetch_inflight s) hc

/-- What changes only the command interface leaves the rest. -/
theorem apart_of_cmd {s t : State} {c : Cmd} (h : t.apart = ({ s with cmd := c } : State).apart) :
    t.apart = ({ s with cmd := t.cmd } : State).apart := by
  have hcmd : t.cmd.apart = c.apart := by
    have hc := congrArg State.cmd h
    exact hc
  exact h.trans (congrArg (fun d : Cmd => ({ s.apart with cmd := d } : State)) hcmd.symm)

/-! ### The doorbell (R372, R452) -/

/-- The slots that a TAIL covers, those covered already from the stage that they have been (R372). -/
def coveredTo (tail : Nat) (s : State) : List (Nat × Nat) :=
  (slotsTo s.cmd.cmdHead (tail % 256)).map (fun k => (k, ((s.cmd.covered.find? (fun c => c.1 == k)).map Prod.snd).getD s.clk.stage))

theorem coveredTo_slots (tail : Nat) (s : State) : (coveredTo tail s).map Prod.fst = slotsTo s.cmd.cmdHead (tail % 256) := by
  simp [coveredTo, Function.comp_def]

/-- The command ring with a new TAIL, before its slots are fetched. -/
def tailMoved (tail : Nat) (s : State) : Cmd :=
  { s.cmd with
    cmdTail := tail % 256, covered := coveredTo tail s, asked := min s.cmd.asked (coveredTo tail s).length
    fetched := s.cmd.fetched.take (coveredTo tail s).length
    lateSlots := s.cmd.lateSlots.filter (fun k => (coveredTo tail s).any (fun c => c.1 == k)) }

theorem doorbell_eq {tail : Nat} {s : State} (h : tail % 256 ≠ s.cmd.cmdTail) :
    doorbell tail s = cmdFetch { s with cmd := tailMoved tail s } :=
  if_neg h

theorem exec_commandDoorbell {s : State} (hup : s.islandUp = true) (tail : Nat) :
    exec (.commandDoorbell tail) s = .next (finish (hostDoorbell tail s)) := by
  rw [exec, execCommandDoorbell, hup]
  rfl

/-! ### A slot is taken (R373, R376) -/

/-- A slot that has been taken is in flight, traced, and firmware is told; what is to be read for it follows. -/
def slotTaken (o : Origin) (since : Nat) (b : List Byte) (late : Bool) (s : State) : State :=
  fwIrq 2 { s with
    trc := (trace 1 0 (leBytes 2 (takenOf o since (some b)).opcode ++ leBytes 2 (takenOf o since (some b)).seq
      ++ [BitVec.ofNat 8 o.byte, BitVec.ofNat 8 (field b 2 1)]) s).trc
    cmd := { s.cmd with inflight := s.cmd.inflight ++ [{ takenOf o since (some b) with late }] } }

theorem takeSlot_eq (o : Origin) (since : Nat) (b : List Byte) (late : Bool) (s : State) :
    takeSlot o since (some b) late s = cmdFetch (slotTaken o since b late s) := rfl

theorem slotTaken_apart (o : Origin) (since : Nat) (b : List Byte) (late : Bool) (n : Nat) (s : State) :
    ({ slotTaken o since b late s with cmd := { (slotTaken o since b late s).cmd with asked := n } } : State).apart
      = ({ s with cmd := { s.cmd with asked := n }, fw := { s.fw with irq := s.fw.irq ||| BitVec.ofNat 5 (2 ^ 2) } } : State).apart := rfl

theorem takeSlot_apart (o : Origin) (since : Nat) (b : List Byte) (late : Bool) (s : State) : (takeSlot o since (some b) late s).apart
    = ({ s with cmd := { s.cmd with asked := (takeSlot o since (some b) late s).cmd.asked }
                fw := { s.fw with irq := s.fw.irq ||| BitVec.ofNat 5 (2 ^ 2) } } : State).apart := by
  rw [takeSlot_eq, ← slotTaken_apart o since b late]
  exact cmdFetch_apart _

theorem takeSlot_inflight (o : Origin) (since : Nat) (b : List Byte) (late : Bool) (s : State) :
    ∃ f ∈ (takeSlot o since (some b) late s).cmd.inflight, ∃ reads, f = askedFor reads { takenOf o since (some b) with late } := by
  refine ⟨askedFor s.fbOk { takenOf o since (some b) with late }, ?_, s.fbOk, rfl⟩
  rw [takeSlot_eq, cmdFetch_inflight]
  exact List.mem_map.2 ⟨_, List.mem_append_right _ List.mem_cons_self, rfl⟩

theorem takeSlot_mbxBusy (o : Origin) (since : Nat) (b : List Byte) (late : Bool) (s : State) :
    (takeSlot o since (some b) late s).cmd.mbxBusy = s.cmd.mbxBusy := by
  obtain ⟨out, n, h⟩ := cmdFetch_eq (slotTaken o since b late s)
  rw [takeSlot_eq, h]
  rfl

theorem takeSlot_calm {o : Origin} {since : Nat} {b : List Byte} (hf : (takenOf o since (some b)).fails = none) (late : Bool) {s : State}
    (hc : s.calm = true) : (takeSlot o since (some b) late s).calm = true := by
  refine cmdFetch_calm ?_
  have hnew : (s.cmd.inflight ++ [{ takenOf o since (some b) with late }]).all (fun f => f.fails.isNone) = true := by
    rw [List.all_append, Bool.and_eq_true]
    exact ⟨hc, by simp [hf]⟩
  exact hnew

/-- Once a slot that passes its checks is taken it is in flight at the end of the command, and firmware has been told. -/
theorem finish_takeSlot {o : Origin} {since : Nat} {b : List Byte} (hf : (takenOf o since (some b)).fails = none) (late : Bool) {s t : State}
    (hc : s.calm = true) (ht : t = finish (takeSlot o since (some b) late s)) :
    (∃ f ∈ t.cmd.inflight, ∃ reads, f = askedFor reads { takenOf o since (some b) with late }) ∧
      t.apart = ({ s with cmd := { s.cmd with asked := t.cmd.asked }, fw := { s.fw with irq := t.fw.irq } } : State).apart ∧
      t.fw.irq.getLsbD 2 = true ∧ t.cmd = (takeSlot o since (some b) late s).cmd := by
  have hcmd : t.cmd = (takeSlot o since (some b) late s).cmd := ht ▸ finish_cmd_of_calm (takeSlot_calm hf late hc)
  have hapart : t.apart = _ := (congrArg State.apart ht).trans ((finish_apart _).trans (takeSlot_apart o since b late s))
  have hfw := fw_of_apart hapart
  refine ⟨by rw [hcmd]; exact takeSlot_inflight o since b late s, ?_, ?_, hcmd⟩
  · rw [hfw, hcmd]
    exact hapart
  · rw [hfw, BitVec.getLsbD_or]
    exact Bool.or_eq_true_iff.2 (.inr rfl)

theorem exec_mailboxGo {s : State} (hup : s.islandUp = true) : exec .mailboxGo s = .next (finish (hostGo s)) := by
  rw [exec, execMailboxGo, hup]
  rfl

theorem exec_commandSlotTake {s : State} {b : Option (List Byte)} {rest : List (Option (List Byte))} {k since : Nat}
    {cov : List (Nat × Nat)} (hfet : s.cmd.fetched = b :: rest) (hcov : s.cmd.covered = (k, since) :: cov) (hmay : mayTake s = true) :
    exec .commandSlotTake s = .next (finish (takeSlot (.ring k) since b (s.cmd.lateSlots.contains k) { s with cmd := { s.cmd with
      fetched := rest, covered := cov, asked := s.cmd.asked - 1, cmdHead := (k + 1) % 256
      lateSlots := s.cmd.lateSlots.filter (fun x => x != k) } })) := by
  rw [exec, execCommandSlotTake, hfet, hcov]
  dsimp only
  rw [hmay]
  rfl

/-! ### A payload arrives (R378) -/

theorem payloadHeld_whole {f : InFlight} {addr n crc : Nat} {data : List Byte} (hd : f.desc = some (addr, n, crc)) (hn : data.length = n)
    (hcrc : (crc32c data).toNat = crc) (hop : f.opcode ≠ 0x0302) :
    (payloadHeld (some data) f).payload = data ∧ (payloadHeld (some data) f).desc = none ∧ (payloadHeld (some data) f).fails = none ∧
      (payloadHeld (some data) f).org = f.org ∧ (payloadHeld (some data) f).seq = f.seq := by
  have hb : (padTo n data).take n = data := take_padTo_of_length hn
  unfold payloadHeld
  rw [hd]
  simp [hb, payloadFails, hcrc, hop]

/-- A payload that arrives is held by the command that asked for it. -/
def payloadArrived (o : Origin) (data : List Byte) (s : State) : State :=
  { s with cmd := { s.cmd with inflight := s.cmd.inflight.map (fun f => if f.org == o then payloadHeld (some data) f else f) } }

theorem exec_indirectPayloadFetchDone {s : State} {o : Origin} {f : InFlight} (hmem : f ∈ s.cmd.inflight) (ho : f.org = o)
    (hd : f.desc.isSome = true) (ha : f.asked = true) (data : List Byte) :
    exec (.indirectPayloadFetchDone o (some data)) s = .next (finish (payloadArrived o data s)) := by
  have hany : s.cmd.inflight.any (fun f => f.org == o && f.desc.isSome && f.asked) = true :=
    List.any_eq_true.2 ⟨f, hmem, by simp [ho, hd, ha]⟩
  rw [exec, execIndirectPayloadFetchDone, if_pos hany]
  rfl

theorem payloadArrived_calm {s : State} {o : Origin} {f : InFlight} {data : List Byte} (hc : s.calm = true)
    (honly : ∀ g ∈ s.cmd.inflight, g.org = o → g = f) (hf : (payloadHeld (some data) f).fails = none) :
    (payloadArrived o data s).calm = true := by
  refine List.all_eq_true.2 (fun g hg => ?_)
  obtain ⟨x, hx, rfl⟩ := List.mem_map.1 hg
  split
  · next hxo =>
    rw [honly x hx (by simpa using hxo), hf]
    rfl
  · exact List.all_eq_true.1 hc x hx

/-- Settles O53: doorbell and GO by what they hold or take, slots and payloads by the command in flight that they make. -/
theorem commandPath : Obligations.CommandPath := by
  unfold Obligations.CommandPath
  refine ⟨fun s hup => ⟨fun tail hw => ?held, fun tail hw htail => ?covered, fun hw => ?goHeld, fun hw hb => ?goDropped,
    fun hw hb hc hf => ?goTaken⟩, fun s => ⟨fun slots hup => ?fetched, fun b rest k since cov hfet hcov hmay hc hf => ?taken,
    fun o data f addr n crc hmem ho hd ha hc hn hcrc hop honly => ?payload⟩⟩
  case held => exact ⟨_, exec_commandDoorbell hup tail, by rw [finish_apart, hostDoorbell, if_pos hw]⟩
  case covered =>
    have hbell : hostDoorbell tail s = cmdFetch { s with cmd := tailMoved tail s } := by
      rw [hostDoorbell, if_neg (by simp [hw]), doorbell_eq htail]
    have hapart := (finish_apart (hostDoorbell tail s)).trans ((congrArg State.apart hbell).trans (cmdFetch_apart _))
    refine ⟨_, exec_commandDoorbell hup tail, ?_, ?_, ?_, apart_of_cmd hapart⟩
    · rw [finish_cmd_cmdTail, hbell]
      obtain ⟨o, n, h⟩ := cmdFetch_eq { s with cmd := tailMoved tail s }
      rw [h]
      rfl
    · rw [finish_cmd_covered, hbell]
      obtain ⟨o, n, h⟩ := cmdFetch_eq { s with cmd := tailMoved tail s }
      rw [h]
      exact coveredTo_slots tail s
    · rw [finish_cmd_cmdHead, hbell]
      obtain ⟨o, n, h⟩ := cmdFetch_eq { s with cmd := tailMoved tail s }
      rw [h]
      rfl
  case goHeld => exact ⟨_, exec_mailboxGo hup, by rw [finish_apart, hostGo, if_pos hw]⟩
  case goDropped =>
    refine ⟨_, exec_mailboxGo hup, ?_⟩
    rw [finish_apart, hostGo, if_neg (by simp [hw]), mailboxTake, if_pos hb]
    rfl
  case goTaken =>
    have hgo : hostGo s = takeSlot .mailbox s.clk.stage (some (ofWords s.cmd.mbxCmd.val)) false
        { s with cmd := { s.cmd with mbxBusy := true } } := by
      rw [hostGo, if_neg (by simp [hw]), mailboxTake, if_neg (by simp [hb])]
    obtain ⟨⟨f, hmem, reads, hfeq⟩, hapart, -, hcmd⟩ := finish_takeSlot hf false (s := { s with cmd := { s.cmd with mbxBusy := true } })
      (by exact hc) rfl
    refine ⟨_, exec_mailboxGo hup, ?_, ?_, ?_⟩
    · rw [hgo, hcmd]
      exact takeSlot_mbxBusy _ _ _ _ _
    · rw [hgo]
      exact ⟨f, hmem, by rw [hfeq]; rfl, by rw [hfeq]; rfl, by rw [hfeq]; rfl, by rw [hfeq]; rfl, by rw [hfeq]; rfl, by rw [hfeq]; rfl⟩
    · rw [hgo]
      exact hapart
  case fetched =>
    rw [exec, execCommandSlotFetchDone, hup]
    exact ⟨_, rfl, finish_apart _⟩
  case taken =>
    obtain ⟨⟨f, hmem, reads, hfeq⟩, hapart, hirq, -⟩ := finish_takeSlot hf (s.cmd.lateSlots.contains k) (s := { s with cmd := { s.cmd with
      fetched := rest, covered := cov, asked := s.cmd.asked - 1, cmdHead := (k + 1) % 256
      lateSlots := s.cmd.lateSlots.filter (fun x => x != k) } }) (by exact hc) rfl
    refine ⟨_, exec_commandSlotTake hfet hcov hmay, ⟨f, hmem, ?_⟩, hapart, hirq⟩
    rw [hfeq]
    exact ⟨rfl, rfl, rfl, rfl, rfl, rfl⟩
  case payload =>
    obtain ⟨hpay, hdesc, hfails, horg, hseq⟩ := payloadHeld_whole hd hn hcrc hop
    refine ⟨_, exec_indirectPayloadFetchDone hmem ho (by rw [hd]; rfl) ha data, ⟨payloadHeld (some data) f, ?_, horg.trans ho, hseq, hpay,
      hdesc, hfails⟩, finish_apart _⟩
    rw [finish_cmd_of_calm (payloadArrived_calm hc honly hfails)]
    exact List.mem_map.2 ⟨f, hmem, if_pos (by simp [ho])⟩

end Sys2Proof.Machine
end

section
/-! SUPPORT. The convoy commands (R322 to R324, R336, R337). -/

namespace Sys2Proof.Machine

/-! ### Fields of a payload -/

/-- A field is its first byte and the field of the rest. -/
theorem field_succ (l : List Byte) (a k : Nat) : field l a (k + 1) = field l a 1 + 256 * field l (a + 1) k := by
  have hrest : l.drop (a + 1) = (l.drop a).drop 1 := by rw [List.drop_drop]
  unfold field slice
  rw [hrest]
  cases l.drop a with
  | nil => simp [leNat]
  | cons b bs => simp [leNat]

theorem zeros_succ {l : List Byte} {a k : Nat} (h : field l a 1 = 0) (hz : zeros l (a + 1) k = true) : zeros l a (k + 1) = true := by
  have hrest : field l (a + 1) k = 0 := by simpa [zeros] using hz
  rw [zeros, field_succ, h, hrest]
  rfl

/-- The ports of a mask are 1 to 8. -/
theorem mem_portsOf_range {m : BitVec 8} {q : Nat} (h : q ∈ portsOf m) : 1 ≤ q ∧ q ≤ 8 := by
  obtain ⟨i, hi, hq⟩ := List.mem_filterMap.1 h
  have hlt := List.mem_range.1 hi
  split at hq
  · have := Option.some.inj hq
    omega
  · cases hq

/-! ### The convoy unit after a step -/

/-- A state that differs apart in the convoy unit alone differs by its own convoy unit. -/
theorem apart_of_cvy {s t : State} (h : ∃ cvy, t.apart = ({ s with cvy } : State).apart) : t.apart = ({ s with cvy := t.cvy } : State).apart := by
  obtain ⟨cvy, hapart⟩ := h
  rw [cvy_of_apart hapart]
  exact hapart

/-- Two states that agree apart agree apart in all but the convoy unit and the level table, which are the second's own. -/
theorem apart_of_cvyTable {s t X : State} (h : t.apart = X.apart)
    (hX : X.apart = ({ s with cvy := X.cvy, seq := { s.seq with table := X.seq.table } } : State).apart) :
    t.apart = ({ s with cvy := t.cvy, seq := { s.seq with table := t.seq.table } } : State).apart := by
  have htable : t.seq.table = X.seq.table := by
    have htab := congrArg (fun v : State => v.seq.table) h; exact htab
  rw [cvy_of_apart h, htable, h]
  exact hX

theorem cvyOut_grows (s : State) : Grows s (cvyOut s) := by
  unfold cvyOut
  split <;> exact grows_of_eq rfl rfl

theorem cvyOut_cvy (s : State) : (cvyOut s).cvy.st = .notJoined ∧ (cvyOut s).cvy.id = 0 ∧ (cvyOut s).cvy.join = none := ⟨rfl, rfl, rfl⟩

/-! ### CONVOY_JOIN (R322, R323) -/

/-- The convoy unit from the acceptance of a join on (R323). -/
def joinBegun (p : Packet) (s : State) : State :=
  s.updCvy (fun c => { c with
    st := .aligning, id := field p.payload 0 2, role := field p.payload 2 1, depth := field p.payload 3 1
    children := BitVec.ofNat 8 (field p.payload 4 1), kids := 0
    join := some p, joinDue := replyDue p 1200 s, codes := joinCodes p.payload, step := 1, echoSent := 0, echoAt := [], echoSum := 0
    echoGot := 0, alignStages := 0, hasDelta := false, gotSync := false, noSync := 0, loadDelta := 0, prop := 0, hostProp := none
    delta := 0, lat := 0 })

/-- The effect of a join: the alignment begins, and a root, which has nothing to align, takes the convoy's table (R323). -/
def joinEffect (p : Packet) (s : State) : State :=
  if field p.payload 2 1 = 0 then
    takeTable ((markEffect p .hardware (joinBegun p s)).updCvy (fun c => { c with joinStage := windowAfter s.clk.stage }))
  else markEffect p .hardware (joinBegun p s)

theorem exec_convoyJoin {p : Packet} {s : State} (h : s.ready p = true) (hl : p.payload.length = 48) (hlegal : joinLegal p.payload = true)
    (hgrade : joinGrade s p.payload = none) (hst : s.cvy.st = .notJoined) (hpend : s.seq.pend = none)
    (hboost : (s.lvl s.seq.level).boost = false) (hfixed : ∀ c, s.seq.fixed ≠ .code c) (hman : s.man.st ≠ .running)
    (hheld : caravanHeld s = false) : exec (.convoyJoin p) s = .next (finish (joinEffect p s.took)) := by
  rw [exec, execConvoyJoin, inTurn_of_ready h]
  dsimp only
  rw [hgrade, Option.isSome_none, Bool.and_false, if_neg Bool.false_ne_true]
  exact command_effect (fwRuns_of_ready h) (by simp [firstFail, hl, hlegal, hst, hpend, hboost, hman, hheld]) _

theorem joinEffect_apart (p : Packet) (s : State) : (joinEffect p s).apart
    = ({ s with cvy := (joinEffect p s).cvy, seq := { s.seq with table := (joinEffect p s).seq.table } } : State).apart := by
  unfold joinEffect
  split <;> rfl

theorem joinEffect_cvy (p : Packet) (s : State) : ∀ c, c = (joinEffect p s).cvy → c.st = .aligning ∧ c.id = field p.payload 0 2 ∧
    c.role = field p.payload 2 1 ∧ c.depth = field p.payload 3 1 ∧ c.children = BitVec.ofNat 8 (field p.payload 4 1) ∧
    c.join = some p ∧ c.codes = joinCodes p.payload := by
  rintro _ rfl
  unfold joinEffect
  split <;> exact ⟨rfl, rfl, rfl, rfl, rfl, rfl, rfl⟩

theorem joinEffect_member {p : Packet} (hrole : field p.payload 2 1 ≠ 0) (s : State) :
    (joinEffect p s).cvy.step = 1 ∧ (joinEffect p s).seq.table = s.seq.table := by
  rw [joinEffect, if_neg hrole]
  exact ⟨rfl, rfl⟩

theorem exec_convoyJoin_denied {p : Packet} {s : State} {k : Nat} (h : s.ready p = true) (hl : p.payload.length = 48)
    (hlegal : joinLegal p.payload = true) (hgrade : joinGrade s p.payload = some k) :
    exec (.convoyJoin p) s = .next (finish (reply p 0x0701 .admissionDenied (leBytes 2 (field p.payload 0 2) ++ [1, BitVec.ofNat 8 k]) s)) := by
  rw [exec, execConvoyJoin, inTurn_of_ready h]
  dsimp only
  rw [fwRuns_of_ready h, hl, hlegal, hgrade]
  rfl

/-- A join without a table to restore fails with its answer. -/
theorem joinFails_eq {p : Packet} {s : State} (hjoin : s.cvy.join = some p) (htable : s.cvy.oldTable = none) :
    joinFails s = cvyOut (reply p 0x0701 .deadlineMissed (joinData s 2 0xFF 0) s) := by
  have hcvy := cvy_of_apart (reply_apart p 0x0701 .deadlineMissed (joinData s 2 0xFF 0) s)
  have hanswered : joinAnswered s = reply p 0x0701 .deadlineMissed (joinData s 2 0xFF 0) s := by rw [joinAnswered, hjoin]
  rw [joinFails, hanswered]
  dsimp only
  rw [hcvy, htable]

theorem exec_convoyJoinTimeout {s : State} (hst : s.cvy.st = .aligning) (hstep : s.cvy.step < 4) (hdue : s.cvy.joinDue ≤ s.clk.stage)
    (hp : s.clk.p0Pending = false) : exec .convoyJoinTimeout s = .next (tick (finish (joinFails s))) := by
  rw [exec, execConvoyJoinTimeout, if_neg (by simp [hst, Nat.not_le.2 hstep, hdue])]
  exact lapse_of_not_edge hp _

/-! ### CONVOY_LEAVE and CONVOY_PROPOSE_LEVEL (R336, R337) -/

theorem exec_convoyLeave {p : Packet} {s : State} (h : s.ready p = true) (hl : p.payload = []) (hst : s.cvy.st ≠ .notJoined)
    (hkids : s.cvy.kids = 0) : exec (.convoyLeave p) s
      = .next (finish (markEffect p .hardware (s.took.updCvy (fun c => { c with leave := c.leave ++ [p] })))) := by
  rw [exec, execConvoyLeave, inTurn_of_ready h]
  exact command_effect (fwRuns_of_ready h) (by simp [firstFail, hl, hst, hkids]) _

/-- The proposal of the host is taken (R337). -/
def hostProposed (v : Nat) (s : State) : State := s.updCvy (fun c => { c with hostProp := if v = 0xFF then none else some v })

theorem proposeData_hostProposed (v : Nat) (s : State) :
    proposeData (hostProposed v s) = [BitVec.ofNat 8 v, BitVec.ofNat 8 s.cvy.kids.toNat] := by
  have hv : (if v = 0xFF then (none : Option Nat) else some v).getD 0xFF = v := by
    split
    · next hnone => rw [hnone, Option.getD_none]
    · rfl
  rw [proposeData, hostProposed]
  exact congrArg (fun w => [BitVec.ofNat 8 w, BitVec.ofNat 8 s.cvy.kids.toNat]) hv

theorem exec_convoyHostProposal {p : Packet} {s : State} (h : s.ready p = true) (hl : p.payload.length = 16)
    (hz : zeros p.payload 2 14 = true) (hin : cvyIn s = true) (hop : field p.payload 0 1 = 0)
    (hv : field p.payload 1 1 ≤ 15 ∨ field p.payload 1 1 = 0xFF) : exec (.convoyHostProposal p) s
      = .next (finish (reply p 0x0703 .ok (proposeData (hostProposed (field p.payload 1 1) s.took)) (hostProposed (field p.payload 1 1) s.took))) := by
  have hlegal : (decide (15 < field p.payload 1 1) && field p.payload 1 1 != 0xFF) = false := by
    rcases hv with hle | hnone
    · simp [Nat.not_lt.2 hle]
    · simp [hnone]
  rw [exec, execConvoyHostProposal, inTurn_of_ready h]
  exact command_effect (fwRuns_of_ready h) (by simp only [firstFail, hl, hop, hlegal, hz, hin]; rfl) _

theorem exec_convoyClearSkew {p : Packet} {s : State} (h : s.ready p = true) (hl : p.payload.length = 16)
    (hz : zeros p.payload 2 14 = true) (hop : field p.payload 0 1 = 1) (hv : field p.payload 1 1 = 0) (hst : s.cvy.st = .skewed) :
    exec (.convoyClearSkew p) s
      = .next (finish (reply p 0x0703 .ok (proposeData s.took) (s.took.updCvy (fun c => { c with clearSkew := true })))) := by
  rw [exec, execConvoyClearSkew, inTurn_of_ready h]
  exact command_effect (fwRuns_of_ready h) (by simp [firstFail, hl, hop, zeros_succ hv hz, hst]) _

theorem exec_convoyDropPort {p : Packet} {s : State} (h : s.ready p = true) (hl : p.payload.length = 16)
    (hz : zeros p.payload 2 14 = true) (hin : cvyIn s = true) (hop : field p.payload 0 1 = 2) (hv : field p.payload 1 1 ∈ kidsOf s) :
    exec (.convoyDropPort p) s = .next (finish (reply p 0x0703 .ok (proposeData s.took)
      (s.took.updCvy (fun c => { c with dropPorts := setKid c.dropPorts (field p.payload 1 1) true })))) := by
  have hrange := mem_portsOf_range hv
  have hport : (field p.payload 1 1 == 0 || decide (8 < field p.payload 1 1)) = false := by
    simp only [Bool.or_eq_false_iff, beq_eq_false_iff_ne, decide_eq_false_iff_not]
    omega
  have hkid : (kidsOf s).contains (field p.payload 1 1) = true := List.contains_iff_mem.2 hv
  rw [exec, execConvoyDropPort, inTurn_of_ready h]
  refine command_effect (fwRuns_of_ready h) ?_ _
  simp only [firstFail, hl, hop, hz, hin, hkid, Bool.or_assoc] at hport ⊢
  simp [hport]

/-- Settles O50: a join by what its effect leaves, an answer by the state that it is given in. -/
theorem convoyCommands : Obligations.ConvoyCommands := by
  unfold Obligations.ConvoyCommands
  intro s
  refine ⟨fun p h hl hlegal hgrade hst hpend hboost hfixed hman hheld => ?join, fun p k h hl hlegal hgrade => ?denied,
    fun p hst hstep hdue hjoin htable hp => ?late, fun p h => ⟨fun hl hst hkids => ?leave, fun hl hz hin => ⟨fun hop hv => ?proposal,
    fun hop hv hst => ?skew, fun hop hv => ?drop⟩⟩⟩
  case join =>
    have hapart := finish_apart (joinEffect p s.took)
    obtain ⟨hst', hid, hrole, hdepth, hchildren, hjoin, hcodes⟩ :=
      joinEffect_cvy p s.took _ (finish_cvy (joinEffect p s.took))
    refine ⟨_, exec_convoyJoin h hl hlegal hgrade hst hpend hboost hfixed hman hheld, hst', hid, hrole, hdepth, hchildren, hjoin, hcodes,
      fun hmember => ?_, ?_⟩
    · rw [finish_cvy, finish_seq_table]
      exact joinEffect_member hmember s.took
    · exact (apart_of_cvyTable hapart (joinEffect_apart p s.took)).trans rfl
  case denied =>
    exact ⟨_, exec_convoyJoin_denied h hl hlegal hgrade, by rw [finish_apart, reply_apart],
      answered_finish p 0x0701 .admissionDenied _ s _ rfl rfl rfl rfl rfl⟩
  case late =>
    refine ⟨_, exec_convoyJoinTimeout hst hstep hdue hp, ?_⟩
    rw [joinFails_eq hjoin htable]
    obtain ⟨cvy, hout⟩ := cvyOut_apart (reply p 0x0701 .deadlineMissed (joinData s 2 0xFF 0) s)
    have hback := congrArg (fun v : State => { v with cvy }) (reply_apart p 0x0701 .deadlineMissed (joinData s 2 0xFF 0) s)
    obtain ⟨hst', hid', hjoin'⟩ := cvyOut_cvy (reply p 0x0701 .deadlineMissed (joinData s 2 0xFF 0) s)
    refine ⟨?_, ?_, ?_, (putReply_sent _ s).grows ((cvyOut_grows _).trans (finish_grows _)),
      apart_of_cvy ⟨cvy, (finish_apart _).trans (hout.trans hback)⟩⟩
    · rw [finish_cvy]; exact hst'
    · rw [finish_cvy]; exact hid'
    · rw [finish_cvy]; exact hjoin'
  case leave =>
    exact ⟨_, exec_convoyLeave h hl hst hkids, by rw [finish_apart, markEffect_apart]; rfl⟩
  case proposal =>
    refine ⟨_, exec_convoyHostProposal h hl hz hin hop hv, by rw [finish_apart, reply_apart]; rfl, ?_⟩
    rw [proposeData_hostProposed]
    exact answered_finish p 0x0703 .ok _ s _ rfl rfl rfl rfl rfl
  case skew =>
    exact ⟨_, exec_convoyClearSkew h hl hz hop hv hst, by rw [finish_apart, reply_apart]; rfl,
      answered_finish p 0x0703 .ok _ s _ rfl rfl rfl rfl rfl⟩
  case drop =>
    exact ⟨_, exec_convoyDropPort h hl hz hin hop hv, by rw [finish_apart, reply_apart]; rfl,
      answered_finish p 0x0703 .ok _ s _ rfl rfl rfl rfl rfl⟩

end Sys2Proof.Machine
end

section
/-! SUPPORT. What the parts of the convoy link unit change and send (R317, R325 to R331). -/

namespace Sys2Proof.Machine

/-! ### Becoming: what a step of the convoy unit leaves -/

/-- The convoy unit becomes `c`, nothing else changes apart, and no output is taken back. -/
def CvyTo (c : Cvy) (s t : State) : Prop := t.apart = ({ s with cvy := c } : State).apart ∧ Grows s t

/-- The convoy unit becomes `c` and may have posted (R266, R329). -/
def PostTo (c : Cvy) (s t : State) : Prop := ∃ up, CvyTo c { s with gov := { s.gov with postedUp := up } } t

/-- The convoy unit becomes `c` and may have agreed a level, which ends the hold of R64 (R64, R334). -/
def AgreeTo (c : Cvy) (s t : State) : Prop := ∃ up noDone fvHold fvFixed, CvyTo c { s with
  gov := { s.gov with postedUp := up }, seq := { s.seq with noDone, fvHold, fvFixed } } t

theorem CvyTo.trans {c d : Cvy} {s t u : State} (h : CvyTo c s t) (k : CvyTo d t u) : CvyTo d s u := by
  have hback := congrArg (fun v : State => { v with cvy := d }) h.1
  exact ⟨k.1.trans hback, h.2.trans k.2⟩

theorem CvyTo.post {c d : Cvy} {s t u : State} (h : CvyTo c s t) (k : PostTo d t u) : PostTo d s u := by
  obtain ⟨up, hrest, hgrows⟩ := k
  have hback := congrArg (fun v : State => { v with cvy := d, gov := { v.gov with postedUp := up } }) h.1
  exact ⟨up, hrest.trans hback, h.2.trans hgrows⟩

theorem CvyTo.agree {c d : Cvy} {s t u : State} (h : CvyTo c s t) (k : AgreeTo d t u) : AgreeTo d s u := by
  obtain ⟨up, noDone, fvHold, fvFixed, hrest, hgrows⟩ := k
  have hback := congrArg (fun v : State => { v with
    cvy := d, gov := { v.gov with postedUp := up }, seq := { v.seq with noDone, fvHold, fvFixed } }) h.1
  exact ⟨up, noDone, fvHold, fvFixed, hrest.trans hback, h.2.trans hgrows⟩

theorem AgreeTo.step {c d : Cvy} {s t u : State} (h : AgreeTo c s t) (k : CvyTo d t u) : AgreeTo d s u := by
  obtain ⟨up, noDone, fvHold, fvFixed, h⟩ := h
  exact ⟨up, noDone, fvHold, fvFixed, h.trans k⟩

theorem PostTo.step {c d : Cvy} {s t u : State} (h : PostTo c s t) (k : CvyTo d t u) : PostTo d s u := by
  obtain ⟨up, h⟩ := h
  exact ⟨up, h.trans k⟩

theorem CvyTo.toAgree {c : Cvy} {s t : State} (h : CvyTo c s t) : AgreeTo c s t :=
  ⟨s.gov.postedUp, s.seq.noDone, s.seq.fvHold, s.seq.fvFixed, h⟩

theorem PostTo.toAgree {c : Cvy} {s t : State} (h : PostTo c s t) : AgreeTo c s t := by
  obtain ⟨up, h⟩ := h
  exact ⟨up, s.seq.noDone, s.seq.fvHold, s.seq.fvFixed, h⟩

theorem AgreeTo.post {c d : Cvy} {s t u : State} (h : AgreeTo c s t) (k : PostTo d t u) : AgreeTo d s u := by
  obtain ⟨_, noDone, fvHold, fvFixed, h⟩ := h
  obtain ⟨up, hrest, hgrows⟩ := k
  have hback := congrArg (fun v : State => { v with cvy := d, gov := { v.gov with postedUp := up } }) h.1
  exact ⟨up, noDone, fvHold, fvFixed, hrest.trans hback, h.2.trans hgrows⟩

theorem PostTo.grows {c : Cvy} {s t : State} (h : PostTo c s t) : Grows s t := by
  obtain ⟨_, -, hgrows⟩ := h
  exact hgrows

theorem AgreeTo.grows {c : Cvy} {s t : State} (h : AgreeTo c s t) : Grows s t := by
  obtain ⟨_, _, _, _, -, hgrows⟩ := h
  exact hgrows

theorem CvyTo.cvy {c : Cvy} {s t : State} (h : CvyTo c s t) : t.cvy = c := cvy_of_apart (s := { s with cvy := c }) h.1

theorem PostTo.cvy {c : Cvy} {s t : State} (h : PostTo c s t) : t.cvy = c := by
  obtain ⟨_, h⟩ := h
  exact h.cvy

theorem AgreeTo.cvy {c : Cvy} {s t : State} (h : AgreeTo c s t) : t.cvy = c := by
  obtain ⟨_, _, _, _, h⟩ := h
  exact h.cvy

theorem finish_to (s : State) : CvyTo s.cvy s (finish s) := ⟨finish_apart s, finish_grows s⟩

theorem CvyTo.finish {c : Cvy} {s t : State} (h : CvyTo c s t) : CvyTo c s (finish t) := by
  have hend := finish_to t
  rw [h.cvy] at hend
  exact h.trans hend

theorem PostTo.finish {c : Cvy} {s t : State} (h : PostTo c s t) : PostTo c s (finish t) := by
  obtain ⟨up, h⟩ := h
  exact ⟨up, h.finish⟩

theorem AgreeTo.finish {c : Cvy} {s t : State} (h : AgreeTo c s t) : AgreeTo c s (finish t) := by
  obtain ⟨up, noDone, fvHold, fvFixed, h⟩ := h
  exact ⟨up, noDone, fvHold, fvFixed, h.finish⟩

theorem CvyTo.rest {c : Cvy} {s t : State} (h : CvyTo c s t) : t.apart = ({ s with cvy := t.cvy } : State).apart := apart_of_cvy ⟨c, h.1⟩

theorem PostTo.rest {c : Cvy} {s t : State} (h : PostTo c s t) :
    t.apart = ({ s with cvy := t.cvy, gov := { s.gov with postedUp := t.gov.postedUp } } : State).apart := by
  obtain ⟨up, h⟩ := h
  have hup : t.gov.postedUp = up := by
    have hgov := congrArg (fun v : State => v.gov.postedUp) h.1
    exact hgov
  rw [hup]
  exact h.rest

theorem AgreeTo.rest {c : Cvy} {s t : State} (h : AgreeTo c s t) : t.apart = ({ s with
    cvy := t.cvy, gov := { s.gov with postedUp := t.gov.postedUp }
    seq := { s.seq with noDone := t.seq.noDone, fvHold := t.seq.fvHold, fvFixed := t.seq.fvFixed } } : State).apart := by
  obtain ⟨up, noDone, fvHold, fvFixed, h⟩ := h
  have hpart {α : Type} (f : State → α) := congrArg f h.1
  have hup : t.gov.postedUp = up := by have := hpart (fun v => v.gov.postedUp); exact this
  have hnoDone : t.seq.noDone = noDone := by have := hpart (fun v => v.seq.noDone); exact this
  have hhold : t.seq.fvHold = fvHold := by have := hpart (fun v => v.seq.fvHold); exact this
  have hfixed : t.seq.fvFixed = fvFixed := by have := hpart (fun v => v.seq.fvFixed); exact this
  rw [hup, hnoDone, hhold, hfixed]
  exact h.rest

/-! ### Sending -/

theorem updCvy_to (f : Cvy → Cvy) (s : State) : CvyTo (f s.cvy) s (s.updCvy f) := ⟨rfl, grows_of_eq rfl rfl⟩

theorem raise_to (code source : Nat) (data : List Byte) (s : State) : CvyTo s.cvy s (raise code source data s) :=
  ⟨raise_apart _ _ _ s, grows_of_ports (raiseEv_ports _ s)⟩

theorem cvySend_to (port : Nat) (prio : Bool) (m : List Byte) (s : State) : CvyTo s.cvy s (cvySend port prio m s) :=
  ⟨rfl, ⟨[_], rfl⟩, ⟨[], (List.append_nil _).symm⟩⟩

theorem cvySend_puts (port : Nat) (prio : Bool) (m : List Byte) (s : State) : PutOut (.chiene port prio m) (cvySend port prio m s) :=
  List.mem_cons_self

/-- What steps that leave the convoy unit do, repeating them does. -/
theorem forEach_to {α : Type} {f : α → State → State} (h : ∀ a s, CvyTo s.cvy s (f a s)) (l : List α) (s : State) :
    CvyTo s.cvy s (forEach l f s) :=
  ⟨forEach_keeps State.apart f (fun a u => (h a u).1) l s,
    forEach_preserves (P := Grows s) (fun a u hu => hu.trans (h a u).2) l Grows.rfl⟩

theorem cvyDown_to (prio : Bool) (m : List Byte) (s : State) : CvyTo s.cvy s (cvyDown prio m s) :=
  forEach_to (fun q u => cvySend_to q prio m u) _ s

theorem forEach_cons {α : Type} (a : α) (l : List α) (f : α → State → State) (s : State) : forEach (a :: l) f s = forEach l f (f a s) := rfl

/-- A message sent to several ports goes out on each of them. -/
theorem forEach_cvySend_puts {prio : Bool} {m : List Byte} {q : Nat} {l : List Nat} (h : q ∈ l) (s : State) :
    PutOut (.chiene q prio m) (forEach l (fun p u => cvySend p prio m u) s) := by
  induction l generalizing s with
  | nil => exact absurd h List.not_mem_nil
  | cons p ps ih =>
    rw [forEach_cons]
    rcases List.mem_cons.1 h with rfl | hps
    · exact (cvySend_puts q prio m s).of_grows (forEach_to (fun p u => cvySend_to p prio m u) ps _).2
    · exact ih hps _

theorem cvyDown_puts {q : Nat} {s : State} (h : q ∈ portsOf s.cvy.children) (prio : Bool) (m : List Byte) :
    PutOut (.chiene q prio m) (cvyDown prio m s) := forEach_cvySend_puts h s

theorem cvyDown_evt (prio : Bool) (m : List Byte) (s : State) : (cvyDown prio m s).evt = s.evt :=
  forEach_keeps State.evt (fun q u => cvySend q prio m u) (fun _ _ => rfl) _ s

/-! ### Reports and acknowledgements (R325 to R329) -/

theorem noteMissing_to (s : State) : ∃ missing, CvyTo { s.cvy with missing } s (noteMissing s) :=
  ⟨_, (updCvy_to _ s).trans (forEach_to (fun q u => raise_to 0x0712 q _ u) _ _)⟩

/-- The message UP of a report (R317, R327). -/
def upMsg (u : CvyUp) (s : State) : List Byte :=
  cvyMsg s 0x06 (if u.short then 1 else 0) s.cvy.skewT
    ([BitVec.ofNat 8 u.prop, BitVec.ofNat 8 u.lmin, BitVec.ofNat 8 u.lmax, 0] ++ leBytes 2 u.cmin ++ leBytes 2 u.cmax
      ++ leBytes 2 u.count ++ leBytes 2 u.skewed)

/-- UP is sent as the report of the chip, and the window waits for it no more. -/
theorem sendUp_to (s : State) : (∃ missing short count, CvyTo { s.cvy with missing, checked := false, short, count } s (sendUp s)) ∧
    PutOut (.chiene 0 false (upMsg (cvyReport s (!(silentKids s).isEmpty)) s)) (sendUp s) := by
  obtain ⟨missing, hnote⟩ := noteMissing_to s
  have hsilent : silentKids (noteMissing s) = silentKids s := by
    have h := congrArg silentKids hnote.1; exact h
  have hreport : cvyReport (noteMissing s) (!(silentKids s).isEmpty) = cvyReport s (!(silentKids s).isEmpty) := by
    have h := congrArg (fun v => cvyReport v (!(silentKids s).isEmpty)) hnote.1; exact h
  have hmsg : upMsg (cvyReport s (!(silentKids s).isEmpty)) (noteMissing s) = upMsg (cvyReport s (!(silentKids s).isEmpty)) s := by
    have h := congrArg (upMsg (cvyReport s (!(silentKids s).isEmpty))) hnote.1; exact h
  have hcount := hnote.trans (updCvy_to (fun c => { c with
    checked := false, short := (cvyReport s (!(silentKids s).isEmpty)).short, count := (cvyReport s (!(silentKids s).isEmpty)).count }) _)
  rw [hnote.cvy] at hcount
  rw [sendUp]
  dsimp only
  rw [hsilent, hreport]
  have hsend := cvySend_to 0 false (upMsg (cvyReport s (!(silentKids s).isEmpty)) s) ((noteMissing s).updCvy (fun c => { c with
    checked := false, short := (cvyReport s (!(silentKids s).isEmpty)).short, count := (cvyReport s (!(silentKids s).isEmpty)).count }))
  rw [hcount.cvy] at hsend
  rw [← hmsg] at hsend ⊢
  exact ⟨⟨_, _, _, hcount.trans hsend⟩, cvySend_puts 0 false _ _⟩

theorem tryUp_to (s : State) : ∃ missing checked short count, CvyTo { s.cvy with missing, checked, short, count } s (tryUp s) := by
  unfold tryUp
  split
  · obtain ⟨⟨missing, short, count, h⟩, -⟩ := sendUp_to s
    exact ⟨missing, false, short, count, h⟩
  · exact ⟨_, _, _, _, rfl, Grows.rfl⟩

theorem tryAck_to (s : State) : ∃ ackOpen count, CvyTo { s.cvy with ackOpen, count } s (tryAck s) := by
  unfold tryAck
  split
  · exact ⟨_, _, (updCvy_to _ s).trans (cvySend_to 0 false _ _)⟩
  · exact ⟨_, _, rfl, Grows.rfl⟩

theorem dropKid_to (port : Nat) (s : State) : ∃ missing reports acks checked short count ackOpen, CvyTo { s.cvy with
    kids := setKid s.cvy.kids port false, missing, reports, acks, checked, short, count, ackOpen } s (dropKid port s) := by
  have hdrop := updCvy_to (fun c => { c with
    kids := setKid c.kids port false, missing := setKid c.missing port false, reports := c.reports.filter (fun r => r.1 != port)
    acks := c.acks.filter (fun a => a.1 != port) }) s
  obtain ⟨_, _, _, _, hup⟩ := tryUp_to (s.updCvy (fun c => { c with
    kids := setKid c.kids port false, missing := setKid c.missing port false, reports := c.reports.filter (fun r => r.1 != port)
    acks := c.acks.filter (fun a => a.1 != port) }))
  obtain ⟨_, _, hack⟩ := tryAck_to (tryUp (s.updCvy (fun c => { c with
    kids := setKid c.kids port false, missing := setKid c.missing port false, reports := c.reports.filter (fun r => r.1 != port)
    acks := c.acks.filter (fun a => a.1 != port) })))
  rw [hup.cvy] at hack
  exact ⟨_, _, _, _, _, _, _, hdrop.trans (hup.trans hack)⟩

/-! ### Agreeing and cancelling (R328 to R331) -/

theorem cvyPost_to (lvl stage : Nat) (s : State) : PostTo s.cvy s (cvyPost lvl stage s) :=
  ⟨(cvyPost lvl stage s).gov.postedUp, rfl, grows_of_eq rfl rfl⟩

/-- The end of the hold of R64 changes only the hold. -/
theorem endHold_to (s : State) : AgreeTo s.cvy s (endHold s) := by
  unfold endHold
  split
  · exact ⟨s.gov.postedUp, s.seq.noDone, s.seq.fvHold, s.seq.fvFixed, rfl, grows_of_eq rfl rfl⟩
  · split
    · exact ⟨s.gov.postedUp, false, s.seq.fvHold, s.seq.fvFixed, rfl, grows_of_eq rfl rfl⟩
    · exact ⟨s.gov.postedUp, false, none, false, rfl, grows_of_eq rfl rfl⟩

/-- The convoy agrees a level and posts it. -/
theorem cvyAgree_to (lvl stage : Nat) (s : State) : AgreeTo s.cvy s (cvyAgree lvl stage s) := by
  unfold cvyAgree
  split
  · exact (cvyPost_to lvl stage s).toAgree
  · have hend := endHold_to s
    have hpost := cvyPost_to lvl stage (endHold s)
    rw [hend.cvy] at hpost
    exact hend.post hpost

theorem enterSkewed_to (s : State) : CvyTo { s.cvy with st := .skewed } s (enterSkewed s) := by
  unfold enterSkewed
  dsimp only
  split <;> exact ⟨rfl, grows_of_eq rfl rfl⟩

/-- The record of an announcement (R325, R331). -/
def announced (level t exp : Nat) (s : State) : State :=
  expectAt t level (s.updCvy (fun c => { c with annLevel := level % 16, annT := t, annExp := exp, annFor := some t, acks := [], ackOpen := false }))

/-- An announcement is recorded, whatever the chip does with it. -/
theorem hearAnnounce_to (level t exp : Nat) (skew : Bool) (s : State) : ∃ st expNext ackOpen, AgreeTo { s.cvy with
    annLevel := level % 16, annT := t, annExp := exp, annFor := some t, acks := [], st, expNext, ackOpen } s
      (hearAnnounce level t exp skew s) := by
  have hrecord : CvyTo (announced level t exp s).cvy s (announced level t exp s) := (updCvy_to _ s).trans (updCvy_to _ _)
  change ∃ st expNext ackOpen, AgreeTo _ s (if (announced level t exp s).cvy.st == .skewed then announced level t exp s
    else if skew && (announced level t exp s).cvy.st == .joined && (announced level t exp s).cvy.own != exp then
      if (enterSkewed (announced level t exp s)).cvy.role = 0 then enterSkewed (announced level t exp s)
      else raise 0x0710 0 (skewData (enterSkewed (announced level t exp s)) 1 exp) (enterSkewed (announced level t exp s))
    else (cvyAgree level t (announced level t exp s)).updCvy (fun c => { c with ackOpen := true }))
  split
  · exact ⟨_, _, _, hrecord.toAgree⟩
  · split
    · have hskewed := hrecord.trans (enterSkewed_to (announced level t exp s))
      split
      · exact ⟨_, _, _, hskewed.toAgree⟩
      · have hraise := raise_to 0x0710 0 (skewData (enterSkewed (announced level t exp s)) 1 exp) (enterSkewed (announced level t exp s))
        rw [hskewed.cvy] at hraise
        exact ⟨_, _, _, (hskewed.trans hraise).toAgree⟩
    · have hagree := hrecord.agree (cvyAgree_to level t (announced level t exp s))
      have hopen := updCvy_to (fun c => { c with ackOpen := true }) (cvyAgree level t (announced level t exp s))
      rw [hagree.cvy] at hopen
      exact ⟨_, _, _, hagree.step hopen⟩

/-- A cancel voids the agreement and is reported with what it found. -/
theorem cancelAt_eq (t acked source : Nat) (s : State) : ∃ (data : List Byte) (expNext : List (Nat × Nat)) (u : State),
    cancelAt t acked source s = raise 0x0720 source data u ∧ u.evt = s.evt ∧
      PostTo { s.cvy with annFor := none, ackOpen := false, cancels := min 65535 (s.cvy.cancels + 1), expNext } s u := by
  unfold cancelAt
  extract_lets prio clear heard cleared posted
  have hcleared : cleared.evt = s.evt ∧ CvyTo s.cvy s cleared := by
    unfold cleared
    split
    · exact ⟨rfl, rfl, grows_of_eq rfl rfl⟩
    · exact ⟨rfl, rfl, Grows.rfl⟩
  have hposted : posted.evt = s.evt ∧ PostTo s.cvy s posted := by
    unfold posted
    split
    · have hpost := cvyPost_to cleared.cvy.syncLevel cleared.cvy.joinStage cleared
      rw [hcleared.2.cvy] at hpost
      exact ⟨hcleared.1, hcleared.2.post hpost⟩
    · exact ⟨hcleared.1, s.gov.postedUp, hcleared.2⟩
  obtain ⟨hevt, up, hposted⟩ := hposted
  have hvoid := hposted.trans (updCvy_to (fun c => { c with
    annFor := none, ackOpen := false, cancels := min 65535 (c.cancels + 1)
    expNext := if prio then c.expNext else c.expNext.filter (fun e => e.1 != t) }) posted)
  rw [hposted.cvy] at hvoid
  exact ⟨_, _, _, rfl, hevt, up, hvoid⟩

theorem hearPrio_to (t level cause : Nat) (s : State) : ∃ expNext,
    AgreeTo { s.cvy with prioNext := some (t, level, cause), expNext } s (hearPrio t level cause s) :=
  ⟨_, ((updCvy_to _ s).trans (updCvy_to _ _)).agree (cvyAgree_to level t _)⟩

end Sys2Proof.Machine
end

section
/-! SUPPORT. The messages of a convoy (R317 to R319, R323, R327 to R332). -/

namespace Sys2Proof.Machine

/-- A message that is heard has its effect (R318). -/
theorem cvyReceive_of_hears {type : Nat} {m : ConvoyMsg} {s : State} (h : Hears type m s) (f : State → State) :
    cvyReceive type m f s = .next (finish (f s)) := by
  obtain ⟨hup, hwarm, hport, hgood, htype, hlost⟩ := h
  have hlow : (!s.islandUp || s.sys.warmLow || decide (8 < m.port)) = false := by simp [hup, hwarm, hport]
  have hother : (m.type != type || (s.cvy.st == .lost && goesDown type)) = false := by simp [htype, hlost]
  rw [cvyReceive, hlow, hgood, hother]
  rfl

theorem Hears.notLost {type : Nat} {m : ConvoyMsg} {s : State} (h : Hears type m s) : (s.cvy.st == .lost) = false := by
  obtain ⟨-, -, -, -, -, hlost⟩ := h
  simpa using hlost

/-! ### Messages that align a convoy (R317 to R319, R323) -/

/-- The convoy unit once a SYNC has been heard (R319). -/
def syncHeard (m : ConvoyMsg) (loadStage : Nat) (s : State) : Cvy :=
  { s.cvy with
    gotSync := true, hasDelta := true
    delta := clampI (-32768) 32767 (offsetOf s ((s.clk.now : Int) - (m.body 10 4 + s.cvy.lat : Nat))).1
    syncLevel := m.body 14 1, syncPend := if m.body 15 1 = 0xFF then none else some (m.body 15 1, m.body 16 6), loadStage }

theorem exec_sync {m : ConvoyMsg} {s : State} (h : Hears 0x01 m s) (hstep : s.cvy.st = .aligning → 2 ≤ s.cvy.step) :
    ∃ loadStage fwd, exec (.sync m) s = .next (finish (cvyDown true fwd { s with cvy := syncHeard m loadStage s })) := by
  have hready : ¬ (s.cvy.st == .aligning && decide (s.cvy.step < 2)) = true := by simpa [Nat.lt_iff_add_one_le] using hstep
  rw [exec, execSync, cvyReceive_of_hears h]
  dsimp only
  rw [if_neg hready]
  unfold syncHeard
  rcases offsetOf s ((s.clk.now : Int) - (m.body 10 4 + s.cvy.lat : Nat)) with ⟨d, ahead⟩
  exact ⟨_, _, rfl⟩

theorem exec_echoReq {m : ConvoyMsg} {s : State} (h : Hears 0x02 m s) : exec (.echoReq m) s
    = .next (finish (cvySend m.port true (cvyMsg s 0x03 0 0 (slice m.bytes 10 2 ++ leBytes 4 0)) s)) := by
  rw [exec, execEchoReq, cvyReceive_of_hears h, h.notLost]
  rfl

/-- An echo answer is counted, and the sixteenth gives the latency (R323). -/
def echoCounted (e : Nat × Nat) (sum : Int) (c : Cvy) : Cvy :=
  let counted : Cvy := { c with echoSum := sum, echoGot := c.echoGot + 1, echoAt := c.echoAt.filter (fun x => x.1 != e.1) }
  if counted.echoGot = 16 then
    { counted with step := 2, lat := min 65535 (roundDiv sum 32).toNat, hasDelta := false, alignStages := 0 }
  else counted

theorem echoCounted_counts (e : Nat × Nat) (sum : Int) (c : Cvy) : (echoCounted e sum c).echoGot = c.echoGot + 1 ∧
    (echoCounted e sum c).echoSum = sum ∧ (echoCounted e sum c).step = (if c.echoGot + 1 = 16 then 2 else c.step) ∧
      (echoCounted e sum c).st = c.st := by
  unfold echoCounted
  dsimp only
  split <;> exact ⟨rfl, rfl, rfl, rfl⟩

theorem exec_echoRsp {m : ConvoyMsg} {s : State} {e : Nat × Nat} (h : Hears 0x03 m s)
    (hsent : s.cvy.echoAt.find? (fun e => e.1 == m.body 10 2) = some e) (hst : s.cvy.st = .aligning) (hstep : s.cvy.step = 1) :
    exec (.echoRsp m) s = .next (finish (s.updCvy
      (echoCounted e (s.cvy.echoSum + ((s.clk.now : Int) - (e.2 : Nat)) - (m.body 12 4 : Nat))))) := by
  rw [exec, execEchoRsp, cvyReceive_of_hears h]
  dsimp only
  rw [hsent]
  dsimp only
  rw [if_neg (by simp [hst, hstep])]
  unfold echoCounted State.updCvy
  dsimp only
  split <;> rfl

/-! ### Messages by which a convoy agrees on a level (R327 to R332) -/

/-- The report that a message UP carries (R327). -/
def reported (m : ConvoyMsg) : CvyUp :=
  { prop := m.body 10 1, lmin := m.body 11 1, lmax := m.body 12 1, cmin := m.body 14 2, cmax := m.body 16 2
    count := m.body 18 2, skewed := m.body 20 2, short := m.flags % 2 == 1 }

theorem exec_up {m : ConvoyMsg} {s : State} (h : Hears 0x06 m s) (hin : cvyIn s = true) (hkid : m.port ∈ kidsOf s)
    (hstage : m.stage = s.clk.stage - s.clk.stage % 64) (hnew : ∀ r ∈ s.cvy.reports, r.1 ≠ m.port) : exec (.up m) s
      = .next (finish (tryUp (s.updCvy (fun c => { c with reports := c.reports ++ [(m.port, reported m)] })))) := by
  have hfirst : s.cvy.reports.any (fun r => r.1 == m.port) = false := List.any_eq_false.2 (fun r hr => by simpa using hnew r hr)
  have htaken : (!cvyIn s || !(kidsOf s).contains m.port || m.stage != s.clk.stage - s.clk.stage % 64
      || s.cvy.reports.any (fun r => r.1 == m.port)) = false := by
    rw [hin, List.contains_iff_mem.2 hkid, hfirst, hstage]
    simp
  rw [exec, execUp, cvyReceive_of_hears h, htaken]
  rfl

/-- A message that goes on to the children leaves the chip acting on the agreement as it did. -/
theorem cvyActs_cvyForward (m : ConvoyMsg) (s : State) : cvyActs (cvyForward m s) = cvyActs s := by
  have h := congrArg cvyActs (cvyDown_to m.prio m.bytes s).1; exact h

theorem exec_announce {m : ConvoyMsg} {s : State} (h : Hears 0x07 m s) (hacts : cvyActs s = true) : exec (.announce m) s
    = .next (finish (tryAck (hearAnnounce (m.body 10 1) m.stage (m.body 12 2) (m.flags / 2 % 2 == 1) (cvyForward m s)))) := by
  rw [exec, execAnnounce, cvyReceive_of_hears h]
  dsimp only
  rw [cvyActs_cvyForward, hacts]
  rfl

theorem exec_ack {m : ConvoyMsg} {s : State} (h : Hears 0x08 m s) (hfor : s.cvy.annFor = some m.stage) (hkid : m.port ∈ kidsOf s)
    (hnew : ∀ a ∈ s.cvy.acks, a.1 ≠ m.port) : exec (.ack m) s
      = .next (finish (tryAck (s.updCvy (fun c => { c with acks := c.acks ++ [(m.port, m.body 10 2)] })))) := by
  have hfirst : s.cvy.acks.any (fun a => a.1 == m.port) = false := List.any_eq_false.2 (fun a ha => by simpa using hnew a ha)
  have htaken : (s.cvy.annFor != some m.stage || !(kidsOf s).contains m.port || s.cvy.acks.any (fun a => a.1 == m.port)) = false := by
    rw [hfor, List.contains_iff_mem.2 hkid, hfirst]
    simp
  rw [exec, execAck, cvyReceive_of_hears h, htaken]
  rfl

theorem exec_cancel {m : ConvoyMsg} {s : State} (h : Hears 0x09 m s) (hacts : cvyActs s = true) :
    exec (.cancel m) s = .next (finish (cancelAt m.stage (m.body 10 2) 0 (cvyForward m s))) := by
  rw [exec, execCancel, cvyReceive_of_hears h]
  dsimp only
  rw [cvyActs_cvyForward, hacts]
  rfl

theorem exec_prioReq {m : ConvoyMsg} {s : State} (h : Hears 0x0A m s) : exec (.prioReq m) s = .next (finish (if s.cvy.role = 0 then
    s.updCvy (fun c => { c with prioReqs := c.prioReqs ++ [(m.body 10 1, m.body 11 1)] }) else cvySend 0 true m.bytes s)) := by
  rw [exec, execPrioReq, cvyReceive_of_hears h, h.notLost]
  rfl

theorem exec_prioAnnounce {m : ConvoyMsg} {s : State} (h : Hears 0x0B m s) (hacts : cvyActs s = true) :
    exec (.prioAnnounce m) s = .next (finish (hearPrio m.stage (m.body 10 1) (m.body 11 1) (cvyForward m s))) := by
  rw [exec, execPrioAnnounce, cvyReceive_of_hears h]
  dsimp only
  rw [cvyActs_cvyForward, hacts]
  rfl

/-- What a message sent to the children is followed by keeps it sent on each of their ports. -/
theorem down_puts {s t : State} {prio : Bool} {b : List Byte} (hg : Grows (cvyDown prio b s) t) :
    ∀ q ∈ portsOf s.cvy.children, Output.chiene q prio b ∈ t.out :=
  fun _ hq => (cvyDown_puts hq prio b).of_grows hg

/-- Settles O51: each message by what it makes of the convoy unit and sends. -/
theorem convoyMessages : Obligations.ConvoyMessages := by
  unfold Obligations.ConvoyMessages
  refine ⟨fun m s => ⟨fun h hstep => ?sync, fun h => ?echoReq, fun e h hsent hst hstep => ?echoRsp, fun h => ?joined, fun h => ?left⟩,
    fun m s => ⟨fun h hin hkid hstage hnew => ?up, fun h hacts => ?announce, fun h hfor hkid hnew => ?ack, fun h hacts hf => ?cancel,
      fun h => ?prioReq, fun h hacts => ?prioAnnounce⟩⟩
  case sync =>
    obtain ⟨loadStage, fwd, hexec⟩ := exec_sync h hstep
    have hend := finish_to (cvyDown true fwd { s with cvy := syncHeard m loadStage s })
    have hdown := cvyDown_to true fwd { s with cvy := syncHeard m loadStage s }
    have hto : CvyTo (syncHeard m loadStage s) s (finish (cvyDown true fwd { s with cvy := syncHeard m loadStage s })) := hdown.finish
    refine ⟨_, hexec, ?_, fun q hq => ⟨fwd, ?_⟩, hto.rest⟩
    · rintro d rfl
      rw [hto.cvy]
      rfl
    · exact down_puts (s := { s with cvy := syncHeard m loadStage s }) hend.2 q hq
  case echoReq =>
    exact ⟨_, exec_echoReq h, finish_apart _, (cvySend_puts m.port true _ s).of_grows (finish_grows _)⟩
  case echoRsp =>
    have hto := (updCvy_to (echoCounted e (s.cvy.echoSum + ((s.clk.now : Int) - (e.2 : Nat)) - (m.body 12 4 : Nat))) s).finish
    obtain ⟨hgot, hsum, hstep', hst'⟩ :=
      echoCounted_counts e (s.cvy.echoSum + ((s.clk.now : Int) - (e.2 : Nat)) - (m.body 12 4 : Nat)) s.cvy
    refine ⟨_, exec_echoRsp h hsent hst hstep, ?_, ?_, ?_, ?_, hto.rest⟩
    · rw [hto.cvy]; exact hgot
    · rw [hto.cvy]; exact hsum
    · rw [hto.cvy, hstep', hstep]
    · rw [hto.cvy, hst']; exact hst
  case joined =>
    rw [exec, execJoined, cvyReceive_of_hears h]
    exact ⟨_, rfl, finish_apart _⟩
  case left =>
    rw [exec, execLeft, cvyReceive_of_hears h]
    obtain ⟨_, _, _, _, _, _, _, hdrop⟩ := dropKid_to m.port s
    exact ⟨_, rfl, by rw [hdrop.finish.cvy], by rw [hdrop.finish.cvy], hdrop.finish.rest⟩
  case up =>
    obtain ⟨_, _, _, _, hup⟩ := tryUp_to (s.updCvy (fun c => { c with reports := c.reports ++ [(m.port, reported m)] }))
    have hto := ((updCvy_to (fun c => { c with reports := c.reports ++ [(m.port, reported m)] }) s).trans hup).finish
    exact ⟨_, exec_up h hin hkid hstage hnew, ⟨reported m, by rw [hto.cvy]; rfl, rfl, rfl⟩, by rw [hto.cvy]; rfl, hto.rest⟩
  case announce =>
    obtain ⟨_, _, _, hhear⟩ := hearAnnounce_to (m.body 10 1) m.stage (m.body 12 2) (m.flags / 2 % 2 == 1) (cvyForward m s)
    obtain ⟨_, _, hack⟩ := tryAck_to (hearAnnounce (m.body 10 1) m.stage (m.body 12 2) (m.flags / 2 % 2 == 1) (cvyForward m s))
    have hdown := cvyDown_to m.prio m.bytes s
    have htaken := hhear.step hack.finish
    have hto := hdown.agree htaken
    refine ⟨_, exec_announce h hacts, ?_, ?_, ?_, ?_, down_puts htaken.grows, hto.rest⟩
    · rw [hto.cvy, hhear.cvy]
    · rw [hto.cvy, hhear.cvy]
    · rw [hto.cvy, hhear.cvy]
    · rw [hto.cvy, hhear.cvy]
  case ack =>
    obtain ⟨_, _, hack⟩ := tryAck_to (s.updCvy (fun c => { c with acks := c.acks ++ [(m.port, m.body 10 2)] }))
    have hto := ((updCvy_to (fun c => { c with acks := c.acks ++ [(m.port, m.body 10 2)] }) s).trans hack).finish
    exact ⟨_, exec_ack h hfor hkid hnew, by rw [hto.cvy]; rfl, by rw [hto.cvy]; exact hfor, by rw [hto.cvy]; rfl, hto.rest⟩
  case cancel =>
    obtain ⟨data, expNext, u, heq, hevt, hpost⟩ := cancelAt_eq m.stage (m.body 10 2) 0 (cvyForward m s)
    have hfresh : u.evt.fresh = [] := by rw [hevt, cvyForward, cvyDown_evt, hf]
    have htaken := (hpost.step (raise_to 0x0720 0 data u)).finish
    have hto := (cvyDown_to m.prio m.bytes s).post htaken
    rw [exec_cancel h hacts, heq]
    exact ⟨_, rfl, by rw [hto.cvy, hpost.cvy], by rw [hto.cvy, hpost.cvy, cvyForward, (cvyDown_to m.prio m.bytes s).cvy],
      ⟨data, raised_of_no_fresh hfresh 0x0720 0 data⟩, down_puts htaken.grows, hto.rest⟩
  case prioReq =>
    refine ⟨_, exec_prioReq h, fun hroot => ?_, fun hmember => ?_⟩
    · rw [if_pos hroot]
      exact finish_apart _
    · rw [if_neg hmember]
      exact ⟨finish_apart _, (cvySend_puts 0 true m.bytes s).of_grows (finish_grows _)⟩
  case prioAnnounce =>
    obtain ⟨_, hhear⟩ := hearPrio_to m.stage (m.body 10 1) (m.body 11 1) (cvyForward m s)
    have htaken := hhear.finish
    have hto := (cvyDown_to m.prio m.bytes s).agree htaken
    exact ⟨_, exec_prioAnnounce h hacts, by rw [hto.cvy], down_puts htaken.grows, hto.rest⟩

end Sys2Proof.Machine
end

section
/-! SUPPORT. A convoy's own moments (R321, R325 to R331). -/

namespace Sys2Proof.Machine

/-! ### The moment of a deadline -/

/-- What a deadline's moment finds as it was: all apart from time and what falls with it. -/
theorem reach_parts {due : Nat} {s u : State} (h : reach due s = some u) : u.cvy = s.cvy ∧ u.gov = s.gov ∧
    u.apart.seq = s.apart.seq ∧ u.clk.p0Pending = s.clk.p0Pending ∧ u.clk.stage = s.clk.stage := by
  have htime := reach_timeless h
  obtain ⟨-, -, hstage, hp⟩ := frame_of_timeless htime
  have hpart {α : Type} (f : State → α) : f u.timeless.1 = f s.timeless.1 := congrArg (fun v => f v.1) htime
  exact ⟨hpart State.cvy, hpart State.gov, hpart State.seq, hp, hstage⟩

theorem lapseAt_of_reach {due : Nat} {s u : State} (h : reach due s = some u) (hp : s.clk.p0Pending = false) (f : State → State) :
    lapseAt due f s = .next (tick (finish (f u))) := by
  obtain ⟨-, -, -, hpu, -⟩ := reach_parts h
  rw [lapseAt, h]
  exact lapse_of_not_edge (hpu.trans hp) f

/-! ### The checkpoint and the deadline of UP (R325 to R327, R331) -/

/-- What the checkpoint makes of the convoy unit (R326, R331). -/
def checkOf (s : State) (c : Cvy) : Cvy :=
  { c with
    cpDone := true, checked := true, skewT := s.clk.stage - 8, own := lvchk s s.seq.level s.seq.code, prop := proposal s
    expLevel := ((s.cvy.expNext.filter (fun e => decide (e.1 ≤ s.clk.stage))).getLast?.map Prod.snd).orElse (fun _ => c.expLevel)
    expNext := c.expNext.filter (fun e => decide (s.clk.stage < e.1)) }

/-- The checkpoint has been taken. -/
def checkTaken (s : State) : State := s.updCvy (checkOf s)

theorem exec_convoyCheckpoint {s : State} (hin : cvyIn s = true) (hstage : s.clk.stage % 64 = 8) (hcp : s.cvy.cpDone = false) :
    exec .convoyCheckpoint s = .next (finish (tryUp (checkTaken s))) := by
  rw [exec, execConvoyCheckpoint, if_neg (by simp [hin, hstage, hcp])]
  rfl

/-- A member whose children have all reported sends UP at its checkpoint (R325). -/
theorem tryUp_checkTaken_of_heard {s : State} (hin : cvyIn s = true) (hrole : s.cvy.role ≠ 0) (hsilent : silentKids s = []) :
    tryUp (checkTaken s) = sendUp (checkTaken s) := by
  have hin' : cvyIn (checkTaken s) = true := hin
  have hsilent' : silentKids (checkTaken s) = [] := hsilent
  have hrole' : ((checkTaken s).cvy.role != 0) = true := bne_iff_ne.2 hrole
  rw [tryUp, hin', hsilent', hrole']
  rfl

theorem tryUp_checkTaken_of_waits {s : State} (h : ¬ (s.cvy.role ≠ 0 ∧ silentKids s = [])) : tryUp (checkTaken s) = checkTaken s := by
  have hwaits : ¬ (s.cvy.role ≠ 0 ∧ cvyIn (checkTaken s) = true ∧ silentKids (checkTaken s) = []) := fun ⟨hrole, _, hsilent⟩ => h ⟨hrole, hsilent⟩
  have hrole : (checkTaken s).cvy.role = s.cvy.role := rfl
  rw [tryUp, hrole, if_neg]
  simpa [and_assoc] using fun _ => hwaits

theorem exec_convoyUpDeadline {s u : State} (hin : cvyIn s = true) (hc : s.cvy.checked = true) (hp : s.clk.p0Pending = false)
    (hrole : s.cvy.role ≠ 0)
    (hu : if 9 < s.clk.stage % 64 then u = s else reach (cvyDeadline s ((6 - s.cvy.depth) * 2560)) s = some u) :
    exec .convoyUpDeadline s = .next (tick (finish (sendUp u))) := by
  rw [exec, execConvoyUpDeadline, if_neg (by simp [hin, hc, hrole])]
  split at hu
  · next hlate =>
    rw [if_pos hlate, hu]
    exact lapse_of_not_edge hp _
  · next hearly =>
    rw [if_neg hearly]
    exact lapseAt_of_reach hu hp _

/-- The state that a deadline of a window finds, be it past or now. -/
theorem window_parts {due : Nat} {s u : State} {past : Prop} [Decidable past] (h : if past then u = s else reach due s = some u) :
    u.cvy = s.cvy ∧ u.gov = s.gov ∧ u.apart.seq = s.apart.seq := by
  split at h
  · rw [h]; exact ⟨rfl, rfl, rfl⟩
  · obtain ⟨hcvy, hgov, hseq, -, -⟩ := reach_parts h
    exact ⟨hcvy, hgov, hseq⟩

theorem silentKids_of_cvy {s u : State} (h : u.cvy = s.cvy) : silentKids u = silentKids s := by
  rw [silentKids, kidsOf, h]
  rfl

theorem cvyReport_of_parts {s u : State} (h : u.cvy = s.cvy) (hseq : u.apart.seq = s.apart.seq) (short : Bool) :
    cvyReport u short = cvyReport s short := by
  have hlevel : u.seq.level = s.seq.level := by have h := congrArg Seq.level hseq; exact h
  rw [cvyReport, cvyReport, h, hlevel]

theorem expChk_of_parts {s u : State} (h : u.cvy = s.cvy) (hseq : u.apart.seq = s.apart.seq) : expChk u = expChk s := by
  have htable : u.seq.table = s.seq.table := by have h := congrArg Seq.table hseq; exact h
  simp only [expChk, lvchk, State.lvl, h, htable]

/-! ### ROOT_ANNOUNCE (R325, R327, R328) -/

/-- The level that reports ask for, or the level in force while one is short or skewed (R327, R328). -/
def levelAsked (r : CvyUp) (s : State) : Nat := if r.short = true ∨ r.skewed ≠ 0 then s.seq.level else r.prop % 16

theorem levelAsked_of_seq {s u : State} (hseq : u.apart.seq = s.apart.seq) (r : CvyUp) : levelAsked r u = levelAsked r s := by
  have hlevel : u.seq.level = s.seq.level := by have h := congrArg Seq.level hseq; exact h
  rw [levelAsked, hlevel, levelAsked]

/-- The message ANNOUNCE where every report agrees with the check expected (R317, R328). -/
def announceMsg (r : CvyUp) (s : State) : List Byte :=
  cvyMsg s 0x07 (if r.short = true ∨ r.skewed ≠ 0 then 1 else 0) (s.cvy.skewT + 64)
    ([BitVec.ofNat 8 (levelAsked r s), 0] ++ leBytes 2 (expChk s) ++ leBytes 2 r.count)

/-- The reports disagree with one another or with the check expected (R331). -/
def skewSeen (r : CvyUp) (s : State) : Bool := r.cmin != r.cmax || r.cmin != expChk s

/-- The root before its ANNOUNCE: the missing children are noted, the window is closed, and a skew is reported (R327, R331). -/
def windowClosed (r : CvyUp) (s : State) : State :=
  if skewSeen r s then raise 0x0710 0 (skewData ((noteMissing s).updCvy (fun c => { c with checked := false, count := r.count, short := r.short }))
      2 (expChk s)) ((noteMissing s).updCvy (fun c => { c with checked := false, count := r.count, short := r.short }))
  else (noteMissing s).updCvy (fun c => { c with checked := false, count := r.count, short := r.short })

theorem windowClosed_to (r : CvyUp) (s : State) :
    ∃ missing, CvyTo { s.cvy with missing, checked := false, count := r.count, short := r.short } s (windowClosed r s) := by
  obtain ⟨missing, hnote⟩ := noteMissing_to s
  have hclosed := updCvy_to (fun c => { c with checked := false, count := r.count, short := r.short }) (noteMissing s)
  rw [hnote.cvy] at hclosed
  unfold windowClosed
  split
  · have hraise := raise_to 0x0710 0 (skewData ((noteMissing s).updCvy (fun c => { c with checked := false, count := r.count, short := r.short }))
      2 (expChk s)) ((noteMissing s).updCvy (fun c => { c with checked := false, count := r.count, short := r.short }))
    rw [hclosed.cvy] at hraise
    exact ⟨missing, hnote.trans (hclosed.trans hraise)⟩
  · exact ⟨missing, hnote.trans hclosed⟩

theorem levelAsked_eq (r : CvyUp) (s : State) : (if (r.short || r.skewed != 0) = true then s.seq.level else r.prop % 16) = levelAsked r s := by
  simp [levelAsked]

theorem cvyMsg_of_id {s t : State} (h : t.cvy.id = s.cvy.id) (type flags stage : Nat) (body : List Byte) :
    cvyMsg t type flags stage body = cvyMsg s type flags stage body := by
  rw [cvyMsg, cvyMsg, h]

/-- The announcement goes to the children, and the root hears it itself. -/
theorem sendAnnounce_eq {s : State} {r : CvyUp} (hr : r = cvyReport s (!(silentKids s).isEmpty)) : ∃ m,
    sendAnnounce s = hearAnnounce (levelAsked r s) (s.cvy.skewT + 64) (expChk s) (skewSeen r s) (cvyDown false m (windowClosed r s)) ∧
      (skewSeen r s = false → m = announceMsg r s) := by
  obtain ⟨missing, hnote⟩ := noteMissing_to s
  obtain ⟨missing', hclosed⟩ := windowClosed_to r s
  have hsilent : silentKids (noteMissing s) = silentKids s := by
    have h := congrArg silentKids hnote.1; exact h
  have hreport : cvyReport (noteMissing s) (!(silentKids s).isEmpty) = r := by
    have h := congrArg (fun v => cvyReport v (!(silentKids s).isEmpty)) hnote.1; exact h.trans hr.symm
  have hexp : expChk (noteMissing s) = expChk s := by
    have h := congrArg expChk hnote.1; exact h
  have hlevel : (noteMissing s).seq.level = s.seq.level := by
    have h := congrArg (fun v : State => v.seq.level) hnote.1; exact h
  have hskewT : (noteMissing s).cvy.skewT = s.cvy.skewT := by rw [hnote.cvy]
  have hid : (windowClosed r s).cvy.id = s.cvy.id := by rw [hclosed.cvy]
  rw [sendAnnounce, hsilent, hreport, hexp, hlevel, hskewT, levelAsked_eq]
  refine ⟨cvyMsg (windowClosed r s) 0x07 ((if (r.short || r.skewed != 0) = true then 1 else 0) + if skewSeen r s then 2 else 0)
    (s.cvy.skewT + 64) ([BitVec.ofNat 8 (levelAsked r s), 0] ++ leBytes 2 (expChk s) ++ leBytes 2 r.count), rfl, fun hagree => ?_⟩
  rw [cvyMsg_of_id hid, hagree, announceMsg]
  simp

theorem sendAnnounce_to {s : State} {r : CvyUp} (hr : r = cvyReport s (!(silentKids s).isEmpty)) :
    (∃ missing annExp st expNext ackOpen, AgreeTo { s.cvy with
      missing, checked := false, short := r.short, count := r.count, annLevel := levelAsked r s % 16, annT := s.cvy.skewT + 64, annExp
      annFor := some (s.cvy.skewT + 64), acks := [], st, expNext, ackOpen } s (sendAnnounce s)) ∧
    (r.cmin = expChk s → r.cmax = expChk s → ∀ q ∈ portsOf s.cvy.children, PutOut (.chiene q false (announceMsg r s)) (sendAnnounce s)) := by
  obtain ⟨m, heq, hm⟩ := sendAnnounce_eq hr
  obtain ⟨missing, hclosed⟩ := windowClosed_to r s
  have hdown := cvyDown_to false m (windowClosed r s)
  obtain ⟨st, expNext, ackOpen, hhear⟩ :=
    hearAnnounce_to (levelAsked r s) (s.cvy.skewT + 64) (expChk s) (skewSeen r s) (cvyDown false m (windowClosed r s))
  rw [hdown.cvy, hclosed.cvy] at hhear
  rw [heq]
  refine ⟨⟨_, _, _, _, _, hclosed.agree (hdown.agree hhear)⟩, fun hmin hmax q hq => ?_⟩
  have hagree : skewSeen r s = false := by simp [skewSeen, hmin, hmax]
  rw [← hm hagree]
  have hchild : q ∈ portsOf (windowClosed r s).cvy.children := by rw [hclosed.cvy]; exact hq
  exact (cvyDown_puts hchild false m).of_grows hhear.grows

theorem exec_rootAnnounce {s u : State} (hin : cvyIn s = true) (hc : s.cvy.checked = true) (hp : s.clk.p0Pending = false)
    (hrole : s.cvy.role = 0)
    (hu : if 9 < s.clk.stage % 64 then u = s else silentKids s = [] ∨ reach (cvyDeadline s (6 * 2560)) s = some u)
    (hall : silentKids s = [] → u = s) :
    exec .rootAnnounce s = .next (if silentKids s = [] then finish (sendAnnounce u) else tick (finish (sendAnnounce u))) := by
  rw [exec, execRootAnnounce, if_neg (by simp [hin, hc, hrole])]
  by_cases hsilent : silentKids s = []
  · rw [if_pos (by rw [hsilent]; rfl), if_pos hsilent, hall hsilent]
    rfl
  · rw [if_neg (by simpa using hsilent), if_neg hsilent]
    split at hu
    · next hlate =>
      rw [if_pos hlate, hu]
      exact lapse_of_not_edge hp _
    · next hearly =>
      rw [if_neg hearly]
      exact lapseAt_of_reach (hu.resolve_left hsilent) hp _

/-- The state that ROOT_ANNOUNCE finds. -/
theorem root_parts {due : Nat} {s u : State} (h : if 9 < s.clk.stage % 64 then u = s else silentKids s = [] ∨ reach due s = some u)
    (hall : silentKids s = [] → u = s) : u.cvy = s.cvy ∧ u.gov = s.gov ∧ u.apart.seq = s.apart.seq := by
  by_cases hsilent : silentKids s = []
  · rw [hall hsilent]
    exact ⟨rfl, rfl, rfl⟩
  · refine window_parts (past := 9 < s.clk.stage % 64) (due := due) ?_
    split at h
    · next hlate => rw [if_pos hlate]; exact h
    · next hearly => rw [if_neg hearly]; exact h.resolve_left hsilent

/-! ### CONVOY_ACK_DEADLINE and CONVOY_SYNC_LOSS (R321, R329) -/

theorem exec_convoyAckDeadline {s : State} {e port : Nat} (hin : cvyIn s = true) (hfor : s.cvy.annFor = some e) (hrole : s.cvy.role = 0)
    (he : e ≤ s.clk.stage + 8) (hport : (kidsOf s).find? (fun p => !s.cvy.acks.any (fun a => a.1 == p)) = some port)
    (hp : s.clk.p0Pending = false) {acked : Nat} (hacked : acked = (s.cvy.acks.foldl (fun a x => a + x.2) 1) % 65536) :
    exec .convoyAckDeadline s
      = .next (tick (finish (cancelAt e acked port (cvyDown true (cvyMsg s 0x09 0 e (leBytes 2 acked)) s)))) := by
  rw [exec, execConvoyAckDeadline, hfor]
  dsimp only
  rw [if_neg (by simp [hin, hrole, Nat.not_lt.2 he]), hport, hacked]
  exact lapse_of_not_edge hp _

/-- The chip loses SYNC (R321). -/
def syncLost (s : State) : State := s.updCvy (fun c => { c with st := .lost, checked := false, ackOpen := false })

theorem exec_convoySyncLoss {s : State} (hin : cvyIn s = true) (hrole : s.cvy.role ≠ 0)
    (hlost : (4 ≤ s.cvy.noSync ∧ s.cvy.gotSync = false) ∨ (s.cvy.hasDelta = true ∧ 100 < s.cvy.delta.natAbs))
    (hp : s.clk.p0Pending = false) :
    exec .convoySyncLoss s = .next (tick (finish (raise 0x0711 0 [BitVec.ofNat 8 s.cvy.st.code] (syncLost s)))) := by
  have hwhy : ((decide (4 ≤ s.cvy.noSync) && !s.cvy.gotSync) || (s.cvy.hasDelta && decide (100 < s.cvy.delta.natAbs))) = true := by
    simpa using hlost
  rw [exec, execConvoySyncLoss, if_neg (by simp [hin, hrole, hwhy])]
  exact lapse_of_not_edge hp _

/-- Settles O52: each moment by what it makes of the convoy unit and sends in the state that its deadline finds. -/
theorem convoyMoments : Obligations.ConvoyMoments := by
  unfold Obligations.ConvoyMoments
  refine fun s hin => ⟨fun hstage hcp => ?checkpoint, fun u hc hp => ⟨fun hrole hu => ?up, fun hrole hu hall r hr => ?announce⟩,
    fun e port hfor hrole he hport hf hp => ?ack, fun hrole hlost hf hp => ?syncLoss⟩
  case checkpoint =>
    refine ⟨_, exec_convoyCheckpoint hin hstage hcp, ?_⟩
    have htaken := updCvy_to (checkOf s) s
    by_cases hsends : s.cvy.role ≠ 0 ∧ silentKids s = []
    · obtain ⟨hrole, hsilent⟩ := hsends
      obtain ⟨⟨_, _, _, hsent⟩, hputs⟩ := sendUp_to (checkTaken s)
      have hto := (htaken.trans hsent).finish
      rw [tryUp_checkTaken_of_heard hin hrole hsilent]
      exact ⟨congrArg Cvy.cpDone hto.cvy, congrArg Cvy.skewT hto.cvy, congrArg Cvy.own hto.cvy, congrArg Cvy.prop hto.cvy,
        (congrArg Cvy.st hto.cvy).trans rfl, fun hno => (hno.elim hrole (fun h => h hsilent)).elim,
        fun _ _ => ⟨congrArg Cvy.checked hto.cvy, _, hputs.of_grows (finish_grows _)⟩, hto.rest⟩
    · have hto := htaken.finish
      rw [tryUp_checkTaken_of_waits hsends]
      exact ⟨congrArg Cvy.cpDone hto.cvy, congrArg Cvy.skewT hto.cvy, congrArg Cvy.own hto.cvy, congrArg Cvy.prop hto.cvy,
        (congrArg Cvy.st hto.cvy).trans rfl, fun _ => congrArg Cvy.checked hto.cvy, fun hrole hsilent => absurd ⟨hrole, hsilent⟩ hsends, hto.rest⟩
  case up =>
    obtain ⟨hcvy, -, hseq⟩ := window_parts hu
    obtain ⟨⟨_, _, _, hsent⟩, hputs⟩ := sendUp_to u
    refine ⟨_, exec_convoyUpDeadline hin hc hp hrole hu, by rw [hsent.finish.cvy], by rw [hsent.finish.cvy, ← hcvy], ?_, hsent.finish.rest⟩
    rintro r rfl
    have hmsg : upMsg (cvyReport u (!(silentKids u).isEmpty)) u = upMsg (cvyReport s (!(silentKids s).isEmpty)) s := by
      rw [silentKids_of_cvy hcvy, cvyReport_of_parts hcvy hseq, upMsg, hcvy, cvyMsg_of_id (congrArg Cvy.id hcvy)]
      rfl
    rw [hmsg] at hputs
    exact hputs.of_grows (finish_grows _)
  case announce =>
    obtain ⟨hcvy, hgov, hseq⟩ := root_parts hu hall
    have hru : r = cvyReport u (!(silentKids u).isEmpty) := by rw [hr, silentKids_of_cvy hcvy, cvyReport_of_parts hcvy hseq]
    have hexp : expChk u = expChk s := expChk_of_parts hcvy hseq
    have hasked : levelAsked r u = levelAsked r s := levelAsked_of_seq hseq r
    obtain ⟨⟨_, _, _, _, _, hsent⟩, hputs⟩ := sendAnnounce_to hru
    have hto := hsent.finish
    refine ⟨finish (sendAnnounce u), exec_rootAnnounce hin hc hp hrole hu hall, ?_, ?_, ?_, ?_, fun hmin hmax q hq => ?_, ?_⟩
    · rw [hto.cvy]
    · rw [hto.cvy, hcvy]
    · rw [hto.cvy, hcvy]
    · rw [hto.cvy, hasked]
      rfl
    · have hmsg : announceMsg r u = announceMsg r s := by
        rw [announceMsg, hasked, hexp, hcvy, cvyMsg_of_id (congrArg Cvy.id hcvy)]
        rfl
      have hput := hputs (hmin.trans hexp.symm) (hmax.trans hexp.symm) q (by rw [hcvy]; exact hq)
      rw [hmsg] at hput
      exact hput.of_grows (finish_grows _)
    · have hback := congrArg (fun p : Gov × Seq => ({ u with
        cvy := (finish (sendAnnounce u)).cvy, gov := { p.1 with postedUp := (finish (sendAnnounce u)).gov.postedUp }
        seq := { p.2 with noDone := (finish (sendAnnounce u)).seq.noDone, fvHold := (finish (sendAnnounce u)).seq.fvHold
                          fvFixed := (finish (sendAnnounce u)).seq.fvFixed } } : State).apart) (Prod.ext hgov hseq : (u.gov, u.apart.seq) = (s.gov, s.apart.seq))
      exact hto.rest.trans hback
  case ack =>
    obtain ⟨data, expNext, v, heq, hevt, hpost⟩ := cancelAt_eq e ((s.cvy.acks.foldl (fun a x => a + x.2) 1) % 65536) port
      (cvyDown true (cvyMsg s 0x09 0 e (leBytes 2 ((s.cvy.acks.foldl (fun a x => a + x.2) 1) % 65536))) s)
    have hdown := cvyDown_to true (cvyMsg s 0x09 0 e (leBytes 2 ((s.cvy.acks.foldl (fun a x => a + x.2) 1) % 65536))) s
    have hfresh : v.evt.fresh = [] := by rw [hevt, cvyDown_evt, hf]
    have htaken := (hpost.step (raise_to 0x0720 port data v)).finish
    have hto := hdown.post htaken
    rw [exec_convoyAckDeadline hin hfor hrole he hport hp rfl, heq]
    exact ⟨_, rfl, by rw [hto.cvy, hpost.cvy], by rw [hto.cvy, hpost.cvy, hdown.cvy],
      ⟨data, raised_of_no_fresh hfresh 0x0720 port data⟩, down_puts htaken.grows, hto.rest⟩
  case syncLoss =>
    refine ⟨_, exec_convoySyncLoss hin hrole hlost hp, by rw [finish_apart, raise_apart]; rfl, raised_of_no_fresh (by exact hf) _ _ _⟩

end Sys2Proof.Machine
end

section
/-! SUPPORT. Debug operations, memory and registers of the halted core (R434, R435, R437 to R445). -/

namespace Sys2Proof.Machine

/-! ### What is shifted in and captured (R433 to R435) -/

theorem dbgOp_busy {s : State} (hup : s.islandUp = true) (hb : s.dbg.busy = true) (op : Nat) (whenLocked : Bool) (effect : State → State) :
    dbgOp op whenLocked effect s = .next (finish (s.updDbg (fun d => { d with busyLost := true }))) := by
  rw [dbgOp, hup, hb]
  rfl

theorem dbgOp_locked {s : State} (hup : s.islandUp = true) (hb : s.dbg.busy = false) (hu : s.dbg.unlocked = false) (op : Nat)
    (effect : State → State) : dbgOp op false effect s = .next (finish (dbgResult .locked 0 (s.operated op))) := by
  have hu' : (s.operated op).dbg.unlocked = false := hu
  have hbar : (!false && !(s.operated op).dbg.unlocked) = true := by rw [hu']; rfl
  rw [dbgOp, hup, hb]
  exact if_pos hbar

/-- The fields of what is captured lie where R434 puts them. -/
theorem captureWord_fields {d : Dbg} {st : Nat} (h : (if d.busy || d.busyLost then DbgSt.busy.code else d.status) = st) (hst : st < 16) :
    captureWord d / 2 ^ 32 % 16 = st ∧ captureWord d % 2 ^ 32 = d.rdata.toNat := by
  have hdata := d.rdata.isLt
  rw [captureWord, h]
  omega

/-! ### What a stepped instruction leaves (R440) -/

/-- What no instruction of the core changes: the fuses, the rails, the cells, the manifest and the stage, and what the port has
been asked. -/
def State.stepSide (s : State) : Fuses × Tab 4 Rail × Tab 1728 Cell × Man × Nat × Nat :=
  (s.fuses, s.rails, s.cells, s.man, s.clk.stage, s.dbg.lastOp)

theorem stepSide_of_apart {s t : State} (h : t.apart = s.apart) : t.stepSide = s.stepSide := by
  have hside := congrArg State.stepSide h; exact hside

theorem raise_stepSide (c k : Nat) (d : List Byte) (s : State) : (raise c k d s).stepSide = s.stepSide :=
  stepSide_of_apart (raise_apart c k d s)
theorem updConv_stepSide (u : Nat) (f : Conv → Conv) (s : State) : (s.updConv u f).stepSide = s.stepSide := rfl
theorem updCl_stepSide (n : Nat) (f : Cluster → Cluster) (s : State) : (s.updCl n f).stepSide = s.stepSide := rfl
theorem engineStall_stepSide (t : Nat) (s : State) : (engineStall t s).stepSide = s.stepSide := rfl

theorem parityRead_stepSide (a : Nat) (s : State) : (parityRead a s).stepSide = s.stepSide :=
  (stepSide_of_apart (parityRead_apart a s)).trans rfl

theorem readEffect_stepSide (off : Nat) (s : State) : (readEffect off s).stepSide = s.stepSide := by
  unfold readEffect
  dsimp only
  repeat' split
  · rfl
  · rfl
  · exact parityRead_stepSide _ s
  · rfl

theorem failTile_stepSide (t : Nat) (s : State) : (failTile t s).stepSide = s.stepSide := by
  have hcal (k : Nat) (u : State) : (forEach (calClusters k) (fun n s => s.updCl n (fun c => { c with v := { c.v with calWait := true } })) u).stepSide
      = u.stepSide := forEach_keeps State.stepSide _ (fun n u => updCl_stepSide n _ u) _ u
  unfold failTile
  split
  · rfl
  · extract_lets marked therm told
    have htold : told.stepSide = s.stepSide := by
      unfold told
      split
      · exact hcal _ _
      · split <;> rfl
    split
    · rw [raise_stepSide, htold]
    · exact htold

theorem bufferTile_stepSide (t : Nat) (upset : Bool) (s : State) : (bufferTile t upset s).2.stepSide = s.stepSide := by
  unfold bufferTile
  repeat' split
  · rfl
  · rfl
  · rfl

theorem busRead_stepSide (a : Nat) (s : State) : (busRead a s).2.stepSide = s.stepSide := by
  unfold busRead
  split
  · split
    · next t _ =>
      have hbuf := bufferTile_stepSide t false s
      revert hbuf
      rcases bufferTile t false s with ⟨ok, s'⟩
      intro hbuf
      cases ok
      · exact (failTile_stepSide t s').trans hbuf
      · exact hbuf
    · exact parityRead_stepSide a s
  repeat' split
  · rfl
  · rfl
  · rfl
  · rfl
  · rfl
  · rfl
  · rfl
  · simp only [engineStall_stepSide]
  · simp only [readEffect_stepSide]
  · rfl

theorem convTo_stepSide (u t : Nat) (s : State) : (convTo u t s).stepSide = s.stepSide := by
  unfold convTo
  split <;> rfl

theorem urgentRequest_stepSide (c : Nat) (s : State) : (urgentRequest c s).stepSide = s.stepSide := by
  unfold urgentRequest
  dsimp only
  split
  · exact convTo_stepSide _ _ s
  · exact convTo_stepSide _ _ s

theorem seqSwapRequest_stepSide (mask : Nat) (s : State) : (seqSwapRequest mask s).stepSide = s.stepSide :=
  forEach_keeps State.stepSide _ (fun u v => updConv_stepSide u _ v) _ s

theorem bankWrite_stepSide (addr : Nat) (w : BitVec 32) (s : State) : (bankWrite addr w s).stepSide = s.stepSide := by
  unfold bankWrite
  dsimp only
  repeat' split
  · rfl
  · rfl
  · rfl

theorem swapRequest_stepSide (s : State) : (swapRequest s).stepSide = s.stepSide := by
  unfold swapRequest
  split <;> rfl

theorem converterWrite_stepSide (off : Nat) (w : BitVec 32) (s : State) : (converterWrite off w s).stepSide = s.stepSide := by
  unfold converterWrite
  dsimp only
  repeat' split
  · rfl
  · exact urgentRequest_stepSide _ s
  · exact seqSwapRequest_stepSide _ s
  · rfl
  · rfl
  · rfl

theorem sealGo_stepSide (tile : Nat) (s : State) : (sealGo tile s).stepSide = s.stepSide := by
  unfold sealGo
  dsimp only
  repeat' split
  · rfl
  · rfl
  · rfl

theorem controlWrite_stepSide (off : Nat) (w : BitVec 32) (s : State) : (controlWrite off w s).stepSide = s.stepSide := by
  unfold controlWrite
  split
  · rfl
  · rfl
  · rfl
  · dsimp only
    repeat' split
    · exact sealGo_stepSide _ _
    · exact sealGo_stepSide _ _
    · rfl
    · rfl
  · rfl

theorem windowWrite_stepSide (off : Nat) (w : BitVec 32) (s : State) : (windowWrite off w s).stepSide = s.stepSide := by
  unfold windowWrite
  split <;> rfl

theorem withLed_stepSide (s : State) (l : Led) : ({ s with led := l } : State).stepSide = s.stepSide := rfl

theorem busWrite_stepSide (port : Bool) (a : Nat) (w : BitVec 32) (lanes : Nat) (s : State) :
    (busWrite port a w lanes s).2.stepSide = s.stepSide := by
  unfold busWrite
  dsimp only
  repeat' split
  · rfl
  · rfl
  · rfl
  · rfl
  · simp only [bankWrite_stepSide]
  · simp only [swapRequest_stepSide]
  · rfl
  · simp only [converterWrite_stepSide]
  · simp only [converterWrite_stepSide]
  · simp only [controlWrite_stepSide]
  · exact withLed_stepSide s _
  · rfl
  · rfl
  · simp only [windowWrite_stepSide]
  · rfl

theorem coreLoad_stepSide (a k : Nat) (s : State) : (coreLoad a k s).2.stepSide = s.stepSide := by
  unfold coreLoad
  dsimp only
  split
  · exact busRead_stepSide _ s
  · exact (busRead_stepSide _ _).trans (busRead_stepSide _ s)

theorem coreStore_stepSide (a k v : Nat) (s : State) : (coreStore a k v s).2.stepSide = s.stepSide := by
  unfold coreStore
  dsimp only
  repeat' split
  · exact busWrite_stepSide _ _ _ _ s
  · exact busWrite_stepSide _ _ _ _ s
  · exact (busWrite_stepSide _ _ _ _ _).trans (busWrite_stepSide _ _ _ _ s)

theorem setX_stepSide (k : Nat) (v : BitVec 32) (s : State) : (setX k v s).stepSide = s.stepSide := by
  unfold setX
  split <;> rfl

theorem enterTrap_stepSide (cause : Nat) (tval : BitVec 32) (s : State) : (enterTrap cause tval s).stepSide = s.stepSide := rfl

/-- A retired instruction changes, beside what it has done before, the core alone. -/
theorem withCore_stepSide (c : Core) (s : State) : ({ s with core := c } : State).stepSide = s.stepSide := rfl

theorem csrWrite_stepSide (num : Nat) (v : BitVec 32) (s : State) : (csrWrite num v s).stepSide = s.stepSide := rfl

theorem runHart_stepSide (i : HInstr) (raw : BitVec 32) (len : Nat) (s : State) : (runHart enterTrap i raw len s).stepSide = s.stepSide := by
  cases i with
  | load f3 rd rs1 imm =>
    have hload := coreLoad_stepSide (s.xreg rs1 + imm).toNat (2 ^ (f3 % 4)) s
    simp only [runHart]
    split
    · simp only [withCore_stepSide, setX_stepSide, hload]
    · rw [enterTrap_stepSide, hload]
  | store f3 rs2 rs1 imm =>
    have hstore := coreStore_stepSide (s.xreg rs1 + imm).toNat (2 ^ f3) (s.xreg rs2).toNat s
    simp only [runHart]
    split
    · simp only [withCore_stepSide, hstore]
    · rw [enterTrap_stepSide, hstore]
  | csr f3 rd rs1 num =>
    simp only [runHart]
    repeat' split
    · rfl
    · simp only [withCore_stepSide, setX_stepSide]
    · rfl
    · simp only [csrWrite_stepSide, withCore_stepSide, setX_stepSide]
  | branch f3 rs1 rs2 off =>
    simp only [runHart]
    split <;> rfl
  | _ => simp only [runHart, withCore_stepSide, setX_stepSide, enterTrap_stepSide]

theorem fetchHalf_stepSide (a : Nat) (s : State) : (fetchHalf a s).2.stepSide = s.stepSide := by
  unfold fetchHalf
  split
  · exact coreLoad_stepSide a 2 s
  · rfl

theorem fetchHart_stepSide (s : State) : (fetchHart s).2.stepSide = s.stepSide := by
  unfold fetchHart
  dsimp only
  repeat' split
  · exact fetchHalf_stepSide _ s
  · exact fetchHalf_stepSide _ s
  · exact (fetchHalf_stepSide _ _).trans (fetchHalf_stepSide _ s)
  · exact (fetchHalf_stepSide _ _).trans (fetchHalf_stepSide _ s)

theorem fetchFails_stepSide (a : Nat) (s : State) : (fetchFails enterTrap a s).stepSide = s.stepSide := by
  unfold fetchFails
  split
  · exact raise_stepSide _ _ _ _
  · rfl

theorem stepHalt_stepSide (t : Touch) (s : State) : (stepHalt t s).stepSide = s.stepSide := by
  unfold stepHalt
  repeat' split
  · rfl
  · rfl
  · rfl
  · rfl

theorem stepHart_stepSide (s : State) : (stepHart s).stepSide = s.stepSide := by
  unfold stepHart
  dsimp only
  repeat' split
  · exact (fetchFails_stepSide _ _).trans (fetchHart_stepSide s)
  · exact fetchHart_stepSide s
  · exact (stepHalt_stepSide _ _).trans ((runHart_stepSide _ _ _ _).trans (fetchHart_stepSide s))

end Sys2Proof.Machine
end

section
/-! SUPPORT. What each debug operation does (R434, R435, R437 to R445). -/

namespace Sys2Proof.Machine

/-! ### What the port's flags bar (R434, R435) -/

/-- An update while an operation is in progress is lost. -/
theorem exec_op_busy {s : State} (hup : s.islandUp = true) (hb : s.dbg.busy = true) {c : Instr}
    (hc : c ∈ [.nop, .submit, .lock, .halt, .resume, .step]) :
    exec c s = .next (finish (s.updDbg (fun d => { d with busyLost := true }))) := by
  simp only [List.mem_cons, List.not_mem_nil, or_false] at hc
  rcases hc with rfl | rfl | rfl | rfl | rfl | rfl
  · rw [exec, execNop, dbgOp_busy hup hb]
  · rw [exec, execSubmit, dbgOp_busy hup hb]
  · rw [exec, execLock, dbgOp_busy hup hb]
  · rw [exec, execHalt, dbgOp_busy hup hb]
  · rw [exec, execResume, dbgOp_busy hup hb]
  · rw [exec, execStep, dbgOp_busy hup hb]

/-- The core's operations are barred while the port is locked. -/
theorem exec_op_locked {s : State} (hup : s.islandUp = true) (hb : s.dbg.busy = false) (hu : s.dbg.unlocked = false) {c : Instr}
    (hc : c ∈ [.lock, .halt, .resume, .step]) : ∃ op, exec c s = .next (finish (dbgResult .locked 0 (s.operated op))) := by
  simp only [List.mem_cons, List.not_mem_nil, or_false] at hc
  rcases hc with rfl | rfl | rfl | rfl
  · exact ⟨4, by rw [exec, execLock, dbgOp_locked hup hb hu]⟩
  · exact ⟨5, by rw [exec, execHalt, dbgOp_locked hup hb hu]⟩
  · exact ⟨6, by rw [exec, execResume, dbgOp_locked hup hb hu]⟩
  · exact ⟨7, by rw [exec, execStep, dbgOp_locked hup hb hu]⟩

theorem exec_nop {s : State} (hup : s.islandUp = true) (hb : s.dbg.busy = false) :
    exec .nop s = .next (finish (dbgResult .ok 0 (s.operated 0))) := by
  rw [exec, execNop, dbgOp_takes hup hb (.inl rfl)]

/-! ### The core's halt (R438 to R442) -/

theorem exec_lock {s : State} (hup : s.islandUp = true) (hb : s.dbg.busy = false) (hu : s.dbg.unlocked = true) :
    exec .lock s = .next (finish (dbgResult .ok 0 (dbgLock (s.operated 4)))) := by
  rw [exec, execLock, dbgOp_takes hup hb (.inr hu)]

theorem exec_halt {s : State} (hup : s.islandUp = true) (hb : s.dbg.busy = false) (hu : s.dbg.unlocked = true) (hh : s.dbg.halted = false) :
    exec .halt s = .next (finish (dbgResult .ok 0 ((s.operated 5).updDbg (fun d => { d with haltReq := true })))) := by
  have hh' : (s.operated 5).dbg.halted = false := hh
  rw [exec, execHalt, dbgOp_takes hup hb (.inr hu), hh']
  rfl

theorem exec_resume {s : State} (hup : s.islandUp = true) (hb : s.dbg.busy = false) (hu : s.dbg.unlocked = true) (hh : s.dbg.halted = true) :
    exec .resume s = .next (finish (dbgResult .ok 0 ((s.operated 6).updDbg (fun d => { d with halted := false, cause := 0, bpIndex := 0 })))) := by
  have hh' : (s.operated 6).dbg.halted = true := hh
  rw [exec, execResume, dbgOp_takes hup hb (.inr hu), hh']
  rfl

theorem exec_step {s : State} (hup : s.islandUp = true) (hb : s.dbg.busy = false) (hu : s.dbg.unlocked = true) (hh : s.dbg.halted = true) :
    exec .step s = .next (finish (dbgResult .ok 0 (stepHart (s.operated 7)))) := by
  have hh' : (s.operated 7).dbg.halted = true := hh
  rw [exec, execStep, dbgOp_takes hup hb (.inr hu), hh']
  rfl

theorem exec_step_running {s : State} (hup : s.islandUp = true) (hb : s.dbg.busy = false) (hu : s.dbg.unlocked = true)
    (hh : s.dbg.halted = false) : exec .step s = .next (finish (dbgResult .notHalted 0 (s.operated 7))) := by
  have hh' : (s.operated 7).dbg.halted = false := hh
  rw [exec, execStep, dbgOp_takes hup hb (.inr hu), hh']
  rfl

theorem exec_response {s : State} (hup : s.islandUp = true) (hb : s.dbg.busy = false) {a : Nat} (ha : a ≤ 7) (w : BitVec 32) :
    exec (.response a w) s = .next (finish (dbgResult .ok 0 ((s.operated 2).updDbg (fun d => { d with response := d.response.set a w })))) := by
  rw [exec, execResponse, dbgOp_takes hup hb (.inl rfl), if_neg (Nat.not_lt.2 ha)]

theorem exec_setMatch {s : State} (hup : s.islandUp = true) (hb : s.dbg.busy = false) (hu : s.dbg.unlocked = true) {a : Nat} (ha : a ≤ 11)
    (w : BitVec 32) :
    exec (.setMatch a w) s = .next (finish (dbgResult .ok 0 ((s.operated 0xC).updDbg (fun d => { d with match_ := d.match_.set a w })))) := by
  rw [exec, execSetMatch, dbgOp_takes hup hb (.inr hu), if_neg (Nat.not_lt.2 ha)]

/-! ### CONVERT (R183, R445) -/

theorem convTo_operated (u t op : Nat) (s : State) : convTo u t (s.operated op) = (convTo u t s).operated op := by
  unfold convTo
  rw [apply_ite (State.operated op)]
  rfl

/-- What is done to a converter that has passed its positions is done to the converter as it then stands. -/
theorem updConv_convTo {u : Nat} (hu : u < 16) (t : Nat) (f : Conv → Conv) (s : State) :
    (convTo u t s).updConv u f = s.updConv u (fun _ => f ((convTo u t s).conv u)) := by
  unfold convTo
  split
  · exact congrArg (fun convs => ({ s with convs } : State)) (Tab.modify_congr rfl)
  · refine congrArg (fun convs => ({ s with convs } : State)) ((Tab.modify_modify _ _ _ _).trans (Tab.modify_congr ?_))
    dsimp only
    rw [State.conv_updConv_same s _ hu]
    rfl

/-- A converter once an urgent conversion has been asked of it (R183). -/
def urgentAsked (c : Nat) (v : Conv) : Conv := if v.urgQ.length < 4 then { v with urgQ := v.urgQ ++ [c] } else { v with urgDrop := true }

theorem urgentRequest_apart {c : Nat} (hc : c < 312) (s : State) :
    (urgentRequest c s).apart = (s.updConv (c % 16) (fun _ => urgentAsked c ((convTo (c % 16) s.clk.now s).conv (c % 16)))).apart := by
  have hu : c % 16 < 16 := Nat.mod_lt c (by decide)
  unfold urgentAsked
  split
  · next hroom => rw [urgentRequest_queued hc hroom, updConv_convTo hu]
  · next hfull => rw [urgentRequest_dropped (.inr (Nat.not_lt.1 hfull)), updConv_convTo hu]

theorem exec_convert {s : State} (hup : s.islandUp = true) (hb : s.dbg.busy = false) (hu : s.dbg.unlocked = true) {c : Nat} (hc : c < 312) :
    exec (.convert c) s = .next (finish (dbgResult .ok 0 (urgentRequest c (s.operated 0xD)))) := by
  have hc' : ¬ 319 < c := by omega
  rw [exec, execConvert, dbgOp_takes hup hb (.inr hu), if_neg hc']

/-! ### READ_MEM and WRITE_MEM (R443) -/

theorem exec_readMem {s : State} (hup : s.islandUp = true) (hb : s.dbg.busy = false) (hu : s.dbg.unlocked = true) {a : BitVec 32}
    (ha : a.toNat < 0x100000) (h4 : a.toNat % 4 = 0) (hopen : tileOf a.toNat = none) :
    exec (.readMem a) s = .next (finish (dbgBusy (dbgResult .ok (BitVec.ofNat 32 (leNat (ramLoad s a.toNat 4))) (parityRead a.toNat (s.operated 8))))) := by
  have hread : busRead a.toNat (s.operated 8) = (some (BitVec.ofNat 32 (leNat (ramLoad s a.toNat 4))), parityRead a.toNat (s.operated 8)) := by
    rw [busRead, if_pos ha, hopen]
    rfl
  rw [exec, execReadMem, dbgOp_takes hup hb (.inr hu), if_neg (by simp [h4]), hread]

theorem exec_readMem_unaligned {s : State} (hup : s.islandUp = true) (hb : s.dbg.busy = false) (hu : s.dbg.unlocked = true) {a : BitVec 32}
    (h4 : a.toNat % 4 ≠ 0) : exec (.readMem a) s = .next (finish (dbgResult .badOp 0 (s.operated 8))) := by
  rw [exec, execReadMem, dbgOp_takes hup hb (.inr hu), if_pos (by simpa using h4)]

/-- A write of all four lanes leaves nothing of the old word. -/
theorem mergeWord_whole (old w : BitVec 32) : mergeWord old w 15 = w := by
  have hmask : ((List.range 4).foldl (fun (m : BitVec 32) k =>
      if (15 : Nat).testBit k then m ||| BitVec.ofNat 32 (255 * 2 ^ (8 * k)) else m) 0) = BitVec.allOnes 32 := by decide
  rw [mergeWord, hmask, BitVec.and_allOnes, BitVec.not_allOnes, BitVec.and_zero, BitVec.zero_or]

theorem openStore_whole (a : Nat) (w : BitVec 32) (s : State) : openStore a w 15 s = { s with led := { s.led with
    ram := Memory.store s.led.ram a (leBytes 4 w.toNat), parityBad := s.led.parityBad.filter (fun x => x != a) } } := by
  rw [openStore, mergeWord_whole]
  rfl

theorem exec_writeMem {s : State} (hup : s.islandUp = true) (hb : s.dbg.busy = false) (hu : s.dbg.unlocked = true) {a : BitVec 32}
    (h4 : a.toNat % 4 = 0) (ha : a.toNat < 0x100000) (hmay : ledgerMay true a.toNat s = .ok) (w : BitVec 32) :
    exec (.writeMem a w) s = .next (finish (dbgBusy (dbgResult .ok 0 (openStore a.toNat w 15 (s.operated 9))))) := by
  have hmay' : ledgerMay true a.toNat (s.operated 9) = .ok := hmay
  have hwrite : busWrite true a.toNat w 15 (s.operated 9) = (.ok, openStore a.toNat w 15 (s.operated 9)) := by
    rw [busWrite, if_pos ha, hmay']
  rw [exec, execWriteMem, dbgOp_takes hup hb (.inr hu), if_neg (by simp [h4]), hwrite]

/-! ### READ_REG and WRITE_REG (R444) -/

theorem exec_readReg {s : State} (hup : s.islandUp = true) (hb : s.dbg.busy = false) (hu : s.dbg.unlocked = true) (hh : s.dbg.halted = true)
    {n : BitVec 32} (hn : n.toNat < 32) : exec (.readReg n) s = .next (finish (dbgResult .ok (s.xreg n.toNat) (s.operated 0xA))) := by
  have hh' : (s.operated 0xA).dbg.halted = true := hh
  rw [exec, execReadReg, dbgOp_takes hup hb (.inr hu), hh']
  exact congrArg (fun t => Host.Outcome.next (finish t)) (if_pos hn)

theorem exec_writeReg {s : State} (hup : s.islandUp = true) (hb : s.dbg.busy = false) (hu : s.dbg.unlocked = true) (hh : s.dbg.halted = true)
    {n : BitVec 32} (hn : n.toNat < 32) (w : BitVec 32) :
    exec (.writeReg n w) s = .next (finish (dbgResult .ok 0 (setX n.toNat w (s.operated 0xB)))) := by
  have hh' : (s.operated 0xB).dbg.halted = true := hh
  rw [exec, execWriteReg, dbgOp_takes hup hb (.inr hu), hh']
  exact congrArg (fun t => Host.Outcome.next (finish t)) (if_pos hn)

theorem exec_writeReg_pc {s : State} (hup : s.islandUp = true) (hb : s.dbg.busy = false) (hu : s.dbg.unlocked = true)
    (hh : s.dbg.halted = true) {w : BitVec 32} (hw : w.getLsbD 0 = false) :
    exec (.writeReg 0x20#32 w) s = .next (finish (dbgResult .ok 0 { s.operated 0xB with core := { s.core with pc := w } })) := by
  have hh' : (s.operated 0xB).dbg.halted = true := hh
  rw [exec, execWriteReg, dbgOp_takes hup hb (.inr hu), hh', hw]
  rfl

theorem exec_readReg_running {s : State} (hup : s.islandUp = true) (hb : s.dbg.busy = false) (hu : s.dbg.unlocked = true)
    (hh : s.dbg.halted = false) (n : BitVec 32) : exec (.readReg n) s = .next (finish (dbgResult .notHalted 0 (s.operated 0xA))) := by
  have hh' : (s.operated 0xA).dbg.halted = false := hh
  rw [exec, execReadReg, dbgOp_takes hup hb (.inr hu), hh']
  rfl

theorem exec_writeReg_running {s : State} (hup : s.islandUp = true) (hb : s.dbg.busy = false) (hu : s.dbg.unlocked = true)
    (hh : s.dbg.halted = false) (n w : BitVec 32) : exec (.writeReg n w) s = .next (finish (dbgResult .notHalted 0 (s.operated 0xB))) := by
  have hh' : (s.operated 0xB).dbg.halted = false := hh
  rw [exec, execWriteReg, dbgOp_takes hup hb (.inr hu), hh']
  rfl

/-- Writing a register changes that register alone. -/
theorem xreg_setX {n : Nat} (hn : n < 32) (w : BitVec 32) (s : State) : (setX n w s).xreg n = (if n = 0 then 0 else w) ∧
    ∀ k, k ≠ n → (setX n w s).xreg k = s.xreg k := by
  unfold setX
  by_cases h0 : n = 0
  · rw [if_pos h0, if_pos h0, h0]
    exact ⟨rfl, fun _ _ => rfl⟩
  · rw [if_neg h0, if_neg h0]
    refine ⟨?_, fun k hk => ?_⟩
    · rw [State.xreg, if_neg h0]
      exact Tab.get_set_same _ _ _ hn
    · rw [State.xreg, State.xreg, Tab.get_set_other _ _ _ _ (Ne.symm hk)]

theorem setX_eq (n : Nat) (w : BitVec 32) (s : State) : setX n w s = { s with core := { s.core with regs := (setX n w s).core.regs } } := by
  unfold setX
  split <;> rfl

theorem xreg_of_core {s t : State} (h : t.core = s.core) (k : Nat) : t.xreg k = s.xreg k := by
  rw [State.xreg, h, State.xreg]

/-- Settles O59: what is lost, captured and barred by the port's flags, an operation by its effect. -/
theorem debugOperations : Obligations.DebugOperations := by
  unfold Obligations.DebugOperations
  refine ⟨fun s hup => ⟨fun c hc hb => ?lost, fun hshown => ?captureBusy, fun hb hl hst => ?capture, fun hb => ⟨?nop, fun a w ha => ?response,
    fun hu c hc => ?locked, fun hu => ⟨?lock, fun hh => ?halt, fun hh => ?resume, fun hh => ?step, fun hh => ?stepRunning,
      fun a w ha => ?setMatch, fun c v hc hv => ?convert⟩⟩⟩,
    fun s hup hb hu => ⟨fun a ha h4 hopen => ?readMem, fun a h4 => ?unaligned, fun a w h4 ha hmay => ?writeMem, fun hh => ⟨fun n hn => ?readReg,
      fun n w hn => ?writeReg, fun w hw => ?writePc⟩, fun hh n w => ⟨?readRunning, ?writeRunning⟩⟩⟩
  case lost =>
    exact ⟨_, exec_op_busy hup hb hc, finish_apart _⟩
  case captureBusy =>
    refine (captureWord_fields (st := 1) ?_ (by decide)).1
    exact if_pos (by simpa using hshown)
  case capture =>
    refine captureWord_fields ?_ hst
    exact if_neg (by simp [hb, hl])
  case nop =>
    exact ⟨_, exec_nop hup hb, finish_apart _⟩
  case response =>
    exact ⟨_, exec_response hup hb ha w, finish_apart _⟩
  case locked =>
    obtain ⟨op, hexec⟩ := exec_op_locked hup hb hu hc
    exact ⟨_, hexec, by rw [finish_apart, finish_dbg]; rfl⟩
  case lock =>
    exact ⟨_, exec_lock hup hb hu, finish_apart _⟩
  case halt =>
    exact ⟨_, exec_halt hup hb hu hh, finish_apart _⟩
  case resume =>
    exact ⟨_, exec_resume hup hb hu hh, finish_apart _⟩
  case step =>
    have hside := stepHart_stepSide (s.operated 7)
    have hpart {α : Type} (f : Fuses × Tab 4 Rail × Tab 1728 Cell × Man × Nat × Nat → α) := congrArg f hside
    refine ⟨_, exec_step hup hb hu hh, by rw [finish_dbg]; rfl, ?_, ?_, ?_, ?_, ?_, ?_⟩
    · rw [finish_dbg]; exact hpart (·.2.2.2.2.2)
    · rw [finish_fuses]; exact hpart (·.1)
    · rw [finish_rails]; exact hpart (·.2.1)
    · rw [finish_cells]; exact hpart (·.2.2.1)
    · rw [finish_man]; exact hpart (·.2.2.2.1)
    · rw [finish_clk]; exact hpart (·.2.2.2.2.1)
  case stepRunning =>
    exact ⟨_, exec_step_running hup hb hu hh, finish_apart _⟩
  case setMatch =>
    exact ⟨_, exec_setMatch hup hb hu ha w, finish_apart _⟩
  case convert =>
    subst hv
    refine ⟨_, exec_convert hup hb hu hc, ?_⟩
    have hasked := congrArg (fun t : State => t.updDbg (fun d => { d with status := 0, rdata := 0 })) (urgentRequest_apart hc (s.operated 0xD))
    have hconv : (convTo (c % 16) (s.operated 0xD).clk.now (s.operated 0xD)).conv (c % 16) = (convTo (c % 16) s.clk.now s).conv (c % 16) := by
      rw [convTo_operated]
      rfl
    rw [hconv] at hasked
    rw [finish_apart]
    exact hasked
  case readMem =>
    refine ⟨_, exec_readMem hup hb hu ha h4 hopen, ?_⟩
    have hread := congrArg (fun t : State => t.updDbg (fun d => { d with
      status := 0, rdata := BitVec.ofNat 32 (leNat (ramLoad s a.toNat 4)), busy := true })) (parityRead_apart a.toNat (s.operated 8))
    rw [finish_apart, finish_led]
    exact hread
  case unaligned =>
    exact ⟨_, exec_readMem_unaligned hup hb hu h4, finish_apart _⟩
  case writeMem =>
    refine ⟨_, exec_writeMem hup hb hu h4 ha hmay w, ?_⟩
    rw [finish_apart, finish_led, openStore_whole]
    exact ⟨rfl, rfl⟩
  case readReg =>
    exact ⟨_, exec_readReg hup hb hu hh hn, finish_apart _⟩
  case writeReg =>
    obtain ⟨hsame, hother⟩ := xreg_setX hn w (s.operated 0xB)
    have hcore : (finish (dbgResult .ok 0 (setX n.toNat w (s.operated 0xB)))).core = (setX n.toNat w (s.operated 0xB)).core := finish_core _
    refine ⟨_, exec_writeReg hup hb hu hh hn w, (xreg_of_core hcore _).trans hsame, fun k hk => (xreg_of_core hcore k).trans (hother k hk), ?_⟩
    rw [finish_apart, hcore, setX_eq]
    rfl
  case writePc =>
    exact ⟨_, exec_writeReg_pc hup hb hu hh hw, finish_apart _⟩
  case readRunning =>
    exact ⟨_, exec_readReg_running hup hb hu hh n, finish_apart _⟩
  case writeRunning =>
    exact ⟨_, exec_writeReg_running hup hb hu hh n w, finish_apart _⟩

end Sys2Proof.Machine
end

section
/-! SUPPORT. CELL_RECHARACTERIZE, the opening of its window, its searches and retests (R286 to R289). -/

namespace Sys2Proof.Machine

/-! ### What changes made one by one along a list make of one place -/

/-- In a list that names each place once, the change of a place relates what is read of it before all changes and after them. -/
theorem forEach_reaches {α : Type} {f : Nat → State → State} {read : Nat → State → α} {R : α → α → Prop}
    (hother : ∀ r q s, q ≠ r → read q (f r s) = read q s) {q : Nat} (hsame : ∀ s, R (read q s) (read q (f q s))) :
    ∀ (l : List Nat) (s : State), l.Nodup → q ∈ l → R (read q s) (read q (forEach l f s))
  | [], _, _, hq => absurd hq List.not_mem_nil
  | r :: l, s, hl, hq => by
    obtain ⟨hrl, hl'⟩ := List.nodup_cons.1 hl
    rw [forEach_cons]
    rcases List.mem_cons.1 hq with rfl | hql
    · rw [forEach_read_other hother l (f q s) hrl]
      exact hsame s
    · have hqr : q ≠ r := fun heq => hrl (heq ▸ hql)
      have hrest := forEach_reaches hother hsame l (f r s) hl' hql
      rw [hother r q s hqr] at hrest
      exact hrest

/-! ### What is noted of a cluster (R288, R289) -/

/-- What is noted of a cluster is what is then known of it. -/
theorem resOf_recharNote {n : Nat} {f : RecharRes → RecharRes} (hf : ∀ x, (f x).n = x.n) (r : Rechar) :
    (recharNote n f r).resOf n = f (r.resOf n) := by
  unfold recharNote Rechar.resOf
  split
  · next hany =>
    have hkeeps : ((fun x : RecharRes => x.n == n) ∘ fun x => if (x.n == n) = true then f x else x) = fun x => x.n == n := by
      funext x
      dsimp only [Function.comp]
      split
      · rw [hf]
      · rfl
    obtain ⟨y, hy⟩ := List.find?_isSome.2 (List.any_eq_true.1 hany) |> Option.isSome_iff_exists.1
    have hyn : (y.n == n) = true := List.find?_some (p := fun x : RecharRes => x.n == n) hy
    dsimp only
    rw [List.find?_map, hkeeps, hy, Option.map_some, if_pos hyn]
    rfl
  · next hnone =>
    have hfind : r.res.find? (fun x => x.n == n) = none := List.find?_eq_none.2 (fun x hx hn => hnone (List.any_eq_true.2 ⟨x, hx, hn⟩))
    have hn : ((f { n }).n == n) = true := by rw [hf]; exact beq_self_eq_true n
    dsimp only
    rw [List.find?_append, hfind, Option.none_or, List.find?_cons_of_pos (p := fun x : RecharRes => x.n == n) hn]
    rfl

/-! ### CELL_RECHARACTERIZE (R286) -/

theorem any_maskBits_false {m : Nat} {s : State} {bad : Cluster → Bool} (h : ∀ n, n ∈ maskBits 144 m → bad (s.cluster n) = false) :
    (maskBits 144 m).any (fun n => bad (s.cluster n)) = false := List.any_eq_false.2 (fun n hn => by simp [h n hn])

theorem waking_of_no_trans {c : Cluster} (h : c.s.trans = none) : c.waking = false := by
  rw [Cluster.waking, h]

theorem exec_cellRecharacterize {p : Packet} {m fl w hn hl : Nat} {s : State} (h : s.ready p = true) (hlen : p.payload.length = 48)
    (hm : m = field p.payload 0 18) (hfl : fl = field p.payload 18 1) (hw : w = field p.payload 20 6) (hhn : hn = field p.payload 28 4)
    (hhl : hl = field p.payload 32 4) (hne : m ≠ 0) (hfl1 : 1 ≤ fl) (hfl3 : fl ≤ 3) (hz1 : zeros p.payload 19 1 = true)
    (hz2 : zeros p.payload 26 2 = true) (hz3 : zeros p.payload 36 12 = true) (hedge : s.clk.stage + 2 ≤ w) (hnow : hn ≠ 0xFFFFFFFF)
    (hprev : hl ≠ 0xFFFFFFFF → hl ≤ hn)
    (hcl : ∀ n, n ∈ maskBits 144 m → (s.cluster n).s.st ≠ .dormant ∧ (s.cluster n).s.trans = none ∧ (s.cluster n).inWake = false ∧
      (s.cluster n).d.st = .none ∧ (fl % 2 = 1 → (s.cluster n).s.st ≠ .retain)) (hrech : s.rech = none) :
    exec (.cellRecharacterize p) s = .next (finish (setDue p (w + 112) (markEffect p .hardware
      { s.took with rech := some { pkt := p, mask := m, curve := fl % 2 == 1, cellsOn := fl / 2 == 1, w, now := hn
                                   prev := if hl = 0xFFFFFFFF then none else some hl } }))) := by
  have hdormant := any_maskBits_false (m := m) (s := s) (bad := fun c => c.s.st == .dormant) (fun n hin => by simpa using (hcl n hin).1)
  have hwakes := any_maskBits_false (m := m) (s := s) (bad := fun c => c.waking || c.inWake || c.s.trans.isSome) (fun n hin => by
    obtain ⟨-, htrans, hwake, -⟩ := hcl n hin
    simp [waking_of_no_trans htrans, hwake, htrans])
  have hdrone := any_maskBits_false (m := m) (s := s) (bad := fun c => c.d.st != .none) (fun n hin => by
    obtain ⟨-, -, -, hd, -⟩ := hcl n hin
    simp [hd])
  have hretain : (fl % 2 == 1 && (maskBits 144 m).any (fun n => (s.cluster n).s.st == .retain)) = false := by
    by_cases hcurve : fl % 2 = 1
    · rw [any_maskBits_false (bad := fun c => c.s.st == .retain) (fun n hin => by
        obtain ⟨-, -, -, -, hr⟩ := hcl n hin
        simpa using hr hcurve), Bool.and_false]
    · simp [hcurve]
  have hparam : (m == 0 || fl == 0 || decide (3 < fl) || !zeros p.payload 19 1 || !zeros p.payload 26 2 || !zeros p.payload 36 12
      || decide (w < s.clk.stage + 2) || hn == 0xFFFFFFFF || (hl != 0xFFFFFFFF && decide (hn < hl))) = false := by
    simpa [hne, hz1, hz2, hz3, hnow, Nat.not_lt.2 hfl3, Nat.not_lt.2 hedge, Nat.ne_of_gt hfl1] using hprev
  subst hm hfl hw hhn hhl
  rw [exec, execCellRecharacterize, inTurn_of_ready h]
  dsimp only
  rw [command_effect (fwRuns_of_ready h)]
  simp only [firstFail, hlen, hparam, hdormant, hwakes, hdrone, hretain, hrech]
  rfl

/-! ### The window opens (R287) -/

/-- A state without its clusters, and without what waits to fall in a later cycle and what every command may change. -/
def State.offClusters (s : State) : State := { s.apart with clk := { s.clk with soon := [] }, cl := State.reset.cl }

theorem offClusters_of_beside {n : Nat} {s t : State} (h : t.beside n = s.beside n) : t.offClusters = s.offClusters := by
  have hview := congrArg State.offClusters h
  exact hview

theorem apart_of_offClusters {s t : State} (h : t.offClusters = s.offClusters) :
    t.apart = ({ s with cl := t.cl, clk := { s.clk with soon := t.clk.soon } } : State).apart := by
  have hback := congrArg (fun u : State => { u with cl := t.cl, clk := { u.clk with soon := t.clk.soon } }) h
  exact hback

/-- What a window keeps of a cluster: that it belongs to it, and that it was Active (R287). -/
def Cluster.marks (c : Cluster) : Bool × Bool := (c.s.inRechar, c.s.recharWas)

theorem updCl_marks {n : Nat} (hn : n < 144) {f : Cluster → Cluster} (hf : ∀ c, (f c).marks = c.marks) (s : State) :
    ((s.updCl n f).cluster n).marks = (s.cluster n).marks := by
  rw [State.cluster_updCl_same s hn, hf]

theorem echoed_marks {n : Nat} (hn : n < 144) (tr : Trans) (last : Bool) (s : State) :
    ((echoed n tr last s).cluster n).marks = (s.cluster n).marks := by
  cases last with
  | true => rw [Cluster.marks, echoed_last_standing hn]; rfl
  | false => exact updCl_marks hn (by intro _; rfl) s

theorem driveCode_marks {n : Nat} (hn : n < 144) (free : Bool) (tr : Trans) (s : State) :
    ((driveCode free n tr s).cluster n).marks = (s.cluster n).marks := by
  unfold driveCode
  dsimp only
  repeat' split
  · exact updCl_marks hn (by intro _; rfl) s
  · exact echoed_marks hn tr _ s
  · exact updCl_marks hn (by intro _; rfl) s

/-- The start of a transition leaves the marks of the window. -/
theorem startTrans_marks {n : Nat} (hn : n < 144) (g : CState) (d : Nat) (s : State) :
    ((startTrans n g d s).cluster n).marks = (s.cluster n).marks := by
  unfold startTrans
  dsimp only
  split
  · rfl
  · split
    · exact updCl_marks hn (by intro _; rfl) s
    · split
      · exact (updCl_marks hn (by intro _; rfl) _).trans (updCl_marks hn (by intro _; rfl) s)
      · split
        · exact (updCl_marks hn (by intro _; rfl) _).trans (updCl_marks hn (by intro _; rfl) s)
        · exact (driveCode_marks hn _ _ _).trans (updCl_marks hn (by intro _; rfl) s)

/-- One cluster enters the window (R287). -/
def recharEnter (n : Nat) (s : State) : State :=
  if (s.cluster n).s.st == .active then
    startTrans n .rest 0 (s.updCl n (fun c => { c with s := { c.s with inRechar := true, recharWas := true } }))
  else s.updCl n (fun c => { c with s := { c.s with inRechar := true, recharWas := false } })

theorem recharEnter_beside (n : Nat) (s : State) : (recharEnter n s).beside n = s.beside n := by
  unfold recharEnter
  split
  · exact (startTrans_beside n .rest 0 _).trans (updCl_beside (by intro _; rfl) s)
  · exact updCl_beside (by intro _; rfl) s

theorem recharEnter_other (n q : Nat) (s : State) (hq : q ≠ n) : (recharEnter n s).cluster q = s.cluster q :=
  cluster_of_beside (recharEnter_beside n s) hq

theorem recharEnter_marks {n : Nat} (hn : n < 144) (s : State) :
    ((recharEnter n s).cluster n).marks = (true, (s.cluster n).s.st == .active) := by
  unfold recharEnter
  split
  · next hactive => rw [startTrans_marks hn, State.cluster_updCl_same s hn, hactive]; rfl
  · next hrest => rw [State.cluster_updCl_same s hn, Bool.eq_false_iff.2 hrest]; rfl

theorem recharOpen_eq (r : Rechar) (s : State) : recharOpen r s = { forEach r.clusters recharEnter s with rech := some { r with step := 1 } } := by
  have hone : (fun n (s : State) =>
      if ((s.cluster n).s.st == .active) = true then
        startTrans n .rest 0 (s.updCl n (fun c => { c with s := { c.s with inRechar := true, recharWas := (s.cluster n).s.st == .active } }))
      else s.updCl n (fun c => { c with s := { c.s with inRechar := true, recharWas := (s.cluster n).s.st == .active } })) = recharEnter := by
    funext n u
    unfold recharEnter
    cases (u.cluster n).s.st == .active <;> rfl
  unfold recharOpen
  dsimp only
  rw [hone]

/-- The clusters of a window are distinct, and clusters of the chip. -/
theorem clusters_nodup (r : Rechar) : r.clusters.Nodup := maskBits_nodup 144 r.mask

theorem lt_of_mem_clusters {r : Rechar} {k : Nat} (h : k ∈ r.clusters) : k < 144 := (mem_maskBits.1 h).1

/-- A window that opens takes its clusters and no other. -/
theorem recharOpen_cluster (r : Rechar) (s : State) (k : Nat) : if k ∈ r.clusters
    then ((recharOpen r s).cluster k).s.inRechar = true ∧ (((recharOpen r s).cluster k).s.recharWas = true ↔ (s.cluster k).s.st = .active)
    else (recharOpen r s).cluster k = s.cluster k := by
  rw [recharOpen_eq]
  split
  · next hk =>
    have hmarks := forEach_reaches (read := fun q u => u.cluster q) (R := fun c c' => c'.marks = (true, c.s.st == .active))
      recharEnter_other (recharEnter_marks (lt_of_mem_clusters hk)) r.clusters s (clusters_nodup r) hk
    obtain ⟨hin, hwas⟩ := Prod.mk.inj hmarks
    exact ⟨hin, (Bool.eq_iff_iff.1 hwas).trans (by rw [beq_iff_eq])⟩
  · next hk => exact forEach_read_other (R := fun q u => u.cluster q) recharEnter_other r.clusters s hk

theorem recharOpen_rest (r : Rechar) (s : State) :
    (recharOpen r s).offClusters = ({ s with rech := some { r with step := 1 } } : State).offClusters := by
  have hview := forEach_keeps State.offClusters recharEnter (fun n u => offClusters_of_beside (recharEnter_beside n u)) r.clusters s
  have hback := congrArg (fun v : State => { v with rech := some { r with step := 1 } }) hview
  rw [recharOpen_eq]
  exact hback

end Sys2Proof.Machine
end

section
/-! SUPPORT. The searches, the retests and the end of a recharacterisation window (R287 to R290). -/

namespace Sys2Proof.Machine

/-! ### Which step a window takes (R287) -/

theorem exec_recharWindowStep_open {n : ClusterId} {pass : Bool} {bad : List Nat} {r : Rechar} {s : State} (hr : s.rech = some r)
    (hstart : r.w ≤ s.clk.stage) (h0 : r.step = 0) : exec (.recharWindowStep n pass bad) s = .next (finish (recharOpen r s)) := by
  rw [exec, execRecharWindowStep, hr]
  dsimp only
  rw [if_neg (Nat.not_lt.2 hstart), if_pos h0]
  rfl

theorem exec_recharWindowStep_report {n : ClusterId} {pass : Bool} {bad : List Nat} {r : Rechar} {s : State} (hr : s.rech = some r)
    (hstart : r.w ≤ s.clk.stage) (h1 : r.step = 1) (hst : s.clk.stage < r.w + 90) :
    exec (.recharWindowStep n pass bad) s = .next (finish (recharReport r n pass bad s)) := by
  rw [exec, execRecharWindowStep, hr]
  dsimp only
  rw [if_neg (Nat.not_lt.2 hstart), if_neg (by omega), if_pos (by simp [h1, hst])]
  rfl

theorem exec_recharWindowStep_write {n : ClusterId} {pass : Bool} {bad : List Nat} {r : Rechar} {s : State} (hr : s.rech = some r)
    (hstart : r.w ≤ s.clk.stage) (h1 : r.step = 1) (hst : r.w + 90 ≤ s.clk.stage) :
    exec (.recharWindowStep n pass bad) s = .next (finish (recharWrite r s)) := by
  rw [exec, execRecharWindowStep, hr]
  dsimp only
  rw [if_neg (Nat.not_lt.2 hstart), if_neg (by omega), if_neg (by simp [hst]), if_pos h1]
  rfl

theorem exec_recharWindowStep_return {n : ClusterId} {pass : Bool} {bad : List Nat} {r : Rechar} {s : State} (hr : s.rech = some r)
    (hstart : r.w ≤ s.clk.stage) (h3 : r.step = 3) (hst : r.w + 96 ≤ s.clk.stage)
    (hcur : ∀ k, k ∈ r.clusters → (s.cluster k).v.sp.cur = (s.cluster k).v.target) :
    exec (.recharWindowStep n pass bad) s = .next (finish (recharReturn r s)) := by
  have hall : r.clusters.all (fun n => decide ((s.cluster n).v.sp.cur = (s.cluster n).v.target) || (s.cluster n).s.st == .dormant) = true :=
    List.all_eq_true.2 (fun k hk => by simp [hcur k hk])
  rw [exec, execRecharWindowStep, hr]
  dsimp only
  rw [if_neg (Nat.not_lt.2 hstart), if_neg (by omega), if_neg (by simp [h3]), if_neg (by omega), if_pos h3, if_pos (by simp [hall, hst])]
  rfl

theorem exec_recharWindowStep_end {n : ClusterId} {pass : Bool} {bad : List Nat} {r : Rechar} {s : State} (hr : s.rech = some r)
    (hstart : r.w ≤ s.clk.stage) (h4 : r.step = 4)
    (hset : ∀ k, k ∈ r.clusters → (s.cluster k).s.trans = none ∨ (s.cluster k).s.hsFault = true) :
    exec (.recharWindowStep n pass bad) s = .next (finish (recharEnd r s)) := by
  have hall : r.clusters.all (fun n => (s.cluster n).s.trans.isNone || (s.cluster n).s.hsFault) = true :=
    List.all_eq_true.2 (fun k hk => by simpa using hset k hk)
  rw [exec, execRecharWindowStep, hr]
  dsimp only
  rw [if_neg (Nat.not_lt.2 hstart), if_neg (by omega), if_neg (by simp [h4]), if_neg (by omega), if_neg (by omega), if_pos hall]
  rfl

/-! ### The search of a cluster (R288) -/

/-- What a report of the monitors changes: what is noted, and clusters. -/
theorem searchPoint_to {n : Nat} {r : Rechar} {s : State} (todo : List Nat) (h : s.rech = some r) : ∃ r' cl,
    searchPoint n todo s = { s with rech := some r', cl } ∧ (r'.resOf n).todo = todo ∧ (r'.resOf n).pts = (r.resOf n).pts := by
  unfold searchPoint
  rw [h]
  cases todo with
  | nil => exact ⟨_, s.cl, rfl, by rw [resOf_recharNote (by intro _; rfl)], by rw [resOf_recharNote (by intro _; rfl)]⟩
  | cons p rest => exact ⟨_, _, rfl, by rw [resOf_recharNote (by intro _; rfl)], by rw [resOf_recharNote (by intro _; rfl)]⟩

theorem searchResult_to {n : Nat} {r : Rechar} {s : State} (q : RecharPoint) (rest : List Nat) (h : s.rech = some r) : ∃ r' cl,
    searchResult n q rest s = { s with rech := some r', cl } ∧ (r'.resOf n).todo = rest ∧ (r'.resOf n).pts = (r.resOf n).pts ++ [q] := by
  obtain ⟨r', cl, heq, htodo, hpts⟩ := searchPoint_to (n := n) (r := recharNote n (fun x => { x with pts := x.pts ++ [q] }) r)
    (s := { s with rech := some (recharNote n (fun x => { x with pts := x.pts ++ [q] }) r) }) rest rfl
  rw [resOf_recharNote (by intro _; rfl)] at hpts
  rw [searchResult, h]
  exact ⟨r', cl, heq, htodo, hpts⟩

theorem searchUp_to {n : Nat} {r : Rechar} {s : State} (v : Int) (h : s.rech = some r) : ∃ r',
    searchUp n v s = ({ s with rech := some r' } : State).updCl n (fun c => { c with v := { c.v with sp := c.v.sp.aim s.clk.now v } }) ∧
      r'.resOf n = { r.resOf n with trial := v, runFrom := none } := by
  rw [searchUp, h]
  exact ⟨_, rfl, resOf_recharNote (by intro _; rfl) r⟩

/-- A run that was due is reported to the search of its cluster. -/
theorem recharReport_run {n : ClusterId} {r : Rechar} {s : State} (hst : s.clk.stage < r.w + 80) (hmem : r.mask.testBit n = true)
    (hsearch : searchable (s.cluster n) = true) (hrun : ∃ k, (r.resOf n).runFrom = some k ∧ k < s.clk.paceNo) (pass : Bool)
    (bad : List Nat) : recharReport r n pass bad s = searchRun n pass (r.resOf n) s := by
  obtain ⟨k, hfrom, hk⟩ := hrun
  rw [recharReport, if_neg (by simp [hmem]), if_pos hst, hfrom]
  dsimp only
  rw [if_pos (by simp [hk, hsearch])]

theorem searchRun_pass {n : Nat} {x : RecharRes} {p : Nat} {rest : List Nat} (htodo : x.todo = p :: rest) (s : State) :
    searchRun n true x s = searchResult n { point := p, pass := some x.trial.toNat } rest s := by
  rw [searchRun, htodo]
  rfl

theorem searchRun_last {n : Nat} {x : RecharRes} {p : Nat} {rest : List Nat} {s : State} (htodo : x.todo = p :: rest)
    (hlast : (((s.cluster n).v.curve.get p).vmin : Int) + 24 ≤ x.trial) :
    searchRun n false x s = raise 0x0A14 n [BitVec.ofNat 8 p] (searchResult n { point := p, pass := none } rest s) := by
  rw [searchRun, htodo]
  exact if_pos hlast

theorem searchRun_up {n : Nat} {x : RecharRes} {p : Nat} {rest : List Nat} {s : State} (htodo : x.todo = p :: rest)
    (hup : x.trial < (((s.cluster n).v.curve.get p).vmin : Int) + 24) : searchRun n false x s = searchUp n (x.trial + 1) s := by
  rw [searchRun, htodo]
  exact if_neg (Int.not_le.2 hup)

/-! ### The retest of cells (R289) -/

theorem recharReport_retest {n : ClusterId} {r : Rechar} {s : State} (hlo : r.w + 80 ≤ s.clk.stage) (hmem : r.mask.testBit n = true)
    (hcells : r.cellsOn = true) (hfirst : (r.resOf n).retestFrom = none) (pass : Bool) (bad : List Nat) :
    recharReport r n pass bad s = retestBegin n bad r s := by
  rw [recharReport, if_neg (by simp [hmem]), if_neg (Nat.not_lt.2 hlo), if_pos (by simp [hcells, hfirst])]

/-- What the step of each element of a list leaves, the steps of the list leave. -/
theorem forEach_keeps_of_mem {α β : Type} {P : State → β} {f : α → State → State} :
    ∀ {l : List α}, (∀ a ∈ l, ∀ s, P (f a s) = P s) → ∀ s, P (forEach l f s) = P s
  | [], _, _ => rfl
  | a :: _, h, s =>
    (forEach_keeps_of_mem (fun b hb => h b (List.mem_cons_of_mem a hb)) (f a s)).trans (h a List.mem_cons_self s)

/-- A cell under retest (R289). -/
def retested (v : Int) (c : Cell) : Cell :=
  { c with mode := .regulate, retest := true, share := calShare v c.pts, openRun := 0, shareRun := 0 }

/-- The cells of cluster `n` by their places enter the retest. -/
def retestPlaced (n : Nat) (v : Int) (ks : List Nat) (s : State) : State := forEach ks (fun k s => s.updCell (12 * n + k) (retested v)) s

theorem retestPlaced_eq (n : Nat) (v : Int) (ks : List Nat) (s : State) : retestPlaced n v ks s = { s with cells := (retestPlaced n v ks s).cells } := by
  have hview := forEach_keeps (fun u : State => ({ u with cells := s.cells } : State)) (fun k u => u.updCell (12 * n + k) (retested v))
    (fun _ _ => rfl) ks s
  have hback := congrArg (fun u : State => ({ u with cells := (retestPlaced n v ks s).cells } : State)) hview
  exact hback

theorem cell_updCell_place {n k : Nat} (v : Int) (s : State) {q : Nat} (h : q ≠ k) :
    (s.updCell (12 * n + k) (retested v)).cell (12 * n + q) = s.cell (12 * n + q) :=
  State.cell_updCell_other s _ (by omega)

/-- A retest takes the cells that it names. -/
theorem retestPlaced_cell {n : Nat} {v : Int} {ks : List Nat} (hn : n < 144) (hks : ks.Nodup) (hlt : ∀ k ∈ ks, k < 12) (s : State) (c : Nat) :
    (retestPlaced n v ks s).cell c = if c / 12 = n ∧ c % 12 ∈ ks then retested v (s.cell c) else s.cell c := by
  split
  · next hc =>
    obtain ⟨hcn, hck⟩ := hc
    have hplace : c = 12 * n + c % 12 := by omega
    have hreach := forEach_reaches (f := fun k s => s.updCell (12 * n + k) (retested v)) (read := fun k u => u.cell (12 * n + k))
      (R := fun x y => y = retested v x) (fun k q u h => cell_updCell_place v u h)
      (fun u => State.cell_updCell_same u (by have := hlt _ hck; omega) _) ks s hks hck
    rw [hplace]
    exact hreach
  · next hc =>
    refine forEach_keeps_of_mem (P := fun u => u.cell c) (fun k hk u => State.cell_updCell_other u _ (fun heq => hc ?_)) s
    have hk12 := hlt k hk
    have hck : c % 12 = k := by omega
    exact ⟨by omega, by rw [hck]; exact hk⟩

theorem retestCells_nodup (s : State) (n : Nat) (bad : List Nat) : (retestCells s n bad).Nodup := List.nodup_range.filter _

theorem lt_of_mem_retestCells {s : State} {n k : Nat} {bad : List Nat} (h : k ∈ retestCells s n bad) : k < 12 :=
  List.mem_range.1 (List.mem_of_mem_filter h)

/-- A retest begins with the cells that it takes and its first pace. -/
theorem retestBegin_eq (n : Nat) (bad : List Nat) (r : Rechar) (s : State) : ∃ r',
    retestBegin n bad r s = { s with cells := (retestPlaced n (s.cluster n).v.sp.cur (retestCells s n bad) s).cells, rech := some r' } ∧
      (r'.resOf n).cells = retestCells s n bad ∧ (r'.resOf n).retestFrom = some (s.clk.paceNo + 1) := by
  have hplaced := retestPlaced_eq n (s.cluster n).v.sp.cur (retestCells s n bad) s
  have hpace : (retestPlaced n (s.cluster n).v.sp.cur (retestCells s n bad) s).clk = s.clk := by rw [hplaced]
  refine ⟨recharNote n (fun x => { x with cells := retestCells s n bad, retestFrom := some (s.clk.paceNo + 1) }) r, ?_, ?_, ?_⟩
  · have hset := congrArg (fun u : State => ({ u with
      rech := some (recharNote n (fun x => { x with cells := retestCells s n bad, retestFrom := some (s.clk.paceNo + 1) }) r) } : State)) hplaced
    rw [retestBegin, ← hpace]
    rw [← hpace] at hset
    exact hset
  · rw [resOf_recharNote (by intro _; rfl)]
  · rw [resOf_recharNote (by intro _; rfl)]

end Sys2Proof.Machine
end

section
/-! SUPPORT. The tables that a recharacterisation writes, the return of its clusters and its end (R287 to R290). -/

namespace Sys2Proof.Machine

/-! ### What the writing of the tables leaves (R287 to R289) -/

/-- What the tables that are written for other clusters leave of cluster `k` and of the rest of the block: all but the clusters, their
cells, the free values drawn and the tables themselves. -/
def State.tableSide (k : Nat) (s : State) : State × Cluster :=
  ({ s.apart with
      cl := State.reset.cl, cells := State.reset.cells, freeCount := 0
      led := { s.led with ram := [], tiles := State.reset.led.tiles, tileBuf := [] } }, s.cluster k)

theorem apart_of_tableSide {k : Nat} {s t : State} (h : t.tableSide k = s.tableSide k) : t.apart = ({ s with
    cl := t.cl, cells := t.cells, freeCount := t.freeCount
    led := { s.led with ram := t.led.ram, tiles := t.led.tiles, tileBuf := t.led.tileBuf } } : State).apart := by
  have hback := congrArg (fun u : State × Cluster => { u.1 with
    cl := t.cl, cells := t.cells, freeCount := t.freeCount
    led := { u.1.led with ram := t.led.ram, tiles := t.led.tiles, tileBuf := t.led.tileBuf } }) h
  exact hback

theorem cluster_of_tableSide {k : Nat} {s t : State} (h : t.tableSide k = s.tableSide k) : t.cluster k = s.cluster k := congrArg Prod.snd h

theorem tableSide_of_apart {s t : State} (h : t.apart = s.apart) (k : Nat) : t.tableSide k = s.tableSide k := by
  have hview := congrArg (State.tableSide k) h
  exact hview

theorem updCl_tableSide {n k : Nat} (hk : k ≠ n) (f : Cluster → Cluster) (s : State) : (s.updCl n f).tableSide k = s.tableSide k :=
  Prod.ext rfl (State.cluster_updCl_other s f hk)

theorem updCell_tableSide (k c : Nat) (f : Cell → Cell) (s : State) : (s.updCell c f).tableSide k = s.tableSide k := rfl

theorem sealTile_tableSide (k t : Nat) (b : List Byte) (s : State) : (sealTile t b s).tableSide k = s.tableSide k := rfl

theorem writeCurve_tableSide (k n : Nat) (s : State) : (writeCurve n s).tableSide k = s.tableSide k := sealTile_tableSide k _ _ s

theorem takeBrackets_tableSide (k t : Nat) (b : List Byte) (s : State) : (takeBrackets t b s).tableSide k = s.tableSide k :=
  forEach_keeps (State.tableSide k) _ (fun _ u => updCell_tableSide k _ _ u) _ s

theorem writeCal_tableSide (k : Nat) (r : Rechar) (c : Nat) (pts : List (Nat × Nat)) (s : State) :
    (writeCal r c pts s).tableSide k = s.tableSide k := by
  unfold writeCal
  dsimp only
  split
  · rfl
  · exact (takeBrackets_tableSide k _ _ _).trans (sealTile_tableSide k _ _ _)

theorem retestFail_tableSide (k i : Nat) (s : State) : (retestFail i s).tableSide k = s.tableSide k := rfl

/-- The calibration points of a cluster's live cells leave every other cluster (R288 step 5). -/
theorem writeCals_tableSide (k : Nat) (r : Rechar) (live : List Nat) (good : List (Nat × Nat)) (s : State) :
    (if good.isEmpty then s else forEach live (fun i s => writeCal r i good s) s).tableSide k = s.tableSide k := by
  split
  · rfl
  · exact forEach_keeps (State.tableSide k) _ (fun i u => writeCal_tableSide k r i good u) live s

theorem writeSearched_tableSide {n k : Nat} (hk : k ≠ n) (r : Rechar) (x : RecharSum × State) :
    (writeSearched r n x).2.tableSide k = x.2.tableSide k := by
  obtain ⟨a, s⟩ := x
  rw [writeSearched]
  extract_lets new gf vo raised fails curved written live good a1 measured a2 vn rem aged told a3 a4
  have haged : aged.tableSide k = s.tableSide k :=
    (updCl_tableSide hk _ measured).trans ((writeCals_tableSide k r live good written).trans
      ((writeCurve_tableSide k n curved).trans (updCl_tableSide hk _ s)))
  have htold : told.tableSide k = s.tableSide k := by
    unfold told
    clear_value rem
    cases rem with
    | none => exact haged
    | some h =>
      dsimp only
      split
      · exact (tableSide_of_apart (raise_apart _ _ _ aged) k).trans haged
      · exact haged
  split
  · rfl
  · exact htold

theorem recountCells_tableSide {n k : Nat} (hk : k ≠ n) (s : State) : (recountCells n s).tableSide k = s.tableSide k :=
  updCl_tableSide hk _ s

theorem returnCells_tableSide {n k : Nat} (hk : k ≠ n) (r : Rechar) (x : RecharSum × State) :
    (returnCells r n x).2.tableSide k = x.2.tableSide k := by
  obtain ⟨a, s⟩ := x
  have hfails (l : List Nat) (u : State) : (forEach l (fun i u => retestFail (12 * n + i) u) u).tableSide k = u.tableSide k :=
    forEach_keeps (State.tableSide k) _ (fun i u => retestFail_tableSide k (12 * n + i) u) l u
  have hback {f : Nat → State → Cell → Cell} {g : Nat → Cluster → Cluster} (l : List Nat) (u : State) :
      (forEach l (fun i u => (u.updCell (12 * n + i) (f i u)).updCl n (g i)) u).tableSide k = u.tableSide k :=
    forEach_keeps (State.tableSide k) _ (fun i u => (updCl_tableSide hk (g i) _).trans (updCell_tableSide k _ _ u)) l u
  rw [returnCells]
  dsimp only
  split
  · exact (updCl_tableSide hk _ _).trans ((recountCells_tableSide hk _).trans ((hback _ _).trans (hfails _ s)))
  · exact (recountCells_tableSide hk _).trans ((hback _ _).trans (hfails _ s))

/-- What each step along a list of clusters without `k` leaves of cluster `k` and of the rest, the steps of the list leave. -/
theorem foldl_tableSide {f : RecharSum × State → Nat → RecharSum × State} {k : Nat}
    (h : ∀ n x, k ≠ n → (f x n).2.tableSide k = x.2.tableSide k) :
    ∀ (l : List Nat) (x : RecharSum × State), k ∉ l → (l.foldl f x).2.tableSide k = x.2.tableSide k
  | [], _, _ => rfl
  | n :: l, x, hk => by
    obtain ⟨hkn, hkl⟩ := List.ne_and_not_mem_of_not_mem_cons hk
    exact (foldl_tableSide h l (f x n) hkl).trans (h n x hkn)

/-- The tables as they are written for the clusters of a window. -/
theorem recharWrite_tableSide {r : Rechar} {k : Nat} (hk : k ∉ r.clusters) (s : State) : ∃ data,
    (recharWrite r s).tableSide k = ({ s with rech := some { r with step := 3, data := data } } : State).tableSide k := by
  have hsearched (x : RecharSum × State) := foldl_tableSide (f := fun x n => writeSearched r n x) (fun n x h => writeSearched_tableSide h r x) r.clusters x hk
  have hreturned (x : RecharSum × State) := foldl_tableSide (f := fun x n => returnCells r n x) (fun n x h => returnCells_tableSide h r x) r.clusters x hk
  unfold recharWrite
  extract_lets curves cells done
  have hcurves : curves.2.tableSide k = s.tableSide k := by
    unfold curves
    split
    · exact hsearched ({}, s)
    · rfl
  have hcells : cells.2.tableSide k = s.tableSide k := by
    unfold cells
    split
    · exact (hreturned curves).trans hcurves
    · exact hcurves
  have hdone : done.tableSide k = s.tableSide k :=
    (forEach_read_other (R := fun q u => u.tableSide q) (fun n q u hq => updCl_tableSide hq _ u) r.clusters cells.2 hk).trans hcells
  have hback := congrArg (fun v : State × Cluster => (({ v.1 with rech := some { r with step := 3, data := recharData r cells.1 } } : State), v.2)) hdone
  exact ⟨_, hback⟩

/-! ### The clusters return, and the window ends (R287, R290) -/

/-- One cluster of a window returns to Active if it was. -/
def recharBack (n : Nat) (s : State) : State := if (s.cluster n).s.recharWas then startTrans n .active 0 s else s

theorem recharReturn_eq (r : Rechar) (s : State) : recharReturn r s = { forEach r.clusters recharBack s with rech := some { r with step := 4 } } := rfl

theorem recharBack_beside (n : Nat) (s : State) : (recharBack n s).beside n = s.beside n := by
  unfold recharBack
  split
  · exact startTrans_beside n .active 0 s
  · rfl

/-- The return of the clusters of a window changes no other. -/
theorem recharReturn_other {r : Rechar} {k : Nat} (hk : k ∉ r.clusters) (s : State) : (recharReturn r s).cluster k = s.cluster k := by
  rw [recharReturn_eq]
  exact forEach_read_other (R := fun q u => u.cluster q) (fun n _ u hq => cluster_of_beside (recharBack_beside n u) hq) r.clusters s hk

theorem recharReturn_rest (r : Rechar) (s : State) :
    (recharReturn r s).offClusters = ({ s with rech := some { r with step := 4 } } : State).offClusters := by
  have hview := forEach_keeps State.offClusters recharBack (fun n u => offClusters_of_beside (recharBack_beside n u)) r.clusters s
  have hback := congrArg (fun v : State => { v with rech := some { r with step := 4 } }) hview
  rw [recharReturn_eq]
  exact hback

/-- The clusters of a window are released from it. -/
def recharReleased (r : Rechar) (s : State) : State :=
  { forEach r.clusters (fun n s => s.updCl n (fun c => { c with s := { c.s with inRechar := false, recharWas := false } })) s with rech := none }

theorem recharEnd_eq (r : Rechar) (s : State) : recharEnd r s = reply r.pkt 0x0A03 .ok r.data (recharReleased r s) := rfl

theorem recharReleased_eq (r : Rechar) (s : State) : recharReleased r s = { s with rech := none, cl := (recharReleased r s).cl } := by
  have hview := forEach_keeps (fun u : State => ({ u with cl := s.cl } : State))
    (fun n u => u.updCl n (fun c => { c with s := { c.s with inRechar := false, recharWas := false } })) (fun _ _ => rfl) r.clusters s
  have hback := congrArg (fun u : State => ({ u with rech := none, cl := (recharReleased r s).cl } : State)) hview
  exact hback

theorem recharReleased_other {r : Rechar} {k : Nat} (hk : k ∉ r.clusters) (s : State) : (recharReleased r s).cluster k = s.cluster k :=
  forEach_read_other (R := fun q u => u.cluster q)
    (f := fun n u => u.updCl n (fun c => { c with s := { c.s with inRechar := false, recharWas := false } }))
    (fun _ _ u hq => State.cluster_updCl_other u _ hq) r.clusters s hk

/-- The reply that ends a window goes the way that it would have gone before. -/
theorem recharEnd_answered (r : Rechar) (s : State) : Answered r.pkt 0x0A03 .ok r.data s (finish (recharEnd r s)) := by
  have hfree (v : State) (hv : v = { s with rech := none, cl := v.cl }) : Answered r.pkt 0x0A03 .ok r.data s (finish (reply r.pkt 0x0A03 .ok r.data v)) := by
    rw [hv]
    exact answered_finish r.pkt 0x0A03 .ok r.data s _ rfl rfl rfl rfl rfl
  rw [recharEnd_eq]
  exact hfree _ (recharReleased_eq r s)

/-- Settles O42: the command by its checks, each step of the window by what it makes of its clusters and leaves. -/
theorem recharacterize : Obligations.Recharacterize := by
  unfold Obligations.Recharacterize
  intro s
  refine ⟨fun p m fl w hn hl h hlen hm hfl hw hhn hhl hne hfl1 hfl3 hz1 hz2 hz3 hedge hnow hprev hcl hrech => ?accepted,
    fun n pass bad r hr hstart => ⟨fun h0 => ?opens, fun p rest h1 hst hmem hsearch htodo hrun => ⟨fun hpass => ?passes, fun hfail hlast hf => ?fails,
      fun hfail hup => ?rises⟩, fun h1 hlo hhi hmem hcells hfirst => ?retest, fun h1 hst => ?writes, fun h3 hst hcur => ?returns, fun h4 hset => ?ends⟩⟩
  case accepted =>
    refine ⟨_, exec_cellRecharacterize h hlen hm hfl hw hhn hhl hne hfl1 hfl3 hz1 hz2 hz3 hedge hnow hprev hcl hrech, ?_⟩
    rw [finish_apart, setDue_apart, markEffect_apart]
    rfl
  case opens =>
    refine ⟨_, exec_recharWindowStep_open hr hstart h0, fun k hk => ?_, ?_⟩
    · rw [State.cluster, finish_cl]
      exact recharOpen_cluster r s k
    · have hopen := apart_of_offClusters (recharOpen_rest r s)
      rw [finish_apart, finish_cl, finish_clk]
      exact hopen
  case passes =>
    subst hpass
    obtain ⟨r', cl, heq, htodo', hpts⟩ := searchResult_to (n := n) { point := p, pass := some (r.resOf n).trial.toNat } rest hr
    refine ⟨_, exec_recharWindowStep_report hr hstart h1 (by omega), ?_⟩
    rw [recharReport_run hst hmem hsearch hrun, searchRun_pass htodo, heq, finish_rech, finish_apart, finish_cl]
    exact ⟨⟨r', rfl, htodo', hpts⟩, rfl⟩
  case fails =>
    subst hfail
    obtain ⟨r', cl, heq, htodo', hpts⟩ := searchResult_to (n := n) { point := p, pass := none } rest hr
    refine ⟨_, exec_recharWindowStep_report hr hstart h1 (by omega), ?_⟩
    rw [recharReport_run hst hmem hsearch hrun, searchRun_last htodo hlast, heq]
    have hapart := (finish_apart _).trans (raise_apart 0x0A14 n [BitVec.ofNat 8 p] { s with rech := some r', cl })
    have hrech := rech_of_apart hapart
    have hcl := cl_of_apart hapart
    refine ⟨raised_of_no_fresh (by exact hf) _ _ _, ⟨r', hrech, htodo', hpts⟩, ?_⟩
    rw [hrech, hcl]
    exact hapart
  case rises =>
    subst hfail
    obtain ⟨r', heq, hres⟩ := searchUp_to (n := n) ((r.resOf n).trial + 1) hr
    refine ⟨_, exec_recharWindowStep_report hr hstart h1 (by omega), ?_⟩
    rw [recharReport_run hst hmem hsearch hrun, searchRun_up htodo hup, heq, finish_rech, finish_apart, finish_cl]
    refine ⟨⟨r', rfl, ?_, ?_, ?_, ?_⟩, fun k hk => ?_, rfl⟩
    · rw [hres]; exact htodo
    · rw [hres]
    · rw [hres]
    · rw [hres]
    · rw [State.cluster, finish_cl]
      split
      · next hkn =>
        rw [hkn]
        exact State.cluster_updCl_same { s with rech := some r' } n.isLt _
      · next hkn => exact State.cluster_updCl_other { s with rech := some r' } _ hkn
  case retest =>
    obtain ⟨r', heq, hcells', hfrom⟩ := retestBegin_eq n bad r s
    refine ⟨_, exec_recharWindowStep_report hr hstart h1 hhi, ?_⟩
    rw [recharReport_retest hlo hmem hcells hfirst, heq, finish_rech, finish_apart, finish_cells]
    refine ⟨fun c hc => ?_, ⟨r', rfl, hcells', hfrom⟩, rfl⟩
    rw [State.cell, finish_cells]
    exact retestPlaced_cell n.isLt (retestCells_nodup s n bad) (fun _ hk => lt_of_mem_retestCells hk) s c
  case writes =>
    have hview (k : Nat) := tableSide_of_apart (finish_apart (recharWrite r s)) k
    have hnone : 144 ∉ r.clusters := fun h => absurd (lt_of_mem_clusters h) (by decide)
    obtain ⟨data, hwritten⟩ := recharWrite_tableSide hnone s
    have hall := (hview 144).trans hwritten
    have hrech : (finish (recharWrite r s)).rech = some { r with step := 3, data := data } := congrArg (fun v : State × Cluster => v.1.rech) hall
    refine ⟨_, exec_recharWindowStep_write hr hstart h1 hst, ⟨data, hrech⟩, fun k _ hk => ?_, ?_⟩
    · obtain ⟨_, hother⟩ := recharWrite_tableSide hk s
      have hsame := cluster_of_tableSide ((hview k).trans hother)
      exact hsame
    · rw [hrech]
      exact apart_of_tableSide hall
  case returns =>
    refine ⟨_, exec_recharWindowStep_return hr hstart h3 hst hcur, fun k _ hk => ?_, ?_⟩
    · rw [State.cluster, finish_cl]
      exact recharReturn_other hk s
    · have hreturned := apart_of_offClusters (recharReturn_rest r s)
      rw [finish_apart, finish_cl, finish_clk]
      exact hreturned
  case ends =>
    have hapart := (finish_apart (recharEnd r s)).trans (reply_apart r.pkt 0x0A03 .ok r.data (recharReleased r s))
    refine ⟨_, exec_recharWindowStep_end hr hstart h4 hset, recharEnd_answered r s, fun k _ hk => ?_, ?_⟩
    · rw [cluster_of_apart hapart]
      exact recharReleased_other hk s
    · rw [cl_of_apart hapart, hapart]
      exact congrArg State.apart (recharReleased_eq r s)

end Sys2Proof.Machine
end
